-- ==== Sys2Proof/Word.lean ====
section
/-! DEFINITION. The word types of the FR18 model (00 R8 to R10): bytes, 32-bit registers and the 18-bit sets of wells. -/

namespace Sys2Proof

/-- A byte. -/
abbrev Byte := BitVec 8

/-- A 32-bit register or core word. -/
abbrev Word := BitVec 32

/-- A well, by its index: well k of the spec is index k − 1 (06 Table 6-6). -/
abbrev Well := Fin 18

/-- A set of wells: bit k − 1 names well k (14 R533). -/
abbrev Wells := BitVec 18

end Sys2Proof
end

