-- ==== Sys2Proof/Syntax.lean ====
section
/-! DEFINITION. The commands of the FR18: one constructor of `Instr` per row of spec/opcode_table.json, in the table's
order, with the operands each event brings from outside (log 9). -/

namespace Sys2Proof

/-- The two ports of the Ecaro link (10). -/
inductive Port where
  | south
  | north
deriving DecidableEq, Repr

/-- The two host ports (12). -/
inductive HPort where
  | spi
  | uart
deriving DecidableEq, Repr

/-- A link generation (10 Table 10-2). -/
inductive Gen where
  | el1
  | el2
deriving DecidableEq, Repr

/-- How a frame ended on the line (10 R347, R351; 11 R391). -/
inductive Crust where
  | valid
  | burnt
  | missing
deriving DecidableEq, Repr

/-- A frame as its fields (11 Table 11-1); the check is formed at the line. -/
structure Frame where
  /-- `TYPE` -/
  type : BitVec 4
  /-- `FLT` -/
  flt : BitVec 4
  /-- `DST` -/
  dst : BitVec 7
  /-- `CRUMB` -/
  crumb : Bool
  /-- `SRC` -/
  src : BitVec 7
  /-- `LSEQ` -/
  lseq : Byte
  /-- `RTX` -/
  rtx : Bool
  /-- `CV` -/
  cv : Bool
  /-- the payload, `LEN` bytes -/
  payload : List Byte
deriving DecidableEq, Repr

/-- A frame as its receiver reads it from the pair, before validation (11 R387). -/
structure RawFrame where
  /-- the generation its preamble shows (10 R336) -/
  gen : Gen
  /-- header, payload and check -/
  bytes : List Byte
  /-- its end delimiter -/
  crust : Crust
  /-- a code error was seen (10 R349) -/
  codeErr : Bool
deriving DecidableEq, Repr

/-- What came in on a pair, as levels: one for each 40 ns symbol of an EL2 frame or each 250 ns half bit of an EL1 frame, from the
first symbol of the start delimiter to the last of the end delimiter (10 R345 to R351). -/
structure LineFrame where
  /-- the generation its preamble shows (10 R336) -/
  gen : Gen
  /-- level of the last preamble symbol -/
  idle : Bool
  /-- the levels -/
  levels : List Bool
deriving DecidableEq, Repr

/-- A mailbox message as the executing firmware sees it after checks 1 to 4 (13 Table 13-1): what a verb's row acts on. -/
structure Msg where
  /-- `MBX` -/
  mbx : Fin 4
  /-- `TAG` -/
  tag : BitVec 16
  /-- `none`: this device's host port; otherwise the `SRC` of the verb frame (17 R670) -/
  src : Option (BitVec 7)
  /-- the `LSEQ` of the verb frame, which its stored reply stands beside (11 R428); 0 for the host port -/
  lseq : Byte
  /-- the port the verb frame arrived on -/
  port : Port
  /-- taken under `TARGET` or `DST` 0x00 -/
  bcast : Bool
  /-- `ENV` -/
  env : Bool
  /-- the payload -/
  payload : List Byte
deriving DecidableEq, Repr

/-- A converter reading: the code before saturation, and whether the modulator overloaded within the span (06 Table 6-7). -/
structure Reading where
  /-- the code, in the channel's unit -/
  code : Int
  /-- the modulator overloaded -/
  overload : Bool
deriving DecidableEq, Repr

/-- The readings of one well in a switch test (08 R275), in µV, or in external-FET mode the drive levels (steps 2 and 4). -/
structure SwitchReading where
  /-- V_C -/
  vc : Int
  /-- V_O -/
  vo : Int
  /-- V_D -/
  vd : Int
  /-- some reading carries `CLIPPED` -/
  clipped : Bool
deriving DecidableEq, Repr

/-- What one patrol check measures (23 R856). -/
structure PatrolReading where
  /-- cell readings in 10 µV, well 1 first -/
  cells : List Int
  /-- XC4: `VREFC` in µV -/
  vrefc : Nat
  /-- the four die sensors in 1/64 °C -/
  die : List Int
  /-- thermistor codes of phase A, and of phase B, before limiting -/
  ntcA : List Int
  /-- phase B -/
  ntcB : List Int
  /-- XC3 code of phase A -/
  xc3A : Nat
  /-- XC3 code of phase B -/
  xc3B : Nat
deriving DecidableEq, Repr

/-- A patrol check (23 R856 to R860). -/
structure PatrolRun where
  /-- the first measurement -/
  first : PatrolReading
  /-- the repeat, which counts where the first has crossed a limit (R858) -/
  again : PatrolReading
  /-- how many of the four steps were complete when a wake cut the check short (R860) -/
  done : Fin 4
deriving DecidableEq, Repr

/-- A UART request as it came in (12 R453, R455). -/
structure UartReq where
  /-- the bytes between its two 0x7E -/
  bytes : List Byte
  /-- the sum of the pauses between its bytes, in ct -/
  gaps : Nat
deriving DecidableEq, Repr

/-- The two monitors of a run-down (16 R631); the safety monitor's clock may be slow or fast (05 Table 5-1). -/
inductive Monitor where
  | firmware
  | safety (slow : Bool)
deriving DecidableEq, Repr

/-- The register buses a register write can come over: the host window, the core in its present mode. -/
inductive RegBus where
  | host (p : HPort)
  | core
deriving DecidableEq, Repr

/-- The commands. One constructor per row of spec/opcode_table.json. -/
inductive Instr where
  -- power, reset and start-up (04, 24)
  | powerOnReset
  | vstackFaultDriveThreshold (rising : Bool)
  | brownOut
  | internalRailFail
  | resetNAssert
  | resetRelease (testHigh : Bool)
  | pllLock
  | sealCheck
  | startupAcquisition
  | startupAcqRepeat
  | startupEvaluation
  | vioLoss
  | vioReturn
  | vportLoss
  | vportReturn
  | portOperational (p : Port)
  -- clocks, chain time and phase (05)
  | crystalGood
  | crystalFail
  | clockSupervisionCheck (sysSafety sysLfo safetyLfo : Bool)
  | beatSend
  | alignTimeout
  | orphanTimeout
  | encoderEdge (ab : Bool × Bool) (zFall : Bool)
  | indexEdge
  | zeroCross
  | phaseStall
  | instantFix (point : Fin 16)
  | tickFrameSend
  | cancelFrameSend
  | strobeFire (tseq : BitVec 16)
  -- acquisition (06, 07)
  | resultReady (r : List Reading)
  | resultReleaseTimeout
  | onrequestAcquisition
  | openWireStart
  | openWireForced
  | openWireDone (ref test : List Reading)
  | xc1Xc2Run (xc1 : List Nat) (xc2 : Nat)
  | xc4Run (microvolts : Nat)
  | scTrip (ispHigh : Bool)
  | scSelfTestDone (trip01 trip10 : Bool)
  | ntcCycleStart
  | ntcPhaseStart
  | ntcConversion (code : Int)
  | ntcSetPublish
  | dieConversion (n : Fin 4) (t : BitVec 16)
  -- balancing (08)
  | balFrame
  | balGrantExpire (w : Well)
  | balTimeElapsed (w : Well)
  | switchTestStart
  | switchTestPeriodic
  | switchTestDone (r : List SwitchReading)
  | balLossExpire
  -- protection and gate (09)
  | comparatorCrossing (w : Well) (uv : Bool) (across : Bool)
  | comparatorTrip (w : Well) (uv : Bool)
  | comparatorRelease (w : Well) (uv : Bool)
  | cmpSelfTestStart (w : Well) (uv : Bool)
  | cmpTestWindowEnd
  | ovHoldoffExpire
  | gateRampStart
  | gateCheckpoint (vds : Int) (scTrip : Bool)
  | gateVdsSample (vds : Int)
  | gateTurnoffStageEnd
  | faultFrameTimer
  | faultFrameRepeat
  -- link (10, 11)
  | frameRelayStart (p : Port) (g : Gen)
  | frameEndReceived (p : Port) (r : LineFrame)
  | storeForwardSend (p : Port)
  | verbFrameReceived (p : Port) (f : Frame)
  | replyFrameReceived (p : Port) (f : Frame)
  | ackReceived (p : Port) (f : Frame)
  | tickReceived (p : Port) (f : Frame) (at_ : Nat)
  | beatReceived (p : Port) (f : Frame) (at_ : Nat)
  | cancelReceived (p : Port) (f : Frame)
  | enumReceived (p : Port) (f : Frame)
  | enumReplyTimeout
  | calReceived (p : Port) (f : Frame) (arrive depart : Nat) (flock : Bool)
  | recordFrameReceived (p : Port) (f : Frame)
  | faultFrameReceived (p : Port) (f : Frame)
  | frameTransmit (p : Port)
  | collisionDetect (p : Port)
  | retransmitTimeout (lseq : Byte)
  | windowSlotSend
  | sweepSend
  | burstDetect (p : Port)
  | burstRelay (p : Port)
  | alarmBurstSend
  | alarmBurstRepeat (p : Port)
  | wakeBurstSend
  | breakRecognise (p : Port)
  | breakRelayEnd (p : Port)
  | breakEnd (p : Port)
  -- host ports and mailboxes (12, 13)
  | hcsWake
  | spiTransaction (bytes : List Byte) (partialBits : Fin 8)
  | uartRequest (r : UartReq)
  | uartByteTimeout
  | hostMbselWrite (h : HPort) (v : Word)
  | hostMbdataWrite (h : HPort) (b : Byte)
  | hostMbdataRead (h : HPort)
  | mailboxRing (h : HPort) (v : Word)
  | hostIrqClear (h : HPort) (v : Word)
  | hostIrqenWrite (h : HPort) (v : Word)
  | hostFltClear (h : HPort) (v : Word)
  | hostUcfgWrite (h : HPort) (v : Word)
  | hostErrRead (h : HPort)
  | hostReady
  | hwakeRelease
  | claimLapse (i : Fin 4)
  | mailboxTake
  | replyTimeout (i : Fin 4)
  | historyExpire (i : Fin 4)
  -- verbs (14) and their timers
  | idRead (m : Msg)
  | idFactory (m : Msg)
  | cfgRead (m : Msg)
  | cfgWrite (m : Msg)
  | registerWrite (bus : RegBus) (addr : Word) (v : Word)
  | cfgLogin (m : Msg)
  | cfgLogout (m : Msg)
  | cfgPasswd (m : Msg)
  | cfgFactory (m : Msg)
  | sessionLapse (i : Fin 4)
  | lockoutExpire
  | acqStart (m : Msg)
  | acqRead (m : Msg)
  | acqFetch (m : Msg)
  | balSet (m : Msg)
  | balStop (m : Msg)
  | balStat (m : Msg)
  | balTest (m : Msg)
  | balTestTimeout
  | gateOn (m : Msg)
  | gateOff (m : Msg)
  | gateRearm (m : Msg)
  | protStat (m : Msg)
  | cmpTest (m : Msg)
  | chainEnum (m : Msg)
  | chainCal (m : Msg)
  | chainStream (m : Msg)
  | chainStat (m : Msg)
  | chainCrumb (m : Msg)
  | chainBreak (m : Msg)
  | chainBreakEnd
  | safeConfirm (m : Msg)
  | safeStat (m : Msg)
  | safeOpen (m : Msg)
  | safeClose (m : Msg)
  | safeCycle (m : Msg)
  | safeTen (m : Msg)
  | safeRdn (m : Msg)
  | safeSto (m : Msg)
  | safeEnergy (m : Msg)
  | jrnRead (m : Msg)
  | jrnHead (m : Msg)
  | jrnRelease (m : Msg)
  | jrnMark (m : Msg)
  | aplLoad (m : Msg)
  | aplCommit (m : Msg)
  | aplStart (m : Msg)
  | aplStop (m : Msg)
  | aplStat (m : Msg)
  | aplMsg (m : Msg)
  | aplMsgTimeout
  | aplErase (m : Msg)
  | pwrSet (m : Msg)
  | pwrStat (m : Msg)
  | pwrWakeclr (m : Msg)
  | pwrKeep (m : Msg)
  | diagInfo (m : Msg)
  | diagScan (m : Msg)
  | reset (m : Msg)
  | resetVerbTimeout
  -- safety and torque (15, 16)
  | timeExpectationExpire
  | stopNLow
  | energyDecision (slow : Bool) (d : Nat)
  | decisionTimerExpire
  | tenRise
  | tenReadbackCheck (a b : Bool)
  | commaPulse (chB : Bool)
  | commaPulseEnd (chB : Bool)
  | readbackFault (chB : Bool)
  | rundownCheck (mon : Monitor) (d : Nat)
  | rundownTimeLimit
  | smRundownLimitBackup
  -- the core (18, 19)
  | exceptionEntry
  | fullStopTimerExpire
  | divideComplete
  | storeDrain (busErr : Option (BitVec 4))
  | waitEnd
  | add (rd ra rb : Fin 16) (s : Bool)
  | sub (rd ra rb : Fin 16) (s : Bool)
  | and (rd ra rb : Fin 16) (s : Bool)
  | or (rd ra rb : Fin 16) (s : Bool)
  | xor (rd ra rb : Fin 16) (s : Bool)
  | andn (rd ra rb : Fin 16) (s : Bool)
  | sll (rd ra rb : Fin 16) (s : Bool)
  | srl (rd ra rb : Fin 16) (s : Bool)
  | sra (rd ra rb : Fin 16) (s : Bool)
  | ror (rd ra rb : Fin 16) (s : Bool)
  | mul (rd ra rb : Fin 16) (s : Bool)
  | mulhs (rd ra rb : Fin 16) (s : Bool)
  | mulhu (rd ra rb : Fin 16) (s : Bool)
  | addt (rd ra rb : Fin 16) (s : Bool)
  | subt (rd ra rb : Fin 16) (s : Bool)
  | mult (rd ra rb : Fin 16) (s : Bool)
  | divs (rd ra rb : Fin 16)
  | divu (rd ra rb : Fin 16)
  | rems (rd ra rb : Fin 16)
  | remu (rd ra rb : Fin 16)
  | slt (rd ra rb : Fin 16) (s : Bool)
  | sltu (rd ra rb : Fin 16) (s : Bool)
  | addi (rd ra : Fin 16) (imm : BitVec 18)
  | andi (rd ra : Fin 16) (imm : BitVec 18)
  | ori (rd ra : Fin 16) (imm : BitVec 18)
  | xori (rd ra : Fin 16) (imm : BitVec 18)
  | cmpi (ra : Fin 16) (imm : BitVec 18)
  | shiSll (rd ra : Fin 16) (amount : BitVec 5)
  | shiSrl (rd ra : Fin 16) (amount : BitVec 5)
  | shiSra (rd ra : Fin 16) (amount : BitVec 5)
  | shiRor (rd ra : Fin 16) (amount : BitVec 5)
  | lui (rd : Fin 16) (imm : BitVec 16)
  | ldw (rd ra : Fin 16) (imm : BitVec 18)
  | ldh (rd ra : Fin 16) (imm : BitVec 18)
  | ldhu (rd ra : Fin 16) (imm : BitVec 18)
  | ldb (rd ra : Fin 16) (imm : BitVec 18)
  | ldbu (rd ra : Fin 16) (imm : BitVec 18)
  | stw (rs ra : Fin 16) (imm : BitVec 18)
  | sth (rs ra : Fin 16) (imm : BitVec 18)
  | stb (rs ra : Fin 16) (imm : BitVec 18)
  | bc (cond : BitVec 4) (off : BitVec 22)
  | call (off : BitVec 26)
  | jmpr (rd ra : Fin 16) (imm : BitVec 18)
  | bmov (rd ra rb : Fin 16)
  | bfil (rd ra rb : Fin 16)
  | mfc (rd : Fin 16) (cr : BitVec 5)
  | mtc (cr : BitVec 5) (rs : Fin 16)
  | sysCtlSwi
  | sysCtlEspl
  | setf (ra : Fin 16)
  | getf (rd : Fin 16)
  | sync
  | enter
  | leave
  | rfe
  | fstop
  | brk (code : BitVec 16)
  | wait
  | svcVersion
  | svcTime
  | svcWait
  | svcWaitTimeout
  | svcSnapshot
  | svcNtcset
  | svcBalSubmit
  | svcBalCancel
  | svcBalStat
  | svcMsgGet
  | svcMsgPut
  | svcNote
  | svcPrecise
  | svcExit
  | budgetIntervalEnd
  -- DMA and check engine (20, 21)
  | dmaStart (n : Fin 8)
  | dmaAbort (n : Fin 8)
  | dmaResume (n : Fin 8)
  | dmaTrigger (trig : BitVec 5)
  | dmaBurst
  | ceStart (m : Fin 4)
  | ceAbort (m : Fin 4)
  | ceBurst
  | romScanStart
  | configScanStart
  -- journal, power states, watchdog (22, 23, 24)
  | journalWrite
  | sleepLossExpire
  | lowerStateEntry
  | patrolCheck (r : PatrolRun)
  | activeEntry
  | firstBeatAfterWake
  | watchdogServe
  | watchdogEarlyWarning
  | watchdogExpire
  | supervisionFail (code : BitVec 16)
  | hostFltLiveAgeOut (bit : Fin 4)
  | illegalOpcode (w : Word)
  | instructionFetchFault (busErr : Option (BitVec 4))
deriving DecidableEq, Repr

end Sys2Proof
end

