-- ==== Sys2Proof/Decode.lean ====
section
/-! DEFINITION. Words as commands. No row of spec/opcode_table.json has a bit field (the rows are events, given as terms of `Instr`), so
no word spells a command by the table; the instruction words of the core follow the formats of 19 Table 19-1. -/

namespace Sys2Proof

/-- The command of a word by the table's bits: none, since no row of the table gives bits. -/
def decodeTableWord (_nbits _w : Nat) : Option Instr := none

/-! ## The core's instruction words (19) -/

/-- Bits `hi` down to `lo` of an instruction word. -/
def wordBits (w : Word) (hi lo : Nat) : Nat := w.toNat / 2 ^ lo % 2 ^ (hi + 1 - lo)

/-- The register number in bits `lo` + 3 down to `lo`. -/
def wordReg (w : Word) (lo : Nat) : Fin 16 := Fin.ofNat 16 (wordBits w (lo + 3) lo)

/-- `rd` (19 Table 19-1). -/
def fRd (w : Word) : Fin 16 := wordReg w 22
/-- `ra`. -/
def fRa (w : Word) : Fin 16 := wordReg w 18
/-- `rb`. -/
def fRb (w : Word) : Fin 16 := wordReg w 14
/-- `fn`. -/
def fFn (w : Word) : Nat := wordBits w 5 0
/-- `imm18`. -/
def fImm (w : Word) : BitVec 18 := BitVec.ofNat 18 (wordBits w 17 0)

/-- An instruction whose conditions on the word hold. -/
def guarded (ok : Bool) (i : Instr) : Option Instr := if ok then some i else none

/-- Opcode 0x01: `fn[4:0]` selects the operation and `fn[5]` is S; a divide or remainder has S = 0 (19 R721, R722, Table 19-3). -/
def decodeAlu (w : Word) : Option Instr :=
  let rd := fRd w
  let ra := fRa w
  let rb := fRb w
  let s := decide (32 ≤ fFn w)
  if wordBits w 13 6 ≠ 0 then none
  else
    match fFn w % 32 with
    | 0x00 => some (.add rd ra rb s)
    | 0x01 => some (.sub rd ra rb s)
    | 0x02 => some (.and rd ra rb s)
    | 0x03 => some (.or rd ra rb s)
    | 0x04 => some (.xor rd ra rb s)
    | 0x05 => some (.andn rd ra rb s)
    | 0x06 => some (.sll rd ra rb s)
    | 0x07 => some (.srl rd ra rb s)
    | 0x08 => some (.sra rd ra rb s)
    | 0x09 => some (.ror rd ra rb s)
    | 0x0A => some (.mul rd ra rb s)
    | 0x0B => some (.mulhs rd ra rb s)
    | 0x0C => some (.mulhu rd ra rb s)
    | 0x0D => some (.addt rd ra rb s)
    | 0x0E => some (.subt rd ra rb s)
    | 0x0F => some (.mult rd ra rb s)
    | 0x10 => guarded (!s) (.divs rd ra rb)
    | 0x11 => guarded (!s) (.divu rd ra rb)
    | 0x12 => guarded (!s) (.rems rd ra rb)
    | 0x13 => guarded (!s) (.remu rd ra rb)
    | 0x14 => some (.slt rd ra rb s)
    | 0x15 => some (.sltu rd ra rb s)
    | _ => none

/-- `SHI`: `imm18[6:5]` selects the shift, and `imm18[17:7]` is 0 (19 R727). -/
def decodeShift (w : Word) : Option Instr :=
  let n : BitVec 5 := BitVec.ofNat 5 (wordBits w 4 0)
  if wordBits w 17 7 ≠ 0 then none
  else
    match wordBits w 6 5 with
    | 0 => some (.shiSll (fRd w) (fRa w) n)
    | 1 => some (.shiSrl (fRd w) (fRa w) n)
    | 2 => some (.shiSra (fRd w) (fRa w) n)
    | _ => some (.shiRor (fRd w) (fRa w) n)

/-- Opcode 0x32: `fn` 0 is `SETF` with rd 0, `fn` 1 is `GETF` with ra 0, and rb is 0 (19 R747). -/
def decodeFlags (w : Word) : Option Instr :=
  if wordBits w 13 6 ≠ 0 ∨ fRb w ≠ 0 then none
  else
    match fFn w with
    | 0 => guarded (fRd w == 0) (.setf (fRa w))
    | 1 => guarded (fRa w == 0) (.getf (fRd w))
    | _ => none

/-- The system instructions (19 R748, Table 19-9). -/
def decodeSystem (w : Word) : Option Instr :=
  let plain := wordBits w 25 6 == 0
  match fFn w with
  | 0 => guarded plain .sync
  | 1 => guarded plain .enter
  | 2 => guarded plain .leave
  | 3 => guarded plain .rfe
  | 4 => guarded plain .fstop
  | 5 => guarded (wordBits w 25 22 == 0) (.brk (BitVec.ofNat 16 (wordBits w 21 6)))
  | 6 => guarded plain .wait
  | _ => none

/-- Format R with fn 0 and the registers of a block move (19 R737, R738). -/
def blockWord (w : Word) : Bool := wordBits w 13 6 == 0 && fFn w == 0

/-- Format C: the register is one of Table 18-1, and the reserved bits are 0 (19 R745). -/
def controlWord (w : Word) : Bool := wordBits w 16 0 == 0 && decide (wordBits w 21 17 ≤ 12)

/-- The instruction of a 32-bit word; none is an illegal opcode (19 R716, R717, Tables 19-1 to 19-9). -/
def decodeCore (w : Word) : Option Instr :=
  let rd := fRd w
  let ra := fRa w
  let rb := fRb w
  let cr : BitVec 5 := BitVec.ofNat 5 (wordBits w 21 17)
  match wordBits w 31 26 with
  | 0x01 => decodeAlu w
  | 0x02 => some (.addi rd ra (fImm w))
  | 0x04 => some (.andi rd ra (fImm w))
  | 0x05 => some (.ori rd ra (fImm w))
  | 0x06 => some (.xori rd ra (fImm w))
  | 0x07 => guarded (rd == 0) (.cmpi ra (fImm w))
  | 0x08 => decodeShift w
  | 0x09 => guarded (wordBits w 21 16 == 0) (.lui rd (BitVec.ofNat 16 (wordBits w 15 0)))
  | 0x10 => some (.ldw rd ra (fImm w))
  | 0x11 => some (.ldh rd ra (fImm w))
  | 0x12 => some (.ldhu rd ra (fImm w))
  | 0x13 => some (.ldb rd ra (fImm w))
  | 0x14 => some (.ldbu rd ra (fImm w))
  | 0x18 => some (.stw rd ra (fImm w))
  | 0x19 => some (.sth rd ra (fImm w))
  | 0x1A => some (.stb rd ra (fImm w))
  | 0x20 => guarded (rd.val != 15) (.bc (BitVec.ofNat 4 rd.val) (BitVec.ofNat 22 (wordBits w 21 0)))
  | 0x21 => some (.call (BitVec.ofNat 26 (wordBits w 25 0)))
  | 0x22 => some (.jmpr rd ra (fImm w))
  | 0x28 => guarded (blockWord w && rd != ra && rd != rb && ra != rb && rd != 0 && ra != 0 && rb != 0) (.bmov rd ra rb)
  | 0x29 => guarded (blockWord w && rd != rb && rd != ra && rb != ra && rd != 0 && rb != 0) (.bfil rd ra rb)
  | 0x30 => guarded (controlWord w) (.mfc rd cr)
  | 0x31 => guarded (controlWord w) (.mtc cr rd)
  | 0x32 => decodeFlags w
  | 0x3F => decodeSystem w
  | _ => none

end Sys2Proof
end

