-- ==== Sys2Proof/Config.lean ====
section
/-! DEFINITION. What the spec leaves open: the free values (constants without a body, so that no proof can learn a value)
and the contents the spec does not print. Log entries 6, 7, 8, 11. -/

namespace Sys2Proof.Config

/-- The free value number `n` of the run: whatever the spec leaves open is one of these, applied to the counter
`State.freeCtr` (log 6). -/
opaque freeWord : Nat → Word

/-- The bytes of the ROM (20 Table 20-1): the spec does not print FW 4.2 (log 7). -/
opaque romByte : Nat → Byte

/-- The bytes of the configuration area after so many writes of its records, and of the factory data: the spec gives no layout (log
8). -/
opaque areaByte : Nat → Nat → Byte

/-- What a read of a peripheral register whose content the spec keeps internal to FW 4.2 returns (20, under Table 20-2), by
the number of the read and the address (log 11). -/
opaque periByte : Nat → Nat → Byte

end Sys2Proof.Config
end

