-- ==== Sys2Proof/Machine/State.lean ====
section
/-! DEFINITION. The state of one FR18 as plain data, unit by unit (INVENTORY.md lists every field with its rule and reset
value), the reasons a step can stop, and the state at reset release. -/

namespace Sys2Proof.Machine

open Sys2Proof

/-! ## Small closed sets of names -/

/-- Power states (23 R842). -/
inductive PState where
  | active | standby | patrol | sleep | shutdown
deriving DecidableEq, Repr

/-- Gate states (09 Table 9-5). -/
inductive GState where
  | off | test | ramp | on | turnoff | fault
deriving DecidableEq, Repr

/-- Time base of the tracker (05 Table 5-11). -/
inductive TBase where
  | tracking | settling | holdover | internal
deriving DecidableEq, Repr

/-- Torque-enable states of an anchor (16 Table 16-4). -/
inductive RdState where
  | off | enabled | decide | rundown | stopped | removed
deriving DecidableEq, Repr

/-- States of a DMA channel (20 Table 20-11). -/
inductive DmaState where
  | idle | run | wait | fault | aborting
deriving DecidableEq, Repr

/-- States of a check-engine channel (21 Table 21-1). -/
inductive CeState where
  | idle | busy | fault
deriving DecidableEq, Repr

/-- Applet states (14 Table 14-8). -/
inductive AplState where
  | none | valid | running | faulted
deriving DecidableEq, Repr

/-- Who asked for a comparator self-test (09 R301). -/
inductive TestOrigin where
  | startup | periodic | verb
deriving DecidableEq, Repr

/-- Phases of an open-wire check and the XC1/XC2 that follow it (06 R201, 07 R244). -/
inductive OwState where
  | idle | check | xc
deriving DecidableEq, Repr

/-- Steps of a phase of an open-wire check (06 R201); `quiet` waits for 08 R268 before the first, `over` follows the last. -/
inductive OwStep where
  | quiet | reference | sinks | recovery | over
deriving DecidableEq, Repr

/-! ## The units -/

/-- Reset logic and watchdog (24; 04 R98). -/
structure RstUnit where
  /-- internal reset asserted -/
  held : Bool
  /-- the firmware's release work (the row RESET_RELEASE) has still to run -/
  startDue : Bool
  /-- reset-source latch of the always-on island -/
  latch : BitVec 4
  /-- `DIAG_INFO.LASTRST` -/
  lastRst : Byte
  /-- `now` of the latest reset release -/
  releaseAt : Nat
  /-- level of `RESET_N` -/
  resetN : Bool
  /-- level of `TEST` -/
  test : Bool
  /-- the 4 ms full-stop timer runs -/
  fstopTimer : Bool
  /-- the watchdog counts -/
  wdRun : Bool
  /-- `now` of the last serve -/
  wdServed : Nat
  /-- a supervision of 24 Table 24-4 has failed -/
  supFail : Bool
deriving DecidableEq, Repr

/-- Supplies and input pins (02, 04). -/
structure SupUnit where
  /-- `VSTACK` at or above 3.0 V -/
  vstack3 : Bool
  /-- `VSTACK` above the power-on reset release -/
  por : Bool
  /-- a brown-out stands -/
  brown : Bool
  /-- `VIO` present -/
  vio : Bool
  /-- `VPORT` present -/
  vport : Bool
  /-- level of `HCS_N` -/
  hcsN : Bool
  /-- level of `STOP_N` -/
  stopN : Bool
  /-- levels of `TFB_A`, `TFB_B` -/
  tfbA : Bool
  /-- level of `TFB_B` -/
  tfbB : Bool
  /-- another module holds the joined `FAULT_N` line low -/
  faultExt : Bool
  /-- levels of `GPIO0` to `GPIO3` -/
  gpio : BitVec 4
deriving DecidableEq, Repr

/-- Oscillators and their supervision (05). -/
structure ClkUnit where
  /-- `CLK_STAT.REFSEL` -/
  refSel : Bool
  /-- `CLK_STAT.XTAL_OK` -/
  xtalOk : Bool
  /-- `CLK_STAT.PLL_LOCK` -/
  pllLock : Bool
  /-- pairs that disagreed at the last check (bit 0 system–safety RC, 1 system–LFO, 2 safety RC–LFO) -/
  disagree : BitVec 3
  /-- a clock fault is declared -/
  fault : Bool
  /-- steering value of the fractional divider -/
  steer : Word
  /-- deviation of the PLL output from its nominal frequency, in ppm/196608 -/
  freq : Int
  /-- deviation that the present reference and steering value call for, in ppm/196608 -/
  goal : Int
  /-- slew rate of the last change of reference or steering, in ppm/196608 per ct: at most 100 -/
  rate : Nat
  /-- the core cannot run -/
  coreDead : Bool
deriving DecidableEq, Repr

/-- Chain time (05 R141 to R147, 11 R403, R413; 16 R596). -/
structure TimUnit where
  /-- chain-time counter, in ct: the 32-bit mp counter is `cnt / 24` -/
  cnt : Nat
  /-- `CLK_STAT.ALIGNED` -/
  aligned : Bool
  /-- `CLK_STAT.OFFSET` -/
  offset : Byte
  /-- the next validated beat steps the counter -/
  stepDue : Bool
  /-- consecutive beats within the limit of R144 -/
  goodBeats : Nat
  /-- `now` of the latest validated tick frame or beat, if any -/
  beatAt : Option Nat
  /-- orphaned (11 R413) -/
  orphaned : Bool
  /-- the anchor-facing port -/
  facing : Port
  /-- `now` of the latest beat on the south, north port -/
  southBeat : Option Nat
  /-- as `southBeat`, for the north port -/
  northBeat : Option Nat
deriving DecidableEq, Repr

/-- The phase tracker of the anchor (05). -/
structure PhUnit where
  /-- `PH_COUNT` -/
  count : Word
  /-- in-cycle position -/
  pos : Nat
  /-- `PH_EPOCH` -/
  epoch : Word
  /-- `PH_STAT.DIR`: reverse -/
  rev : Bool
  /-- `PH_STAT.TBASE` -/
  tbase : TBase
  /-- `PH_STAT.SKIPS` -/
  skips : BitVec 16
  /-- counted edges in one direction, or accepted zero-crosses, since SETTLING began -/
  settle : Nat
  /-- direction of the settling edges -/
  settleRev : Bool
  /-- time stamps of the last counted edges, newest first, at most 17 -/
  edges : List Nat
  /-- the next index is the first since an encoder mode started -/
  firstIndex : Bool
  /-- position at the last counted edge before a stall -/
  savePos : Nat
  /-- `PH_EPOCH` at that edge -/
  saveEpoch : Word
  /-- time of the last accepted zero-cross -/
  zcAt : Option Nat
  /-- period of the last accepted cycle, in ct -/
  zcPeriod : Nat
  /-- part of a pu gained by time (numerator over the cycle's length in ct) -/
  acc : Nat
  /-- sampled level of `PHA` -/
  a : Bool
  /-- sampled level of `PHB` -/
  b : Bool
  /-- sampled level of `PHZ` -/
  z : Bool
  /-- chain time of the last `PHA` edge, in ct -/
  stampA : Nat
  /-- chain time of the last `PHB` edge, in ct -/
  stampB : Nat
  /-- `now` at the rising edges of `PHA` that the tracker has stamped in the last 100 ms, newest first -/
  phaAt : List Nat
  /-- chain time of the last `PHZ` edge, in ct -/
  stampZ : Nat
deriving DecidableEq, Repr

/-- A tick: fixed on the anchor, or validated on any other device. -/
structure Tick where
  /-- `TSEQ` -/
  tseq : BitVec 16
  /-- announced instant, mp of chain time -/
  instant : Word
  /-- acquisition point -/
  point : BitVec 4
  /-- fixed in hold-over -/
  hold : Bool
  /-- its frame has left the anchor -/
  sent : Bool
  /-- cancelled too late to stop the strobe: the sample is marked `UNSCHEDULED` (05 R168) -/
  late : Bool
deriving DecidableEq, Repr

/-- The anchor's latest strobe that no frame has reported (05 R164, 11 R409). -/
structure StrobeReport where
  /-- `RSEQ` -/
  tseq : BitVec 16
  /-- `RPOINT` -/
  point : BitVec 4
  /-- `RDIR` -/
  rev : Bool
  /-- `RPOS` -/
  pos : Nat
  /-- `RCOUNT` -/
  count : Word
  /-- `REPOCH` -/
  epoch : Word
deriving DecidableEq, Repr

/-- Scheduler and ticks (05 R158 to R172; 11 R406 to R410). -/
structure SchUnit where
  /-- ticks pending on this device, earliest first -/
  ticks : List Tick
  /-- next `TSEQ` -/
  tseq : BitVec 16
  /-- last fixed instant in mp -/
  lastFix : Option Nat
  /-- points that have been fixed or skipped in the present approach (R158) -/
  passed : BitVec 16
  /-- cancellation history: bit i is tick `tseq` − 1 − i -/
  cmask : BitVec 32
  /-- unreported strobe -/
  report : Option StrobeReport
  /-- `now` at which the last tick frame or beat left the anchor -/
  frameAt : Nat
  /-- cancellations whose CANCEL frame has not left: `TSEQ` and reason -/
  cancelQ : List (BitVec 16 × Byte)
  /-- missed-tick count -/
  missed : BitVec 16
  /-- tick delivery time in ct -/
  tdel : Word
  /-- `REPOCH` of the latest report received -/
  repEpoch : Word
  /-- instants of recent ticks, as `now` values, for energy reports (16 R618) -/
  log : List (BitVec 16 × Nat)
  /-- chain time in ct, `TTX` and `TTXF`, of the latest tick frame or beat sent or validated -/
  ttx : Option Nat
deriving DecidableEq, Repr

/-- A span of an acquisition in progress (06 R173). -/
structure Span where
  /-- `SEQ` -/
  seq : BitVec 16
  /-- `POINT` -/
  point : BitVec 4
  /-- `SOURCE` -/
  source : BitVec 2
  /-- `WIN` -/
  win : BitVec 2
  /-- `HOLDOVER` -/
  hold : Bool
  /-- `UNSCHEDULED` -/
  unsched : Bool
  /-- `INSTANT` in mp -/
  instant : Word
  /-- `now` of the strobe -/
  start : Nat
  /-- channels that carry `STALE`: bit 0 word 0, bit k well k -/
  stale : BitVec 19
  /-- wells whose switch was closed at some moment of the span -/
  bal : Wells
  /-- wells whose comparator was tripped at some moment of the span -/
  trip : Wells
  /-- wells measured in the BUSBAR range -/
  range : Wells
  /-- the armed short-circuit comparator tripped -/
  scTrip : Bool
  /-- it holds one of the two accumulators (06 R176, R177) -/
  acc : Bool
deriving DecidableEq, Repr

/-- A finished result (06 Table 6-6). -/
structure Snapshot where
  /-- `SEQ` -/
  seq : BitVec 16
  /-- `POINT` -/
  point : BitVec 4
  /-- `SOURCE` -/
  source : BitVec 2
  /-- `WIN` -/
  win : BitVec 2
  /-- `HOLDOVER` -/
  hold : Bool
  /-- `UNSCHEDULED` -/
  unsched : Bool
  /-- `INSTANT` -/
  instant : Word
  /-- words 0 to 18 -/
  words : List Word
  /-- `now` of the strobe -/
  start : Nat
deriving DecidableEq, Repr

/-- The last non-`STALE` result of a channel (06 R193). -/
structure ChanMem where
  /-- `CODE` -/
  code : Int
  /-- `CLIPPED` -/
  clipped : Bool
  /-- `MARGIN` -/
  margin : Bool
  /-- `RANGE` -/
  range : Bool
  /-- there has been one since reset -/
  seen : Bool
deriving DecidableEq, Repr

/-- Cell acquisition (06). -/
structure AcqUnit where
  /-- open spans, oldest first -/
  spans : List Span
  /-- last non-`STALE` result of word 0 and wells 1 to 18 -/
  last : Vector ChanMem 19
  /-- per well, the latest code that 06 R194 does not exclude, and the `now` of its strobe -/
  good : Vector (Option (Int × Nat)) 18
  /-- the latest such code without `BAL` (08 R262) -/
  usable : Vector (Option (Int × Nat)) 18
  /-- the last 8 snapshots, newest first -/
  kept : List Snapshot
  /-- the last 2 thermistor sets, newest first, 40 bytes each -/
  ntcKept : List (List Byte)
  /-- scheduled results waiting for release -/
  held : List Snapshot
  /-- released results not yet streamed, oldest first -/
  rel : List Snapshot
  /-- published thermistor sets not yet streamed, oldest first -/
  ntcRel : List (List Byte)
  /-- queued on-request acquisition: its `SEQ` -/
  req : Option (BitVec 16)
  /-- count of non-scheduled results -/
  seqN : BitVec 16
  /-- window in force -/
  win : BitVec 2
  /-- written window, not yet in force, and the `now` of its write -/
  winNext : List (BitVec 2 × Nat)
  /-- end of range settling per well, as `now` -/
  settle : Vector Nat 18
  /-- `OPENWIRE` bits -/
  owFail : Wells
  /-- `OW_STAT` -/
  owStat : Word
  /-- open-wire check, or XC1 and XC2, in progress -/
  ow : OwState
  /-- step of the check in progress -/
  owStep : OwStep
  /-- the check is in its even phase -/
  owEven : Bool
  /-- `now` at which the step began -/
  owAt : Nat
  /-- the check in progress is forced by R207, or belongs to a start-up acquisition: ticks do not abort it -/
  owForced : Bool
  /-- the check in progress belongs to the completed start-up acquisition -/
  owBoot : Bool
  /-- `now` of the last completed check -/
  owDone : Option Nat
  /-- `now` of the latest trip of the armed short-circuit comparator -/
  scAt : Option Nat
  /-- XC1 and XC2 are due: a check has completed and they have not -/
  xcDue : Bool
  /-- `now` of the last completed run of XC1 and XC2 -/
  xcDone : Option Nat
  /-- channels that the last sinks, recovery, XC1 or XC2 disturbed -/
  dist : BitVec 19
  /-- `now` at which that disturbance ended -/
  distAt : Nat
  /-- a start-up acquisition is in progress -/
  startRun : Bool
  /-- a repeated start-up acquisition waits for its strobe -/
  startDue : Bool
  /-- a completed start-up acquisition awaits its evaluation: its words -/
  startDone : Option (List Word)
  /-- the check after the latest start-up acquisition has completed -/
  startOw : Bool
  /-- cycle count before the thermistor cycle of the latest start-up acquisition -/
  startSet : BitVec 16
deriving DecidableEq, Repr

/-- Die sensors, cross-checks and thermistors (07). -/
structure AuxUnit where
  /-- TD0 to TD3 -/
  die : Vector (BitVec 16) 4
  /-- sensors converted since reset -/
  dieSeen : BitVec 4
  /-- number of the next thermistor-converter frame -/
  frame : Nat
  /-- slots of the present frame that are left -/
  slots : Nat
  /-- XC3 failed its last run in phase A (bit 0), phase B (bit 1) -/
  xc3Last : BitVec 2
  /-- `DIE_TMAX.TMAX` -/
  tmax : BitVec 16
  /-- die over-temperature stands -/
  ot : Bool
  /-- `XC_STAT.FAIL` -/
  xcFail : BitVec 5
  /-- `XC_STAT.FAULT` -/
  xcFault : BitVec 5
  /-- `XC_WELL.FAIL` -/
  xcWell : Wells
  /-- wells on which XC1's fault stands -/
  xcWellFault : Wells
  /-- consecutive passing runs of each check while its fault stands -/
  xcGood : Vector Nat 5
  /-- consecutive passing XC1 runs per well while its fault stands -/
  xcWellGood : Vector Nat 18
  /-- some run has failed since reset release -/
  xcEver : Bool
  /-- checks that have run since reset release -/
  xcRan : BitVec 5
  /-- `NTC_CFG` latched by the cycle -/
  ntcCfg : Word
  /-- a thermistor cycle runs -/
  ntcRun : Bool
  /-- `now` at the start of the latest thermistor cycle -/
  ntcAt : Nat
  /-- phase B -/
  ntcB : Bool
  /-- frame at which the phase began -/
  ntcFrame : Nat
  /-- conversions made in the present phase: channels 0 to 7, 9 after XC3 -/
  ntcIdx : Nat
  /-- codes of phase A -/
  codeA : Vector (BitVec 16) 8
  /-- codes of phase B -/
  codeB : Vector (BitVec 16) 8
  /-- channels whose phase A, phase B code was saturated -/
  satA : Byte
  /-- as `satA`, for phase B -/
  satB : Byte
  /-- XC3 of phase A, B passed -/
  xc3A : Bool
  /-- as `xc3A` -/
  xc3B : Bool
  /-- the cycle is complete and not yet published -/
  ntcDone : Bool
  /-- chain time of the cycle start, mp -/
  ntcMp : Word
  /-- cycle count -/
  ntcCount : BitVec 16
  /-- the words of `NTC0` to `NTC7` -/
  ntcWord : Vector Word 8
  /-- a set has been published since reset -/
  ntcPub : Bool
  /-- `TSA` high -/
  tsa : Bool
  /-- `TSB` high -/
  tsb : Bool
deriving DecidableEq, Repr

/-- The request and history of one well (08 Tables 8-4, 8-5). -/
structure BalWell where
  /-- a request stands -/
  req : Bool
  /-- it is an applet's -/
  applet : Bool
  /-- target mode -/
  target : Bool
  /-- `TARGET` -/
  targetV : BitVec 16
  /-- conduction time left, in ct -/
  left : Nat
  /-- paused: `NORESULT`, `HOT`, `XCHK`, `TESTWAIT` -/
  pause : BitVec 4
  /-- `END` -/
  endCode : BitVec 4
  /-- on-resistance measured by the latest passing test, µΩ -/
  ron : Nat
  /-- `now` of the latest passing test -/
  passAt : Option Nat
deriving DecidableEq, Repr

/-- A verb's message whose reply waits for something. -/
structure Waiting where
  /-- verb code -/
  verb : BitVec 16
  /-- its message -/
  msg : Msg
  /-- `SSEQ` and `CONNID` for an enveloped reply -/
  env : Option (BitVec 16 × Word)
deriving DecidableEq, Repr

/-- A `BAL_TEST` or `CMP_TEST` in progress: masks still to do, passed, failed or skipped. -/
structure TestVerb where
  /-- its message -/
  w : Waiting
  /-- wells still to be tested (for CMP_TEST: OV tests) -/
  todo : Wells
  /-- UV tests still to be made -/
  todoUv : Wells
  /-- passed -/
  pass : Wells
  /-- UV passed (CMP_TEST) -/
  passUv : Wells
  /-- failed (BAL_TEST), or OV skipped (CMP_TEST) -/
  other : Wells
  /-- UV skipped (CMP_TEST) -/
  otherUv : Wells
deriving DecidableEq, Repr

/-- Balancing (08). -/
structure BalUnit where
  /-- per-well requests -/
  wells : Vector BalWell 18
  /-- `TESTFAIL` -/
  testFail : Wells
  /-- switches that conduct -/
  closed : Wells
  /-- `now` at which the switch of each well last conducted -/
  lastOn : Vector Nat 18
  /-- wells whose grant of the current frame has not run out -/
  grant : Wells
  /-- granted conduction time of the current frame, in ct -/
  grantCt : Nat
  /-- balancing frame number -/
  frame : Nat
  /-- switch tests due -/
  due : Wells
  /-- wells of the test in progress -/
  testRun : Wells
  /-- the test waits for the quiet time -/
  testWait : Bool
  /-- the test is in its even phase -/
  testEven : Bool
  /-- `now` at which the phase began -/
  testAt : Nat
  /-- switches that the test holds closed -/
  testOn : Wells
  /-- `BAL_TEST` verbs waiting for their reply, oldest first -/
  btest : List TestVerb
  /-- wells with a standing stuck-switch fault -/
  stuck : Wells
  /-- `BAL_RB0` to `BAL_RB4` in force -/
  rbUse : Vector Word 5
deriving DecidableEq, Repr

/-- A comparator self-test in progress (09 R295). -/
structure CmpTest where
  /-- the well -/
  w : Well
  /-- the UV comparator -/
  uv : Bool
  /-- who asked -/
  origin : TestOrigin
  /-- it has tripped within the window -/
  tripped : Bool
  /-- it is made without a result of its well (09 R902) -/
  blind : Bool
  /-- a real crossing has begun in the window and stands (09 R298) -/
  cross : Bool
deriving DecidableEq, Repr

/-- OV/UV comparators and `FAULT_N` (09). -/
structure ProtUnit where
  /-- tripped OV comparators -/
  ovTrip : Wells
  /-- tripped UV comparators -/
  uvTrip : Wells
  /-- OV deglitches running -/
  ovDeg : Wells
  /-- UV deglitches running -/
  uvDeg : Wells
  /-- `now` of the last release of a comparator of each well -/
  relAt : Vector Nat 18
  /-- standing OV comparator faults -/
  ovFault : Wells
  /-- standing UV comparator faults -/
  uvFault : Wells
  /-- self-test in progress -/
  test : Option CmpTest
  /-- start-up tests still owed: OV -/
  oweOv : Wells
  /-- start-up tests still owed: UV -/
  oweUv : Wells
  /-- start-up tests made without a result and failed, to be repeated (R902) -/
  redo : Wells
  /-- as `redo`, for UV -/
  redoUv : Wells
  /-- start-up OV tests skipped under R901, to be made again -/
  againOv : Wells
  /-- start-up UV tests skipped under R901, to be made again -/
  againUv : Wells
  /-- well whose pair is next in the periodic turn -/
  turn : Nat
  /-- tests of that pair that have been made: OV, UV -/
  turnDone : BitVec 2
  /-- `CMP_TEST` verbs waiting for their reply, oldest first -/
  ctest : List TestVerb
  /-- no clean start-up yet -/
  unclean : Bool
  /-- `FAULT_N` has been released once since reset -/
  everRel : Bool
  /-- a configuration whose seal checks is loaded -/
  loaded : Bool
  /-- a channel-0 scan since reset release has matched -/
  romOk : Bool
  /-- trips and releases made while reset is held, oldest first: well, UV comparator, trip (04 R117) -/
  heldEvents : List (Well × Bool × Bool)
  /-- own `FLT` when last noted (for newly set bits, R312) -/
  flt : BitVec 4
deriving DecidableEq, Repr

/-- The disconnect gate driver (09). -/
structure GateUnit where
  /-- `GSTATE` -/
  state : GState
  /-- `DISCONNECT_FAULT` latched -/
  disc : Bool
  /-- `PROT_STAT.CAUSE` -/
  cause : BitVec 4
  /-- causes seen since the latch, bit c − 1 -/
  causes : BitVec 16
  /-- latch instant, as `now`, or the reset release when restored -/
  discAt : Nat
  /-- the turn-off in progress began in ON -/
  fromOn : Bool
  /-- the turn-off is in stage 2 -/
  stage2 : Bool
  /-- charge pump on -/
  cp : Bool
  /-- short-circuit self-test passed, waiting for `CP` -/
  testOk : Bool
  /-- checkpoints passed -/
  ck : Nat
  /-- consecutive on-state samples above `CK4` -/
  overs : Nat
  /-- last sensed VDS in mV -/
  vds : Int
  /-- the OV hold-off counts -/
  hold : Bool
  /-- messages waiting for the gate to settle -/
  waits : List Waiting
deriving DecidableEq, Repr

/-- A validated frame that waits to leave by store and forward (10 R355). -/
structure FwdFrame where
  /-- the frame -/
  frame : Frame
  /-- generation in which it arrived -/
  gen : Gen
  /-- `now` at its end -/
  endAt : Nat
deriving DecidableEq, Repr

/-- One port of the link (10). -/
structure PortUnit where
  /-- generation of the last valid frame received -/
  rx : Option Gen
  /-- generation selection in use: the field of `LINK_CFG` that R338 has let take effect -/
  gen : BitVec 2
  /-- a change of generation waits for the REPLY with this `LSEQ` to leave (R338) -/
  genDue : Option Byte
  /-- code errors and collisions -/
  cerr : Byte
  /-- operational -/
  up : Bool
  /-- frames waiting to be sent, oldest first -/
  txq : List Frame
  /-- frame transmitted last, or being transmitted -/
  txNow : Option Frame
  /-- generation of that frame on the line -/
  txAs : Gen
  /-- `now` at which the port's own transmission ends -/
  txEnd : Nat
  /-- how the last frame or copy that left ended: its crust, or a burnt one -/
  endOut : Option Crust
  /-- what the port transmits until `txEnd` is its own alarm burst -/
  alarmTx : Bool
  /-- what it transmits until `txEnd` is a burst -/
  burstTx : Bool
  /-- what it transmits until `txEnd` was relayed from the other port -/
  txRel : Bool
  /-- the port is transmitting a cut-through copy -/
  relaying : Bool
  /-- a frame is arriving on this port -/
  rxBusy : Bool
  /-- the arriving frame is not relayed -/
  noRelay : Bool
  /-- a burst has damaged the arriving frame -/
  hurt : Bool
  /-- `now` until which a detected burst is on the pair -/
  rxBurst : Nat
  /-- `now` at which the turnaround, or the gap after an own frame, has passed -/
  freeAt : Nat
  /-- the arriving frame is being relayed by cut-through -/
  cut : Bool
  /-- frames that wait to leave by this port by store and forward, oldest first -/
  fwd : List FwdFrame
  /-- pending relayed burst -/
  burst : Bool
  /-- own alarm bursts that may still be sent -/
  alarm : Nat
  /-- own alarm burst pending or in repetition -/
  alarmOn : Bool
  /-- an incoming break is recognised -/
  brkIn : Bool
  /-- the port transmits the break pattern (relay, or CHAIN_BREAK) -/
  brkOut : Bool
  /-- the break it transmits is the relay of one that came in on the other port -/
  brkRelay : Bool
  /-- a break relay is held back by an own alarm burst -/
  brkDue : Bool
  /-- bursts sent -/
  bursts : Nat
deriving DecidableEq, Repr

/-- A frame that waits for its ACK (11 R426). -/
structure Unacked where
  /-- the frame -/
  frame : Frame
  /-- the port it leaves by -/
  port : Port
  /-- retransmissions made -/
  tries : Nat
  /-- mailbox pair of a forwarded message -/
  pair : Option (Fin 4)
deriving DecidableEq, Repr

/-- A forwarded message at the head (12 R466). -/
structure Forwarded where
  /-- mailbox pair -/
  pair : Fin 4
  /-- verb -/
  verb : BitVec 16
  /-- tag -/
  tag : BitVec 16
  /-- target -/
  target : Byte
  /-- acknowledged -/
  acked : Bool
deriving DecidableEq, Repr

/-- Enumeration in progress (11 R397). -/
structure EnumRun where
  /-- address asked for -/
  next : Nat
  /-- attempts made for it -/
  tries : Nat
  /-- anchor found: address -/
  anchor : Byte
  /-- more than one -/
  twoAnchors : Bool
  /-- a reply from beyond 0x40 -/
  beyond : Bool
  /-- some hop runs EL1 -/
  el1 : Bool
  /-- `NTX` of the device that answered last -/
  ntx : BitVec 2
  /-- the verb -/
  w : Waiting
deriving DecidableEq, Repr

/-- Calibration in progress on the anchor (11 R401). -/
structure CalRun where
  /-- address being calibrated -/
  addr : Nat
  /-- exchange number -/
  xchg : BitVec 16
  /-- accepted exchanges -/
  n : Nat
  /-- sum of twice the accepted delays, in ct -/
  sum : Int
  /-- addresses calibrated -/
  okMap : BitVec 64
  /-- delay to the head in ct/16 -/
  dhead : Word
  /-- mean delay of each calibrated address in ct/16 -/
  ds : List (Nat × Nat)
  /-- addresses whose exchanges showed a residence: an EL1 hop lies on their path -/
  far : BitVec 64
  /-- `now` of the take -/
  start : Nat
  /-- the verb -/
  w : Waiting
deriving DecidableEq, Repr

/-- A window announced by the anchor (11 Table 11-6). -/
structure Window where
  /-- `WMODE` -/
  mode : BitVec 2
  /-- `WKIND` -/
  kind : BitVec 2
  /-- `WCOUNT` -/
  count : Byte
  /-- `WOFS` -/
  ofs : BitVec 16
  /-- `WSLOT` -/
  slot : BitVec 16
  /-- `now` at W -/
  start : Nat
  /-- this device's slot frame has been sent -/
  done : Bool
  /-- the sweep has been sent -/
  swept : Bool
deriving DecidableEq, Repr

/-- Crumbs being assembled, or an accepted message, of one address (11 R432). -/
structure CrumbAsm where
  /-- `SRC` -/
  src : BitVec 7
  /-- bits received, bit i at position `LSEQ` = i -/
  bits : BitVec 256
  /-- positions received -/
  got : BitVec 256
deriving DecidableEq, Repr

/-- A queue of streamed records at the head (14 R531). -/
structure RecQueue where
  /-- records, oldest first: source address and bytes -/
  recs : List (BitVec 7 × List Byte)
  /-- `LOST` -/
  lost : BitVec 16
deriving DecidableEq, Repr

/-- A setting of `CHAIN_STREAM` (14 R541). -/
structure StreamSet where
  /-- the first tick it applies to -/
  from_ : BitVec 16
  /-- `M` -/
  m : Byte
  /-- `KIND` -/
  kind : BitVec 2
  /-- `WOFS` of its windows -/
  wofs : Nat
deriving DecidableEq, Repr

/-- Frames, addresses, calibration and streaming (11). -/
structure ChnUnit where
  /-- own address -/
  addr : BitVec 7
  /-- `RING` -/
  ring : Bool
  /-- enumerated since reset by this device -/
  enumDone : Bool
  /-- top address found -/
  top : Byte
  /-- some hop runs EL1 -/
  el1 : Bool
  /-- generations `STX` and `NTX` that devices told in their ENUM replies, by address -/
  hops : List (Nat × Gen × Gen)
  /-- enumeration in progress -/
  enum : Option EnumRun
  /-- `CHAIN_BREAK` verbs in progress or waiting for their pattern, oldest first -/
  brk : List Waiting
  /-- calibration valid -/
  calValid : Bool
  /-- epoch of the calibration held -/
  calEp : Byte
  /-- D_A in ct/16 -/
  da : Word
  /-- mean that the anchor has told this device, taken with the broadcast result -/
  daNew : Option Word
  /-- D_H in ct/16 -/
  dh : Word
  /-- the anchor's address, from the result CAL -/
  anchor : Byte
  /-- current calibration epoch on the anchor -/
  ep : Byte
  /-- addresses calibrated, on the anchor -/
  calMap : BitVec 64
  /-- calibration in progress -/
  cal : Option CalRun
  /-- calibrations whose result is being broadcast: the verb, the `LSEQ` of the result frame and the reply -/
  calDone : List (Waiting × Byte × List Byte)
  /-- next `LSEQ` -/
  lseq : Byte
  /-- frames waiting for an ACK -/
  unacked : List Unacked
  /-- last 8 validated VERB frames: `SRC`, `LSEQ` and the reply sent -/
  seenV : List (BitVec 7 × Byte × Option Frame)
  /-- last REPLY validated per `SRC`: its `LSEQ` -/
  seenR : List (BitVec 7 × Byte)
  /-- forwarded messages -/
  fwd : List Forwarded
  /-- `BURNT` -/
  burnt : BitVec 16
  /-- `DROPS` -/
  drops : BitVec 16
  /-- `RTXS` -/
  rtxs : BitVec 16
  /-- `LFAIL` -/
  lfail : BitVec 16
  /-- latched crumb message -/
  crumb : List Byte
  /-- crumbs being assembled -/
  casm : List CrumbAsm
  /-- accepted crumb messages: address, bytes, `now` -/
  cacc : List (BitVec 7 × List Byte × Nat)
  /-- `CHAIN_STREAM` kind -/
  kind : BitVec 2
  /-- `CHAIN_STREAM` ticks per window -/
  m : Byte
  /-- `WOFS` of the windows, set with streaming -/
  wofs : Nat
  /-- settings of `CHAIN_STREAM` not yet in effect, oldest first -/
  setq : List StreamSet
  /-- tick frames since the last window -/
  ticksSince : Nat
  /-- window announced -/
  win : Option Window
  /-- `now` of the last tick frame that announced a window -/
  winAt : Option Nat
  /-- `now` at which the window frame of the address above had been forwarded (R420) -/
  winFwd : Option Nat
  /-- `now` at which the free interval of the latest tick frame or beat starts -/
  freeFrom : Nat
  /-- `now` at which that free interval ends -/
  freeTo : Nat
  /-- `now` of the latest opportunity in the sense of R415 that every device has had -/
  oppAt : Nat
  /-- record queues: CELLSET, SUMMARY, NTCSET -/
  recs : Vector RecQueue 3
  /-- `FLT` values validated: value and `now` -/
  flts : List (BitVec 4 × Nat)
  /-- the timer of 09 R312 runs -/
  fltTimer : Bool
  /-- FAULT frames that may still be repeated -/
  fltRep : Nat
deriving DecidableEq, Repr

/-- The host window and its two ports (12). -/
structure HostUnit where
  /-- `HOST_IRQEN` -/
  irqen : BitVec 13
  /-- `HOST_IRQ` -/
  irq : BitVec 13
  /-- `SEL` of the SPI bank -/
  spiSel : BitVec 3
  /-- `PTR` of the SPI bank; 256 after an access at 255 -/
  spiPtr : Nat
  /-- `SEL` of the UART bank -/
  uartSel : BitVec 3
  /-- `PTR` of the UART bank -/
  uartPtr : Nat
  /-- `HOST_FLT.LIVE` -/
  live : BitVec 4
  /-- `HOST_FLT.SEEN` -/
  seen : BitVec 4
  /-- `HOST_LFAIL` -/
  lfail : Word
  /-- `HOST_UCFG.BAUD` in force -/
  baud : Bool
  /-- `HOST_UCFG.BAUD` as written -/
  baudReg : Bool
  /-- SPI errors -/
  errSpi : Byte
  /-- UART frame errors -/
  errUart : Byte
  /-- claim conflicts -/
  errClaim : Byte
  /-- `HOST_STAT.READY` -/
  ready : Bool
  /-- `HWAKE_N` asserted -/
  hwake : Bool
  /-- `now` at which `HWAKE_N` was last asserted -/
  hwakeAt : Nat
  /-- bytes shifted out on `HSDO` by the last transaction -/
  hsdo : List Byte
  /-- the last UART reply frame, as sent -/
  htx : List Byte
  /-- `now` at which the last UART reply has ended -/
  htxEnd : Nat
  /-- `now` before which no UART request may start -/
  uartAt : Nat
deriving DecidableEq, Repr

/-- An entry of a duplicate history (13 R494). -/
structure HistEntry where
  /-- `TAG` -/
  tag : BitVec 16
  /-- `VERB` -/
  verb : BitVec 16
  /-- request trailer -/
  trailer : Word
  /-- `now` of the take -/
  taken : Nat
  /-- the cached reply of a once-verb: header and payload without trailer -/
  reply : Option (List Byte)
deriving DecidableEq, Repr

/-- A duplicate of a once-verb that came before the reply, and waits for it (13 R479, R497; log 26). -/
structure DupWait where
  /-- pair of the history -/
  pair : Fin 4
  /-- `TAG` -/
  tag : BitVec 16
  /-- `VERB` -/
  verb : BitVec 16
  /-- the duplicate -/
  msg : Msg
deriving DecidableEq, Repr

/-- One mailbox pair (13). -/
structure MbxPair where
  /-- `MB_INi`, 256 bytes -/
  inb : List Byte
  /-- `MB_INi` busy -/
  busy : Bool
  /-- a message of the pair is in flight -/
  flight : Bool
  /-- `MB_OUTi` -/
  outb : List Byte
  /-- `MB_OUTi` full -/
  full : Bool
  /-- port that holds the claim -/
  claim : Option HPort
deriving DecidableEq, Repr

/-- Mailboxes (13). -/
structure MbxUnit where
  /-- the four pairs -/
  pairs : Vector MbxPair 4
  /-- rung pairs not yet taken, oldest first -/
  takeq : List (Fin 4)
  /-- duplicate histories, newest entry first -/
  hist : Vector (List HistEntry) 4
  /-- duplicates that wait for the reply of their message, oldest first -/
  dups : List DupWait
  /-- the latest reply message produced (bytes) -/
  lastReply : List Byte
deriving DecidableEq, Repr

/-- Every RW register of 14 Table 14-4. -/
structure CfgRegs where
  clkCfg : Word
  phCfg : Word
  phCycle : Word
  phStall : Word
  phLead : Word
  phZofs : Word
  phZtol : Word
  phHcycle : Word
  phPoint : Vector Word 16
  acqCfg : Word
  cellRange : Word
  wellCfg : Word
  curCfg : Word
  scCfg : Word
  ntcCfg : Word
  balCfg : Word
  balRb : Vector Word 5
  cmpCfg : Word
  gateCfg : Word
  gateCfg2 : Word
  linkCfg : Word
  roleCfg : Word
  tenCfg : Word
  rdnCfg : Word
  tmrCfg : Word
  patCfg : Word
deriving DecidableEq, Repr

/-- The configuration record (17 Table 17-2). -/
structure CfgRecord where
  /-- register values -/
  regs : CfgRegs
  /-- `SEAL` -/
  sealV : Word
  /-- confirmed seal, when the valid flag is set -/
  confirmed : Option Word
  /-- `SCHG` -/
  schg : Word
  /-- the stored area check -/
  crc : Word
deriving DecidableEq, Repr

/-- The persistent store but for its memory bytes (04 R121, 17, 24 R877). -/
structure StoreUnit where
  /-- the configuration record -/
  record : CfgRecord
  /-- password salt -/
  salt : List Byte
  /-- SHA-256 digest of salt and password -/
  digest : List Byte
  /-- consecutive wrong passwords -/
  wrong : Nat
  /-- duration of the next lockout in s -/
  lockDur : Nat
  /-- a lockout runs -/
  lockRun : Bool
  /-- the password record's stored check -/
  pwCrc : Word
  /-- the password is the factory password -/
  pwFactory : Bool
  /-- writes of the configuration and password records: the bytes of the configuration area change with each (the model's own; log 8) -/
  areaNo : Nat
  /-- bytes of the configuration area that stores in firmware mode have written since the last of these writes, newest first -/
  written : List Host.Cell
  /-- reset count -/
  resets : Word
  /-- full-stop entries -/
  fstops : Word
  /-- watchdog resets -/
  wdresets : Word
  /-- stored `DISCONNECT_FAULT` latch: its cause -/
  disc : Option (BitVec 4)
  /-- instant of the stored `DISCONNECT_FAULT` latch, as `now` -/
  discAt : Nat
  /-- device UID -/
  uid : BitVec 64
  /-- grade, 0x43 or 0x4B -/
  grade : Byte
  /-- assembly lot -/
  lot : List Byte
  /-- date code: year -/
  year : Byte
  /-- date code: week -/
  week : Byte
  /-- CRC-32C of the factory data area -/
  fchk : Word
  /-- the applet image is valid -/
  imgValid : Bool
  /-- applet image length -/
  imgLen : Word
  /-- applet image check -/
  imgChk : Word
deriving DecidableEq, Repr

/-- An open safety connection (15). -/
structure Conn where
  /-- `CONNID` -/
  id : Word
  /-- `TEXP` -/
  texp : BitVec 16
  /-- last accepted `SSEQ` -/
  sseq : BitVec 16
  /-- lost count -/
  losts : Byte
  /-- repetitions -/
  reps : Byte
  /-- `now` at which the time expectation last restarted -/
  restart : Nat
deriving DecidableEq, Repr

/-- Sessions and the safety connection (15, 17). -/
structure SafeUnit where
  /-- password sessions per `MBX`: start of their 300 s -/
  sess : Vector (Option Nat) 4
  /-- the open connection -/
  conn : Option Conn
  /-- `CONNID` last opened since reset -/
  lastConn : Option Word
deriving DecidableEq, Repr

/-- Torque enable and run-down (16). -/
structure TqUnit where
  /-- state of the anchor -/
  rd : RdState
  /-- `SAFE_TEN` messages accepted, not yet ENABLED, oldest first -/
  enabling : List Waiting
  /-- `TEN_A`, `TEN_B` driven high (pulses apart) -/
  ten : Bool
  /-- a comma pulse is on `TEN_A` -/
  pulseA : Bool
  /-- a comma pulse is on `TEN_B` -/
  pulseB : Bool
  /-- `RDN_N` driven low -/
  rdnLow : Bool
  /-- TEN fault latched -/
  tenFault : Bool
  /-- anchor conflict stands -/
  conflict : Bool
  /-- the decision timer of the safety monitor runs -/
  smTimer : Bool
  /-- `SAFE_RDN` messages waiting for the decision; true: found DECIDE under way -/
  rdnWaits : List (Waiting × Bool)
  /-- n8₀ of the firmware -/
  n0f : Nat
  /-- n8₀ of the safety monitor -/
  n0s : Nat
  /-- `now` at the decision for the run-down -/
  runAt : Nat
  /-- `now` at the rising edges of `PHA` that the safety monitor's own counter has counted in the last 100 ms, newest first -/
  smEdges : List Nat
  /-- checks made in this run-down -/
  checks : Nat
  /-- checks that the safety monitor has made in the run-down -/
  smChecks : Nat
  /-- consecutive checks of the firmware with a zero count -/
  zeros : Nat
  /-- the safety monitor's copy of `ROLE_CFG` -/
  smRole : Word
  /-- its complemented copy -/
  smRoleN : Word
  /-- `now` of the latest tester sample that read high while the outputs were low -/
  tfbHigh : Option Nat
  /-- start of the latest DECIDE, as `now` -/
  decideAt : Nat
deriving DecidableEq, Repr

/-- An energy report (16 R617). -/
structure Report where
  /-- the record's `SRC` -/
  addr : BitVec 7
  /-- its instant, as `now` -/
  time : Nat
  /-- NINC -/
  ninc : Nat
  /-- VMIN, in 10 µV -/
  vmin : Int
  /-- taken from a frame with `FLT`[3] set -/
  flt3 : Bool
  /-- it shows an excluded channel -/
  excl : Bool
deriving DecidableEq, Repr

/-- Energy reports at the anchor (16). -/
structure EnUnit where
  /-- the latest report of each address -/
  reports : List Report
  /-- highest address validated since reset -/
  top : Nat
deriving DecidableEq, Repr

/-- A buffered store (18 R691). -/
structure BufStore where
  /-- physical address -/
  addr : Nat
  /-- address as issued -/
  issued : Word
  /-- bytes, lowest address first -/
  bytes : List Byte
  /-- its size code in `CAUSE` -/
  size : Nat
  /-- `SW.A` when it issued -/
  a : Bool
deriving DecidableEq, Repr

/-- A late bus error that waits (18 R693, R694). -/
structure LateErr where
  /-- the store's address -/
  addr : Word
  /-- `A` in force when it issued -/
  a : Bool
  /-- subcause -/
  sub : BitVec 4
  /-- size code of the store -/
  size : BitVec 2
  /-- `OVR` -/
  ovr : Bool
  /-- no instruction has issued since it was noted -/
  fresh : Bool
deriving DecidableEq, Repr

/-- The divide operations (19 Table 19-3). -/
inductive DivOp where
  | divs | divu | rems | remu
deriving DecidableEq, Repr

/-- A divide in the divide unit (18 R696). -/
structure DivRun where
  /-- the operation -/
  op : DivOp
  /-- destination -/
  rd : Fin 16
  /-- dividend -/
  x : Word
  /-- divisor -/
  y : Word
  /-- address of the divide -/
  pc : Word
  /-- `A` of the divide -/
  a : Bool
  /-- instructions executed since -/
  n : Nat
deriving DecidableEq, Repr

/-- The core (18, 19). -/
structure CoreUnit where
  /-- g0 to g15; g15 is the firmware copy -/
  g : Vector Word 16
  /-- applet copy of g15 -/
  asp : Word
  /-- program counter -/
  pc : Word
  /-- status word -/
  sw : Word
  /-- `VBASE` -/
  vbase : Word
  /-- `ESP` -/
  esp : Word
  /-- `SYS_CTL.FE` -/
  fe : Bool
  /-- `SYS_CTL.ESPL` -/
  espl : Bool
  /-- `SYS_ENTRY` -/
  sysEntry : Word
  /-- `SYS_SP` -/
  sysSp : Word
  /-- `SYS_RET` -/
  sysRet : Word
  /-- `IEN0` -/
  ien0 : Word
  /-- `IEN1` -/
  ien1 : BitVec 16
  /-- levels of entries 16 to 63: bit v − 16 -/
  ipend : BitVec 48
  /-- store buffer, oldest first -/
  sbuf : List BufStore
  /-- late bus error waiting for entry 5 -/
  late : Option LateErr
  /-- divide in progress -/
  div : Option DivRun
  /-- imprecise arithmetic fault waiting: subcause, address, `A` -/
  imp : Option (BitVec 4 × Word × Bool)
  /-- `WAIT` is in force -/
  waiting : Bool
  /-- the full stop runs -/
  fstop : Bool
  /-- code of the `FSTOP` with which FW 4.2 answers a fault it has taken in firmware mode (20 R789) -/
  owed : Option Word
  /-- the handler of entry 10 has still to clear the `NEW` bit of the channel that `RPT` names -/
  dmaRep : Bool
  /-- `CYCLE`: core cycles since reset release -/
  cycle : Word
  /-- the part of a core cycle that has passed, in 1/256 -/
  cycleFrac : Nat
deriving DecidableEq, Repr

/-- The bytes of SRAM and of the persistent store, sorted by address, no byte equal to 0 (log 7). -/
abbrev Memory := List Host.Cell

/-- One region (20 Table 20-3). -/
structure Region where
  /-- `RGN_VA` -/
  va : Word
  /-- `RGN_END` -/
  last : Word
  /-- `RGN_PA` -/
  pa : Word
deriving DecidableEq, Repr

/-- Protection and translation (20). -/
structure MpuUnit where
  /-- firmware partition -/
  fw : Vector Region 16
  /-- applet partition -/
  ap : Vector Region 16
  /-- `FEN` -/
  fen : Bool
  /-- `FLOCK` -/
  flock : Bool
deriving DecidableEq, Repr

/-- One DMA channel (20 Table 20-11). -/
structure DmaCh where
  /-- `STATE` -/
  state : DmaState
  /-- `DONE` -/
  done : Bool
  /-- `FSUB` -/
  fsub : BitVec 4
  /-- `FWR` -/
  fwr : Bool
  /-- bytes read and not yet written -/
  held : List Byte
  /-- `DMA_DESC` -/
  desc : Word
  /-- `DMA_SRC` -/
  src : Word
  /-- `DMA_DST` -/
  dst : Word
  /-- `LEFT` -/
  left : Nat
  /-- `DMA_FADDR` -/
  faddr : Word
  /-- third word of the current descriptor -/
  ctl : Word
  /-- `NEXT` of the current descriptor -/
  next : Word
  /-- a request of its trigger is standing -/
  req : Bool
deriving DecidableEq, Repr

/-- DMA (20). -/
structure DmaUnit where
  /-- channels 0 to 7 -/
  ch : Vector DmaCh 8
  /-- `DMA_IRQ.DONE` -/
  irq : Byte
  /-- `DMA_FSTAT.NEW` -/
  fnew : Byte
  /-- `DMA_FSTAT.RPT` -/
  rpt : BitVec 3
  /-- which engine had the last burst on the shared SRAM port: true DMA, false the check engine -/
  sramLast : Option Bool
deriving DecidableEq, Repr

/-- One check-engine channel (21 Table 21-1). -/
structure CeCh where
  /-- `CE_CFG` -/
  cfg : Word
  /-- `CE_POLY` -/
  poly : Word
  /-- `CE_INIT` -/
  init : Word
  /-- `CE_ADDR` -/
  addr : Word
  /-- `CE_LEN` -/
  len : BitVec 24
  /-- `CE_EXP` -/
  exp : Word
  /-- `CE_RES` -/
  res : Word
  /-- `CE_RAW` -/
  raw : Word
  /-- `STATE` -/
  state : CeState
  /-- `DONE` -/
  done : Bool
  /-- `MATCH` -/
  mtch : Bool
  /-- `FSUB` -/
  fsub : BitVec 4
  /-- `CE_FADDR` -/
  faddr : Word
  /-- bytes taken so far -/
  pos : Nat
  /-- the register r of R799 -/
  r : Word
  /-- `ABORT` has been written and the burst in progress is to finish -/
  abort : Bool
deriving DecidableEq, Repr

/-- Check engine and the firmware's background scans (21). -/
structure CeUnit where
  /-- channels 0 to 3 -/
  ch : Vector CeCh 4
  /-- `CE_IRQ` -/
  irq : BitVec 4
  /-- channel that held the last burst -/
  lastCh : Fin 4
  /-- completed scans of channels 0 and 1 -/
  scans : Word
  /-- mismatches among them -/
  mism : Word
  /-- channels 0, 1 whose scan is the repeat after a mismatch or fault -/
  rep : BitVec 2
  /-- the incident record of a start-up mismatch is written -/
  romInc : Bool
  /-- channel 1 scans the configuration record, whose layout in bytes the spec does not give (log 8) -/
  cfgScan : Bool
deriving DecidableEq, Repr

/-- The applet (18, 20). -/
structure AplUnit where
  /-- `APL_STAT.STATE` -/
  state : AplState
  /-- `FVEC` -/
  fvec : Byte
  /-- `FAULTS` -/
  faults : Word
  /-- `ABUD` in µs -/
  abud : Nat
  /-- charge of the interval, in ct -/
  charge : Nat
  /-- budget of the interval in µs -/
  budget : Nat
  /-- start of the interval, as `now` -/
  ivAt : Nat
  /-- a service runs -/
  inSvc : Bool
  /-- `SVC_WAIT` has suspended the applet -/
  suspended : Bool
  /-- the service called has not been served yet -/
  svcPend : Bool
  /-- a stop decided while a service ran (20 R788): `[]` without a fault, else the data of the `APLFAULT` entry -/
  stopDue : Option (List Byte)
  /-- pending `APL_MSG` verbs, oldest first -/
  msgs : List Waiting
  /-- times of the notes of the last second -/
  notes : List Nat
deriving DecidableEq, Repr

/-- A queued journal entry (22 Table 22-1). -/
structure JEntry where
  /-- incident area -/
  inc : Bool
  /-- `TYPE` -/
  type : Byte
  /-- parts -/
  parts : Nat
  /-- data bytes -/
  data : List Byte
  /-- `UPTIME` at the event -/
  uptime : Nat
  /-- `RESETS` -/
  resets : Word
  /-- `EPOCH` -/
  epoch : Word
  /-- the `JRN_MARK` whose reply waits for the write -/
  mark : Option Waiting
deriving DecidableEq, Repr

/-- The journal (22). -/
structure JrnUnit where
  /-- write queue, oldest first -/
  queue : List JEntry
  /-- discards since the last SUPPRESSED entry -/
  discards : Nat
  /-- records ever written to the routine ring -/
  rNum : Nat
  /-- chain value of its head, as bytes -/
  rChain : List Byte
  /-- records ever written to the incident area -/
  iNum : Nat
  /-- chain value of its head -/
  iChain : List Byte
  /-- number of the oldest held incident record -/
  iOld : Nat
  /-- INCFULL written for fewer than 64 free slots since the last release -/
  low : Bool
  /-- INCFULL written for a refusal since the last release -/
  refused : Bool
deriving DecidableEq, Repr

/-- Power states, timers, patrol (23). -/
structure PwUnit where
  /-- the power state -/
  state : PState
  /-- `WAKE_CAUSE` -/
  wake : Word
  /-- a lower state has been decided and not yet entered -/
  decided : Option PState
  /-- the decision was made on `T_SLEEP_LOSS` -/
  decTloss : Bool
  /-- a wake cause arose between decision and entry -/
  wakeDue : Bool
  /-- the wake cause between decision and entry is one that sends own alarm bursts -/
  alarmDue : Bool
  /-- `now` of the last restart of the communication-loss timers -/
  lossAt : Nat
  /-- `T_BAL_LOSS` has expired -/
  balGone : Bool
  /-- `T_SLEEP_LOSS` has expired -/
  sleepGone : Bool
  /-- `now` of the last entry to a lower state -/
  lowAt : Nat
  /-- patrol timer: checks that have fallen since the entry -/
  patK : Nat
  /-- the thermistor set of the last completed patrol check -/
  patSet : Option (List Byte)
  /-- `now` of the last return from PATROL or SLEEP -/
  wokeAt : Nat
  /-- the first beat after a wake is held back -/
  firstBeat : Bool
  /-- accepted `RESET`s that wait: the message, and whether an event of R554 has come while its broadcast still waited -/
  resetVerb : List (Msg × Bool)
  /-- a north wake burst is due after an `HCS_N` wake -/
  wakeBurst : Bool
deriving DecidableEq, Repr

/-! ## The state -/

/-- One FR18. -/
structure State where
  /-- ct since first power (log 1) -/
  now : Nat
  /-- number of the next free value (log 6) -/
  freeCtr : Nat
  rst : RstUnit
  sup : SupUnit
  clk : ClkUnit
  tim : TimUnit
  ph : PhUnit
  sch : SchUnit
  acq : AcqUnit
  aux : AuxUnit
  bal : BalUnit
  prot : ProtUnit
  gate : GateUnit
  sp : PortUnit
  np : PortUnit
  chn : ChnUnit
  host : HostUnit
  mbx : MbxUnit
  cfg : CfgRegs
  store : StoreUnit
  safe : SafeUnit
  tq : TqUnit
  en : EnUnit
  core : CoreUnit
  mem : Memory
  /-- persistent-store addresses whose read is uncorrectable (18 Table 18-8) -/
  ecc : List Nat
  mpu : MpuUnit
  dma : DmaUnit
  ce : CeUnit
  apl : AplUnit
  jrn : JrnUnit
  pw : PwUnit
  /-- commands that wait, first in first out -/
  pending : List Instr
deriving DecidableEq, Repr

/-- Reasons the machine stops with a fault. The spec gives every event of the table an effect, so no command raises one;
the type has the one constructor the interface needs. -/
inductive Fault where
  /-- raised by nobody: no event of the table is given a stop by the spec; safe -/
  | stopped (why : String)
deriving DecidableEq, Repr

/-- Reasons a command is refused. -/
inductive Refusal where
  /-- a command that has no meaning yet, by its mnemonic; raised by exec's arm only; safe -/
  | notModelled (mnemonic : String)
deriving DecidableEq, Repr

/-! ## Reset values, unit by unit. "Reset value" is the value after a full reset (00, Conventions); where the spec gives
none, log 4 names the choice. -/

/-- Reset values of the RW registers (their tables; 14 Table 14-4). -/
def CfgRegs.reset : CfgRegs where
  clkCfg := 0x3
  phCfg := 0
  phCycle := 65536
  phStall := 100
  phLead := 200
  phZofs := 0
  phZtol := 4
  phHcycle := 1000
  phPoint := (Vector.replicate 16 0).set 0 0x82000000#32
  acqCfg := 0x0A03
  cellRange := 0
  wellCfg := 18
  curCfg := 1
  scCfg := 0x346
  ntcCfg := 0x006401FF
  balCfg := 0x0800
  balRb := Vector.replicate 5 0
  cmpCfg := 0x09A90A3F
  gateCfg := 0xB4B4B414
  gateCfg2 := 0x28
  linkCfg := 0x9
  roleCfg := 0x2814
  tenCfg := 0x0A14
  rdnCfg := 3000
  tmrCfg := 0x012C0014
  patCfg := 0x96DC303C

/-- Reset logic after a release (24 R873; log 3, 4). -/
def RstUnit.reset : RstUnit where
  held := false
  startDue := true
  latch := 1
  lastRst := 0
  releaseAt := 0
  resetN := true
  test := false
  fstopTimer := false
  wdRun := true
  wdServed := 0
  supFail := false

/-- Supplies and pins at reset (log 5). -/
def SupUnit.reset : SupUnit where
  vstack3 := true
  por := true
  brown := false
  vio := true
  vport := false
  hcsN := true
  stopN := true
  tfbA := false
  tfbB := false
  faultExt := false
  gpio := 0

/-- Clock unit (05 Table 5-3). -/
def ClkUnit.reset : ClkUnit where
  refSel := false
  xtalOk := false
  pllLock := false
  disagree := 0
  fault := false
  steer := 0
  freq := 0
  goal := 0
  rate := 0
  coreDead := false

/-- Chain time (05 R894). -/
def TimUnit.reset : TimUnit where
  cnt := 0
  aligned := false
  offset := 0
  stepDue := true
  goodBeats := 0
  beatAt := none
  orphaned := false
  facing := .south
  southBeat := none
  northBeat := none

/-- Phase tracker (05 Table 5-11). -/
def PhUnit.reset : PhUnit where
  count := 0
  pos := 0
  epoch := 0
  rev := false
  tbase := .internal
  skips := 0
  settle := 0
  settleRev := false
  edges := []
  firstIndex := true
  savePos := 0
  saveEpoch := 0
  zcAt := none
  zcPeriod := 0
  acc := 0
  a := false
  b := false
  z := false
  stampA := 0
  stampB := 0
  phaAt := []
  stampZ := 0

/-- Scheduler. -/
def SchUnit.reset : SchUnit where
  ticks := []
  tseq := 0
  lastFix := none
  passed := 0
  cmask := 0
  report := none
  frameAt := 0
  cancelQ := []
  missed := 0
  tdel := 0
  repEpoch := 0
  log := []
  ttx := none

/-- No result yet (06 R193). -/
def ChanMem.reset : ChanMem where
  code := 0
  clipped := false
  margin := false
  range := false
  seen := false

/-- Acquisition. -/
def AcqUnit.reset : AcqUnit where
  spans := []
  last := Vector.replicate 19 ChanMem.reset
  good := Vector.replicate 18 none
  usable := Vector.replicate 18 none
  kept := []
  ntcKept := []
  held := []
  rel := []
  ntcRel := []
  req := none
  seqN := 0
  win := 0b11
  winNext := []
  settle := Vector.replicate 18 0
  owFail := 0
  owStat := 0
  ow := .idle
  owStep := .reference
  owEven := false
  owAt := 0
  owForced := false
  owBoot := false
  owDone := none
  scAt := none
  xcDue := false
  xcDone := none
  dist := 0
  distAt := 0
  startRun := false
  startDue := false
  startDone := none
  startOw := false
  startSet := 0

/-- Die sensors, cross-checks, thermistors. -/
def AuxUnit.reset : AuxUnit where
  die := Vector.replicate 4 0
  dieSeen := 0
  frame := 0
  slots := 0
  xc3Last := 0
  tmax := 0
  ot := false
  xcFail := 0
  xcFault := 0
  xcWell := 0
  xcWellFault := 0
  xcGood := Vector.replicate 5 0
  xcWellGood := Vector.replicate 18 0
  xcEver := false
  xcRan := 0
  ntcCfg := 0x006401FF
  ntcRun := false
  ntcAt := 0
  ntcB := false
  ntcFrame := 0
  ntcIdx := 0
  codeA := Vector.replicate 8 0
  codeB := Vector.replicate 8 0
  satA := 0
  satB := 0
  xc3A := false
  xc3B := false
  ntcDone := false
  ntcMp := 0
  ntcCount := 0
  ntcWord := Vector.replicate 8 0
  ntcPub := false
  tsa := false
  tsb := false

/-- An idle well; ron 2.0 Ω before the first passing test (08 R266). -/
def BalWell.reset : BalWell where
  req := false
  applet := false
  target := false
  targetV := 0
  left := 0
  pause := 0
  endCode := 0
  ron := 2000000
  passAt := none

/-- Balancing. -/
def BalUnit.reset : BalUnit where
  wells := Vector.replicate 18 BalWell.reset
  testFail := 0
  closed := 0
  lastOn := Vector.replicate 18 0
  grant := 0
  grantCt := 0
  frame := 0
  due := 0
  testRun := 0
  testWait := false
  testEven := false
  testAt := 0
  testOn := 0
  btest := []
  stuck := 0
  rbUse := Vector.replicate 5 0

/-- Comparators at the factory-safe thresholds, 18 wells (04 R114). -/
def ProtUnit.reset : ProtUnit where
  ovTrip := 0
  uvTrip := 0
  ovDeg := 0
  uvDeg := 0
  relAt := Vector.replicate 18 0
  ovFault := 0
  uvFault := 0
  test := none
  oweOv := 0x3FFFF
  oweUv := 0x3FFFF
  redo := 0
  redoUv := 0
  againOv := 0
  againUv := 0
  turn := 0
  turnDone := 0
  ctest := []
  unclean := true
  everRel := false
  loaded := false
  romOk := false
  heldEvents := []
  flt := 0b1000

/-- Gate OFF (09 Table 9-3 reset column). -/
def GateUnit.reset : GateUnit where
  state := .off
  disc := false
  cause := 0
  causes := 0
  discAt := 0
  fromOn := false
  stage2 := false
  cp := false
  testOk := false
  ck := 0
  overs := 0
  vds := 0
  hold := false
  waits := []

/-- A port after reset: FOLLOW transmits EL1 (10 R337). -/
def PortUnit.reset : PortUnit where
  rx := none
  gen := 0
  genDue := none
  cerr := 0
  up := false
  txq := []
  txNow := none
  txAs := .el1
  txEnd := 0
  endOut := none
  alarmTx := false
  burstTx := false
  txRel := false
  relaying := false
  rxBusy := false
  noRelay := false
  hurt := false
  rxBurst := 0
  freeAt := 0
  cut := false
  fwd := []
  burst := false
  alarm := 0
  alarmOn := false
  brkIn := false
  brkOut := false
  brkRelay := false
  brkDue := false
  bursts := 0

/-- Chain unit: unassigned (24 Table 24-2). -/
def ChnUnit.reset : ChnUnit where
  addr := 0x7F
  ring := false
  enumDone := false
  top := 0
  el1 := false
  hops := []
  enum := none
  brk := []
  calValid := false
  calEp := 0
  da := 0
  daNew := none
  dh := 0
  anchor := 0
  ep := 0
  calMap := 0
  cal := none
  calDone := []
  lseq := 0
  unacked := []
  seenV := []
  seenR := []
  fwd := []
  burnt := 0
  drops := 0
  rtxs := 0
  lfail := 0
  crumb := []
  casm := []
  cacc := []
  kind := 0
  m := 0
  wofs := 0
  setq := []
  ticksSince := 0
  win := none
  winAt := none
  winFwd := none
  freeFrom := 0
  freeTo := 0
  oppAt := 0
  recs := Vector.replicate 3 { recs := [], lost := 0 }
  flts := []
  fltTimer := false
  fltRep := 0

/-- Host window. -/
def HostUnit.reset : HostUnit where
  irqen := 0
  irq := 0
  spiSel := 0
  spiPtr := 0
  uartSel := 0
  uartPtr := 0
  live := 0
  seen := 0
  lfail := 0
  baud := false
  baudReg := false
  errSpi := 0
  errUart := 0
  errClaim := 0
  ready := false
  hwake := false
  hwakeAt := 0
  hsdo := []
  htx := []
  htxEnd := 0
  uartAt := 0

/-- An empty pair (13 Table 13-3). -/
def MbxPair.reset : MbxPair where
  inb := List.replicate 256 0
  busy := false
  flight := false
  outb := []
  full := false
  claim := none

/-- Mailboxes emptied, claims released, histories cleared (24 Table 24-2). -/
def MbxUnit.reset : MbxUnit where
  pairs := Vector.replicate 4 MbxPair.reset
  takeq := []
  hist := Vector.replicate 4 []
  dups := []
  lastReply := []

/-- Sessions ended, connection closed (24 Table 24-2). -/
def SafeUnit.reset : SafeUnit where
  sess := Vector.replicate 4 none
  conn := none
  lastConn := none

/-- Torque off (16 R600). -/
def TqUnit.reset : TqUnit where
  rd := .off
  enabling := []
  ten := false
  pulseA := false
  pulseB := false
  rdnLow := false
  tenFault := false
  conflict := false
  smTimer := false
  rdnWaits := []
  n0f := 0
  n0s := 0
  runAt := 0
  smEdges := []
  checks := 0
  smChecks := 0
  zeros := 0
  smRole := 0x2814
  smRoleN := ~~~0x2814#32
  tfbHigh := none
  decideAt := 0

/-- No report. -/
def EnUnit.reset : EnUnit where
  reports := []
  top := 0

/-- The core at ROM 0x200 (18 R700, Table 18-1). -/
def CoreUnit.reset : CoreUnit where
  g := Vector.replicate 16 0
  asp := 0
  pc := 0x200
  sw := 0x4030
  vbase := 0
  esp := 0x20020000
  fe := false
  espl := false
  sysEntry := 0
  sysSp := 0
  sysRet := 0
  ien0 := 0
  ien1 := 0
  ipend := 0
  sbuf := []
  late := none
  div := none
  imp := none
  waiting := false
  fstop := false
  owed := none
  dmaRep := false
  cycle := 0
  cycleFrac := 0

/-- Regions disabled (20 Table 20-3). -/
def MpuUnit.reset : MpuUnit where
  fw := Vector.replicate 16 { va := 0, last := 0, pa := 0 }
  ap := Vector.replicate 16 { va := 0, last := 0, pa := 0 }
  fen := false
  flock := false

/-- An idle channel (20 Table 20-11). -/
def DmaCh.reset : DmaCh where
  state := .idle
  done := false
  fsub := 0
  fwr := false
  held := []
  desc := 0
  src := 0
  dst := 0
  left := 0
  faddr := 0
  ctl := 0
  next := 0
  req := false

/-- DMA. -/
def DmaUnit.reset : DmaUnit where
  ch := Vector.replicate 8 DmaCh.reset
  irq := 0
  fnew := 0
  rpt := 0
  sramLast := none

/-- An idle channel (21 Table 21-1). -/
def CeCh.reset : CeCh where
  cfg := 32
  poly := 0x04C11DB7
  init := 0xFFFFFFFF
  addr := 0
  len := 0
  exp := 0
  res := 0
  raw := 0
  state := .idle
  done := false
  mtch := false
  fsub := 0
  faddr := 0
  pos := 0
  r := 0
  abort := false

/-- Check engine. -/
def CeUnit.reset : CeUnit where
  ch := Vector.replicate 4 CeCh.reset
  irq := 0
  lastCh := 3
  scans := 0
  mism := 0
  rep := 0
  romInc := false
  cfgScan := false

/-- No applet runs (24 R879). -/
def AplUnit.reset : AplUnit where
  state := .none
  fvec := 0
  faults := 0
  abud := 0
  charge := 0
  budget := 0
  ivAt := 0
  inSvc := false
  suspended := false
  svcPend := false
  stopDue := none
  msgs := []
  notes := []

/-- ACTIVE; timers at their default values (23 R842, 04 R107). -/
def PwUnit.reset : PwUnit where
  state := .active
  wake := 0
  decided := none
  decTloss := false
  wakeDue := false
  alarmDue := false
  lossAt := 0
  balGone := false
  sleepGone := false
  lowAt := 0
  patK := 0
  patSet := none
  wokeAt := 0
  firstBeat := false
  resetVerb := []
  wakeBurst := false

/-- The configuration record of a delivered device: default values, its seal, no confirmation (log 4). The seal is R648's
CRC-32C over the UID and the nine default values. -/
def CfgRecord.reset : CfgRecord where
  regs := CfgRegs.reset
  sealV := 0x3347f5af
  confirmed := none
  schg := 0
  crc := 0x105edb73

/-- The persistent store of a delivered device (log 4): the factory password, whose digest is SHA-256 of a zero salt and
eight bytes 0x30 (17 R659, R660). -/
def StoreUnit.reset : StoreUnit where
  record := CfgRecord.reset
  salt := List.replicate 16 0
  digest := [0xc1, 0xb3, 0x9a, 0xc, 0x52, 0xda, 0x41, 0xbf, 0x61, 0x4d, 0x2e, 0x6c, 0x12, 0x93, 0xaa, 0x75,
    0x5b, 0xf7, 0xc9, 0x16, 0x44, 0x13, 0xf1, 0xb6, 0x5f, 0x31, 0x50, 0x1f, 0xc5, 0x21, 0xf7, 0x73]
  wrong := 0
  lockDur := 60
  lockRun := false
  pwCrc := 0xe20197fe
  pwFactory := true
  areaNo := 0
  written := []
  resets := 0
  fstops := 0
  wdresets := 0
  disc := none
  discAt := 0
  uid := 0
  grade := 0x43
  lot := List.replicate 8 0
  year := 0
  week := 0
  fchk := 0
  imgValid := false
  imgLen := 0
  imgChk := 0

/-- An empty journal: its chain values are the predecessor values of 22 R829 for the UID (log 4). -/
def JrnUnit.reset : JrnUnit where
  queue := []
  discards := 0
  rNum := 0
  rChain := [0x3e, 0x70, 0x77, 0xfd, 0x2f, 0x66, 0xd6, 0x89]
  iNum := 0
  iChain := [0x2a, 0xe1, 0xc1, 0x9c, 0xc, 0xbd, 0x37, 0x8e]
  iOld := 1
  low := false
  refused := false

/-- The machine right after the reset release that follows power-on (log 3). -/
def State.reset : State where
  now := 0
  freeCtr := 0
  rst := RstUnit.reset
  sup := SupUnit.reset
  clk := ClkUnit.reset
  tim := TimUnit.reset
  ph := PhUnit.reset
  sch := SchUnit.reset
  acq := AcqUnit.reset
  aux := AuxUnit.reset
  bal := BalUnit.reset
  prot := ProtUnit.reset
  gate := GateUnit.reset
  sp := PortUnit.reset
  np := PortUnit.reset
  chn := ChnUnit.reset
  host := HostUnit.reset
  mbx := MbxUnit.reset
  cfg := CfgRegs.reset
  store := StoreUnit.reset
  safe := SafeUnit.reset
  tq := TqUnit.reset
  en := EnUnit.reset
  core := CoreUnit.reset
  mem := []
  ecc := []
  mpu := MpuUnit.reset
  dma := DmaUnit.reset
  ce := CeUnit.reset
  apl := AplUnit.reset
  jrn := JrnUnit.reset
  pw := PwUnit.reset
  pending := []

end Sys2Proof.Machine
end

