-- ==== Sys2Proof/Machine/Ops.lean ====
section
/-! DEFINITION. Operations shared by every family: time, bytes, checks, memory, protection, the fault line, host
interrupts, frames, replies, the journal, torque, the gate, the full reset and the full stop. -/

namespace Sys2Proof.Machine

open Sys2Proof

/-! ## Time (05 R128; log 1) -/

/-- ct in one millisecond. -/
def ctPerMs : Nat := 196608

/-- ct in `n` microseconds, rounded down. -/
def usCt (n : Nat) : Nat := n * 24576 / 125

/-- ct in `n` microseconds, rounded up. -/
def usUp (n : Nat) : Nat := (n * 24576 + 124) / 125

/-- Microseconds since reset release (14 Table 14-2, `UPTIME`). -/
def uptimeUs (s : State) : Nat := (s.now - s.rst.releaseAt) * 125 / 24576

/-- Milliseconds since `t`, rounded down. -/
def msSince (s : State) (t : Nat) : Nat := (s.now - t) / ctPerMs

/-! ## Bits, bytes and sets of wells -/

/-- The bits `hi` down to `lo` of a register, as a number. -/
def fld (w : Word) (hi lo : Nat) : Nat := w.toNat / 2 ^ lo % 2 ^ (hi + 1 - lo)

/-- Bit `i` of a register. -/
def bitOf (w : Word) (i : Nat) : Bool := w.getLsbD i

/-- 1 for true. -/
def b2n (b : Bool) : Nat := if b then 1 else 0

/-- The set of one well. -/
def wbit (w : Well) : Wells := 1#18 <<< w.val

/-- Membership of a well. -/
def hasW (m : Wells) (w : Well) : Bool := m.getLsbD w.val

/-- Add a well to, or take it out of, a set. -/
def putW (m : Wells) (w : Well) (b : Bool) : Wells := if b then m ||| wbit w else m &&& ~~~ (wbit w)

/-- The wells of a set, lowest first. -/
def wellList (m : Wells) : List Well := (List.finRange 18).filter (hasW m)

/-- `n` bytes of `v`, least significant first (00 R8). -/
def leBytes : Nat → Nat → List Byte
  | 0, _ => []
  | n + 1, v => BitVec.ofNat 8 v :: leBytes n (v / 256)

/-- The number whose little-endian bytes are given. -/
def leVal : List Byte → Nat
  | [] => 0
  | b :: t => b.toNat + 256 * leVal t

/-- Byte `i`, 0 beyond the end. -/
def byteAt (l : List Byte) (i : Nat) : Nat := (l.getD i 0).toNat

/-- `n` bytes at offset `i` as a little-endian number. -/
def leAt (l : List Byte) (i n : Nat) : Nat := leVal ((l.drop i).take n)

/-- Exactly `n` bytes: cut, or filled up with zeros. -/
def padTo (n : Nat) (l : List Byte) : List Byte := l.take n ++ List.replicate (n - l.length) 0

/-- Two's complement of `n` bits as a number. -/
def signedOf (n v : Nat) : Int := if v % 2 ^ n < 2 ^ (n - 1) then (v % 2 ^ n : Int) else (v % 2 ^ n : Int) - 2 ^ n

/-- The `n`-bit code of an integer. -/
def codeOf (n : Nat) (v : Int) : Nat := (v % (2 ^ n : Int)).toNat

/-- Limit an integer to a range. -/
def clampI (lo hi v : Int) : Int := if v < lo then lo else if hi < v then hi else v

/-- A saturating count. -/
def satInc {n : Nat} (v : BitVec n) : BitVec n := if v = BitVec.allOnes n then v else v + 1

/-! ## Checks -/

/-- One bit step of a reflected 32-bit CRC. -/
def crcStep (poly r : Word) : Word := if r.getLsbD 0 then (r >>> 1) ^^^ poly else r >>> 1

/-- One byte of a reflected 32-bit CRC with reversed polynomial `poly`. -/
def crcByte (poly r : Word) (b : Byte) : Word :=
  let f := crcStep poly
  f (f (f (f (f (f (f (f (r ^^^ b.setWidth 32))))))))

/-- CRC-32 of IEEE 802.3 (11 R381). -/
def crc32 (l : List Byte) : Word := ~~~ (l.foldl (crcByte 0xEDB88320#32) 0xFFFFFFFF#32)

/-- CRC-32C (15 R562). -/
def crc32c (l : List Byte) : Word := ~~~ (l.foldl (crcByte 0x82F63B78#32) 0xFFFFFFFF#32)

/-- One bit step of CRC-16/CCITT. -/
def crc16Step (r : BitVec 16) : BitVec 16 := if r.getLsbD 15 then (r <<< 1) ^^^ 0x1021#16 else r <<< 1

/-- One byte of CRC-16/CCITT. -/
def crc16Byte (r : BitVec 16) (b : Byte) : BitVec 16 :=
  let f := crc16Step
  f (f (f (f (f (f (f (f (r ^^^ (b.setWidth 16 <<< 8)))))))))

/-- CRC-16/CCITT (11 R382). -/
def crc16 (l : List Byte) : BitVec 16 := l.foldl crc16Byte 0xFFFF#16

/-- The words of a row of `n` 32-bit constants, written as one number, the first word highest. -/
def rowWords (n row : Nat) : List Word := ((List.range n).map fun i => BitVec.ofNat 32 (row / 2 ^ (32 * i))).reverse

/-- The 64 round constants of SHA-256, eight to a row (22 R829; log 12). -/
def shaK : List Word := [
    0x428a2f9871374491b5c0fbcfe9b5dba53956c25b59f111f1923f82a4ab1c5ed5,
    0xd807aa9812835b01243185be550c7dc372be5d7480deb1fe9bdc06a7c19bf174,
    0xe49b69c1efbe47860fc19dc6240ca1cc2de92c6f4a7484aa5cb0a9dc76f988da,
    0x983e5152a831c66db00327c8bf597fc7c6e00bf3d5a7914706ca635114292967,
    0x27b70a852e1b21384d2c6dfc53380d13650a7354766a0abb81c2c92e92722c85,
    0xa2bfe8a1a81a664bc24b8b70c76c51a3d192e819d6990624f40e3585106aa070,
    0x19a4c1161e376c082748774c34b0bcb5391c0cb34ed8aa4a5b9cca4f682e6ff3,
    0x748f82ee78a5636f84c878148cc7020890befffaa4506cebbef9a3f7c67178f2].flatMap (rowWords 8)

/-- The initial hash value. -/
def shaInit : List Word := rowWords 8 0x6a09e667bb67ae853c6ef372a54ff53a510e527f9b05688c1f83d9ab5be0cd19

/-- The sum modulo 2 of a word rotated right by each of some amounts. -/
def rotSum (x : Word) (by_ : List Nat) : Word := by_.foldl (fun r n => r ^^^ x.rotateRight n) 0

/-- `n` further words of the message schedule; the words so far stand newest first. -/
def shaSched : Nat → List Word → List Word
  | 0, w => w
  | n + 1, w =>
    let back (i : Nat) : Word := w.getD (i - 1) 0
    shaSched n ((back 16 + (rotSum (back 15) [7, 18] ^^^ (back 15 >>> 3)) + back 7
      + (rotSum (back 2) [17, 19] ^^^ (back 2 >>> 10))) :: w)

/-- One round on the eight working words; `kw` is its constant plus its schedule word. -/
def shaRound (v : List Word) (kw : Word) : List Word :=
  let x (i : Nat) : Word := v.getD i 0
  let choice := x 6 ^^^ (x 4 &&& (x 5 ^^^ x 6))
  let major := (x 0 &&& x 1) ||| (x 2 &&& (x 0 ||| x 1))
  let t := x 7 + rotSum (x 4) [6, 11, 25] + choice + kw
  (t + rotSum (x 0) [2, 13, 22] + major) :: (v.take 3 ++ (x 3 + t) :: (v.drop 4).take 3)

/-- The big-endian word of four bytes. -/
def beWord (l : List Byte) : Word := BitVec.ofNat 32 (leVal l.reverse)

/-- The big-endian bytes of a word. -/
def beBytes (w : Word) : List Byte := (leBytes 4 w.toNat).reverse

/-- One 64-byte block. -/
def shaBlock (h : List Word) (blk : List Byte) : List Word :=
  let first := (List.range 16).map fun i => beWord ((blk.drop (4 * i)).take 4)
  let kw := List.zipWith (· + ·) shaK (shaSched 48 first.reverse).reverse
  List.zipWith (· + ·) h (kw.foldl shaRound h)

/-- `n` blocks. -/
def shaBlocks : Nat → List Word → List Byte → List Word
  | 0, h, _ => h
  | n + 1, h, l => shaBlocks n (shaBlock h (l.take 64)) (l.drop 64)

/-- SHA-256 (22 R829; FIPS 180-4). -/
def sha256 (l : List Byte) : List Byte :=
  let blocks := (l.length + 8) / 64 + 1
  let padded := l ++ [0x80] ++ List.replicate (blocks * 64 - l.length - 9) 0 ++ (leBytes 8 (8 * l.length)).reverse
  ((shaBlocks blocks shaInit padded).map beBytes).flatten

/-! ## Memory: SRAM and persistent store as bytes (20 Table 20-1; log 7) -/

/-- The byte at an address; 0 where none is listed. -/
def memGet : Memory → Nat → Byte
  | [], _ => 0
  | (k, b) :: t, a => if k = a then b else memGet t a

/-- Write one byte, keeping the canonical form. -/
def memPut : Memory → Nat → Byte → Memory
  | [], a, b => if b = 0 then [] else [(a, b)]
  | (k, v) :: t, a, b =>
    if a < k then (if b = 0 then (k, v) :: t else (a, b) :: (k, v) :: t)
    else if a = k then (if b = 0 then t else (a, b) :: t)
    else (k, v) :: memPut t a b

/-- Write bytes at consecutive addresses. -/
def memPuts : Memory → Nat → List Byte → Memory
  | m, _, [] => m
  | m, a, b :: t => memPuts (memPut m a b) (a + 1) t

/-- Read `n` bytes. -/
def memGets (m : Memory) (a n : Nat) : List Byte := (List.range n).map fun i => memGet m (a + i)

/-- Addresses at or above `lo`, strictly rising, no byte 0. -/
def memWfFrom : Nat → Memory → Bool
  | _, [] => true
  | lo, (k, v) :: t => decide (lo ≤ k) && v != 0 && memWfFrom (k + 1) t

/-- The canonical form. -/
def Memory.wf (m : Memory) : Bool := memWfFrom 0 m

/-! ## The physical map and the protection unit (20) -/

/-- Read-only memory (20 Table 20-1). -/
def inRom (a : Nat) : Bool := decide (a < 0x40000)
/-- SRAM. -/
def inSram (a : Nat) : Bool := decide (0x20000000 ≤ a) && decide (a < 0x20030000)
/-- Persistent store. -/
def inStore (a : Nat) : Bool := decide (0x30000000 ≤ a) && decide (a < 0x30020000)
/-- Factory data. -/
def inFactory (a : Nat) : Bool := decide (0x3001E000 ≤ a) && decide (a < 0x30020000)
/-- Peripheral blocks. -/
def inPeri (a : Nat) : Bool := decide (0x40000000 ≤ a) && decide (a < 0x4000B000)

/-- `BASE` × 256 and `LAST` × 256. -/
def rgnLo (r : Region) : Nat := fld r.va 31 8 * 256
/-- The last address of a region. -/
def rgnHi (r : Region) : Nat := fld r.last 31 8 * 256 + 255

/-- The lowest-numbered region that matches (20 R760). -/
def findRegion : List Region → Nat → Option Region
  | [], _ => none
  | r :: t, a => if bitOf r.va 0 && decide (rgnLo r ≤ a) && decide (a ≤ rgnHi r) then some r else findRegion t a

/-- The fence of 20 R763. -/
def inFence (a : Nat) : Bool :=
  (decide (0x20020000 ≤ a) && decide (a < 0x20030000)) || (decide (0x40005600 ≤ a) && decide (a < 0x40005800))
    || (decide (0x40006200 ≤ a) && decide (a < 0x40006400))

/-- Check (and in the applet partition translate) an address: `perm` is the bit of `RGN_VA` needed, 1 `RD`, 2 `WR`,
3 `EX`. The error is the subcause of 20 Table 20-5 (R759 to R766). -/
def mpuCheck (s : State) (applet : Bool) (a : Nat) (perm : Nat) : Except (BitVec 4) Nat :=
  if applet then
    match findRegion s.mpu.ap.toList a with
    | none => .error 1
    | some r =>
      if bitOf r.va perm then
        let p := (a - rgnLo r + fld r.pa 31 8 * 256) % 2 ^ 32
        if inFence p then .ok p else .error 5
      else .error (BitVec.ofNat 4 (perm + 1))
  else if s.mpu.fen then
    match findRegion s.mpu.fw.toList a with
    | none => .error 1
    | some r => if bitOf r.va perm then .ok a else .error (BitVec.ofNat 4 (perm + 1))
  else .ok a

/-! ## Populations and roles (06 Table 6-5; 16 R595; 11 R395) -/

/-- `WELL_CFG.POP`. -/
def popOf (c : CfgRegs) : Nat := fld c.wellCfg 4 0
/-- The used wells. -/
def usedMask (c : CfgRegs) : Wells := BitVec.ofNat 18 (2 ^ popOf c - 1)
/-- The used wells of the CELL role. -/
def cellMask (c : CfgRegs) : Wells := usedMask c &&& ~~~ (BitVec.ofNat 18 (fld c.wellCfg 25 8))
/-- This device is the anchor. -/
def isAnchor (s : State) : Bool := bitOf s.cfg.roleCfg 0
/-- This device is the head. -/
def isHead (s : State) : Bool := s.chn.addr == 1#7
/-- ACTIVE or STANDBY. -/
def awake (s : State) : Bool := s.pw.state == .active || s.pw.state == .standby

/-! ## The seal (17 R648) -/

/-- The safety parameters with their identifiers, in the order of 17 Table 17-1. -/
def sealRegs (c : CfgRegs) : List (Nat × Word) :=
  [(0x42, c.wellCfg), (0x48, c.curCfg), (0x49, c.scCfg), (0x58, c.cmpCfg), (0x59, c.gateCfg), (0x5A, c.gateCfg2),
   (0x68, c.roleCfg), (0x69, c.tenCfg), (0x6A, c.rdnCfg)]

/-- The parameter seal. -/
def sealOf (uid : BitVec 64) (c : CfgRegs) : Word :=
  crc32c (leBytes 8 uid.toNat ++ (sealRegs c).flatMap fun r => leBytes 2 r.1 ++ leBytes 4 r.2.toNat)

/-- Every RW register with its identifier (14 Table 14-4). -/
def rwRegs (c : CfgRegs) : List (Nat × Word) :=
  [(0x10, c.clkCfg), (0x20, c.phCfg), (0x22, c.phCycle), (0x23, c.phStall), (0x24, c.phLead), (0x25, c.phZofs),
   (0x26, c.phZtol), (0x27, c.phHcycle)] ++
  ((List.finRange 16).map fun n => (0x30 + n.val, c.phPoint[n])) ++
  [(0x40, c.acqCfg), (0x41, c.cellRange), (0x42, c.wellCfg), (0x48, c.curCfg), (0x49, c.scCfg), (0x4A, c.ntcCfg),
   (0x50, c.balCfg)] ++
  ((List.finRange 5).map fun n => (0x51 + n.val, c.balRb[n])) ++
  [(0x58, c.cmpCfg), (0x59, c.gateCfg), (0x5A, c.gateCfg2), (0x60, c.linkCfg), (0x68, c.roleCfg), (0x69, c.tenCfg),
   (0x6A, c.rdnCfg), (0x70, c.tmrCfg), (0x71, c.patCfg)]

/-- The items of the configuration record before its area check, in the order of 17 Table 17-2; the spec gives no layout (log
130). -/
def areaBytes (r : CfgRecord) : List Byte :=
  (rwRegs r.regs).flatMap (fun x => leBytes 4 x.2.toNat) ++ leBytes 4 r.sealV.toNat ++
    (match r.confirmed with | none => [0, 0, 0, 0, 0] | some w => leBytes 4 w.toNat ++ [1]) ++ leBytes 4 r.schg.toNat

/-- The area check of a record's items (17 Table 17-2). -/
def areaCrc (r : CfgRecord) : Word := crc32c (areaBytes r)

/-- The configuration area (20 Table 20-1). -/
def inCfgArea (a : Nat) : Bool := decide (0x30010000 ≤ a) && decide (a < 0x30014000)

/-- A record of the configuration area has been written: its bytes are others (log 8). -/
def areaWritten (s : State) : State :=
  { s with store.areaNo := s.store.areaNo + 1, store.written := s.store.written.filter fun c => !inCfgArea c.1 }

/-- Write the configuration record with its area check, atomically (17 R650). -/
def storeRecord (s : State) (r : CfgRecord) : State := areaWritten { s with store.record := { r with crc := areaCrc r } }

/-- The items of the password record before its check: salt, digest, and the lockout's count, duration and run (17 R662; log
130). -/
def pwBytes (p : StoreUnit) : List Byte :=
  p.salt ++ p.digest ++ leBytes 4 p.wrong ++ leBytes 2 p.lockDur ++ [BitVec.ofNat 8 (b2n p.lockRun)]

/-- The password record is written with its check (17 R662). -/
def storePassword (s : State) : State := areaWritten { s with store.pwCrc := crc32c (pwBytes s.store) }

/-- The seal in force. -/
def sealNow (s : State) : Word := sealOf s.store.uid s.cfg

/-- Commissioned: the record holds a valid confirmation equal to the seal in force (17 R652). -/
def commissioned (s : State) : Bool := s.prot.loaded && s.store.record.confirmed == some (sealNow s)

/-! ## The fault line and the fault field (09) -/

/-- Conditions held by hardware (09 Table 9-2). -/
def hwCond (s : State) : Bool :=
  s.prot.ovTrip != 0 || s.prot.uvTrip != 0 || s.prot.ovFault != 0 || s.prot.uvFault != 0 || s.gate.disc || s.sup.brown
    || s.clk.fault || s.pw.state == .shutdown

/-- Conditions held by firmware. -/
def fwCond (s : State) : Bool :=
  s.prot.unclean || s.aux.ot || s.aux.xcFault != 0 || s.bal.stuck != 0 || s.tq.conflict

/-- The device's own conditions hold `FAULT_N` (09 R303). -/
def ownFault (s : State) : Bool := hwCond s || fwCond s

/-- `FAULT_N` is driven low by this device (09 R303, 04 Table 4-3, R110). Held in reset by `TEST` it drives no output (02 R45). -/
def faultLow (s : State) : Bool := s.sup.vstack3 && !(s.rst.held && s.rst.test) && (ownFault s || s.rst.held)

/-- The device's own fault field (09 R310). -/
def ownFlt (s : State) : BitVec 4 :=
  BitVec.ofNat 4 (b2n (s.prot.ovTrip != 0) + 2 * b2n (s.prot.uvTrip != 0) + 4 * b2n s.gate.disc
    + 8 * b2n (s.prot.ovFault != 0 || s.prot.uvFault != 0 || s.sup.brown || s.clk.fault || s.pw.state == .shutdown
        || fwCond s))

/-- The OR of every `FLT` validated in the last 10 ms (11 R411, 12 R470). -/
def heardFlt (s : State) : BitVec 4 :=
  (s.chn.flts.filter fun f => decide (s.now - f.2 ≤ 10 * ctPerMs)).foldl (fun r f => r ||| f.1) 0

/-- The fault field of the anchor's frames and of its checks (11 R411). -/
def anchorFlt (s : State) : BitVec 4 := ownFlt s ||| heardFlt s

/-- What `HOST_FLT.LIVE` holds (12 R470). -/
def liveFlt (s : State) : BitVec 4 := if isHead s then ownFlt s ||| heardFlt s else ownFlt s

/-- Set bits of `HOST_IRQ`. -/
def irqSet (s : State) (m : BitVec 13) : State := { s with host.irq := s.host.irq ||| m }

/-- Bring `HOST_FLT` up to date: a change sets `HOST_IRQ.FLT`, a set bit sets `SEEN` (12 R470, Table 12-3). -/
def updateLive (s : State) : State :=
  let n := liveFlt s
  let s := if n == s.host.live then s else irqSet s 0x100#13
  { s with host.live := n, host.seen := s.host.seen ||| n }

/-- After a change of conditions: a newly set bit of the own fault field starts the timer of 09 R312, and `HOST_FLT`
follows. -/
def noteConditions (s : State) : State :=
  let n := ownFlt s
  let new := n &&& ~~~ s.prot.flt
  let s := { s with prot.flt := n }
  updateLive (if new != 0 && awake s then { s with chn.fltTimer := true } else s)

/-! ## The journal (22) -/

/-- Parts of an entry by type (22 Table 22-2). -/
def jrnParts (type : Byte) : Nat :=
  if type = 0x0A then 3
  else if [0x07, 0x0B, 0x0C, 0x0F, 0x11, 0x12, 0x13, 0x14, 0x47, 0x49, 0x4A, 0x4B, 0x4C].contains type then 2 else 1

/-- The phase epoch of a record (22 R825). -/
def recEpoch (s : State) : Word := if isAnchor s then s.ph.epoch else s.sch.repEpoch

/-- The entry of an event at this moment. -/
def mkEntry (s : State) (inc : Bool) (type : Byte) (data : List Byte) : JEntry where
  inc := inc
  type := type
  parts := jrnParts type
  data := data
  uptime := uptimeUs s
  resets := s.store.resets
  epoch := recEpoch s
  mark := none

/-- Places in the write queue. -/
def jrnCap : Nat := 64

/-- Take the oldest routine entry that may be discarded (never a `SUPPRESSED`) out of a queue. -/
def dropRoutine : List JEntry → Option (JEntry × List JEntry)
  | [] => none
  | e :: t =>
    if !e.inc && e.type != 0x4D then some (e, t)
    else match dropRoutine t with
      | none => none
      | some (d, t') => some (d, e :: t')

/-! ## Frames this device originates (11) -/

/-- `CLK_STAT.ALIGNED` (05 Table 5-3): on the anchor, `PLL_LOCK`. -/
def alignedNow (s : State) : Bool := if isAnchor s then s.clk.pllLock else s.tim.aligned

/-- The crumb message of this moment (11 Table 11-5). -/
def crumbMessage (s : State) : List Byte :=
  let body := leBytes 8 s.store.uid.toNat ++ leBytes 4 s.chn.da.toNat ++ [s.chn.calEp,
      BitVec.ofNat 8 (b2n (alignedNow s) + 2 * b2n (isAnchor s) + 4 * b2n (commissioned s) + 8 * b2n s.chn.ring
        + 16 * b2n s.tim.orphaned)]
    ++ leBytes 4 (recEpoch s).toNat ++ leBytes 4 s.jrn.iNum ++ s.jrn.iChain
  body ++ leBytes 2 (crc16 body).toNat

/-- The unit of a port. -/
def portOf (s : State) (p : Port) : PortUnit := match p with | .south => s.sp | .north => s.np

/-- Change the unit of a port. -/
def setPort (s : State) (p : Port) (u : PortUnit) : State :=
  match p with
  | .south => { s with sp := u }
  | .north => { s with np := u }

/-- The other port. -/
def otherPort : Port → Port
  | .south => .north
  | .north => .south

/-- Number a new frame and give it its crumb bit (11 R427, R430, R431). -/
def originate (s : State) (type : BitVec 4) (dst : BitVec 7) (payload : List Byte) : State × Frame :=
  let msg := if s.chn.lseq = 0 then crumbMessage s else s.chn.crumb
  let n := s.chn.lseq.toNat
  let f : Frame := { type := type, flt := 0, dst := dst, crumb := (msg.getD (n / 8) 0).getLsbD (n % 8), src := s.chn.addr,
                     lseq := s.chn.lseq, rtx := false, cv := false, payload := payload }
  ({ s with chn.crumb := msg, chn.lseq := s.chn.lseq + 1 }, f)

/-- Put a frame behind the frames that wait at a port. -/
def enqueueTx (s : State) (p : Port) (f : Frame) : State :=
  let u := portOf s p
  setPort s p { u with txq := u.txq ++ [f] }

/-- Originate a frame and queue it at a port. -/
def sendFrame (s : State) (p : Port) (type : BitVec 4) (dst : BitVec 7) (payload : List Byte) : State :=
  let (s, f) := originate s type dst payload
  enqueueTx s p f

/-- Originate a VERB or REPLY that waits for an ACK (11 R426). -/
def sendAcked (s : State) (p : Port) (type : BitVec 4) (dst : BitVec 7) (payload : List Byte) (pair : Option (Fin 4)) :
    State :=
  let (s, f) := originate s type dst payload
  let s := enqueueTx s p f
  { s with chn.unacked := s.chn.unacked ++ [{ frame := f, port := p, tries := 0, pair := pair }] }

/-! ## Replies (13, 15) -/

/-- Header and payload of a reply (13 Table 13-1, R474). -/
def replyBody (s : State) (verb : BitVec 16) (m : Msg) (err env : Bool) (payload : List Byte) : List Byte :=
  leBytes 2 verb.toNat ++ leBytes 2 m.tag.toNat ++ leBytes 2 payload.length ++
    [s.chn.addr.setWidth 8, BitVec.ofNat 8 (1 + 4 * b2n err + 8 * b2n env), BitVec.ofNat 8 m.mbx.val, 0, 0, 0] ++ payload

/-- A message with its trailer. -/
def withTrailer (body : List Byte) : List Byte := body ++ leBytes 4 (crc32 body).toNat

/-- Store a reply in the history entry of its message (13 R494). -/
def histReply : List HistEntry → BitVec 16 → BitVec 16 → List Byte → List HistEntry
  | [], _, _, _ => []
  | e :: t, tag, verb, r =>
    if e.tag = tag ∧ e.verb = verb then { e with reply := some r } :: t else e :: histReply t tag verb r

/-- A duplicate waits for the reply of this message (13 R479, R497; log 26). -/
def isDup (verb : BitVec 16) (m : Msg) (d : DupWait) : Bool := d.pair == m.mbx && d.tag == m.tag && d.verb == verb

/-- The cached reply with `DUP` (13 R497). -/
def dupReply (b : List Byte) : List Byte := withTrailer (b.set 7 (b.getD 7 0 ||| 2#8))

/-- Store a reply frame beside the VERB frame it answers (11 R428). -/
def storeSeen : List (BitVec 7 × Byte × Option Frame) → BitVec 7 → Byte → Frame → List (BitVec 7 × Byte × Option Frame)
  | [], _, _, _ => []
  | (src, l, r) :: t, a, n, f =>
    if src = a ∧ l = n then (src, l, some f) :: t else (src, l, r) :: storeSeen t a n f

/-- Place a complete reply message in `MB_OUTi` (13 R479). -/
def placeOut (s : State) (i : Fin 4) (bytes : List Byte) : State :=
  let p := s.mbx.pairs[i]
  irqSet { s with mbx.pairs := s.mbx.pairs.set i { p with outb := bytes, full := true, flight := false } }
    (1#13 <<< i.val)

/-- Deliver a reply: to the host port's pair, or as a REPLY frame out of the port its VERB arrived on. A broadcast VERB
frame gets none (11 R385). -/
def deliver (s : State) (m : Msg) (bytes : List Byte) : State :=
  let s := { s with mbx.lastReply := bytes }
  match m.src with
  | none => placeOut s m.mbx bytes
  | some src =>
    if m.bcast then s
    else
      let f := (originate s 2#4 src bytes).2
      let s := sendAcked s m.port 2#4 src bytes none
      { s with chn.seenV := storeSeen s.chn.seenV src m.lseq f }

/-- Reply to a message (13 R474, R479), keep the reply in its history, and answer the duplicates that wait for it. -/
def reply (s : State) (verb : BitVec 16) (m : Msg) (err env : Bool) (payload : List Byte) : State :=
  let body := replyBody s verb m err env payload
  let dups := s.mbx.dups.filter (isDup verb m)
  let s := { s with mbx.hist := s.mbx.hist.set m.mbx (histReply s.mbx.hist[m.mbx] m.tag verb body),
                    mbx.dups := s.mbx.dups.filter fun d => !isDup verb m d }
  dups.foldl (fun s d => deliver s d.msg (dupReply body)) (deliver s m (withTrailer body))

/-- A normal reply without envelope. -/
def replyOk (s : State) (verb : BitVec 16) (m : Msg) (payload : List Byte) : State := reply s verb m false false payload

/-- An error reply (13 R484). -/
def replyErr (s : State) (verb : BitVec 16) (m : Msg) (code detail : Nat) : State :=
  reply s verb m true false (leBytes 2 code ++ leBytes 2 detail)

/-- `SCHK` of an envelope's bytes before it (15 R563). -/
def schk (s : State) (connid : Word) (verb : BitVec 16) (bytes : List Byte) : Word :=
  crc32c (leBytes 4 connid.toNat ++ leBytes 8 s.store.uid.toNat ++ leBytes 2 verb.toNat ++ bytes)

/-- A reply in an envelope (15 R579), or a plain one for a message that came in none. -/
def replyEnv (s : State) (w : Waiting) (data : List Byte) : State :=
  match w.env with
  | none => replyOk s w.verb w.msg data
  | some (sseq, connid) =>
    let e := leBytes 2 sseq.toNat ++ [BitVec.ofNat 8 data.length, 1] ++ data
    reply s w.verb w.msg false true (e ++ leBytes 4 (schk s connid w.verb e).toNat)

/-! ## The journal's queue -/

/-- Count a discard; a discarded `JRN_MARK` entry refuses its verb (22 R831, R908). -/
def noteDiscard (s : State) (e : JEntry) : State :=
  let s := { s with jrn.discards := s.jrn.discards + 1 }
  match e.mark with
  | none => s
  | some w => replyErr s w.verb w.msg 8 0x10

/-- Queue an entry (22 R831). -/
def jrnQueue (s : State) (e : JEntry) : State :=
  if s.jrn.queue.length < jrnCap then { s with jrn.queue := s.jrn.queue ++ [e] }
  else
    match dropRoutine s.jrn.queue with
    | some (d, q) => noteDiscard { s with jrn.queue := q ++ [e] } d
    | none => if e.inc then { s with jrn.queue := s.jrn.queue ++ [e] } else noteDiscard s e

/-- Queue the entry of an event. -/
def jrnPut (s : State) (inc : Bool) (type : Byte) (data : List Byte) : State := jrnQueue s (mkEntry s inc type data)

/-- When discards are due to be told and the queue has a place, queue one `SUPPRESSED` (22 R831). -/
def jrnSuppressed (s : State) : State :=
  if s.jrn.discards ≠ 0 ∧ s.jrn.queue.length < jrnCap then
    let e := mkEntry s false 0x4D (leBytes 2 (min s.jrn.discards 65535))
    { s with jrn.queue := s.jrn.queue ++ [e], jrn.discards := 0 }
  else s

/-- Base of an area. -/
def jrnBase (inc : Bool) : Nat := if inc then 0x3000C000 else 0x30000000
/-- Slots of an area. -/
def jrnSlots (inc : Bool) : Nat := if inc then 512 else 1536
/-- Address of record `n` (22 R820). -/
def jrnAddr (inc : Bool) (n : Nat) : Nat := jrnBase inc + 32 * ((n - 1) % jrnSlots inc)

/-- Free slots of the incident area. -/
def incFree (s : State) : Nat := 512 - (s.jrn.iNum + 1 - s.jrn.iOld)

/-- Bytes 0 to 23 of part `p` of an entry as record `n` of an area (22 Table 22-1). -/
def recBytes (e : JEntry) (inc ovf : Bool) (n p : Nat) : List Byte :=
  let b5 := p + 4 * b2n (decide (p + 1 < e.parts)) + 8 * b2n inc + 16 * b2n ovf + 32 * b2n (n == 1)
  let body := if p = 0 then leBytes 6 e.uptime ++ leBytes 4 e.resets.toNat ++ leBytes 4 e.epoch.toNat ++ padTo 4 e.data
    else padTo 18 ((e.data.drop (4 + 18 * (p - 1))).take 18)
  leBytes 4 n ++ [e.type, BitVec.ofNat 8 b5] ++ body

/-- The record numbers and chain values of an area's head. -/
def jrnHead (s : State) (inc : Bool) : Nat × List Byte :=
  if inc then (s.jrn.iNum, s.jrn.iChain) else (s.jrn.rNum, s.jrn.rChain)

/-- Write parts `p` onward of an entry, `k` of them, behind an area's head (22 R829). -/
def writeParts : Nat → State → JEntry → Bool → Bool → Nat → State
  | 0, s, _, _, _, _ => s
  | k + 1, s, e, inc, ovf, p =>
    let (num, chain) := jrnHead s inc
    let n := num + 1
    let r := recBytes e inc ovf n p
    let c := (sha256 (chain ++ r)).take 8
    let s := { s with mem := memPuts s.mem (jrnAddr inc n) (r ++ c) }
    let s := if inc then { s with jrn.iNum := n, jrn.iChain := c } else { s with jrn.rNum := n, jrn.rChain := c }
    writeParts k s e inc ovf (p + 1)

/-- Write one entry: an incident entry that does not fit goes to the routine ring with `OVF` (22 R836). -/
def jrnCommit (s : State) (e : JEntry) : State :=
  let fits := decide (e.parts ≤ incFree s)
  let inc := e.inc && fits
  let s := writeParts e.parts s e inc (e.inc && !fits) 0
  if e.inc && !fits && !s.jrn.refused then
    jrnPut { s with jrn.refused := true } false 0x4E (leBytes 2 (incFree s))
  else if inc && decide (incFree s < 64) && !s.jrn.low then
    jrnPut { s with jrn.low := true } false 0x4E (leBytes 2 (incFree s))
  else s

/-- The next entry to write: the oldest waiting incident entry, else the oldest routine entry (22 R830). -/
def jrnNext (q : List JEntry) : Option JEntry :=
  match q.find? (·.inc) with
  | some e => some e
  | none => q.head?

/-- A queue without its first entry that has the given area. -/
def eraseFirst (inc : Bool) : List JEntry → List JEntry
  | [] => []
  | e :: t => if e.inc = inc then t else e :: eraseFirst inc t

/-- The next entry is a `DISCFAULT` whose 10 µs are not over: its list of causes is still open (09 R330). -/
def causesOpen (s : State) : Bool :=
  match jrnNext s.jrn.queue with
  | some e => e.type == 0x07 && s.gate.disc && decide (s.now - s.gate.discAt ≤ usCt 10)
  | none => false

/-- Write one waiting entry; a `JRN_MARK` is answered with the number of its first record (22 R830, R908). -/
def jrnWriteOne (s : State) : State :=
  match jrnNext s.jrn.queue with
  | none => s
  | some e =>
    let s := { s with jrn.queue := eraseFirst e.inc s.jrn.queue }
    let n := s.jrn.rNum + 1
    let s := jrnCommit s e
    let s := match e.mark with
      | none => s
      | some w => replyOk s w.verb w.msg (leBytes 4 n)
    jrnSuppressed s

/-- Write `n` waiting entries. -/
def jrnFlush : Nat → State → State
  | 0, s => s
  | n + 1, s => jrnFlush n (jrnWriteOne s)

/-- Write the waiting incident entries, `n` at most, up to one whose causes are still open (09 R330). -/
def jrnFlushClosed : Nat → State → State
  | 0, s => s
  | n + 1, s => if causesOpen s || !s.jrn.queue.any (·.inc) then s else jrnFlushClosed n (jrnWriteOne s)

/-- Write every waiting entry, with those that the writing itself queues (22 R831, R836); `n` bounds them. -/
def jrnDrain : Nat → State → State
  | 0, s => s
  | n + 1, s => if s.jrn.queue.isEmpty then s else jrnDrain n (jrnWriteOne s)

/-- A `DISCFAULT` entry whose causes are still open waits (09 R330). -/
def discOpen (s : State) : Bool :=
  s.gate.disc && decide (s.now - s.gate.discAt ≤ usCt 10) && s.jrn.queue.any fun e => e.type == 0x07

/-- Write every waiting incident entry. -/
def jrnFlushInc (s : State) : State := jrnFlush (s.jrn.queue.filter (·.inc)).length s

/-! ## Free values and interrupt levels -/

/-- The next free value (log 6). -/
def takeFree (s : State) : Word × State := (Config.freeWord s.freeCtr, { s with freeCtr := s.freeCtr + 1 })

/-- Raise interrupt source `v`, 16 to 63 (18 Table 18-6). -/
def irqRaise (s : State) (v : Nat) : State := { s with core.ipend := s.core.ipend ||| (1#48 <<< (v - 16)) }

/-! ## Chain time -/

/-- The chain-time counter in mp (05 R146). -/
def chainMp (s : State) : Word := BitVec.ofNat 32 (s.tim.cnt / 24)

/-- ct from now to an instant in mp, negative when past: only an instant MORE than 2^31 mp ahead is past (05 R146). -/
def ctAhead (s : State) (inst : Word) : Int :=
  let d := (inst - chainMp s).toNat
  (if d ≤ 2 ^ 31 then (d : Int) else (d : Int) - 2 ^ 32) * 24 - (s.tim.cnt % 24 : Nat)

/-! ## Spans (06) -/

/-- Modulator samples of a window (06 Table 6-1). -/
def winMp (w : BitVec 2) : Nat := if w = 0 then 256 else if w = 1 then 2048 else if w = 2 then 8192 else 32768

/-- The window in ct (06 Table 6-1). -/
def winCt (w : BitVec 2) : Nat := 24 * winMp w

/-- ct from a strobe to the end of its span: the boxcar and 23 mp (06 R173). -/
def spanCt (w : BitVec 2) : Nat := (winMp w + 23) * 24

/-- ct by which a span begins before its strobe: 23 mp (06 R173). -/
def spanLead : Nat := 552

/-- The span has not ended. -/
def spanOpen (s : State) (sp : Span) : Bool := decide (s.now < sp.start + spanCt sp.win)

/-- No span is open. -/
def noSpan (s : State) : Bool := s.acq.spans.all fun sp => !spanOpen s sp

/-- Note a moment for the wells of a set. -/
def noteAt (m : Wells) (t : Nat) (v : Vector Nat 18) : Vector Nat 18 := Vector.ofFn fun i => if hasW m i then t else v[i]

/-- Open the balancing switches of a set of wells (08 R272). -/
def openWells (s : State) (m : Wells) : State :=
  { s with bal.closed := s.bal.closed &&& ~~~ m, bal.lastOn := noteAt (s.bal.closed &&& m) s.now s.bal.lastOn }

/-- Open every balancing switch (08 R268, 06 R198). -/
def openSwitches (s : State) : State := if s.bal.closed = 0 then s else openWells s (BitVec.allOnes 18)

/-- A running switch test ends without a result: its switches open, and its wells wait for a test again (08 R274). -/
def dropTest (s : State) : State :=
  { s with bal.due := s.bal.due ||| s.bal.testRun, bal.testRun := 0, bal.testOn := 0, bal.testWait := false,
           bal.lastOn := noteAt s.bal.testOn s.now s.bal.lastOn }

/-- `QUIET` has passed since the last switch opened (08 R268). -/
def quietOk (s : State) : Bool :=
  s.bal.closed == 0 && s.bal.testOn == 0 &&
    s.bal.lastOn.toList.all fun t => t == 0 || decide (t + usUp (8 * fld s.cfg.balCfg 15 8) ≤ s.now)

/-- The wells whose switch was closed at some moment of a span that begins 23 mp before now. An opening takes up to 5 µs (08
R272; 06 R199 and its corner; log 116). -/
def balAtStrobe (s : State) : Wells :=
  (wellList (BitVec.allOnes 18)).foldl (fun m w =>
    putW m w (hasW (s.bal.closed ||| s.bal.testOn) w
      || (s.bal.lastOn[w] != 0 && decide (s.now < s.bal.lastOn[w] + usUp 5 + spanLead)))) 0

/-- The wells of which a comparator was tripped at some moment of a span that begins 23 mp before now. -/
def tripAtStrobe (s : State) : Wells :=
  (wellList (BitVec.allOnes 18)).foldl (fun m w =>
    putW m w (hasW (s.prot.ovTrip ||| s.prot.uvTrip) w
      || (s.prot.relAt[w] != 0 && decide (s.now < s.prot.relAt[w] + spanLead)))) 0

/-- Channels whose word must carry `STALE` by a mask of wells and the current channel. -/
def staleOf (wells : Wells) (cur : Bool) : BitVec 19 := (wells.setWidth 19 <<< 1) ||| (if cur then 1#19 else 0#19)

/-- The wells whose range still settles (06 R188); a span begins 23 mp before its strobe (R173). -/
def settlingWells (s : State) : Wells :=
  (wellList (BitVec.allOnes 18)).foldl (fun m w => putW m w (decide (s.now < s.acq.settle[w] + spanLead))) 0

/-- The window a strobe at this moment uses: the newest write that is at least 10 µs old (06 R175). -/
def takeWin (s : State) : State :=
  let old (x : BitVec 2 × Nat) : Bool := decide (x.2 + usUp 10 ≤ s.now)
  match (s.acq.winNext.filter old).getLast? with
  | none => s
  | some (w, _) => { s with acq.win := w, acq.winNext := s.acq.winNext.filter fun x => !old x }

/-- The sinks of an open-wire check are on, or recovery runs (06 R201, R204). -/
def owDisturbs (s : State) : Bool := s.acq.ow == .check && (s.acq.owStep == .sinks || s.acq.owStep == .recovery)

/-- XC1 and XC2 measure; a run of its own has waited for the quiet time before (08 R268). -/
def xcDisturbs (s : State) : Bool := s.acq.ow == .xc && s.acq.owStep != .quiet

/-- Channels that the check, or XC1 and XC2, disturb in a span that begins 23 mp before now (06 R204, R207; 07 R245). -/
def disturbed (s : State) : BitVec 19 :=
  (if owDisturbs s then staleOf (usedMask s.cfg) false else if xcDisturbs s then staleOf (usedMask s.cfg) true else 0) |||
    (if s.now < s.acq.distAt + spanLead then s.acq.dist else 0)

/-- A disturbance ends now. -/
def noteDist (s : State) (m : BitVec 19) : State := { s with acq.dist := m, acq.distAt := s.now }

/-- The open-wire check and the XC1 and XC2 behind it end, completed or not. -/
def owEnd (s : State) : State :=
  let s := if owDisturbs s then noteDist s (staleOf (usedMask s.cfg) false)
    else if xcDisturbs s then noteDist s (staleOf (usedMask s.cfg) true) else s
  { s with acq.ow := .idle, acq.owForced := false, acq.owBoot := false }

/-- A strobe opens a span (06 R173, R176, R177, R188, R199, R204, R207; 07 R212). An unfinished switch test is dropped (log 115). -/
def openSpan (s : State) (source : BitVec 2) (seq : BitVec 16) (point : BitVec 4) (hold unsched : Bool) (inst : Word) :
    State :=
  let s := takeWin s
  let full := decide (2 ≤ (s.acq.spans.filter fun sp => sp.acc && spanOpen s sp).length)
  let sp : Span :=
    { seq := seq, point := point, source := source, win := s.acq.win, hold := hold, unsched := unsched, instant := inst,
      start := s.now,
      stale := (if full then BitVec.allOnes 19 else 0) ||| staleOf (settlingWells s) false ||| disturbed s,
      bal := balAtStrobe s, trip := tripAtStrobe s, range := BitVec.ofNat 18 s.cfg.cellRange.toNat,
      scTrip := match s.acq.scAt with | some t => decide (s.now < t + spanLead) | none => false, acc := !full }
  let s := dropTest (openSwitches s)
  { s with acq.spans := s.acq.spans ++ [sp] }

/-- Change every open span. -/
def mapOpen (s : State) (f : Span → Span) : State :=
  { s with acq.spans := s.acq.spans.map fun sp => if spanOpen s sp then f sp else sp }

/-- Mark `STALE` on every open span. -/
def markSpans (s : State) (m : BitVec 19) : State := mapOpen s fun sp => { sp with stale := sp.stale ||| m }

/-- A tick is pending on this device. -/
def tickPending (s : State) : Bool := !s.sch.ticks.isEmpty

/-- A tick is announced: switches open, and an open-wire check, XC1 and XC2 or a switch test that no rule forces is aborted
(06 R198, R206; 07 R244; 08 R274). -/
def blankForTick (s : State) : State :=
  let s := openSwitches s
  dropTest (if s.acq.owForced then s else owEnd s)

/-! ## Torque (16) -/

/-- The code of `RDSTATE` (16 Table 16-4). -/
def rdCode (r : RdState) : Nat :=
  match r with | .off => 1 | .enabled => 2 | .decide => 3 | .rundown => 4 | .stopped => 5 | .removed => 6

/-- `RDSTATE` as reported: 0 on a device that is not the anchor (16 R595). -/
def rdState (s : State) : Nat := if isAnchor s then rdCode s.tq.rd else 0

/-- Torque is enabled, or a run-down runs. -/
def torqueOn (s : State) : Bool := s.tq.rd == .enabled || s.tq.rd == .decide || s.tq.rd == .rundown

/-- Answer the `SAFE_RDN` messages that wait: those that found DECIDE get 4, the others `outcome` (16 R641). -/
def rdnAnswers : List (Waiting × Bool) → Nat → State → State
  | [], _, s => s
  | (w, found) :: t, o, s => rdnAnswers t o (replyEnv s w [BitVec.ofNat 8 (if found then 4 else o), 0, 0, 0])

/-- Drive both outputs low, stop the pulses, leave for `dest` and journal the cause (16 R638, R640, R641). -/
def tqRemove (s : State) (cause : Nat) (dest : RdState) : State :=
  let before := s.tq.rd
  let waits := s.tq.rdnWaits
  let s := { s with tq.ten := false, tq.pulseA := false, tq.pulseB := false, tq.smTimer := false, tq.rd := dest,
                    tq.rdnWaits := [], tq.tfbHigh := if torqueOn s then some s.now else s.tq.tfbHigh }
  let s := jrnPut s true 0x0D [BitVec.ofNat 8 cause, BitVec.ofNat 8 (rdCode before)]
  rdnAnswers waits (if cause = 6 then 2 else 3) s

/-- End an enabling in progress (16 R605): `SAFE_TEN` is answered with `STATE` 0x0015 after a read-back fault and 0x0019
after any other cause. -/
def endEnabling (s : State) (cause : Nat) : State :=
  let waits := s.tq.enabling
  let s := { s with tq.enabling := [], tq.rdnLow := false, tq.tenFault := s.tq.tenFault || cause == 12 }
  let s := tqRemove s cause .removed
  waits.foldl (fun s w => replyErr s w.verb w.msg 8 (if cause = 12 then 0x15 else 0x19)) s

/-- A cause whose course is "immediate" (16 R605, R612). -/
def tqImmediate (s : State) (cause : Nat) : State :=
  if !isAnchor s then s
  else if !s.tq.enabling.isEmpty then endEnabling s cause
  else if torqueOn s then tqRemove s cause .removed
  else s

/-- A cause whose course is "decision" (16 R605, R611, R614). -/
def tqDecision (s : State) (cause : Nat) : State :=
  if !isAnchor s then s
  else if !s.tq.enabling.isEmpty then endEnabling s cause
  else if s.tq.rd == .enabled then { s with tq.rd := .decide, tq.smTimer := true, tq.decideAt := s.now }
  else s

/-! ## The gate (09) -/

/-- The code of `GSTATE` (09 Table 9-5). -/
def gateCode (g : GState) : Nat :=
  match g with | .off => 0 | .test => 1 | .ramp => 2 | .on => 3 | .turnoff => 4 | .fault => 5

/-- A waiting `GATE_ON` or `GATE_OFF` can be answered in this state (14 R537, R538). -/
def gateSettled (verb : BitVec 16) (g : GState) : Bool :=
  g == .off || g == .fault || (g == .on && verb == 0x0501#16)

/-- The reply of `GATE_ON` and `GATE_OFF` (14 Table 14-7). -/
def gateReply (s : State) : List Byte :=
  [BitVec.ofNat 8 (gateCode s.gate.state), if s.gate.state == .fault then s.gate.cause.setWidth 8 else 0, 0, 0]

/-- Answer every waiting gate verb that this state settles. -/
def gateAnswers : List Waiting → State → State
  | [], s => s
  | w :: t, s =>
    if gateSettled w.verb s.gate.state then gateAnswers t (replyOk s w.verb w.msg (gateReply s))
    else gateAnswers t { s with gate.waits := s.gate.waits ++ [w] }

/-- After a change of gate state: the waiting verbs. -/
def gateNotify (s : State) : State := gateAnswers s.gate.waits { s with gate.waits := [] }

/-- Turn the gate off (09 R325, R326): two stages from RAMP and ON; TEST just ends; otherwise nothing. The charge pump stops as the
turn-off from RAMP or ON begins: the spec gives its stop for TEST only (log 132). -/
def gateTurnOff (s : State) : State :=
  match s.gate.state with
  | .test => gateNotify { s with gate.state := .off, gate.cp := false, gate.testOk := false }
  | .ramp => { s with gate.state := .turnoff, gate.fromOn := false, gate.stage2 := false, gate.cp := false, gate.hold := false }
  | .on => { s with gate.state := .turnoff, gate.fromOn := true, gate.stage2 := false, gate.cp := false, gate.hold := false }
  | _ => s

/-- The current code of a `DISCFAULT` record: word 0 of the latest kept snapshot, and 0 where there is none since reset. 09 R328 does
not say which result it is (log 132). -/
def lastWord0 (s : State) : Word :=
  match s.acq.kept with
  | [] => 0
  | k :: _ => k.words.getD 0 0

/-- The data of a `DISCFAULT` entry (22 Table 22-2). Where the cause is no VDS comparison, its VDS is that of the last checkpoint or
sample: 09 R328 does not say which it is (log 132). -/
def discData (s : State) : List Byte :=
  [s.gate.cause.setWidth 8, 0] ++ leBytes 2 s.gate.causes.toNat ++ leBytes 4 (codeOf 32 s.gate.vds) ++
    leBytes 4 (lastWord0 s).toNat

/-- Rewrite the newest `DISCFAULT` entry of a queue that stands newest first, with the causes seen since (09 R330). -/
def discPatch (s : State) : List JEntry → List JEntry
  | [] => []
  | e :: t => if e.type = 0x07 then { e with data := (discData s).take 4 ++ e.data.drop 4 } :: t
    else e :: discPatch s t

/-- Latch `DISCONNECT_FAULT` and store the latch with its instant (09 R328, R332). -/
def latchDisc (s : State) (c : BitVec 4) : State :=
  { s with gate.disc := true, gate.cause := c, gate.causes := 1#16 <<< (c.toNat - 1), gate.discAt := s.now,
           store.disc := some c, store.discAt := s.now }

/-- A gate fault (09 R328 to R330, R905): turn off, latch, record. A later cause within 10 µs joins the list; of causes
that arise together `CAUSE` takes the lowest. On the anchor the latch removes torque (16 Table 16-7 cause 10). -/
def discLatch (s : State) (c : BitVec 4) : State :=
  let bit : BitVec 16 := 1#16 <<< (c.toNat - 1)
  if s.gate.disc then
    if s.now - s.gate.discAt ≤ usCt 10 then
      let s := { s with gate.causes := s.gate.causes ||| bit,
                        gate.cause := if s.now = s.gate.discAt ∧ c.toNat < s.gate.cause.toNat then c else s.gate.cause }
      let s := { s with store.disc := some s.gate.cause }
      { s with jrn.queue := (discPatch s s.jrn.queue.reverse).reverse }
    else s
  else
    let s := jrnPut (irqRaise (latchDisc s c) 19) true 0x07 (discData s)
    let s := match s.gate.state with
      | .test => gateNotify { s with gate.state := .fault, gate.cp := false, gate.testOk := false }
      | _ => gateTurnOff s
    noteConditions (tqImmediate s 10)

/-- An accepted write of the configuration record aborts a channel-1 scan in progress (21 R805, R812). -/
def abortCfgScan (s : State) : State :=
  if s.ce.ch[1].state = .busy then { s with ce.ch := s.ce.ch.set 1 { s.ce.ch[1] with abort := true } } else s

/-! ## The applet's intervals and its wait (20 R791, R792; 18 Table 18-10) -/

/-- A budget interval of the applet ends, and the next one's budget is set (20 R791, R792). -/
def endInterval (s : State) : State :=
  if s.apl.state = .running then
    let l := (s.now - s.apl.ivAt) * 125 / 24576
    { s with apl.budget := min s.apl.abud (l / 4), apl.charge := 0, apl.ivAt := s.now }
  else s

/-- A released snapshot ends the budget interval, and an `SVC_WAIT` with status 0. -/
def svcReleased (s : State) : State :=
  let s := endInterval s
  if s.apl.suspended then
    { s with apl.suspended := false, apl.svcPend := false, core.g := s.core.g.set 1 0 }
  else s

/-! ## Wake causes and host activity (23) -/

/-- Host activity restarts both communication-loss timers (23 R850, R851). -/
def hostActivity (s : State) : State := { s with pw.lossAt := s.now, pw.balGone := false, pw.sleepGone := false }

/-- Latch bits of `WAKE_CAUSE`; bits 2 to 9 assert `HWAKE_N` when they pass from 0 to 1 (23 R862, R867; 12 R463). -/
def latchWake (s : State) (m : Word) : State :=
  let new := m &&& ~~~ s.pw.wake &&& 0x3FC#32
  let s := { s with pw.wake := s.pw.wake ||| m }
  if new = 0 then s
  else irqSet { s with host.hwake := true, host.hwakeAt := if s.host.hwake then s.host.hwakeAt else s.now } 0x800#13

/-- A wake cause: latched, and in a lower state, or once one is decided, it wakes the device (23 R848, R862). -/
def wakeFor (s : State) (m : Word) : State :=
  let s := latchWake s m
  if awake s && s.pw.decided.isNone then s else { s with pw.wakeDue := true }

/-- Own alarm bursts are due: at most 8 on the south port, and on the north port with `ALMN` (23 R866; 10 R369, R370). -/
def startAlarm (s : State) : State :=
  let s := { s with sp.alarm := 8, sp.alarmOn := true }
  if bitOf s.cfg.linkCfg 6 then { s with np.alarm := 8, np.alarmOn := true } else s

/-- Whether the device is in a lower state that `p` names, or has decided to enter it (23 R848). -/
def lowOrDecided (s : State) (p : PState → Bool) : Bool := p s.pw.state || s.pw.decided.any p

/-- A wake cause that sends own alarm bursts. One between decision and entry acts as though it had arisen in the lower state, so
its bursts wait for the entry (23 R848, R866). -/
def wakeAlarm (s : State) (m : Word) : State :=
  let s := wakeFor s m
  if awake s then { s with pw.alarmDue := true } else startAlarm s

/-! ## Resets and the full stop (24, 18) -/

/-- What of the memory outlives a full reset: the persistent store (24 Table 24-2). -/
def keepStore : Memory → Memory
  | [] => []
  | (k, v) :: t => if inStore k then (k, v) :: keepStore t else keepStore t

/-- The gate at a full reset: a turn-off from RAMP or ON runs through its two stages, in every other state it is clamped; no
fault is latched (04 R113; 09 text under R327). -/
def resetGate (g : GateUnit) : GateUnit :=
  if g.state = .ramp ∨ g.state = .on then { GateUnit.reset with state := .turnoff, fromOn := decide (g.state = .on) }
  else if g.state = .turnoff then { GateUnit.reset with state := .turnoff, fromOn := g.fromOn, stage2 := g.stage2 }
  else GateUnit.reset

/-- The state a full reset from source `code` leaves (24 R871 to R878): everything at its reset value, held in reset, but
for what Table 24-2 keeps. -/
def resetState (s : State) (code : BitVec 4) : State :=
  { State.reset with
    now := s.now
    freeCtr := s.freeCtr
    sup := s.sup
    gate := resetGate s.gate
    rst := { RstUnit.reset with held := true, latch := code, resetN := s.rst.resetN, wdRun := false }
    store := s.store
    mem := keepStore s.mem
    ecc := s.ecc
    jrn := { JrnUnit.reset with rNum := s.jrn.rNum, rChain := s.jrn.rChain, iNum := s.jrn.iNum, iChain := s.jrn.iChain,
                                iOld := s.jrn.iOld, low := s.jrn.low, refused := s.jrn.refused }
    pw := { PwUnit.reset with wake := if code = 11 then s.pw.wake else 0
                              wakeBurst := decide (code = 11) && s.pw.wakeBurst }
    pending := s.pending }

/-- A full reset. A source that arises while the reset is held is not recorded (24 R874). -/
def fullReset (s : State) (code : BitVec 4) : State := if s.rst.held then s else resetState s code

/-- Reset is released and its work is done: the device runs. -/
def running (s : State) : Bool := !s.rst.held && !s.rst.startDue

/-- It runs, in ACTIVE or STANDBY. -/
def active (s : State) : Bool := running s && awake s

/-- The core runs the firmware: awake, no clock fault has stopped it (05 R140; log 110), and no full stop runs (18 R701). -/
def fwOn (s : State) : Bool := active s && !s.clk.coreDead && !s.core.fstop

/-- A handler of entries 16 to 62 runs: work of level 1 (20 Table 20-18). -/
def handlerRuns (s : State) : Bool := decide (16 ≤ fld s.core.sw 14 8) && decide (fld s.core.sw 14 8 < 63)

/-- The firmware is free for work of level 2: verbs, journal writes and background scans (20 R790). -/
def fwRuns (s : State) : Bool := fwOn s && !handlerRuns s

/-- Little-endian bytes of words. -/
def wordsLe (l : List Word) : List Byte := l.flatMap fun w => leBytes 4 w.toNat

/-- The four words of the exception frame (18 Table 18-7) for an event that is not an exception of its own. -/
def evFrame (s : State) (cause faddr : Word) : List Word := [s.core.pc, s.core.sw, cause, faddr]

/-- The firmware g15. -/
def fwSp (s : State) : Word := s.core.g[15]

/-- The entry to the full stop (18 R700 to R703): the escalation frame at `ESP` − 32, `SW`, the pc, and the timer; a fault while the
frame is pushed is a full reset from source 9 (R702). The firmware's steps follow (`fstopSteps`). -/
def fullStop (s : State) (reason : Nat) (code : Word) (ev : List Word) : State :=
  let base := (s.core.esp - 32#32).toNat
  let frame := wordsLe (ev ++ [fwSp s, BitVec.ofNat 32 reason, code, 0])
  match mpuCheck s false base 2, mpuCheck s false (base + 31) 2 with
  | .ok _, .ok _ =>
    if inSram base && inSram (base + 31) then
      { s with mem := memPuts s.mem base frame, core.sw := 0x30, core.pc := 0x100, core.fstop := true, core.waiting := false,
               core.owed := none, rst.fstopTimer := true }
    else fullReset s 9
  | _, _ => fullReset s 9

/-- What FW 4.2 does in the full stop: the request to the safety monitor, the incident record of the escalation frame, the count,
and the full reset (18 R704; log 32). -/
def fstopSteps (s : State) : State :=
  let frame := memGets s.mem (s.core.esp - 32#32).toNat 32
  let s := { s with tq.ten := false, tq.pulseA := false, tq.pulseB := false,
                    tq.rd := if torqueOn s then .removed else s.tq.rd }
  let n := min s.jrn.queue.length 64
  let s := jrnCommit { s with jrn.queue := [] } (mkEntry s true 0x0A (frame ++ [BitVec.ofNat 8 n]))
  fullReset { s with store.fstops := s.store.fstops + 1 } 8

/-- FW 4.2 issues `FSTOP` with a code in g1 (24 R886, R887). -/
def fwStop (s : State) (code : Word) : State :=
  let s := { s with core.g := s.core.g.set 1 code }
  fullStop s 3 code (evFrame s 0 0)

end Sys2Proof.Machine
end

