-- ==== Sys2Proof/Machine/Power.lean ====
section
/-! DEFINITION. Power, reset and the first moments (04, 24). -/

namespace Sys2Proof.Machine

open Sys2Proof

/-- `VSTACK` rises through the power-on reset release (04 Table 4-1, 24 Table 24-1 source 1, R876). -/
def execPowerOnReset (s : State) : Host.Outcome State Fault Refusal :=
  .next (resetState { s with sup.por := true, sup.vstack3 := true, sup.brown := false } 1)

/-- `VSTACK` passes 3.0 V: above it `FAULT_N` is driven, below it it is not (04 R110). Below it the device is unpowered, so
it stands in reset. -/
def execVstackFaultDriveThreshold (rising : Bool) (s : State) : Host.Outcome State Fault Refusal :=
  if rising then .next { s with sup.vstack3 := true }
  else
    let s := fullReset s 1
    .next { s with sup.vstack3 := false, sup.por := false }

/-- The data of a `POWERFAIL` entry: orders 1, 2, 4 and 5 of 04 Table 4-4, and 3 on the anchor. -/
def powerFailBits (s : State) : Byte := if isAnchor s then 0x1F else 0x1B

/-- Brown-out: the power-fail actions of 04 Table 4-4 and a full reset (R97, R118, R119). `POWERFAIL` is the first entry
written; how many waiting entries hold-up still writes is a free value (22, text under R834; log 17). -/
def execBrownOut (s : State) : Host.Outcome State Fault Refusal :=
  if s.rst.held then .next { s with sup.brown := true }
  else
    let bursts := s.sp.bursts + b2n (s.sup.vport && bitOf s.cfg.linkCfg 0)
    let s := openSwitches { s with sup.brown := true }
    let s := { s with tq.ten := false, tq.rdnLow := false }
    let s := jrnCommit s (mkEntry s true 0x01 [powerFailBits s])
    let (v, s) := takeFree s
    let s := jrnFlush (v.toNat % (s.jrn.queue.length + 1)) s
    let s := fullReset s 2
    .next { s with sp.bursts := bursts }

/-- A monitored internal rail falls (24 Table 24-1 source 3). -/
def execInternalRailFail (s : State) : Host.Outcome State Fault Refusal := .next (fullReset s 3)

/-- `RESET_N` low for at least 10 µs (24 Table 24-1 source 4). -/
def execResetNAssert (s : State) : Host.Outcome State Fault Refusal :=
  let s := { s with rst.resetN := false }
  .next (fullReset s 4)

/-! ### Reset release -/

/-- The predecessor value of an area (22 R829). -/
def jrnSeed (s : State) (inc : Bool) : List Byte :=
  (sha256 (leBytes 8 s.store.uid.toNat ++ [if inc then 1 else 0])).take 8

/-- Record `n` of an area as stored. -/
def jrnRec (s : State) (inc : Bool) (n : Nat) : List Byte := memGets s.mem (jrnAddr inc n) 32

/-- The chain value before record `n`. -/
def jrnPrev (s : State) (inc : Bool) (n : Nat) : List Byte :=
  if n ≤ 1 then jrnSeed s inc else (jrnRec s inc (n - 1)).drop 24

/-- Record `n` has its number and its chain value. -/
def jrnOk (s : State) (inc : Bool) (n : Nat) : Bool :=
  let r := jrnRec s inc n
  leAt r 0 4 == n % 2 ^ 32 && (sha256 (jrnPrev s inc n ++ r.take 24)).take 8 == r.drop 24

/-- The oldest held record number of an area. -/
def jrnOldestNum (s : State) (inc : Bool) : Nat :=
  if inc then s.jrn.iOld else if s.jrn.rNum ≤ 1536 then 1 else s.jrn.rNum - 1535

/-- The first of the last 16 held records of an area that fails (22 R834). -/
def jrnBroken (s : State) (inc : Bool) : Option Nat :=
  let num := (jrnHead s inc).1
  let lo := max (jrnOldestNum s inc) (num - 15)
  ((List.range (num + 1 - lo)).map (· + lo)).find? fun n => !jrnOk s inc n

/-- Slots of an area that hold a record: its `TYPE` is not 0 (22 Table 22-2; log 69). -/
def heldSlots (s : State) (inc : Bool) : List Nat :=
  s.mem.filterMap fun c =>
    let o := c.1 - jrnBase inc
    if jrnBase inc ≤ c.1 ∧ o < 32 * jrnSlots inc ∧ o % 32 = 4 then some (o / 32) else none

/-- Bytes `i` to `i + n − 1` of the record in a slot as a number. -/
def slotVal (s : State) (inc : Bool) (k i n : Nat) : Nat := leVal (memGets s.mem (jrnBase inc + 32 * k + i) n)

/-- The order of record numbers (22 R822). -/
def numBefore (a b : Nat) : Bool :=
  let d := (b + 2 ^ 32 - a % 2 ^ 32) % 2 ^ 32
  decide (1 ≤ d) && decide (d < 2 ^ 31)

/-- The slot of a list whose record has the highest number (22 R822). -/
def highestSlot (s : State) (inc : Bool) : List Nat → Option Nat
  | [] => none
  | k :: t => some (t.foldl (fun a b => if numBefore (slotVal s inc a 0 4) (slotVal s inc b 0 4) then b else a) k)

/-- The slot of an area's head: of the held records whose next slot does not hold the following number, the highest (22 R834). -/
def headSlot (s : State) (inc : Bool) : Option Nat :=
  let held := heldSlots s inc
  highestSlot s inc (held.filter fun k =>
    let next := (k + 1) % jrnSlots inc
    !(held.contains next && slotVal s inc next 0 4 == (slotVal s inc k 0 4 + 1) % 2 ^ 32))

/-- The count of records that a head's slot and `NUM` stand for, given the count as last known: `NUM` names it modulo 2^32 only (22
R820, R822; log 69). -/
def headNum (inc : Bool) (known k num : Nat) : Nat :=
  let fits (n : Nat) : Bool := n != 0 && n % 2 ^ 32 == num && (n - 1) % jrnSlots inc == k
  match (known :: (List.range 3).map fun i => num + i * 2 ^ 32).find? fits with
  | some n => n
  | none => if num = 0 then 2 ^ 32 else num

/-- The firmware finds an area's head from the stored records (22 R834). -/
def findHead (s : State) (inc : Bool) : State :=
  let n := match headSlot s inc with
    | none => 0
    | some k => headNum inc (jrnHead s inc).1 k (slotVal s inc k 0 4)
  if inc then { s with jrn.iNum := n } else { s with jrn.rNum := n }

/-- The `NUM` that the highest-numbered `RELEASE` entry of an area names (22 R838, Table 22-2). -/
def releasedNum (s : State) (inc : Bool) : Option Nat :=
  (highestSlot s inc ((heldSlots s inc).filter fun k => slotVal s inc k 4 1 == 0x14 && slotVal s inc k 5 1 % 4 == 0)).map
    fun k => slotVal s inc k 20 4

/-- The oldest held incident record is the one after the `NUM` that the latest `RELEASE` entry names (22 R838). One that the incident
area had no room for stands in the ring (R836; log 69). -/
def findOldest (s : State) : State :=
  let named := match releasedNum s true, releasedNum s false with
    | some a, some b => some (if numBefore a b then b else a)
    | some a, none => some a
    | none, b => b
  let old := match named with
    | some a => s.jrn.iNum + 1 - (s.jrn.iNum + 2 ^ 32 - a % 2 ^ 32) % 2 ^ 32
    | none => s.jrn.iNum - 511
  { s with jrn.iOld := max 1 old }

/-- Check the chain of an area, and take the head's chain value from the store. -/
def jrnCheck (s : State) (inc : Bool) : State :=
  let num := (jrnHead s inc).1
  let bad := jrnBroken s inc
  let c := if num = 0 then jrnSeed s inc else (jrnRec s inc num).drop 24
  let s := if inc then { s with jrn.iChain := c } else { s with jrn.rChain := c }
  match bad with
  | none => s
  | some n => jrnPut s true 0x11 (leBytes 4 n ++ [if inc then 1 else 0])

/-- Numbers of the held incident records, newest first. -/
def incNums (s : State) : List Nat := ((List.range (s.jrn.iNum + 1 - s.jrn.iOld)).map (· + s.jrn.iOld)).reverse

/-- The `RESETS` of the newest `POWERFAIL` entry of the incident area (24 R876). -/
def lastPowerFail (s : State) : Option Nat :=
  ((incNums s).map fun n => jrnRec s true n).findSome? fun r =>
    if byteAt r 4 = 1 ∧ byteAt r 5 % 4 = 0 then some (leAt r 12 4) else none

/-- `LASTRST` (24 R875, R876). -/
def lastRst (s : State) : Byte :=
  if s.rst.latch = 1 ∧ lastPowerFail s = some (s.store.resets - 1).toNat then 2 else s.rst.latch.setWidth 8

/-- A region of the firmware partition. -/
def fwRgn (va last : Word) : Region := { va := va, last := last, pa := 0 }

/-- The firmware partition of FW 4.2 (20 Table 20-6). -/
def fwRegions : Vector Region 16 :=
  #v[fwRgn 0x0000000B 0x0003FF00, fwRgn 0x20000007 0x2001FF00, fwRgn 0x20020007 0x2002FF00, fwRgn 0x30000007 0x3001DF00,
     fwRgn 0x3001E003 0x3001FF00, fwRgn 0x40000007 0x4000AF00, fwRgn 0 0, fwRgn 0 0,
     fwRgn 0 0, fwRgn 0 0, fwRgn 0 0, fwRgn 0 0, fwRgn 0 0, fwRgn 0 0, fwRgn 0 0, fwRgn 0 0]

/-- Restore the `DISCONNECT_FAULT` latch (09 R332); the 500 ms of R333 run from the later of its instant and this release. A
turn-off that the reset began goes on, and ends in FAULT. -/
def restoreDisc (s : State) : State :=
  match s.store.disc with
  | none => s
  | some c => { s with gate.disc := true, gate.cause := c, gate.causes := 1#16 <<< (c.toNat - 1),
                       gate.discAt := max s.store.discAt s.now,
                       gate.state := if s.gate.state = .turnoff then .turnoff else .fault }

/-- A failed password record becomes the factory password (17 R662). -/
def restorePassword (s : State) : State :=
  if s.store.pwCrc = crc32c (pwBytes s.store) then s
  else
    let s := { s with store.salt := StoreUnit.reset.salt, store.digest := StoreUnit.reset.digest, store.wrong := 0,
                      store.lockDur := 60, store.lockRun := false, store.pwFactory := true }
    jrnPut (storePassword s) true 0x0E []

/-- The record of a trip or of a release (09 R291). -/
def tripRecord (s : State) (w : Well) (uv trip : Bool) : State :=
  let thr := if uv then fld s.cfg.cmpCfg 25 16 else fld s.cfg.cmpCfg 9 0
  if trip then jrnPut s true 0x03 ([BitVec.ofNat 8 (w.val + 1), BitVec.ofNat 8 (b2n uv)] ++ leBytes 2 thr)
  else jrnPut s false 0x41 [1, BitVec.ofNat 8 (w.val + 1)]

/-- What the comparators did while reset was held is journalled at the release (04 R117; 09 R291). -/
def tripsDuringReset (s : State) : State :=
  s.prot.heldEvents.foldl (fun s e => tripRecord s e.1 e.2.1 e.2.2) { s with prot.heldEvents := [] }

/-- The first thermistor cycle starts at reset release, under the reset values of `NTC_CFG` (07 R238). -/
def firstCycle (s : State) : State :=
  { s with aux.ntcRun := true, aux.ntcCfg := s.cfg.ntcCfg, aux.ntcMp := chainMp s, aux.ntcAt := s.now, aux.tsa := true }

/-- Reset is released (04 R98): the firmware finds the heads of the journal, counts the reset, names its source, and sets up the
core and the protection unit (18 R705, 20 R767). `TEST` high holds the device in reset (R45). -/
def execResetRelease (testHigh : Bool) (s : State) : Host.Outcome State Fault Refusal :=
  if !s.rst.startDue || !s.sup.por then .next s
  else if testHigh then .next { s with rst.test := true, rst.held := true }
  else
    let s := { s with rst.held := false, rst.startDue := false, rst.test := false, rst.resetN := true,
                      rst.releaseAt := s.now, rst.wdRun := true, rst.wdServed := s.now, sup.brown := false, tim.cnt := 0,
                      store.resets := s.store.resets + 1, bal.frame := 0, pw.lossAt := s.now }
    let s := findOldest (findHead (findHead s false) true)
    let src := lastRst s
    let wd := src == 7 || src == 10
    let s := { s with rst.lastRst := src, store.wdresets := if wd then s.store.wdresets + 1 else s.store.wdresets }
    let s := { s with core.esp := 0x20020000, core.espl := true, mpu.fw := fwRegions, mpu.fen := true, mpu.flock := true,
                      apl.state := if s.store.imgValid then .valid else .none }
    let s := tripsDuringReset (jrnPut s wd (if wd then 0x10 else 0x40) [src])
    let s := jrnCheck (jrnCheck s false) true
    .next (noteConditions (firstCycle (restorePassword (restoreDisc s))))

/-! ### The configuration -/

/-- `PH_CFG.MODE`. -/
def phMode (c : CfgRegs) : Nat := fld c.phCfg 2 0

/-- An encoder mode (05 Table 5-7). -/
def encMode (c : CfgRegs) : Bool := decide (1 ≤ phMode c) && decide (phMode c ≤ 3)

/-- The tracker starts in the configured mode: SETTLING, or INTERNAL (05 R150, Table 5-12). -/
def startTracker (s : State) : State :=
  { s with ph.tbase := if phMode s.cfg = 0 then .internal else .settling, ph.settle := 0, ph.firstIndex := true,
           ph.acc := 0, ph.edges := [], ph.zcAt := none, sch.passed := 0, ph.rev := encMode s.cfg && s.ph.rev }

/-- A device that is not the anchor holds `TEN_A` and `TEN_B` low and `RDN_N` high (02 R40). A write that takes the role away
during enabling ends the enabling as "any other cause" of 16 R605 does (log 109). -/
def dropAnchor (s : State) : State :=
  if isAnchor s then s
  else
    let waits := s.tq.enabling
    let s := { s with tq.enabling := [], tq.ten := false, tq.pulseA := false, tq.pulseB := false, tq.smTimer := false,
                      tq.rdnLow := false }
    waits.foldl (fun s w => replyErr s w.verb w.msg 8 0x19) s

/-- Only the wells of a set stay in a switch test in progress (06 R184; 02 R54). -/
def leaveTest (s : State) (v : Wells) : State :=
  { s with bal.testRun := s.bal.testRun &&& v, bal.testOn := s.bal.testOn &&& v,
           bal.lastOn := noteAt (s.bal.testOn &&& ~~~ v) s.now s.bal.lastOn }

/-- The wells take new thresholds and a new population: comparators of wells that are no used CELL-role wells are off, a
tripped one stays tripped until it releases, a running deglitch keeps its start (04 R115, R116, R893; 06 R184). A comparator
fault stands until a `CMP_TEST` passes (09 R302). Such a well leaves a switch test in progress (06 R184). -/
def handOver (s : State) : State :=
  let m := cellMask s.cfg
  let s := leaveTest s m
  dropAnchor { s with prot.ovTrip := s.prot.ovTrip &&& m, prot.uvTrip := s.prot.uvTrip &&& m,
                      prot.ovDeg := s.prot.ovDeg &&& m, prot.uvDeg := s.prot.uvDeg &&& m, tq.smRole := s.cfg.roleCfg,
                      tq.smRoleN := ~~~s.cfg.roleCfg }

/-- The seal checks: the area check is correct, and the recomputed seal is the stored one (17 R651). -/
def sealChecks (s : State) : Bool :=
  areaCrc s.store.record == s.store.record.crc && sealOf s.store.uid s.store.record.regs == s.store.record.sealV

/-- The seal is checked: load the record (04 R100, 14 R522), or keep the factory-safe values (R101). -/
def execSealCheck (s : State) : Host.Outcome State Fault Refusal :=
  if !running s then .next s
  else if sealChecks s then
    let r := s.store.record.regs
    let s := { s with cfg := r, prot.loaded := true, acq.win := BitVec.ofNat 2 (fld r.acqCfg 1 0),
                      bal.rbUse := r.balRb, sp.gen := BitVec.ofNat 2 (fld r.linkCfg 2 1),
                      np.gen := BitVec.ofNat 2 (fld r.linkCfg 5 4) }
    .next (noteConditions (startTracker (handOver s)))
  else
    .next (noteConditions (jrnPut { s with prot.loaded := false } true 0x02 (leBytes 4 s.store.record.sealV.toNat)))

/-! ### Supplies in operation -/

/-- `VIO` becomes absent: a UART reply on its way is discarded (04 R122); on the anchor with torque enabled the loss removes torque
(R123; 16 cause 15). -/
def execVioLoss (s : State) : Host.Outcome State Fault Refusal :=
  .next (tqImmediate { s with sup.vio := false, host.htxEnd := min s.now s.host.htxEnd, host.uartAt := min s.now s.host.uartAt } 15)

/-- `VIO` becomes present (04 R109). -/
def execVioReturn (s : State) : Host.Outcome State Fault Refusal := .next { s with sup.vio := true }

/-- A port stops transmitting at once (04 R124): a frame or copy that was on the line ends without a crust. -/
def silence (now : Nat) (u : PortUnit) : PortUnit :=
  { u with txNow := none, txEnd := 0, relaying := false, brkOut := false, brkRelay := false, brkDue := false, burst := false,
           up := false, rxBusy := false, cut := false,
           endOut := if u.relaying || (decide (now < u.txEnd) && !u.burstTx) then some .missing else u.endOut }

/-- Silence ports; a break relay that ends by it, or that can no longer follow a break that has ended, leaves the full reset of 10
R376. -/
def silencePorts (s : State) (south north : Bool) : State :=
  let gone (u v : PortUnit) : Bool := u.brkRelay || (u.brkDue && !v.brkIn)
  let ended := (south && gone s.sp s.np) || (north && gone s.np s.sp)
  let s := { s with sp := if south then silence s.now s.sp else s.sp, np := if north then silence s.now s.np else s.np }
  if ended then fullReset s 5 else s

/-- `VPORT` becomes absent (04 R124, 10 R343). -/
def execVportLoss (s : State) : Host.Outcome State Fault Refusal :=
  .next (silencePorts { s with sup.vport := false } true true)

/-- `VPORT` returns: the address and the generations are kept (04 R125). -/
def execVportReturn (s : State) : Host.Outcome State Fault Refusal := .next { s with sup.vport := true }

/-- The enable bit of a port (10 Table 10-1). -/
def portEnabled (s : State) (p : Port) : Bool :=
  match p with
  | .south => bitOf s.cfg.linkCfg 0
  | .north => bitOf s.cfg.linkCfg 3

/-- A port becomes operational (10 R344). -/
def execPortOperational (p : Port) (s : State) : Host.Outcome State Fault Refusal :=
  if s.sup.vport && portEnabled s p then .next (setPort s p { portOf s p with up := true }) else .next s

end Sys2Proof.Machine
end

