-- ==== Sys2Proof/Machine/Clock.lean ====
section
/-! DEFINITION. Oscillators and their supervision, chain-time timeouts, and what one ct of time does (05; log 1). -/

namespace Sys2Proof.Machine

open Sys2Proof

/-- `CLK_STAT` (05 Table 5-3). -/
def clkStat (s : State) : Word :=
  BitVec.ofNat 32 (b2n s.clk.refSel + 2 * b2n s.clk.xtalOk + 4 * b2n s.clk.pllLock + 8 * b2n (running s && !isAnchor s)
    + 16 * b2n (alignedNow s) + 256 * s.tim.offset.toNat)

/-- The widest deviation of the output: ±2 % of steering and ±1 % of the main RC (05 Table 5-1), in ppm/196608. -/
def tuneSpan : Nat := 30000 * 196608

/-- A change of PLL reference or steering value gives the output a new deviation to reach and a slew of at most 100 ppm per
millisecond (05 R131). The spec gives neither number: both are free values (log 15). -/
def retune (s : State) : State :=
  let (g, s) := takeFree s
  let (r, s) := takeFree s
  { s with clk.goal := (g.toNat % (2 * tuneSpan + 1) : Nat) - (tuneSpan : Int), clk.rate := r.toNat % 100 + 1 }

/-- One ct of slewing: the frequency moves toward its goal by at most `rate`, and never steps (05 R131). -/
def slew (freq goal : Int) (rate : Nat) : Int :=
  if goal - freq > rate then freq + rate else if freq - goal > rate then freq - rate else goal

/-- The PLL takes the crystal as its reference (05 R129): locked, `REF` = 1, the crystal good. -/
def wantsCrystal (s : State) : Bool := s.clk.pllLock && s.clk.xtalOk && bitOf s.cfg.clkCfg 0

/-- Put the reference where 05 R129 and R130 want it; a change slews. -/
def setRef (s : State) : State :=
  if s.clk.refSel == wantsCrystal s then s else retune { s with clk.refSel := wantsCrystal s }

/-- One ct of the clock unit: the output slews, and a locked PLL moves to a crystal that is good (05 R129, R131). -/
def tickClk (s : State) : State :=
  setRef { s with clk.freq := slew s.clk.freq s.clk.goal s.clk.rate }

/-- The firmware locks the PLL to the main RC reference and switches the system clock to it (05 R126, R127). The move to a
crystal that is already good follows with the next ct (`tickClk`). -/
def execPllLock (s : State) : Host.Outcome State Fault Refusal :=
  if active s && !s.clk.pllLock then .next (retune <| irqRaise (v := 17) { s with clk.pllLock := true, clk.refSel := false }) else .next s

/-- The crystal has run well for 10 ms; with `REF` = 1 it becomes the reference of the locked PLL (05 R129). -/
def execCrystalGood (s : State) : Host.Outcome State Fault Refusal :=
  if active s && bitOf s.cfg.clkCfg 1 then .next (setRef (irqRaise { s with clk.xtalOk := true } 17)) else .next s

/-- The crystal stops or leaves its range: back to the main RC, and a routine record (05 R130). -/
def execCrystalFail (s : State) : Host.Outcome State Fault Refusal :=
  if active s && s.clk.xtalOk then
    let s := setRef (irqRaise { s with clk.xtalOk := false } 17)
    .next (jrnPut s false 0x42 [BitVec.ofNat 8 (clkStat s).toNat])
  else .next s

/-- The safety monitor removes torque without the firmware: outputs low, `REMOVED`; an enabling in progress ends with it, and
its messages stay unanswered until the reset ends them (05 R139, R140; 16 R605). -/
def smRemove (s : State) : State :=
  if isAnchor s && (torqueOn s || s.tq.ten || !s.tq.enabling.isEmpty) then
    { s with tq.ten := false, tq.pulseA := false, tq.pulseB := false, tq.smTimer := false, tq.enabling := [], tq.rdnWaits := [],
             tq.rdnLow := s.tq.rdnLow && s.tq.enabling.isEmpty, tq.rd := .removed }
  else s

/-- The 1 ms check of the three clocks: a pair that disagrees in two consecutive checks is a clock fault (05 R137, R138). It
asserts `FAULT_N` and removes torque on the anchor, by the safety monitor where the firmware does not run (R139). The firmware
journals it and ends in the full stop (R140, 24 R887); a core that cannot run does neither, is not served and is left to the
watchdog (R140). Whether it can run is a free value (log 110). -/
def execClockSupervisionCheck (sysSafety sysLfo safetyLfo : Bool) (s : State) : Host.Outcome State Fault Refusal :=
  if !active s then .next s
  else
    let now : BitVec 3 := BitVec.ofNat 3 (b2n sysSafety + 2 * b2n sysLfo + 4 * b2n safetyLfo)
    let twice := now &&& s.clk.disagree
    let s := { s with clk.disagree := now }
    if twice = 0 then .next s
    else
    let w := (takeFree s).1
    let s := irqRaise (takeFree s).2 17
    if w.getLsbD 0 && !s.clk.coreDead then
      let s := tqImmediate (noteConditions { s with clk.fault := true }) 14
      let s := jrnFlushInc (jrnPut s true 0x09 [twice.setWidth 8])
      .next (fwStop s 0xE000)
    else .next (smRemove (noteConditions { s with clk.fault := true, clk.coreDead := true }))

/-- `ALIGNED` falls, and the next beat steps the counter (05 R143, R145). -/
def loseAlign (s : State) : State := { s with tim.aligned := false, tim.stepDue := true, tim.goodBeats := 0 }

/-- No beat or tick frame for 50 ms (05 R145). -/
def execAlignTimeout (s : State) : Host.Outcome State Fault Refusal :=
  if active s && !isAnchor s then .next (loseAlign s) else .next s

/-- Orphaned after 50 ms without a tick frame or beat (11 R413); an anchor only under a conflict (16, text under R596). -/
def execOrphanTimeout (s : State) : Host.Outcome State Fault Refusal :=
  if active s && (!isAnchor s || s.tq.conflict) then
    .next (loseAlign { s with tim.orphaned := true, chn.freeFrom := 0, chn.freeTo := 0 })
  else .next s

/-! ### The in-cycle position -/

/-- `PH_CYCLE`, at least 1. -/
def phCycle (s : State) : Nat := max 1 s.cfg.phCycle.toNat

/-- Change the cycle count of an epoch (05, `PH_EPOCH`). -/
def addCycles (e : Word) (d : Int) : Word :=
  (e &&& 0xFF000000#32) ||| BitVec.ofNat 32 (((fld e 23 0 : Int) + d) % 2 ^ 24).toNat

/-- Raise the era. -/
def raiseEra (e : Word) : Word := e + 0x01000000#32

/-- The points whose position lies in a stretch of `n` pu of the cycle that begins at `lo`. -/
def pointsIn (s : State) (lo n : Nat) : BitVec 16 :=
  (List.finRange 16).foldl (fun m i =>
    if (fld s.cfg.phPoint[i] 23 0 % phCycle s + phCycle s - lo % phCycle s) % phCycle s < n then m ||| (1#16 <<< i.val) else m) 0

/-- Points that the position leaves can be reached again: they await a new evaluation (05 R158). -/
def leavePoints (s : State) (lo n : Nat) : State :=
  if s.sch.passed = 0 then s else { s with sch.passed := s.sch.passed &&& ~~~ (pointsIn s lo n) }

/-- The tracker at an entry to ACTIVE or STANDBY from another power state: the era rises (05 R150, Table 5-12). -/
def wakeTracker (s : State) : State := startTracker { s with ph.epoch := raiseEra s.ph.epoch }

/-- Advance the position by `n` pu forward. -/
def advance (s : State) (n : Nat) (count : Bool) : State :=
  let p := s.ph.pos + n
  let s := leavePoints s s.ph.pos n
  { s with ph.pos := p % phCycle s, ph.epoch := addCycles s.ph.epoch (p / phCycle s),
           ph.count := if count then s.ph.count + BitVec.ofNat 32 n else s.ph.count }

/-- Move the position backward by `n` pu; hold-over never changes `PH_COUNT` (05 R896). -/
def retreat (s : State) (n : Nat) : State :=
  let p : Int := (s.ph.pos : Int) - n
  let s := leavePoints s ((p + 1) % (phCycle s : Int)).toNat n
  { s with ph.pos := (p % (phCycle s : Int)).toNat, ph.epoch := addCycles s.ph.epoch (p / (phCycle s : Int)) }

/-- The length in ct of the cycle by which the position advances with time, when it does (05 R152, R154, Table 5-12). -/
def cycleCt (s : State) : Option Nat :=
  let h := s.cfg.phHcycle.toNat * ctPerMs
  if !isAnchor s then none
  else if phMode s.cfg = 0 then some h
  else if phMode s.cfg = 4 then (if s.ph.zcPeriod = 0 then none else some s.ph.zcPeriod)
  else if s.ph.tbase == .holdover then some h else none

/-- One ct of the tracker. In the encoder modes hold-over goes on in the direction of `DIR` (log 25). -/
def tickPhase (s : State) : State :=
  match cycleCt s with
  | none => s
  | some l =>
    if l = 0 then s
    else
      let a := s.ph.acc + phCycle s
      let s := { s with ph.acc := a % l }
      if a / l = 0 then s
      else if encMode s.cfg && s.ph.rev then retreat s (a / l)
      else advance s (a / l) (!encMode s.cfg)

/-- The wells after one ct of conduction: it takes one ct of a request's time (08 R261). -/
def conduct (closed : Wells) (w : Vector BalWell 18) : Vector BalWell 18 :=
  Vector.ofFn fun i => { w[i] with left := if hasW closed i then w[i].left - 1 else w[i].left }

/-- The odd wells, 1 to 17. -/
def oddWells : Wells := 0x15555

/-- A phase of a switch test: V_C and V_O take 62.5 µs, then the switches of its wells close until V_D is read 56.25 µs later; the
phase lasts 123.75 µs (08 R275; log 118). -/
def tickTest (s : State) : State :=
  let m := s.bal.testRun &&& (if s.bal.testEven then ~~~ oddWells else oddWells)
  let e := s.now - s.bal.testAt
  if s.bal.testRun = 0 then s
  else if s.bal.testWait then { s with bal.testWait := !quietOk s, bal.testAt := s.now }
  else if 24331 ≤ e ∧ s.bal.testEven = false then { s with bal.testEven := true, bal.testAt := s.now, bal.testOn := 0 }
  else { s with bal.testOn := if 12288 ≤ e ∧ e < 23348 then m else 0 }

/-- One ct of balancing. -/
def tickBal (s : State) : State :=
  let s := tickTest s
  if s.bal.closed ||| s.bal.testOn = 0 then s
  else { s with bal.wells := conduct s.bal.closed s.bal.wells,
                bal.lastOn := noteAt (s.bal.closed ||| s.bal.testOn) s.now s.bal.lastOn }

/-- Length of a step of a phase of an open-wire check, in ct: 31.25 µs, 250 µs and 31.25 µs with the sinks on, 40 µs (06 R201). -/
def owStepCt (t : OwStep) : Nat := match t with | .reference => 6144 | .sinks => 55296 | .recovery => 7865 | _ => 0

/-- The next step of an open-wire check (06 R201); spans that the sinks meet carry `STALE` (R204, R207). -/
def owNext (s : State) : State :=
  match s.acq.owStep with
  | .quiet => { s with acq.owStep := .reference, acq.owAt := s.now }
  | .reference =>
    { markSpans s (staleOf (usedMask s.cfg) false) with acq.owStep := .sinks, acq.owAt := s.now }
  | .sinks => { s with acq.owStep := .recovery, acq.owAt := s.now }
  | .recovery =>
    { noteDist s (staleOf (usedMask s.cfg) false) with acq.owStep := if s.acq.owEven then .over else .reference,
                                                       acq.owEven := true, acq.owAt := s.now }
  | .over => s

/-- One ct of an open-wire check. -/
def tickOw (s : State) : State :=
  if s.acq.ow != .check then s
  else if s.acq.owStep == .quiet then (if quietOk s then owNext s else s)
  else if s.acq.owAt + owStepCt s.acq.owStep ≤ s.now then owNext s else s

/-- The wells whose 200 µA test sink is on (06 R201): the used wells of the phase. -/
def owSinks (s : State) : Wells :=
  if s.acq.ow == .check && s.acq.owStep == .sinks then
    usedMask s.cfg &&& (if s.acq.owEven then ~~~ oddWells else oddWells)
  else 0

/-- A service runs itself: no handler and no deferred work has pre-empted it (20 R793). -/
def svcRuns (s : State) : Bool := s.apl.inSvc && !bitOf s.core.sw 5 && fld s.core.sw 14 8 == 64

/-- The applet is charged while it, or a service it called, runs in ACTIVE (20 R793; 23 R843). -/
def tickApl (s : State) : State :=
  if s.apl.state == .running && !s.apl.suspended && s.pw.state == .active && (bitOf s.core.sw 6 || svcRuns s) then
    { s with apl.charge := s.apl.charge + 1 }
  else s

end Sys2Proof.Machine
end

