-- ==== Sys2Proof/Machine/BalOps.lean ====
section
/-! DEFINITION. What other chapters do to balancing: requests that end or pause, switches that close again, and the reply
of `BAL_TEST` (08). -/

namespace Sys2Proof.Machine

open Sys2Proof

/-- R_B at pin `BALk`, k = 1 to 18, in µΩ; 0 for k = 0 (08 R250, Table 8-3). -/
def rbAt (rb : Vector Word 5) (k : Nat) : Nat :=
  if k = 0 then 0
  else
    let i := (k - 1) / 4
    let j := (k - 1) % 4
    (rb.toList.getD i 0).toNat / 2 ^ (8 * j) % 256 * 250000

/-- R_B,k + R_B,k−1 of a well, in µΩ. -/
def loopR (rb : Vector Word 5) (w : Well) : Nat := rbAt rb (w.val + 1) + rbAt rb w.val

/-- External-FET mode. -/
def extFet (s : State) : Bool := bitOf s.cfg.balCfg 0

/-- The OV threshold in mV (09 R286). -/
def ovMv (c : CfgRegs) : Nat := 2000 + 4 * fld c.cmpCfg 9 0
/-- The UV threshold in mV. -/
def uvMv (c : CfgRegs) : Nat := 800 + 4 * fld c.cmpCfg 25 16

/-- A request of this well is refused by 08 R254: OV threshold over the loop resistance above 300 mA. -/
def r254 (s : State) (rb : Vector Word 5) (w : Well) : Bool :=
  !extFet s && decide (ovMv s.cfg * 1000000 > 300 * loopR rb w)

/-- The wells that hold a request. -/
def reqMask (s : State) : Wells :=
  (wellList (BitVec.allOnes 18)).foldl (fun m w => putW m w s.bal.wells[w].req) 0

/-- A well whose request ends. -/
def endWell (b : BalWell) (code : BitVec 4) : BalWell :=
  { b with req := false, applet := false, target := false, targetV := 0, left := 0, pause := 0, endCode := code }

/-- End the requests of a set of wells with an `END` code (08 R271, R272). -/
def balEnd (s : State) (m : Wells) (code : BitVec 4) : State :=
  let m := m &&& reqMask s
  { s with bal.wells := Vector.ofFn (fun i => if hasW m i then endWell s.bal.wells[i] code else s.bal.wells[i]),
           bal.closed := s.bal.closed &&& ~~~ m, bal.grant := s.bal.grant &&& ~~~ m,
           bal.lastOn := noteAt (s.bal.closed &&& m) s.now s.bal.lastOn }

/-- Pause bits: `NORESULT` 1, `HOT` 2, `XCHK` 4, `TESTWAIT` 8. A channel is enabled as the cycle of its word had it (07 R227). -/
def hotPause (s : State) : Bool :=
  let lim := fld s.cfg.balCfg 23 16
  lim != 0 && s.aux.ntcPub && (List.finRange 8).any fun n => !bitOf s.aux.ntcWord[n] 31 &&
    (fld s.aux.ntcWord[n] 20 16 != 0 || decide (fld s.aux.ntcWord[n] 15 0 < lim * 256))

/-- A cross-check fault pauses this well (08 Table 8-7). -/
def xcPause (s : State) (w : Well) : Bool :=
  hasW s.aux.xcWellFault w || (s.aux.xcFault &&& 0x0E) != 0 || (!extFet s && (s.aux.xcFault &&& 0x10) != 0)

/-- A result no older than 2 s. -/
def fresh2s (s : State) (r : Option (Int × Nat)) : Option Int :=
  match r with
  | some (c, t) => if s.now - t ≤ 2000 * ctPerMs then some c else none
  | none => none

/-- The well has a passing switch test younger than 600 s (08 R273). -/
def tested (s : State) (w : Well) : Bool :=
  match s.bal.wells[w].passAt with
  | some t => decide (s.now - t < 600000 * ctPerMs)
  | none => false

/-- Wells waiting for a test: requests and a `BAL_TEST`. A well that is no used CELL-role well is not tested (06 R184). -/
def testWanted (s : State) : Wells := (s.bal.btest.foldl (fun m t => m ||| t.todo) s.bal.due) &&& cellMask s.cfg

/-- The causes that pause a well's request now. -/
def pauseOf (s : State) (w : Well) : BitVec 4 :=
  let b := s.bal.wells[w]
  BitVec.ofNat 4 (b2n (b.target && (fresh2s s s.acq.usable[w]).isNone) + 2 * b2n (hotPause s) + 4 * b2n (xcPause s w)
    + 8 * b2n (hasW (testWanted s ||| s.bal.testRun) w || !tested s w))

/-- Wells whose request stands and is paused. -/
def pausedMask (s : State) : Wells :=
  (wellList (BitVec.allOnes 18)).foldl (fun m w => putW m w (s.bal.wells[w].req && s.bal.wells[w].pause != 0)) 0

/-- The die is at or above 125 °C: in internal mode nothing may conduct (03 R91; 08 Table 8-7). -/
def dieHot (s : State) : Bool := !extFet s && decide (8000 ≤ s.aux.tmax.toInt)

/-- The pause bits of the causes that have arisen, beside those that stand (08 R271, Table 8-7). -/
def markPauses (s : State) : State :=
  let hot : BitVec 4 := if hotPause s then 2 else 0
  let t := testWanted s ||| s.bal.testRun
  { s with bal.wells := Vector.ofFn fun i =>
                    { s.bal.wells[i] with pause := if s.bal.wells[i].req then
                        s.bal.wells[i].pause ||| hot ||| (if xcPause s i then 4 else 0) ||| (if hasW t i then 8 else 0)
                        else 0 } }

/-- In internal mode at 125 °C a switch test ends as well (03 R91). -/
def dropHotTest (s : State) : State := if dieHot s then dropTest s else s

/-- Causes that have arisen pause their wells at once, and their switches open; at 125 °C every switch opens, those of a switch test
with them (08 R271, R272; 03 R91). Pauses end at a frame start. -/
def balPauseNow (s : State) : State :=
  let s := dropHotTest (markPauses s)
  let p := if dieHot s then BitVec.allOnes 18 else pausedMask s
  { openWells s p with bal.grant := s.bal.grant &&& ~~~ p }

/-- Switches may close (08 R269); a queued on-request acquisition holds them open (R268). -/
def mayClose (s : State) : Bool :=
  active s && noSpan s && !tickPending s && s.acq.req.isNone && s.acq.ow == .idle && s.bal.testRun == 0

/-- Switches close again under the grants that are left (08 R269, R899). -/
def reclose (s : State) : State := if mayClose s then { s with bal.closed := s.bal.grant } else s

/-- The reply of `BAL_TEST`: passed, failed, not run (14 Table 14-7). -/
def btestReply (s : State) (t : TestVerb) : State :=
  replyOk s t.w.verb t.w.msg
    (leBytes 4 t.pass.toNat ++ leBytes 4 t.other.toNat ++ leBytes 4 t.todo.toNat)

end Sys2Proof.Machine
end

