-- ==== Sys2Proof/Machine/Bus.lean ====
section
/-! DEFINITION. The bus below the core, the DMA engine and the check engine: physical reads and writes, and the register
blocks whose layout the spec gives (20 Tables 20-1 to 20-4, 20-11, 20-12; 21 Table 21-1), with what a `START`, `ABORT` or
`RESUME` written to them does. -/

namespace Sys2Proof.Machine

open Sys2Proof

/-! ## Register layouts -/

/-- The code of a DMA channel's `STATE`. -/
def dmaCode (d : DmaState) : Nat :=
  match d with | .idle => 0 | .run => 1 | .wait => 2 | .fault => 3 | .aborting => 4

/-- `DMA_STAT` (20 Table 20-11). -/
def dmaStat (c : DmaCh) : Word :=
  BitVec.ofNat 32 (dmaCode c.state + 8 * b2n c.done + 16 * c.fsub.toNat + 256 * b2n c.fwr + 65536 * c.held.length)

/-- A channel register of DMA; none where the offset names no register. -/
def dmaReg (c : DmaCh) (off : Nat) : Option Word :=
  match off with
  | 0x00 => some 0
  | 0x04 => some (dmaStat c)
  | 0x08 => some c.desc
  | 0x0C => some c.src
  | 0x10 => some c.dst
  | 0x14 => some (BitVec.ofNat 32 c.left)
  | 0x18 => some c.faddr
  | _ => none

/-- The code of a check channel's `STATE`. -/
def ceCode (c : CeState) : Nat := match c with | .idle => 0 | .busy => 1 | .fault => 2

/-- `CE_STAT` (21 Table 21-1). -/
def ceStat (c : CeCh) : Word := BitVec.ofNat 32 (ceCode c.state + 4 * b2n c.done + 8 * b2n c.mtch + 16 * c.fsub.toNat)

/-- A channel register of the check engine. -/
def ceReg (c : CeCh) (off : Nat) : Option Word :=
  match off with
  | 0x00 => some 0
  | 0x04 => some c.cfg
  | 0x08 => some c.poly
  | 0x0C => some c.init
  | 0x10 => some c.addr
  | 0x14 => some (c.len.setWidth 32)
  | 0x18 => some c.exp
  | 0x1C => some c.res
  | 0x20 => some c.raw
  | 0x24 => some (ceStat c)
  | 0x28 => some c.faddr
  | _ => none

/-- A register of a region (20 Table 20-3). -/
def rgnReg (r : Region) (off : Nat) : Option Word :=
  match off with
  | 0x0 => some r.va
  | 0x4 => some r.last
  | 0x8 => some r.pa
  | 0xC => some 0
  | _ => none

/-- The value of a register whose block's layout the spec gives, at an offset in the block; none where the offset names no
register (20 R756). -/
def knownReg (s : State) (a : Nat) : Option Word :=
  let off := a % 0x1000
  if a / 0x1000 = 0x40005 then
    if off < 0x800 then dmaReg s.dma.ch[Fin.ofNat 8 (off / 0x100)] (off % 0x100)
    else if off = 0x800 then some (s.dma.irq.setWidth 32)
    else if off = 0x804 then some (s.dma.fnew.setWidth 32 ||| (s.dma.rpt.setWidth 32 <<< 8))
    else none
  else if a / 0x1000 = 0x40006 then
    if off < 0x400 then ceReg s.ce.ch[Fin.ofNat 4 (off / 0x100)] (off % 0x100)
    else if off = 0x400 then some (s.ce.irq.setWidth 32)
    else none
  else if off < 0x100 then rgnReg s.mpu.fw[Fin.ofNat 16 (off / 16)] (off % 16)
  else if off < 0x200 then rgnReg s.mpu.ap[Fin.ofNat 16 (off / 16)] (off % 16)
  else if off = 0x200 then some (BitVec.ofNat 32 (b2n s.mpu.fen + 2 * b2n s.mpu.flock))
  else none

/-- The blocks whose registers the spec lists: DMA, check engine, protection (20 Table 20-2). -/
def inKnown (a : Nat) : Bool := decide (0x40005000 ≤ a) && decide (a < 0x40008000)

/-! ## Reads -/

/-- A bus error: subcause 0 no response, 1 error response, 2 uncorrectable persistent-store read (18 Table 18-8). -/
abbrev BusErr := BitVec 4

/-- Parts of the store whose bytes the spec does not print: the configuration area and factory data (log 8). -/
def openStore (a : Nat) : Bool := inCfgArea a || inFactory a

/-- A byte of these parts: what a store has written there, or the open content after so many writes of its records (20 R755). -/
def openByte (s : State) (a : Nat) : Byte :=
  match s.store.written.find? fun c => c.1 == a with
  | some c => c.2
  | none => Config.areaByte (if inCfgArea a then s.store.areaNo else 0) a

/-- Stores write bytes of the configuration area. -/
def openPuts (s : State) (a : Nat) (b : List Byte) : State :=
  let l := (List.range b.length).map fun i => (a + i, b.getD i 0)
  { s with store.written := l ++ s.store.written.filter fun c => !(decide (a ≤ c.1) && decide (c.1 < a + b.length)) }

/-- A physical read of `n` ≤ 4 bytes at an address aligned to `n` (20 R753 to R756; 18 Table 18-8). -/
def busRead (s : State) (a n : Nat) : Except BusErr (List Byte × State) :=
  if inRom a then .ok ((List.range n).map fun i => Config.romByte (a + i), s)
  else if inSram a then .ok (memGets s.mem a n, s)
  else if inStore a then
    if s.ecc.any fun e => decide (a ≤ e) && decide (e < a + n) then .error 2
    else if openStore a then .ok ((List.range n).map fun i => openByte s (a + i), s)
    else .ok (memGets s.mem a n, s)
  else if inPeri a then
    if n ≠ 4 then .error 1
    else if inKnown a then
      match knownReg s a with
      | some v => .ok (leBytes 4 v.toNat, s)
      | none => .error 1
    else
      .ok ((List.range 4).map fun i => Config.periByte s.freeCtr (a + i), { s with freeCtr := s.freeCtr + 1 })
  else .error 0

/-! ## DMA channels (20 R773 to R786) -/

/-- Change a channel. -/
def setCh (s : State) (n : Fin 8) (c : DmaCh) : State := { s with dma.ch := s.dma.ch.set n c }

/-- The physical address of a channel's access: channels 6 and 7 through the applet partition, the others through the
firmware partition (20 R759). -/
def dmaAddr (s : State) (n : Fin 8) (a perm : Nat) : Except (BitVec 4) Nat := mpuCheck s (decide (6 ≤ n.val)) a perm

/-- A read of a channel; the error is the subcause of 20 Table 20-15. -/
def dmaRead (s : State) (n : Fin 8) (a w : Nat) : Except (BitVec 4) (List Byte × State) :=
  match dmaAddr s n a 1 with
  | .error e => .error e
  | .ok p =>
    match busRead s p w with
    | .error e => .error (e + 6)
    | .ok r => .ok r

/-- A fault stops the channel; a burst that finished under an `ABORT` leaves it idle (20 R781, R784). -/
def dmaFault (s : State) (n : Fin 8) (sub : BitVec 4) (wr : Bool) (a : Word) : State :=
  let c := s.dma.ch[n]
  let idle := c.state == .aborting
  let c := { c with state := if idle then .idle else .fault, fsub := sub, fwr := wr, faddr := a,
                    held := if idle then [] else c.held }
  let s := setCh s n c
  { s with dma.fnew := s.dma.fnew ||| (1#8 <<< n.val) }

/-- Bytes per unit. -/
def dmaWidth (ctl : Word) : Nat := 2 ^ fld ctl 19 18

/-- A descriptor is invalid (20 R774). -/
def descBad (n : Fin 8) (src dst ctl : Word) : Bool :=
  let w := dmaWidth ctl
  let trig := fld ctl 28 24
  fld ctl 17 0 == 0 || fld ctl 19 18 == 3 || fld ctl 17 0 % w != 0 || src.toNat % w != 0 || dst.toNat % w != 0
    || fld ctl 31 29 != 0 || (decide (6 ≤ n.val) && trig != 0) || decide (7 ≤ trig)

/-- The four words of a descriptor. -/
def readDesc (s : State) (n : Fin 8) : Nat → Nat → Except (BitVec 4) (List Word × State)
  | 0, _ => .ok ([], s)
  | k + 1, a =>
    match dmaRead s n a 4 with
    | .error e => .error e
    | .ok (b, s) =>
      match readDesc s n k (a + 4) with
      | .error e => .error e
      | .ok (l, s) => .ok (BitVec.ofNat 32 (leVal b) :: l, s)

/-- A channel begins the descriptor at `a` (20 R774, R776 to R778; Table 20-15 subcauses 9 and 10). -/
def dmaLoad (s : State) (n : Fin 8) (a : Word) : State :=
  let s := setCh s n { s.dma.ch[n] with desc := a, held := [], req := false }
  if a.toNat % 16 ≠ 0 then dmaFault s n 9 false a
  else
    match readDesc s n 4 a.toNat with
    | .error _ => dmaFault s n 10 false a
    | .ok (l, s) =>
      let src := l.getD 0 0
      let dst := l.getD 1 0
      let ctl := l.getD 2 0
      if descBad n src dst ctl then dmaFault s n 9 false a
      else
        setCh s n { s.dma.ch[n] with src := src, dst := dst, left := fld ctl 17 0, ctl := ctl, next := l.getD 3 0,
                                     state := if fld ctl 28 24 = 0 then .run else .wait }

/-- `START`: accepted in IDLE (20 R778). -/
def dmaStart (s : State) (n : Fin 8) : State :=
  if s.dma.ch[n].state == .idle then dmaLoad s n s.dma.ch[n].desc else s

/-- `ABORT` (20 R781). In RUN a burst may be in progress; in WAIT only where a request permits one. -/
def dmaAbort (s : State) (n : Fin 8) : State :=
  let c := s.dma.ch[n]
  match c.state with
  | .run => setCh s n { c with state := .aborting, req := true }
  | .wait => setCh s n { c with state := .aborting }
  | .fault => setCh s n { c with state := .idle, held := [] }
  | _ => s

/-- `RESUME`: accepted in FAULT; the burst goes on (20 R785). A channel whose descriptor failed reads it again (log 50). -/
def dmaResume (s : State) (n : Fin 8) : State :=
  let c := s.dma.ch[n]
  if c.state == .fault then
    let s := { s with dma.fnew := s.dma.fnew &&& ~~~ (1#8 <<< n.val) }
    if c.fsub = 9 ∨ c.fsub = 10 then dmaLoad s n c.desc else setCh s n { c with state := .run }
  else s

/-! ## Check-engine channels (21) -/

/-- Change a channel. -/
def setCe (s : State) (m : Fin 4) (c : CeCh) : State := { s with ce.ch := s.ce.ch.set m c }

/-- One bit of the computation (21 R799). -/
def ceBit (w : Nat) (poly r : Word) (bit : Bool) : Word :=
  let top := r.getLsbD (w - 1) != bit
  let r2 := BitVec.ofNat 32 (r.toNat * 2 % 2 ^ w)
  if top then r2 ^^^ poly else r2

/-- The bits of a byte in the order they are taken. -/
def ceBits (refin : Bool) (b : Byte) : List Bool :=
  let l := (List.range 8).map b.getLsbD
  if refin then l else l.reverse

/-- One byte of the computation. -/
def ceByte (c : CeCh) (r : Word) (b : Byte) : Word :=
  (ceBits (bitOf c.cfg 6) b).foldl (ceBit (fld c.cfg 5 0) c.poly) r

/-- A value reflected over its `w` bits. -/
def reflect (w : Nat) (r : Word) : Word :=
  (List.range w).foldl (fun (x : Word) i => if r.getLsbD i then x ||| (1#32 <<< (w - 1 - i)) else x) 0

/-- `RES` of a register value (21 R799). -/
def ceRes (c : CeCh) (r : Word) : Word :=
  let w := fld c.cfg 5 0
  let v := if bitOf c.cfg 7 then reflect w r else r
  if bitOf c.cfg 8 then v ^^^ BitVec.ofNat 32 (2 ^ w - 1) else v

/-- Set a channel's interrupt request. -/
def ceIrq (s : State) (m : Fin 4) : State := { s with ce.irq := s.ce.irq ||| (1#4 <<< m.val) }

/-- The end of a scan (21 R803). -/
def ceEnd (s : State) (m : Fin 4) (c : CeCh) : State :=
  let v := ceRes c c.r
  let mt := bitOf c.cfg 9 && v == c.exp
  let s := setCe s m { c with res := v, raw := c.r, mtch := mt, state := .idle, done := true, abort := false }
  if bitOf c.cfg 10 || (bitOf c.cfg 9 && v != c.exp) then ceIrq s m else s

/-- The configuration is invalid (21 R800). -/
def ceBad (c : CeCh) : Bool :=
  let w := fld c.cfg 5 0
  w == 0 || decide (32 < w) || decide (2 ^ w ≤ c.poly.toNat) || decide (2 ^ w ≤ c.init.toNat)

/-- `ABORT`: a burst in progress may finish first (21 R805). -/
def ceAbort (s : State) (m : Fin 4) : State :=
  let c := s.ce.ch[m]
  match c.state with
  | .busy => setCe s m { c with abort := true }
  | .fault => setCe s m { c with state := .idle }
  | .idle => s

/-! ## The firmware's scans (21 R810 to R815) -/

/-- A scan begins; one of no bytes ends at once. The second part says whether it has completed (21 R799, R801). -/
def ceLaunch (s : State) (m : Fin 4) : State × Bool :=
  let c := s.ce.ch[m]
  let c := { c with r := if bitOf c.cfg 11 then c.raw else c.init, pos := 0, state := .busy, abort := false }
  if c.len = 0 then (ceEnd s m c, true) else (setCe s m c, false)

/-- A channel set up for CRC-32C with `CMP` (21 Table 21-4). -/
def crcSetup (c : CeCh) (addr : Word) (len : BitVec 24) (exp : Word) : CeCh :=
  { c with cfg := 0x3E0, poly := 0x1EDC6F41, init := 0xFFFFFFFF, addr := addr, len := len, exp := exp }

/-- Channel 0 scans the ROM (21 R810). -/
def romScan (s : State) : State :=
  let e := (List.range 4).map fun i => Config.romByte (0x3FFFC + i)
  (ceLaunch (setCe s 0 (crcSetup s.ce.ch[0] 0 0x3FFFC (BitVec.ofNat 32 (leVal e)))) 0).1

/-- Channel 1 scans the configuration record against its stored area check (21 R811). Where the record lies and how long it is the
spec does not say (log 8): two registers hold free values. -/
def cfgScan (s : State) : State :=
  let (a, s) := takeFree s
  let (l, s) := takeFree s
  let c := crcSetup s.ce.ch[1] a (l.setWidth 24) s.store.record.crc
  { setCe s 1 { c with state := .busy, pos := 0, r := c.init, abort := false } with ce.cfgScan := true }

/-- The firmware's scan of channel 0 or 1 again. -/
def rescan (s : State) (m : Fin 4) : State := if m = 0 then romScan s else cfgScan s

/-- Until a scan of channel 0 has matched, a mismatch is recorded once and stops nothing (21 R814). -/
def startScan (s : State) (m : Fin 4) : Bool := m == 0 && !s.prot.romOk

/-- A scan of channel 0 or 1 has ended in a mismatch or a fault: repeat it at once, and after the second write the incident record
and stop (21 R813, R814). -/
def scanFailed (s : State) (m : Fin 4) : State :=
  if !s.ce.rep.getLsbD m.val then rescan { s with ce.rep := s.ce.rep ||| (1#2 <<< m.val) } m
  else
    let c := s.ce.ch[m]
    let s := { s with ce.rep := s.ce.rep &&& ~~~ (1#2 <<< m.val) }
    let data := [BitVec.ofNat 8 m.val, 0, 0, 0] ++ leBytes 4 c.res.toNat ++ leBytes 4 c.exp.toNat
    if startScan s m then
      if s.ce.romInc then s else jrnPut { s with ce.romInc := true } true 0x0F data
    else fwStop (jrnFlushInc (jrnPut s true 0x0F data)) (BitVec.ofNat 32 (0xC000 + m.val))

/-- A scan of channel 0 or 1 has ended: a completed one is counted, and is a mismatch when `CMP` was 1 and the result differs (21
R803, R813 to R815). -/
def scanEnded (s : State) (m : Fin 4) (completed : Bool) : State :=
  let c := s.ce.ch[m]
  let ok := completed && (c.mtch || !bitOf c.cfg 9)
  let s := if completed then
      { s with ce.scans := s.ce.scans + 1, ce.mism := if ok then s.ce.mism else s.ce.mism + 1 }
    else s
  if ok then
    { s with ce.rep := s.ce.rep &&& ~~~ (1#2 <<< m.val), prot.romOk := s.prot.romOk || (m == 0 && c.mtch) }
  else scanFailed s m

/-- After the end of a firmware channel's scan. -/
def scanHook (s : State) (m : Fin 4) (completed : Bool) : State := if m.val < 2 then scanEnded s m completed else s

/-- `START`: accepted in IDLE and FAULT (21 R799 to R801, R804). -/
def ceStart (s : State) (m : Fin 4) : State :=
  let c := s.ce.ch[m]
  if c.state == .busy then s
  else if ceBad c then scanHook (setCe s m { c with state := .fault, fsub := 9 }) m false
  else
    let (t, ended) := ceLaunch s m
    if ended then scanHook t m true else t

/-! ## Writes -/

/-- A write to a DMA channel register (20 Table 20-11, R778). In one `DMA_CTL` write `ABORT` acts first, then `RESUME`, then
`START`. -/
def dmaWrite (s : State) (n : Fin 8) (off : Nat) (v : Word) : State :=
  let idle := s.dma.ch[n].state == .idle
  match off with
  | 0x00 =>
    let s := if bitOf v 1 then dmaAbort s n else s
    let s := if bitOf v 2 then dmaResume s n else s
    if bitOf v 0 then dmaStart s n else s
  | 0x04 => if idle && bitOf v 3 then setCh s n { s.dma.ch[n] with done := false } else s
  | 0x08 => if idle then setCh s n { s.dma.ch[n] with desc := v } else s
  | _ => s

/-- A write to a check-engine channel register (21 Table 21-1, R797). -/
def ceWrite (s : State) (m : Fin 4) (off : Nat) (v : Word) : State :=
  let c := s.ce.ch[m]
  let busy := c.state == .busy
  match off with
  | 0x00 =>
    let s := if bitOf v 1 then ceAbort s m else s
    if bitOf v 0 then ceStart s m else s
  | 0x04 => if busy then s else setCe s m { c with cfg := v &&& 0xFFF#32 }
  | 0x08 => if busy then s else setCe s m { c with poly := v }
  | 0x0C => if busy then s else setCe s m { c with init := v }
  | 0x10 => if busy then s else setCe s m { c with addr := v }
  | 0x14 => if busy then s else setCe s m { c with len := v.setWidth 24 }
  | 0x18 => if busy then s else setCe s m { c with exp := v }
  | 0x24 => if !busy && bitOf v 2 then setCe s m { c with done := false } else s
  | _ => s

/-- A region after a write to one of its registers (20 Table 20-3). -/
def rgnWrite (applet : Bool) (r : Region) (off : Nat) (v : Word) : Region :=
  match off with
  | 0x0 => { r with va := v &&& 0xFFFFFF0F#32 }
  | 0x4 => { r with last := v &&& 0xFFFFFF00#32 }
  | 0x8 => if applet then { r with pa := v &&& 0xFFFFFF00#32 } else r
  | _ => r

/-- A write to the protection unit (20 Tables 20-3, 20-4): `FLOCK` locks `FEN` and the firmware partition. -/
def mpuWrite (s : State) (off : Nat) (v : Word) : State :=
  if off < 0x100 then
    if s.mpu.flock then s
    else
      let i := Fin.ofNat 16 (off / 16)
      { s with mpu.fw := s.mpu.fw.set i (rgnWrite false s.mpu.fw[i] (off % 16) v) }
  else if off < 0x200 then
    let i := Fin.ofNat 16 (off / 16)
    { s with mpu.ap := s.mpu.ap.set i (rgnWrite true s.mpu.ap[i] (off % 16) v) }
  else
    { s with mpu.fen := if s.mpu.flock then s.mpu.fen else bitOf v 0, mpu.flock := s.mpu.flock || bitOf v 1 }

/-- A word written to a peripheral register; none is an error response (20 R756). The registers that FW 4.2 keeps to itself
take writes without a stated effect (log 11). -/
def periWrite (s : State) (a : Nat) (v : Word) : Option State :=
  if !inKnown a then some s
  else if (knownReg s a).isNone then none
  else
    let off := a % 0x1000
    if a / 0x1000 = 0x40005 then
      if off < 0x800 then some (dmaWrite s (Fin.ofNat 8 (off / 0x100)) (off % 0x100) v)
      else if off = 0x800 then some { s with dma.irq := s.dma.irq &&& ~~~ (v.setWidth 8) }
      else some { s with dma.fnew := s.dma.fnew &&& ~~~ (v.setWidth 8) }
    else if a / 0x1000 = 0x40006 then
      if off < 0x400 then some (ceWrite s (Fin.ofNat 4 (off / 0x100)) (off % 0x100) v)
      else some { s with ce.irq := s.ce.irq &&& ~~~ (v.setWidth 4) }
    else some (mpuWrite s off v)

/-- A physical write of bytes at an address aligned to their number; `fw`: the core in firmware mode issues it (20 R753 to
R756). -/
def busWrite (s : State) (fw : Bool) (a : Nat) (b : List Byte) : Except BusErr State :=
  if inRom a then .error 1
  else if inSram a then .ok { s with mem := memPuts s.mem a b }
  else if inStore a then
    if !fw || inFactory a then .error 1
    else if openStore a then .ok (openPuts s a b)
    else .ok { s with mem := memPuts s.mem a b }
  else if inPeri a then
    if b.length ≠ 4 then .error 1
    else
      match periWrite s a (BitVec.ofNat 32 (leVal b)) with
      | some t => .ok t
      | none => .error 1
  else .error 0

/-! ### The SRAM port that DMA and the check engine share (20 R757) -/

/-- The lowest-numbered channel that satisfies a test. -/
def lowestCh (s : State) (f : DmaCh → Bool) : Option (Fin 8) := (List.finRange 8).find? fun n => f s.dma.ch[n]

/-- A channel is ready for the engine (20 R783). -/
def dmaReadyCh (c : DmaCh) : Bool := c.state == .run || (c.state == .wait && c.req)

/-- The next BUSY channel after the one that held the last burst (21 R808). -/
def ceNext (s : State) : Option (Fin 4) :=
  [1, 2, 3, 4].findSome? fun d =>
    let m := Fin.ofNat 4 (s.ce.lastCh.val + d)
    if s.ce.ch[m].state == .busy then some m else none

/-- The next DMA burst reads or writes SRAM. -/
def dmaSram (s : State) : Bool :=
  match lowestCh s fun c => dmaReadyCh c || c.state == .aborting with
  | none => false
  | some n =>
    let at_ (a : Word) (perm : Nat) : Bool := match dmaAddr s n a.toNat perm with | .ok p => inSram p | .error _ => false
    at_ s.dma.ch[n].src 1 || at_ s.dma.ch[n].dst 2

/-- The next check-engine burst reads SRAM. -/
def ceSram (s : State) : Bool :=
  match ceNext s with
  | none => false
  | some m =>
    if m = 1 ∧ s.ce.cfgScan = true then false else
    let a := (s.ce.ch[m].addr.toNat + s.ce.ch[m].pos) % 2 ^ 32
    if m.val < 2 then inSram a else match mpuCheck s true a 1 with | .ok p => inSram p | .error _ => false

/-- Both ask for the port, and this one had the last burst. -/
def portTaken (s : State) (dma : Bool) : Bool := dmaSram s && ceSram s && s.dma.sramLast == some dma

/-- Note who has the port. -/
def notePort (s : State) (dma : Bool) : State :=
  if if dma then dmaSram s else ceSram s then { s with dma.sramLast := some dma } else s

end Sys2Proof.Machine
end

