-- ==== Sys2Proof/Machine/LineCode.lean ====
section
/-! DEFINITION. The line codes (10 R345 to R351): 4B5B groups in NRZI on EL2, Manchester with its two violations on EL1; what a
frame looks like on the pair, and how what comes in is read. -/

namespace Sys2Proof.Machine

open Sys2Proof

/-! ### EL2 (10 Table 10-3) -/

/-- The data groups of the nibbles 0x0 to 0xF, left bit first (10 Table 10-3). -/
def dataGroups : List (BitVec 5) :=
  [0b11110, 0b01001, 0b10100, 0b10101, 0b01010, 0b01011, 0b01110, 0b01111,
   0b10010, 0b10011, 0b10110, 0b10111, 0b11010, 0b11011, 0b11100, 0b11101]

/-- I, of which the preamble consists. -/
def grpI : BitVec 5 := 0b11111
/-- J, the first group of the start delimiter. -/
def grpJ : BitVec 5 := 0b11000
/-- K, its second group. -/
def grpK : BitVec 5 := 0b10001
/-- T, the first group of the end delimiter. -/
def grpT : BitVec 5 := 0b01101
/-- R, the second group of a crust. -/
def grpR : BitVec 5 := 0b00111
/-- H, the second group of a burnt crust. -/
def grpH : BitVec 5 := 0b00100

/-- The group of a nibble. -/
def groupOf (n : BitVec 4) : BitVec 5 := dataGroups.getD n.toNat 0

/-- The position of a group in a list of data groups. -/
def groupAt (g : BitVec 5) : List (BitVec 5) → Nat → Option Nat
  | [], _ => none
  | h :: t, i => if h = g then some i else groupAt g t (i + 1)

/-- The nibble of a data group; `none` for every other group (10 R349). -/
def nibbleOf (g : BitVec 5) : Option (BitVec 4) := (groupAt g dataGroups 0).map (BitVec.ofNat 4)

/-- A byte as two data groups, low nibble first (10 R346). -/
def byteGroups (b : Byte) : List (BitVec 5) := [groupOf (b.setWidth 4), groupOf ((b >>> 4).setWidth 4)]

/-- The end of an EL2 frame (10 R347). -/
def crustGroups (c : Crust) : List (BitVec 5) :=
  match c with
  | .valid => [grpT, grpR]
  | .burnt => [grpT, grpH]
  | .missing => []

/-- An EL2 frame from its start delimiter on (10 R347). -/
def el2Groups (bytes : List Byte) (c : Crust) : List (BitVec 5) := [grpJ, grpK] ++ bytes.flatMap byteGroups ++ crustGroups c

/-- The code bits of a group, left bit first (10 R345). -/
def groupBits (g : BitVec 5) : List Bool := [g.getLsbD 4, g.getLsbD 3, g.getLsbD 2, g.getLsbD 1, g.getLsbD 0]

/-- NRZI: a code bit of 1 changes the level at the start of its symbol (10 R345). -/
def nrzi : Bool → List Bool → List Bool
  | _, [] => []
  | l, b :: t => (l != b) :: nrzi (l != b) t

/-- The code bits of levels, each symbol against the one before it. -/
def nrziBits : Bool → List Bool → List Bool
  | _, [] => []
  | l, x :: t => (l != x) :: nrziBits x t

/-- Code bits in groups of five. -/
def toGroups : List Bool → List (BitVec 5)
  | a :: b :: c :: d :: e :: t =>
    (BitVec.ofBool a ++ BitVec.ofBool b ++ BitVec.ofBool c ++ BitVec.ofBool d ++ BitVec.ofBool e) :: toGroups t
  | _ => []

/-- Read data groups up to the end delimiter: the bytes, the crust and whether a code error was seen. `low` is the nibble of a byte
still incomplete. A group that is no data group, or a control group out of its place, is a code error (10 R349). -/
def readGroups : List (BitVec 5) → Option (BitVec 4) → List Byte → Bool → List Byte × Crust × Bool
  | [], _, acc, _ => (acc.reverse, .missing, true)
  | g :: t, low, acc, err =>
    if g = grpT then
      if t.head? = some grpR then (acc.reverse, .valid, err || low.isSome)
      else if t.head? = some grpH then (acc.reverse, .burnt, err || low.isSome)
      else (acc.reverse, .missing, true)
    else
      let err := err || (nibbleOf g).isNone
      let n := (nibbleOf g).getD 0
      match low with
      | none => readGroups t (some n) acc err
      | some l => readGroups t none ((n ++ l) :: acc) err

/-- Read an EL2 frame from its start delimiter on. -/
def readEl2 (gs : List (BitVec 5)) : List Byte × Crust × Bool :=
  readGroups (gs.drop 2) none [] (gs.take 2 != [grpJ, grpK])

/-! ### EL1 (10 R350, R351) -/

/-- A bit time as the levels of its two halves: a 0 is high then low, a 1 low then high (10 R350). -/
def manchester (b : Bool) : Bool × Bool := (!b, b)

/-- V1, a bit time held high. -/
def cellV1 : Bool × Bool := (true, true)
/-- V0, a bit time held low. -/
def cellV0 : Bool × Bool := (false, false)

/-- The bits of a byte, least significant first. -/
def byteBits (b : Byte) : List Bool := (List.range 8).map b.getLsbD

/-- The byte of eight bits, least significant first. -/
def bitsByte (l : List Bool) : Byte := BitVec.ofNat 8 (l.foldr (fun b n => 2 * n + b2n b) 0)

/-- The end of an EL1 frame (10 R351). -/
def crustCells (c : Crust) : List (Bool × Bool) :=
  match c with
  | .valid => [cellV0, cellV1]
  | .burnt => [cellV0, cellV0, cellV1]
  | .missing => []

/-- An EL1 frame from its start delimiter on (10 R351). -/
def el1Cells (bytes : List Byte) (c : Crust) : List (Bool × Bool) :=
  [cellV1, cellV0] ++ (bytes.flatMap byteBits).map manchester ++ crustCells c

/-- Levels in pairs. -/
def toCells : List Bool → List (Bool × Bool)
  | a :: b :: t => (a, b) :: toCells t
  | _ => []

/-- Bits in bytes. -/
def toBytes : List Bool → List Byte
  | a :: b :: c :: d :: e :: f :: g :: h :: t => bitsByte [a, b, c, d, e, f, g, h] :: toBytes t
  | _ => []

/-- Read bit times up to the end delimiter: a V0 begins it; a V1 before it is a code error. -/
def readCells : List (Bool × Bool) → List Bool → Bool → List Byte × Crust × Bool
  | [], acc, _ => (toBytes acc.reverse, .missing, true)
  | c :: t, acc, err =>
    if c = cellV0 then
      let err := err || decide (acc.length % 8 ≠ 0)
      if t.head? = some cellV1 then (toBytes acc.reverse, .valid, err)
      else if t.take 2 = [cellV0, cellV1] then (toBytes acc.reverse, .burnt, err)
      else (toBytes acc.reverse, .missing, true)
    else readCells t (if c = cellV1 then acc else c.2 :: acc) (err || c == cellV1)

/-- Read an EL1 frame from its start delimiter on. -/
def readEl1 (cs : List (Bool × Bool)) : List Byte × Crust × Bool :=
  readCells (cs.drop 2) [] (cs.take 2 != [cellV1, cellV0])

/-! ### Frames on the pair -/

/-- The levels of a frame from its start delimiter on, one for each symbol of EL2 or half bit of EL1; on EL2 `l` is the level of the
last preamble symbol. -/
def frameLevels (g : Gen) (l : Bool) (bytes : List Byte) (c : Crust) : List Bool :=
  match g with
  | .el2 => nrzi l ((el2Groups bytes c).flatMap groupBits)
  | .el1 => (el1Cells bytes c).flatMap fun x => [x.1, x.2]

/-- The levels of an originated preamble: four I groups, or sixteen bits 1, 0, …, 1, 0 (10 R347, R351). -/
def preambleLevels (g : Gen) (l : Bool) : List Bool :=
  match g with
  | .el2 => nrzi l ((List.replicate 4 grpI).flatMap groupBits)
  | .el1 => (List.replicate 8 [true, false]).flatten.flatMap fun b => [!b, b]

/-- What a receiver makes of the levels that came in (10 R345 to R351; 11 R387). -/
def readLine (r : LineFrame) : RawFrame :=
  let x := match r.gen with
    | .el2 => readEl2 (toGroups (nrziBits r.idle r.levels))
    | .el1 => readEl1 (toCells r.levels)
  { gen := r.gen, bytes := x.1, crust := x.2.1, codeErr := x.2.2 }

end Sys2Proof.Machine
end

