-- ==== Sys2Proof/Machine/Line.lean ====
section
/-! DEFINITION. What a port puts on its pair: generations, line times, frames, crusts, conversions (10, 11). -/

namespace Sys2Proof.Machine

open Sys2Proof

/-! ### Generations -/

/-- The generation a port transmits: as set, or with FOLLOW that of the last frame with a valid crust, EL1 before the first
(10 R335, R337). -/
def txGen (u : PortUnit) : Gen :=
  if u.gen = 1 then .el1 else if u.gen = 2 then .el2 else u.rx.getD .el1

/-- `SGEN` or `NGEN`. -/
def genField (c : CfgRegs) (p : Port) : BitVec 2 :=
  match p with
  | .south => BitVec.ofNat 2 (fld c.linkCfg 2 1)
  | .north => BitVec.ofNat 2 (fld c.linkCfg 5 4)

/-- The code of a generation in `LINK_STAT` and in the ENUM reply. -/
def genCode (g : Gen) : Nat := match g with | .el1 => 1 | .el2 => 2

/-- `LINK_STAT` (10 Table 10-2). -/
def linkStat (s : State) : Word :=
  let rx (u : PortUnit) : Nat := match u.rx with | none => 0 | some g => genCode g
  BitVec.ofNat 32 (genCode (txGen s.sp) + 4 * genCode (txGen s.np) + 16 * rx s.sp + 64 * rx s.np + 256 * b2n s.sup.vport
    + 65536 * s.sp.cerr.toNat + 16777216 * s.np.cerr.toNat)

/-- Change a port; a change of its generation makes the calibration invalid (11 R403), one in progress as well. -/
def setPortGen (s : State) (p : Port) (u : PortUnit) : State :=
  let same := txGen (portOf s p) == txGen u
  let s := setPort s p u
  if same then s
  else
    let s := { s with chn.daNew := none }
    if s.chn.calValid then loseAlign { s with chn.calValid := false } else s

/-- The frame of this type with this `LSEQ` has left the device; a retransmission of it may still wait. -/
def frameGone (s : State) (type : BitVec 4) (n : Byte) : Bool :=
  let it (f : Frame) : Bool := f.type == type && f.lseq == n && !f.rtx
  let onAir (u : PortUnit) : Bool := match u.txNow with
    | some f => it f && decide (s.now < u.txEnd)
    | none => false
  !s.sp.txq.any it && !s.np.txq.any it && !onAir s.sp && !onAir s.np

/-- The REPLY with this `LSEQ` has left the device. -/
def replyGone (s : State) (n : Byte) : Bool := frameGone s 2 n

/-- A written generation takes effect at the first frame after the reply to the write has left (10 R338). -/
def latchGen (s : State) (p : Port) : State :=
  let u := portOf s p
  match u.genDue with
  | none => s
  | some n => if replyGone s n then setPortGen s p { u with gen := genField s.cfg p, genDue := none } else s

/-! ### Line times (10 Tables 10-3, 10-5; R346, R347, R350, R351) -/

/-- ct in `n` ns, rounded down. -/
def nsCt (n : Nat) : Nat := n * 24576 / 125000

/-- Preamble, in ns. -/
def preambleNs (g : Gen) : Nat := match g with | .el1 => 8000 | .el2 => 800

/-- An end delimiter, in ns (10 Table 10-5). -/
def crustNs (g : Gen) (c : Crust) : Nat :=
  match g, c with
  | _, .missing => 0
  | .el1, .valid => 1000
  | .el1, .burnt => 1500
  | .el2, _ => 400

/-- From the first symbol of the start delimiter to the end of the end delimiter, in ns, for `n` bytes. -/
def bodyNs (g : Gen) (n : Nat) (c : Crust) : Nat :=
  (match g with | .el1 => 1000 + 4000 * n | .el2 => 400 + 400 * n) + crustNs g c

/-- Turnaround of a pair that a received frame has released (10 Table 10-5, R352). -/
def turnNs (g : Gen) : Nat := match g with | .el1 => 5000 | .el2 => 1000

/-- Gap between frames in one direction (10 Table 10-5). -/
def gapNs (g : Gen) : Nat := match g with | .el1 => 4000 | .el2 => 960

/-- Bytes between the delimiters. -/
def frameLen (g : Gen) (f : Frame) : Nat := 6 + f.payload.length + (match g with | .el1 => 2 | .el2 => 4)

/-- Line time of a frame in ct behind a preamble of `lead` ns. -/
def frameCt' (g : Gen) (f : Frame) (c : Crust) (lead : Nat) : Nat := nsCt (lead + bodyNs g (frameLen g f) c)

/-! ### Frames as bytes (11 Table 11-1, R379 to R382) -/

/-- Header and payload. -/
def frameBody (f : Frame) : List Byte :=
  [f.flt ++ f.type, BitVec.ofBool f.crumb ++ f.dst, BitVec.ofNat 8 f.src.toNat, f.lseq] ++
    leBytes 2 (f.payload.length + 512 * b2n f.rtx + 1024 * b2n f.cv) ++ f.payload

/-- The frame check of a generation. -/
def frameCheck (g : Gen) (body : List Byte) : List Byte :=
  match g with
  | .el1 => leBytes 2 (crc16 body).toNat
  | .el2 => leBytes 4 (crc32 body).toNat

/-- Read header and payload. -/
def parseBody (b : List Byte) : Frame where
  type := BitVec.ofNat 4 (byteAt b 0)
  flt := BitVec.ofNat 4 (byteAt b 0 / 16)
  dst := BitVec.ofNat 7 (byteAt b 1)
  crumb := decide (128 ≤ byteAt b 1)
  src := BitVec.ofNat 7 (byteAt b 2)
  lseq := b.getD 3 0
  rtx := byteAt b 5 / 2 % 2 == 1
  cv := byteAt b 5 / 4 % 2 == 1
  payload := (b.drop 6).take (leAt b 4 2 % 512)

/-- Validation (11 R380, R387): a crust, no code error, `LEN` at most 256 and equal to the byte count, the check. -/
def validate (r : RawFrame) : Option Frame :=
  let c := match r.gen with | .el1 => 2 | .el2 => 4
  let n := r.bytes.length
  let len := leAt r.bytes 4 2 % 512
  let body := r.bytes.take (n - c)
  if r.crust = .valid ∧ r.codeErr = false ∧ len ≤ 256 ∧ n = 6 + len + c ∧ r.bytes.drop (n - c) = frameCheck r.gen body then
    some (parseBody body)
  else none

/-! ### Fields a device forms when a frame leaves -/

/-- Types whose `FLT` a relay south and the originator fill: REPLY, CELLSET, FAULT, SUMMARY, NTCSET (11 R392). -/
def isNoun (t : BitVec 4) : Bool := t == 2 || t == 3 || t == 4 || t == 0xB || t == 0xC

/-- TICK, BEAT, CANCEL. -/
def isTime (t : BitVec 4) : Bool := t == 5 || t == 6 || t == 7

/-- `TTX` and `TTXF` of a time frame whose first symbol leaves `lead` ns from now (05 R141, 11 Table 11-6). -/
def stampTtx (s : State) (lead : Nat) (f : Frame) : Frame :=
  if f.type = 5 ∨ f.type = 6 then
    let t := s.tim.cnt + nsCt lead
    { f with payload := leBytes 4 (t / 24) ++ [BitVec.ofNat 8 (byteAt f.payload 4 / 32 * 32 + t % 24)] ++ f.payload.drop 5 }
  else f

/-- A frame of this device as it leaves in a generation, behind a preamble of `lead` ns (05 R141; 09 R310, R311; 11 R411, R430,
Table 11-1). -/
def formOwn (s : State) (g : Gen) (f : Frame) (lead : Nat) : Frame :=
  let f := stampTtx s lead f
  { f with flt := if isTime f.type then anchorFlt s else if isNoun f.type then ownFlt s else 0,
           crumb := f.crumb && g == .el2 }

/-- Add to `RES` of a TICK, BEAT or CAL (11 R393). -/
def addRes (f : Frame) (n : Nat) : Frame :=
  let i := if f.type = 9 then 9 else 24
  if (f.type = 5 ∨ f.type = 6 ∨ f.type = 9) ∧ i + 3 ≤ f.payload.length then
    { f with payload := f.payload.take i ++ leBytes 3 (leAt f.payload i 3 + n) ++ f.payload.drop (i + 3) }
  else f

/-- A copy going south carries this device's own conditions (11 R392). -/
def orFlt (s : State) (out : Port) (f : Frame) : Frame :=
  if isNoun f.type && out == .south then { f with flt := f.flt ||| ownFlt s } else f

/-- A copy as it leaves by store and forward (11 R386, R392, R393). -/
def formCopy (s : State) (out : Port) (w : FwdFrame) (g : Gen) : Frame :=
  let f := orFlt s out w.frame
  let f := addRes f (s.now - w.endAt + nsCt (bodyNs w.gen (frameLen w.gen f) .valid) + nsCt (preambleNs g))
  match w.gen, g with
  | .el2, .el1 => { f with crumb := false }
  | .el1, .el2 => { f with cv := true }
  | _, _ => f

/-- The relay spoils its copy of an ENUM that asks for its own address (11 R396). -/
def spoils (s : State) (from_ : Port) (f : Frame) : Bool :=
  f.type == 8 && from_ == .south && f.payload.length == 2 && byteAt f.payload 0 == s.chn.addr.toNat

/-! ### Starting -/

/-- The port can transmit: in ACTIVE or STANDBY, enabled, operational (10 R340, R343, R344; 23 Table 23-2). -/
def portLive (s : State) (p : Port) : Bool := active s && s.sup.vport && portEnabled s p && (portOf s p).up

/-- The port transmits. -/
def transmitting (s : State) (u : PortUnit) : Bool := u.relaying || u.brkOut || decide (s.now < u.txEnd)

/-- Nothing is detected on the pair: no frame, burst or break (10 R352). -/
def pairQuiet (s : State) (u : PortUnit) : Bool := !u.rxBusy && !u.brkIn && decide (u.rxBurst ≤ s.now)

/-- R352 lets the port start: it sends nothing, nothing is detected on its pair, and the turnaround has passed. -/
def lineFree (s : State) (p : Port) : Bool :=
  let u := portOf s p
  !transmitting s u && pairQuiet s u && decide (u.freeAt ≤ s.now)

/-- A port puts a frame on the line, behind a preamble of `lead` ns, with a crust or a burnt one. A frame that carries the own
conditions south ends the timer of 09 R312. -/
def putOnLine (s : State) (p : Port) (f : Frame) (c : Crust) (lead : Nat) : State :=
  let u := portOf s p
  let g := txGen u
  let stop := s.now + frameCt' g f c lead
  let s := setPort s p { u with txNow := some f, txAs := g, txEnd := stop, endOut := some c, alarmTx := false, burstTx := false,
                                txRel := false, freeAt := stop + nsCt (gapNs g) }
  if p = .south ∧ isNoun f.type = true then { s with chn.fltTimer := false } else s

/-- Start an own frame by a port whose written generation is in force (`latchGen`). -/
def startOwn (s : State) (p : Port) (f : Frame) : State :=
  let g := txGen (portOf s p)
  putOnLine s p (formOwn s g f (preambleNs g)) .valid (preambleNs g)

/-- The port may send frames: it is live, and enumeration has reached the device (04 Table 4-3, R112). -/
def sendLive (s : State) (p : Port) : Bool := portLive s p && s.chn.addr != 0x7F

/-- Start a copy of a tick frame or beat whose first symbol leaves both ports `lead` ns from now (11 R407). -/
def startTime (s : State) (p : Port) (f : Frame) (lead : Nat) : State :=
  if sendLive s p then putOnLine s p (formOwn s (txGen (portOf s p)) f lead) .valid lead else s

/-- Let a frame wait before the others. Nothing waits at a port that may not send. -/
def waitTx (s : State) (p : Port) (f : Frame) : State :=
  if sendLive s p then setPort s p { portOf s p with txq := f :: (portOf s p).txq } else s

/-- Start an own frame where the line is free; otherwise it waits before the others. Nothing leaves by a port that may
not send. -/
def startOrWait (s : State) (p : Port) (f : Frame) : State :=
  if !sendLive s p then s
  else if lineFree s p then startOwn (latchGen s p) p f
  else waitTx s p f

/-- The levels that a port's present frame puts on its pair, from its start delimiter on (10 R345 to R351). -/
def lineOut (s : State) (p : Port) : List Bool :=
  let u := portOf s p
  match u.txNow, u.endOut with
  | some f, some c =>
    if decide (s.now < u.txEnd) && !u.burstTx then
      let b := frameBody f
      frameLevels u.txAs false (b ++ frameCheck u.txAs b) c
    else []
  | _, _ => []

end Sys2Proof.Machine
end

