-- ==== Sys2Proof/Machine/Phase.lean ====
section
/-! DEFINITION. The phase tracker, the schedule, ticks and strobes (05; 11 for the frames). -/

namespace Sys2Proof.Machine

open Sys2Proof

/-! ### Ticks and cancellation -/

/-- The tick still lies at least 2 µs ahead (05 R165, R168). -/
def inTime (s : State) (inst : Word) : Bool := decide (ctAhead s inst ≥ (usCt 2 : Nat) + 1)

/-- The bit of a tick number in the cancellation history, which reaches back 32 ticks so that a frame of an earlier tick still
has the 16 before it (05 R167, 11 Table 11-6). -/
def maskBit (next tseq : BitVec 16) : BitVec 32 :=
  let i := (next - 1 - tseq).toNat
  if i < 32 then 1#32 <<< i else 0

/-- The anchor cancels its pending ticks for a reason: those too near to stop are marked instead (05 R166 to R168). -/
def cancelTicks (s : State) (reason : Byte) : State :=
  { s with sch.passed := 0, sch.cmask := s.sch.ticks.foldl (fun m t => m ||| maskBit s.sch.tseq t.tseq) s.sch.cmask,
           sch.cancelQ := s.sch.cancelQ ++ (s.sch.ticks.filter (·.sent)).map (fun t => (t.tseq, reason)),
           sch.ticks := (s.sch.ticks.filter fun t => !inTime s t.instant).map fun t => { t with late := true } }

/-! ### Discontinuities (05 Table 5-12) -/

/-- The journal record of a discontinuity: its kind and the new era. -/
def phaseRecord (s : State) (kind : Byte) : State :=
  irqRaise (jrnPut s false 0x46 [kind, BitVec.ofNat 8 (fld s.ph.epoch 31 24)]) 35

/-- SETTLING begins. -/
def settle (s : State) : State := { s with ph.tbase := .settling, ph.settle := 0, sch.passed := 0 }

/-- Set the position; when the short way crosses the cycle boundary, the cycle count follows (05 R897). The points that lie on
that way have been left (R158). -/
def setPos (s : State) (p : Nat) : State :=
  let c := phCycle s
  let d := (p + c - s.ph.pos % c) % c
  let cyc : Int := if d ≤ c - d then (if s.ph.pos % c + d ≥ c then 1 else 0) else (if s.ph.pos % c < c - d then -1 else 0)
  let s := if d ≤ c - d then leavePoints s s.ph.pos d else leavePoints s ((p + 1) % c) (c - d)
  { s with ph.pos := p % c, ph.epoch := addCycles s.ph.epoch cyc }

/-- The short-way distance between the position and another. -/
def posDist (s : State) (p : Nat) : Nat :=
  let c := phCycle s
  let d := (p + c - s.ph.pos % c) % c
  min d (c - d)

/-- A phase jump: pending ticks cancelled, era up, position corrected, SETTLING, a record (05 R150, R153, R170). -/
def phaseJump (s : State) : State :=
  let s := cancelTicks s 2
  let s := setPos { s with ph.epoch := raiseEra s.ph.epoch } s.cfg.phZofs.toNat
  phaseRecord (settle s) 3

/-- A quadrature error (05 R149, R170). -/
def quadError (s : State) : State :=
  let s := cancelTicks s 3
  phaseRecord (settle { s with ph.epoch := raiseEra s.ph.epoch }) 4

/-- One counted edge moves count and position by 1 pu (05 R149) and is one of the stamps of the velocity: 17 stamps are 16
intervals (R155). The stamps are not dropped at a reversal or a stall, so the first velocity after SETTLING reaches back across
it by one interval (log 95). -/
def moveEdge (s : State) (rev : Bool) : State :=
  let c := phCycle s
  let s := leavePoints s s.ph.pos 1
  let s := if rev then
      { s with ph.count := s.ph.count - 1, ph.pos := if s.ph.pos = 0 then c - 1 else s.ph.pos - 1,
               ph.epoch := addCycles s.ph.epoch (if s.ph.pos = 0 then -1 else 0) }
    else
      { s with ph.count := s.ph.count + 1, ph.pos := if s.ph.pos + 1 ≥ c then 0 else s.ph.pos + 1,
               ph.epoch := addCycles s.ph.epoch (if s.ph.pos + 1 ≥ c then 1 else 0) }
  { s with ph.edges := (s.tim.cnt :: s.ph.edges).take 17, ph.savePos := s.ph.pos, ph.saveEpoch := s.ph.epoch }

/-- The first edge after a stall ends hold-over (05 R896): position and cycle count return to those of the last counted
edge, the era rises. Where no edge has been counted since the mode started, or `PH_CYCLE` has been shortened since, the spec
names no value to return to; the model takes those it holds (log 96). -/
def endHoldover (s : State) : State :=
  let e := (raiseEra s.ph.epoch &&& 0xFF000000#32) ||| (s.ph.saveEpoch &&& 0x00FFFFFF#32)
  phaseRecord (settle { s with ph.pos := s.ph.savePos, ph.epoch := e }) 2

/-- A reversal: the first count opposite to `DIR` (05 R170). -/
def reversal (s : State) (rev : Bool) : State :=
  settle (cancelTicks { s with ph.rev := rev } 1)

/-- Count an edge toward the end of SETTLING: 16 in one direction (05 R170). -/
def settleEdge (s : State) (rev : Bool) : State :=
  if s.ph.tbase != .settling then s
  else
    let n := if s.ph.settle = 0 || s.ph.settleRev == rev then s.ph.settle + 1 else 1
    { s with ph.settle := n, ph.settleRev := rev, ph.tbase := if n ≥ 16 then .tracking else .settling }

/-- A counted edge. One that itself begins SETTLING, a reversal or the end of a hold-over, is the first of the 16 (log 123). -/
def countEdge (s : State) (rev : Bool) : State :=
  let s := if s.ph.tbase == .holdover then endHoldover s else s
  let s := if rev != s.ph.rev then irqRaise (reversal s rev) 35 else s
  settleEdge (moveEdge s rev) rev

/-- The direction of a step of (`PHA`, `PHB`), true for reverse with `DIR_INV` = 0 (05 R149): `none` where this mode does
not count it. -/
def edgeDir (mode : Nat) (a b a' b' : Bool) : Option Bool :=
  if a != a' then
    if mode = 1 && !a' then none else some (if a' then b else !b)
  else if b != b' then (if mode = 3 then some (if b' then !a else a) else none)
  else none

/-- One more edge, and those of the last 100 ms. -/
def keepEdges (s : State) (l : List Nat) : List Nat := s.now :: l.filter fun t => decide (s.now - t ≤ 100 * ctPerMs)

/-- New levels of `PHA` and `PHB`: every edge is stamped in chain time (05 R148). The rising edges of `PHA` are kept by the tracker
and, apart from it, by the safety monitor's own counter (R136; 16 R631). -/
def stampEdge (s : State) (a b : Bool) : State :=
  let s := if a && !s.ph.a then { s with ph.phaAt := keepEdges s s.ph.phaAt, tq.smEdges := keepEdges s s.tq.smEdges } else s
  { s with ph.stampA := if a != s.ph.a then s.tim.cnt else s.ph.stampA,
           ph.stampB := if b != s.ph.b then s.tim.cnt else s.ph.stampB, ph.a := a, ph.b := b }

/-- A falling edge of `PHZ` is stamped as well (05 R148). -/
def stampFall (s : State) (f : Bool) : State :=
  if f && s.ph.z then { s with ph.stampZ := s.tim.cnt, ph.z := false } else s

/-- New levels of `PHA` and `PHB`, which count in an encoder mode, and whether `PHZ` has fallen. -/
def execEncoderEdge (ab : Bool × Bool) (zFall : Bool) (s : State) : Host.Outcome State Fault Refusal :=
  let a := ab.1
  let b := ab.2
  let a0 := s.ph.a
  let b0 := s.ph.b
  if !active s || !isAnchor s then .next s
  else
  let s := stampFall (stampEdge s a b) zFall
  if !encMode s.cfg then .next s
  else if a != a0 && b != b0 then .next (quadError s)
  else
    match edgeDir (phMode s.cfg) a0 b0 a b with
    | none => .next s
    | some r => .next (countEdge s (r != bitOf s.cfg.phCfg 4))

/-- A rising edge of `PHZ`: stamped in chain time (05 R148), and an index with `INDEX_EN` (R150). One that finds `PHZ` high follows a
fall that no command told (log 135). -/
def execIndexEdge (s : State) : Host.Outcome State Fault Refusal :=
  if !active s || !isAnchor s then .next s
  else
  let s := { s with ph.stampZ := s.tim.cnt, ph.z := true }
  if !encMode s.cfg || !bitOf s.cfg.phCfg 3 then .next s
  else
    let z := s.cfg.phZofs.toNat
    let jump := s.ph.firstIndex || decide (posDist s z > s.cfg.phZtol.toNat)
    let s := { s with ph.firstIndex := false }
    .next (if jump then phaseJump s else setPos s z)

/-- A zero-cross outside 15.38 ms to 22.22 ms, or with a predicted position too far from `PH_ZOFS`, is a jump (05 R153). -/
def zcJump (s : State) (period : Nat) : Bool :=
  decide (period < usCt 15380) || decide (period > usCt 22220)
    || (s.ph.zcPeriod != 0 && decide (posDist s s.cfg.phZofs.toNat > s.cfg.phZtol.toNat))

/-- Count an accepted zero-cross toward the end of SETTLING (05 R170). -/
def settleZc (s : State) : State :=
  if s.ph.tbase != .settling then s
  else { s with ph.settle := s.ph.settle + 1, ph.tbase := if s.ph.settle + 1 ≥ 2 then .tracking else .settling }

/-- A positive-going zero-cross in MAINS mode (05 R151 to R153, R896). One less than 5 ms after the last is ignored. One that
is a phase jump does not count toward the end of SETTLING, and its time is that of the last accepted zero-cross (log 97); one
that ends hold-over is never a jump, leaves the period as it was (log 98) and is the first of the two of SETTLING (log 123). -/
def execZeroCross (s : State) : Host.Outcome State Fault Refusal :=
  let p := s.ph.zcAt.map (s.now - ·)
  if !active s || !isAnchor s then .next s
  else
  let s := stampEdge { s with ph.a := false } true s.ph.b
  if phMode s.cfg != 4 || p.any (· < 5 * ctPerMs) then .next s
  else
    let s1 := { s with ph.zcAt := some s.now, ph.acc := 0 }
    if s.ph.tbase == .holdover then
      let s1 := setPos { s1 with ph.epoch := raiseEra s.ph.epoch } s.cfg.phZofs.toNat
      .next (settleZc (phaseRecord (settle s1) 2))
    else
      match p with
      | none => .next (settleZc (setPos s1 s.cfg.phZofs.toNat))
      | some p =>
        let inRange := decide (usCt 15380 ≤ p) && decide (p ≤ usCt 22220)
        let s1 := { s1 with ph.zcPeriod := if inRange then p else s.ph.zcPeriod }
        .next (if zcJump s p then phaseJump s1 else settleZc (setPos s1 s.cfg.phZofs.toNat))

/-- No counted edge, or no zero-cross, for `PH_STALL` (05 R170). -/
def execPhaseStall (s : State) : Host.Outcome State Fault Refusal :=
  if active s && isAnchor s && phMode s.cfg != 0 && (s.ph.tbase == .tracking || s.ph.tbase == .settling) then
    let s := cancelTicks s 4
    .next (phaseRecord { s with ph.tbase := .holdover, ph.acc := 0 } 1)
  else .next s

/-! ### Fixing an instant -/

/-- Distance in pu from the position to a point in the present direction. -/
def ahead (s : State) (p : Nat) : Nat :=
  let c := phCycle s
  if s.ph.rev && encMode s.cfg then (s.ph.pos % c + c - p % c) % c else (p % c + c - s.ph.pos % c) % c

/-- The predicted ct from now until the point is reached, as a numerator and a denominator, by the velocity of 05 R155; `none`
where there is none. -/
def predictAt (s : State) (p : Nat) : Option (Nat × Nat) :=
  let d := ahead s p
  match cycleCt s with
  | some l => some (d * l - s.ph.acc, phCycle s)
  | none =>
    match s.ph.edges with
    | e :: t =>
      match t.getLast? with
      | some o => some (e * t.length + d * (e - o) - s.tim.cnt * t.length, t.length)
      | none => none
    | [] => none

/-- The effective minimum lead, in 1/125 ct: 1 µs is 24,576 of them (05 R163). -/
def lead125 (s : State) : Nat :=
  max (s.cfg.phLead.toNat * 24576) (if s.sch.tdel = 0 then 0 else s.sch.tdel.toNat * 125 + 20 * 24576)

/-- `PH_STAT.LEADRAISE`: while `PH_LEAD` is less than the tick delivery time and 20 µs (05 R163). -/
def leadRaised (s : State) : Bool := decide (s.cfg.phLead.toNat * 24576 < lead125 s)

/-- The direction field of a point admits the present direction (05 R172). -/
def dirOk (s : State) (pt : Word) : Bool :=
  match fld pt 25 24 with
  | 0 => !s.ph.rev
  | 1 => s.ph.rev
  | _ => true

/-- This pass of a point has been decided (05 R158). -/
def notePass (s : State) (point : Fin 16) : State := { s with sch.passed := s.sch.passed ||| (1#16 <<< point.val) }

/-- Count a skipped point (05 R161, R170). -/
def skipPoint (s : State) (point : Fin 16) : State := notePass { s with ph.skips := satInc s.ph.skips } point

/-- The chain-time counter at the first symbol of a time frame that starts now: the ports start it together, behind the longer
of their preambles (11 R407; 10 Table 10-5). -/
def leadNs (s : State) : Nat :=
  if (portLive s .south && txGen s.sp == .el1) || (portLive s .north && txGen s.np == .el1) then 8000 else 800

/-- The instant in mp for a prediction of `num / den` ct: the first modulator edge at or after it (05 R159). -/
def instantMp (s : State) (num den : Nat) : Nat := (s.tim.cnt * den + num + 24 * den - 1) / (24 * den)

/-- An instant `d` ct from now lies at least the lead after the first symbol of a frame that starts now (05 R160, R163). -/
def leadHolds (s : State) (d : Int) : Bool := decide ((lead125 s * 1000 + leadNs s * 24576 : Nat) ≤ d * 125000)

/-- A point is reached: the position is there, or gets there before the next evaluation, 1 µs from now (05 R158). -/
def pointReached (s : State) (p : Nat) : Bool :=
  ahead s p == 0 || (match predictAt s p with | some (n, d) => decide (n * 125 ≤ 24576 * d) | none => false)

/-- The instant lies too near the previous fixed one (05 R161). -/
def tooNear (s : State) (mp : Nat) : Bool :=
  match s.sch.lastFix with
  | none => false
  | some l => decide (mp < l + 256)

/-- The scheduler evaluates a point (05 R158 to R163, R170 to R172): at the first evaluation that finds it within the lead and
25 µs it fixes the instant. It skips the point, and counts it, when it is reached in SETTLING, where the instant would lie less
than 256 mp after the last, or where its frame could not keep the lead any more (R160; log 99). Until the position has left the
point, later evaluations of the same pass do nothing. -/
def execInstantFix (point : Fin 16) (s : State) : Host.Outcome State Fault Refusal :=
  let pt := s.cfg.phPoint[point]
  if !active s || !isAnchor s || s.tq.conflict || !bitOf pt 31 || !dirOk s pt || s.sch.passed.getLsbD point.val then .next s
  else if s.ph.tbase == .settling then .next (if pointReached s (fld pt 23 0) then skipPoint s point else s)
  else
    match predictAt s (fld pt 23 0) with
    | none => .next s
    | some (num, den) =>
      if num * 125 > (lead125 s + 25 * 24576) * den then .next s
      else
        let mp := instantMp s num den
        if tooNear s mp || !leadHolds s ((mp : Int) * 24 - s.tim.cnt) then .next (skipPoint s point)
        else
          let inst : Word := BitVec.ofNat 32 mp
          let t : Tick := { tseq := s.sch.tseq, instant := inst, point := BitVec.ofNat 4 point.val,
                            hold := s.ph.tbase == .holdover, sent := false, late := false }
          let s := { s with sch.ticks := s.sch.ticks ++ [t], sch.tseq := s.sch.tseq + 1, sch.cmask := s.sch.cmask <<< 1,
                            sch.lastFix := some mp, sch.log := (t.tseq, s.now + (mp * 24 - s.tim.cnt)) :: s.sch.log.take 65535 }
          .next (irqRaise (blankForTick (notePass s point)) 36)

/-! ### The anchor's frames (11 Table 11-6) -/

/-- A hop between this device and a neighbour runs EL1 in some direction, as far as its own port shows. -/
def ownHopEl1 (s : State) : Bool :=
  let el1 (u : PortUnit) : Bool := txGen u == .el1 || u.rx == some .el1
  (decide (1 < s.chn.addr.toNat) && el1 s.sp) || (decide (s.chn.addr.toNat < s.chn.top.toNat) && el1 s.np)

/-- The chain has an EL1 hop (11 R417): of the hops beyond its neighbours the anchor knows what its calibration, or before one
the enumeration, has shown (log 100). -/
def chainEl1 (s : State) : Bool := s.chn.el1 || ownHopEl1 s

/-- Payload of the largest record of a kind: CELLSET of 18 wells, SUMMARY, NTCSET. -/
def recordLen (kind : BitVec 2) : Nat := if kind = 0 then 80 else if kind = 1 then 24 else 40

/-- Slot length in 40 ns (11 R423, Examples 11-1 and 11-2). -/
def windowSlot (s : State) (kind : BitVec 2) : Nat :=
  let p := recordLen kind
  if chainEl1 s then 25 * (4 * (8 + p) + 10 + 4 + 4) else 10 * (10 + p) + 64

/-- Window start after `TTX` in 40 ns for an anchor that is the head (11, under R423). -/
def windowOfsHead (s : State) : Nat := if chainEl1 s then 5274 else 584

/-- The least window start in 40 ns at which no slot frame can meet a tick frame, for an anchor that is not the head (11 R423):
every device has the tick frame, and the gap after it, before the first slot begins anywhere on the chain, which is D_H before it
begins at the head (log 18). -/
def windowOfsMin (s : State) : Nat :=
  let far := s.sch.tdel.toNat + (s.chn.dh.toNat + 15) / 16 + s.sch.tdel.toNat
  (far * 125000 / 24576 + 4000) / 40 + 1

/-- Window start: the head's formula; elsewhere any start from the least one on is a choice that the spec leaves the anchor: a
free value, drawn when streaming is set (log 18). -/
def windowOfs (s : State) : Nat × State :=
  if isHead s then (windowOfsHead s, s)
  else
    let (v, s) := takeFree s
    let lo := min 65535 (windowOfsMin s)
    (lo + v.toNat % (65536 - lo), s)

/-- The bytes 26 to 41: the report of the latest strobe that no frame has reported (11 R409). -/
def reportBytes (r : Option StrobeReport) : List Byte :=
  match r with
  | none => List.replicate 15 0
  | some r => [BitVec.ofNat 8 (r.point.toNat + 16 * b2n r.rev + 32)] ++ leBytes 2 r.tseq.toNat ++ leBytes 3 r.pos ++ [0] ++
      leBytes 4 r.count.toNat ++ leBytes 4 r.epoch.toNat

/-- The payload of a tick frame or beat; `TTX`, `FOFS` and `FLEN` are filled in when its first symbol leaves (`formOwn`,
`startPair`). -/
def tickPayload (s : State) (t : Option Tick) (wmode wkind : BitVec 2) (wcount wofs wslot : Nat) : List Byte :=
  let hold := match t with | some t => t.hold | none => false
  let tseq := match t with | some t => t.tseq | none => s.sch.tseq
  let inst := match t with | some t => t.instant | none => 0
  let point := match t with | some t => t.point | none => 0
  let mask := (s.sch.cmask >>> (s.sch.tseq - tseq).toNat).toNat % 65536
  leBytes 4 (s.tim.cnt / 24) ++ [BitVec.ofNat 8 (s.tim.cnt % 24 + 32 * b2n hold), s.chn.ep] ++ leBytes 2 tseq.toNat ++
    leBytes 4 inst.toNat ++ [BitVec.ofNat 8 (point.toNat + 16 * wmode.toNat + 64 * wkind.toNat), BitVec.ofNat 8 wcount] ++
    leBytes 2 mask ++ leBytes 2 wofs ++ leBytes 2 wslot ++ [0, 0, 0, 0, 0, 0, 0] ++
    reportBytes s.sch.report

/-- Send one frame with one `LSEQ` out of both ports (11 R427). -/
def sendBoth (s : State) (type : BitVec 4) (payload : List Byte) : State :=
  let (s, f) := originate s type 0 payload
  startOrWait (startOrWait s .south f) .north f

/-! #### The free interval (11 R412, R414, R415) -/

/-- Rate of the fastest motion that 03 Table 3-2 allows in the configured mode, as ns for `d` pu (11 R414). -/
def fastestNs (s : State) (d : Nat) : Nat :=
  match phMode s.cfg with
  | 1 => d * 1000
  | 2 => d * 500
  | 3 => d * 250
  | 4 => d * 15384615 / phCycle s
  | _ => d * (s.cfg.phHcycle.toNat * 1000000) / phCycle s

/-- Earliest time in ns from now to the next pass of a point whose instant could be fixed (11 R414): time moves the position
steadily in INTERNAL and MAINS mode, where a point whose pass is decided comes again with the next cycle; an encoder may have an
edge at once, and either way. -/
def passNs (s : State) (i : Fin 16) : Nat :=
  let c := phCycle s
  let d := (fld s.cfg.phPoint[i] 23 0 % c + c - s.ph.pos % c) % c
  if encMode s.cfg then fastestNs s (min d (c - d) - 1)
  else
    let d := if s.sch.passed.getLsbD i.val then d + c else d
    match cycleCt s with
    | some l => if l = 0 then 0 else fastestNs s (d * l - s.ph.acc) / l
    | none => fastestNs s d

/-- Time from now in µs up to which a free interval may last: the tick delivery time and 5 µs before the earliest moment at
which the next instant could be fixed (11 R414). -/
def freeLimitUs (s : State) : Nat :=
  let l := (List.finRange 16).filter fun i => bitOf s.cfg.phPoint[i] 31
  let gap := l.foldl (fun m i => min m (passNs s i)) 65535000
  gap / 1000 - (lead125 s / 24576 + 26) - (s.sch.tdel.toNat * 125 / 24576 + 6)

/-- The limit of 11 R415 in ns. -/
def gapLimitNs (s : State) : Nat := if chainEl1 s then 20000000 else 1500000

/-- Line time of a time frame with the gap after it, in µs. -/
def timeFrameUs (s : State) : Nat := if chainEl1 s then 215 else 24

/-- End of a window after `TTX`, in µs. -/
def windowEndUs (wmode : BitVec 2) (wcount wofs wslot : Nat) : Nat :=
  if wmode = 0 then 0
  else if wmode = 2 then (wofs + 2 * wcount * wslot) * 40 / 1000 + 1 else (wofs * 40 + wcount * wslot * 40 + 6560) / 1000 + 1

/-- The latest opportunity that every device has had, or will have by the announced window (11 R415): the start of the free
interval that has begun last; of a TIMED window the top's slot, of a CHAINED one its start. -/
def lastChance (s : State) (lead : Nat) (wmode : BitVec 2) (wcount wofs wslot : Nat) : Nat :=
  let past := if s.chn.freeFrom < s.chn.freeTo ∧ s.chn.freeFrom ≤ s.now then max s.chn.oppAt s.chn.freeFrom else s.chn.oppAt
  if wmode = 0 then past
  else if wmode = 2 then s.now + nsCt (lead + 40 * wofs)
  else s.now + nsCt (lead + 40 * (wofs + (wcount - 1) * wslot) + 6560)

/-- The free interval a time frame announces whose first symbol leaves `lead` ns from now: `FOFS` and `FLEN` in µs. It starts
behind the frame and its window. Where less than 100 µs remain there is none; otherwise start and length are free within what R414
and R415 allow: it starts no later than the longest gap after the last opportunity, where it can, and leaves room for the frame that
announces the next one in time (log 18). -/
def freeInterval (s : State) (lead : Nat) (wmode : BitVec 2) (wcount wofs wslot : Nat) : Nat × Nat × State :=
  let start := max (timeFrameUs s) (windowEndUs wmode wcount wofs wslot)
  let room := min 65535 (freeLimitUs s - (lead + 999) / 1000) - start
  if room < 100 then (0, 0, s)
  else
    let limit := gapLimitNs s / 1000
    let used := (s.now - lastChance s lead wmode wcount wofs wslot) * 125 / 24576 + (lead + 999) / 1000 + 1
    let (v, s') := takeFree s
    let (w, s') := takeFree s'
    let skip := v.toNat % (min (room - 100) (limit - used - start) + 1)
    let len := min (room - skip) (limit - timeFrameUs s - 10)
    (start + skip, 100 + w.toNat % (len - 99), s')

/-- The free interval as `now` values, from a base `now` (11 R412). -/
def setFree (s : State) (base : Nat) (fofs flen : Nat) : State :=
  { s with chn.freeFrom := base + usCt fofs, chn.freeTo := if flen = 0 then base + usCt fofs else base + usCt (fofs + flen) }

/-! #### Starting a time frame -/

/-- A live port is not free. -/
def portBusy (s : State) (p : Port) : Bool := sendLive s p && !lineFree s p

/-- Chain time in ct, below 2^32 mp, at `lead` ns from now. -/
def leaveCt (s : State) (lead : Nat) : Nat := (s.tim.cnt + nsCt lead) % (2 ^ 32 * 24)

/-- A chain time in ct lies after an instant in mp: less than 2^31 mp of the way round (05 R146). -/
def ctAfter (ct : Nat) (inst : Word) : Bool :=
  let d := (ct + 2 ^ 32 * 24 - inst.toNat * 24) % (2 ^ 32 * 24)
  decide (0 < d) && decide (d < 2 ^ 31 * 24)

/-- Results whose instant lies before a time frame that left the anchor at `ttx` are released (05 R169). The anchor, which
validates no such frame of its own, does this when it sends one (log 101). -/
def releaseHeld (s : State) (ttx : Nat) : State :=
  let before (k : Snapshot) : Bool := ctAfter ttx k.instant
  let s := if s.acq.held.any before then svcReleased s else s
  { s with sch.ttx := some ttx, acq.held := s.acq.held.filter fun k => !before k,
           acq.rel := s.acq.rel ++ s.acq.held.filter before }

/-- What the window and interval fields of a time frame's payload say: `WMODE`, `WKIND`, `WCOUNT`, `WOFS`, `WSLOT`. -/
def windowFields (f : Frame) : BitVec 2 × BitVec 2 × Nat × Nat × Nat :=
  (BitVec.ofNat 2 (byteAt f.payload 12 / 16), BitVec.ofNat 2 (byteAt f.payload 12 / 64), byteAt f.payload 13,
    leAt f.payload 16 2, leAt f.payload 18 2)

/-- The window that a time frame announces, for the anchor that sends it (11 R418). -/
def ownWindow (s : State) (f : Frame) (lead : Nat) : State :=
  let (mode, kind, count, ofs, slot) := windowFields f
  if mode = 0 then s
  else
    { s with chn.win := some { mode := mode, kind := kind, count := BitVec.ofNat 8 count, ofs := BitVec.ofNat 16 ofs,
                               slot := BitVec.ofNat 16 slot, start := s.now + nsCt (lead + 40 * ofs), done := false,
                               swept := false },
             chn.winAt := some s.now, chn.winFwd := none }

/-- A tick frame or beat starts now, together on both ports (11 R407): the interval it announces, its window and the release of
results all count from its own first symbol (11 R412, R418; 05 R169). -/
def startPair (s : State) (f : Frame) : State :=
  let lead := leadNs s
  let (mode, _, count, ofs, slot) := windowFields f
  let past := lastChance s lead mode count ofs slot
  let (fofs, flen, s) := freeInterval s lead mode count ofs slot
  let f := { f with payload := f.payload.take 20 ++ leBytes 2 fofs ++ leBytes 2 flen ++ f.payload.drop 24 }
  let s := startTime (startTime s .south f lead) .north f lead
  let s := releaseHeld (ownWindow s f lead) (leaveCt s lead)
  setFree { s with sch.frameAt := s.now, chn.oppAt := past } (s.now + nsCt lead) fofs flen

/-- Send a tick frame or beat: its copies start together on both ports, so while one line is busy both wait (11 R407). -/
def sendPair (s : State) (type : BitVec 4) (payload : List Byte) : State :=
  let (s, f) := originate s type 0 payload
  let s := latchGen (latchGen s .south) .north
  if portBusy s .south || portBusy s .north then waitTx (waitTx s .south f) .north f else startPair s f

/-- Send a tick frame or beat, and drop the report it carries. -/
def sendTime (s : State) (t : Option Tick) (wmode wkind : BitVec 2) (wcount wofs wslot : Nat) : State :=
  let s := sendPair s (if t.isSome then 5 else 6) (tickPayload s t wmode wkind wcount wofs wslot)
  { s with sch.report := none }

/-- The anchor may originate time frames (16 R596), not before the first beat after a wake (23 R870). -/
def mayTime (s : State) : Bool := active s && isAnchor s && !s.tq.conflict && !s.pw.firstBeat

/-- The window announced last is over. -/
def windowOver (s : State) : Bool :=
  match s.chn.win with
  | none => true
  | some w => decide (w.start + usUp (windowEndUs w.mode w.count.toNat 0 w.slot.toNat) ≤ s.now)

/-- A beat is due: no tick frame or beat has left for 5 ms, or the window and the free interval that the last one announced are
over (05 R141, 11 R415). None is formed while a tick frame or beat still waits for its line. -/
def beatDue (s : State) : Bool :=
  (decide (s.sch.frameAt + 5 * ctPerMs ≤ s.now) || (windowOver s && decide (s.chn.freeTo ≤ s.now))) &&
    !(s.sp.txq ++ s.np.txq).any fun f => f.type == 5 || f.type == 6

/-- A beat, when no tick frame or beat has left for 5 ms, or one more for a free interval (05 R141, 11 R415). -/
def execBeatSend (s : State) : Host.Outcome State Fault Refusal :=
  if mayTime s && beatDue s then .next (sendTime s none 0 0 0 0 0) else .next s

/-- The first tick whose frame has not been sent. -/
def unsentTick (l : List Tick) : Option Tick := l.find? fun t => !t.sent

/-- Mark a tick's frame as sent. -/
def markSent (l : List Tick) (n : BitVec 16) : List Tick := l.map fun t => if t.tseq = n then { t with sent := true } else t

/-- A window may be announced: on a chain with an EL1 hop at most one in 50 ms (11 R424). -/
def windowFree (s : State) : Bool :=
  !chainEl1 s || (match s.chn.winAt with | some t => decide (50 * ctPerMs ≤ s.now - t) | none => true)

/-- A setting applies to a tick: the tick was fixed after the `CHAIN_STREAM` that made it (14 R541). -/
def setApplies (x : StreamSet) (t : Tick) : Bool := decide (0 ≤ (t.tseq - x.from_).toInt)

/-- The settings of `CHAIN_STREAM` that have come due with a tick take effect, the latest last (14 R541). -/
def takeSettings (s : State) (t : Tick) : State :=
  match (s.chn.setq.filter (setApplies · t)).getLast? with
  | none => s
  | some x => { s with chn.m := x.m, chn.kind := x.kind, chn.wofs := x.wofs, chn.ticksSince := 0,
                       chn.setq := s.chn.setq.filter fun y => !setApplies y t }

/-- The window start for a tick frame sent now: a change of generation on the chain since streaming was set may call for a later
one (11 R423). -/
def wofsNow (s : State) : Nat := if isHead s then windowOfsHead s else max s.chn.wofs (min 65535 (windowOfsMin s))

/-- Send the frame of a tick; every m-th announces a window (11 before R417, R424). -/
def sendTick (s : State) (t : Tick) : State :=
  let s := takeSettings { s with sch.ticks := markSent s.sch.ticks t.tseq } t
  let n := s.chn.ticksSince + 1
  let open_ := s.chn.m ≠ 0 ∧ n ≥ s.chn.m.toNat ∧ windowFree s = true
  if open_ then
    sendTime { s with chn.ticksSince := 0 } (some t) (if chainEl1 s then 2 else 1) s.chn.kind s.chn.top.toNat (wofsNow s)
      (windowSlot s s.chn.kind)
  else sendTime { s with chn.ticksSince := n } (some t) 0 0 0 0 0

/-- The instant still lies at least the lead after the first symbol of a frame that starts now (05 R160, R163). -/
def leadKept (s : State) (inst : Word) : Bool := leadHolds s (ctAhead s inst)

/-- The tick frame of the earliest fixed instant (05 R160); it cannot start when the lead has passed. -/
def execTickFrameSend (s : State) : Host.Outcome State Fault Refusal :=
  if !mayTime s then .next s
  else
    match unsentTick s.sch.ticks with
    | none => .next s
    | some t => if leadKept s t.instant then .next (sendTick s t) else .next s

/-- 8 to 10 ms after a wake the anchor sends its first tick frame or beat (23 R870). -/
def execFirstBeatAfterWake (s : State) : Host.Outcome State Fault Refusal :=
  if !s.pw.firstBeat || decide (s.now - s.pw.wokeAt < 8 * ctPerMs) then .next s
  else
    let s := { s with pw.firstBeat := false }
    if !mayTime s then .next s
    else
      match unsentTick s.sch.ticks with
      | none => .next (sendTime s none 0 0 0 0 0)
      | some t => if leadKept s t.instant then .next (sendTick s t) else .next (sendTime s none 0 0 0 0 0)

/-- A CANCEL frame for the oldest cancellation not yet told (05 R167, 11 R410). -/
def execCancelFrameSend (s : State) : Host.Outcome State Fault Refusal :=
  if !mayTime s then .next s
  else
    match s.sch.cancelQ with
    | [] => .next s
    | (n, r) :: t => .next (sendBoth { s with sch.cancelQ := t } 7 (leBytes 2 n.toNat ++ [r, 0]))

/-- The chain-time counter reaches an announced instant: the strobe fires (05 R162, R164; 06 R173). In INTERNAL mode too a device
that is not aligned flags its result `HOLDOVER`: R147 speaks of every result, R154 of the mode (log 102). -/
def execStrobeFire (tseq : BitVec 16) (s : State) : Host.Outcome State Fault Refusal :=
  if !active s then .next s
  else
    match s.sch.ticks.find? fun t => t.tseq == tseq with
    | none => .next s
    | some t =>
      if ctAhead s t.instant > 0 then .next s
      else
      let s := { s with sch.ticks := s.sch.ticks.filter fun u => u.tseq != tseq }
      let s := if isAnchor s then
          { s with sch.report := some { tseq := tseq, point := t.point, rev := s.ph.rev, pos := s.ph.pos, count := s.ph.count,
                                        epoch := s.ph.epoch } }
        else s
      .next (irqRaise (openSpan s 0 tseq t.point (t.hold || !alignedNow s) t.late t.instant) 21)

end Sys2Proof.Machine
end

