-- ==== Sys2Proof/Machine/Acq.lean ====
section
/-! DEFINITION. Cell acquisition, the current channel, start-up acquisitions, open-wire checks and cross-checks (06, 07, 04). -/

namespace Sys2Proof.Machine

open Sys2Proof

/-! ### Channel words (06 Table 6-7, 07 Table 7-1) -/

/-- The limits of a well's code by its range (06 R192). -/
def codeLimits (busbar : Bool) : Int × Int := if busbar then (-100000, 100000) else (-25000, 525000)

/-- A reading is clipped: saturated or overloaded. -/
def readClipped (lo hi : Int) (r : Reading) : Bool := r.overload || decide (r.code ≤ lo) || decide (hi ≤ r.code)

/-- What a non-`STALE` result of a well remembers. -/
def wellResult (busbar : Bool) (r : Reading) : ChanMem :=
  let (lo, hi) := codeLimits busbar
  let c := clampI lo hi r.code
  { code := c, clipped := readClipped lo hi r, margin := !busbar && (decide (c < 0) || decide (500000 < c)),
    range := busbar, seen := true }

/-- What a non-`STALE` result of the current channel remembers (07 R211). -/
def curResult (r : Reading) : ChanMem :=
  { code := clampI (-8350000) 8350000 r.code, clipped := readClipped (-8350000) 8350000 r, margin := false, range := false,
    seen := true }

/-- The range bit of a well. -/
def isBusbarRange (c : CfgRegs) (w : Well) : Bool := bitOf c.cellRange w.val

/-- The role bit of a well. -/
def isBusbarRole (c : CfgRegs) (w : Well) : Bool := bitOf c.wellCfg (8 + w.val)

/-- A word from its parts. -/
def mkWord (m : ChanMem) (stale ow trip bal unused : Bool) : Word :=
  BitVec.ofNat 32 (codeOf 24 m.code + 2 ^ 24 * (b2n stale + 2 * b2n m.clipped + 4 * b2n ow + 8 * b2n m.margin
    + 16 * b2n trip + 32 * b2n bal + 64 * b2n m.range + 128 * b2n unused))

/-- A neighbour's or the well's own switch was closed (06 R199). -/
def balNear (m : Wells) (w : Well) : Bool :=
  hasW m w || (decide (0 < w.val) && m.getLsbD (w.val - 1)) || (decide (w.val < 17) && m.getLsbD (w.val + 1))

/-- The channel is off: the current converter, or a well beyond the population (06 R195, 07 R214). -/
def chanOff (c : CfgRegs) (k : Fin 19) : Bool :=
  if h : k.val = 0 then !bitOf c.curCfg 0 else !hasW (usedMask c) ⟨k.val - 1, by omega⟩

/-- The remembered result a channel's word reports: code 0 of a channel that is off, which is no result of its well (09 R902; log
133), the new one, or with `STALE` the last (06 R193, R195). The range is that in which the span measured (R192). -/
def chanResult (s : State) (sp : Span) (r : List Reading) (k : Fin 19) : ChanMem :=
  if chanOff s.cfg k then ChanMem.reset
  else if sp.stale.getLsbD k.val then s.acq.last[k]
  else
    let rd := r.getD k.val { code := 0, overload := false }
    if h : k.val = 0 then curResult rd
    else wellResult (hasW sp.range ⟨k.val - 1, by omega⟩) rd

/-- The word of a channel in the result of a span (06 R191 to R195, R199; 07 R212 to R214). -/
def chanWord (s : State) (sp : Span) (r : List Reading) (k : Fin 19) : Word :=
  let m := chanResult s sp r k
  let stale := sp.stale.getLsbD k.val
  if chanOff s.cfg k then 0x80000000#32
  else if h : k.val = 0 then mkWord m stale false sp.scTrip false false
  else
    let w : Well := ⟨k.val - 1, by omega⟩
    mkWord m stale (hasW s.acq.owFail w) (hasW sp.trip w) (balNear sp.bal w)
      (isBusbarRole s.cfg w)

/-- The code of a word. -/
def wordCode (w : Word) : Int := signedOf 24 (fld w 23 0)

/-- A word carries any of the status bits of a mask. -/
def hasStatus (w : Word) (mask : Nat) : Bool := (w &&& BitVec.ofNat 32 (mask * 2 ^ 24)) != 0

/-- `STALE`, `CLIPPED`, `OPENWIRE`, `UNUSED` (06 R194). -/
def exclMask : Nat := 0x87

/-- The well words 1 to N of a snapshot with their well numbers. -/
def wellWords (n : Nat) (words : List Word) : List (Nat × Word) := (List.range n).map fun i => (i + 1, words.getD (i + 1) 0)

/-- The wells that R194 does not exclude, with their codes. -/
def includedWells (n : Nat) (words : List Word) : List (Nat × Int) :=
  ((wellWords n words).filter fun w => !hasStatus w.2 exclMask).map fun w => (w.1, wordCode w.2)

/-- The lowest code of a list, 0 for none. -/
def minCode (l : List (Nat × Int)) : Int :=
  match l with
  | [] => 0
  | x :: t => t.foldl (fun m y => if y.2 < m then y.2 else m) x.2

/-- The highest address the device has validated since reset (16 R629): an unassigned one is none. -/
def noteTop (s : State) (a : BitVec 7) : State :=
  if 1 ≤ a.toNat ∧ a.toNat ≤ 0x40 then { s with en.top := max s.en.top a.toNat } else s

/-- Put a report in place of an older one of its address (16 R617, R619). -/
def putReport (s : State) (r : Report) : State :=
  if s.en.reports.any fun q => q.addr == r.addr && decide (r.time < q.time) then s
  else noteTop { s with en.reports := r :: s.en.reports.filter fun q => q.addr != r.addr } r.addr

/-- The device takes an address: its own report goes with it (16 R619), and `HOST_FLT` follows the new place (12 R470). -/
def setAddr (s : State) (a : BitVec 7) : State :=
  let own (r : Report) : Bool := isAnchor s && r.addr == s.chn.addr
  let l := (s.en.reports.filter own).map fun r => { r with addr := a }
  let rest := s.en.reports.filter fun r => !own r && (l.isEmpty || r.addr != a)
  updateLive { s with en.reports := l ++ rest, chn.addr := a }

/-- The device's report of one of its own results (16 R617, R618, R622). -/
def ownReport (s : State) (words : List Word) (t : Nat) : Report :=
  let l := includedWells (popOf s.cfg) words
  { addr := s.chn.addr, time := t, ninc := l.length, vmin := minCode l, flt3 := false, excl := decide (l.length < popOf s.cfg) }

/-- The latest code of a well that no status bit of a mask excludes, after a new result. -/
def noteGood (old : Vector (Option (Int × Nat)) 18) (n : Nat) (words : List Word) (t mask : Nat) :
    Vector (Option (Int × Nat)) 18 :=
  Vector.ofFn fun i =>
    let w := words.getD (i.val + 1) 0
    if i.val < n ∧ hasStatus w mask = false then some (wordCode w, t) else old[i]

/-- A scheduled result waits for a tick frame or beat that left the anchor after its instant; one that has been validated
already releases it at once (05 R169). -/
def holdResult (s : State) (k : Snapshot) : State :=
  let s := { s with acq.held := s.acq.held ++ [k] }
  match s.sch.ttx with
  | some t => releaseHeld s t
  | none => s

/-- The oldest span's result leaves the decimators and is in SRAM (06 R178, R179). -/
def execResultReady (r : List Reading) (s : State) : Host.Outcome State Fault Refusal :=
  if !active s then .next s
  else
    match s.acq.spans with
    | [] => .next s
    | sp :: rest =>
      let words := (List.finRange 19).map (chanWord s sp r)
      let last := Vector.ofFn (chanResult s sp r)
      let snap : Snapshot := { seq := sp.seq, point := sp.point, source := sp.source, win := sp.win, hold := sp.hold,
                               unsched := sp.unsched, instant := sp.instant, words := words, start := sp.start }
      let s := { s with acq.spans := rest, acq.last := last, acq.kept := (snap :: s.acq.kept).take 8,
                        acq.good := noteGood s.acq.good (popOf s.cfg) words sp.start exclMask,
                        acq.usable := noteGood s.acq.usable (popOf s.cfg) words sp.start (exclMask + 32) }
      let s := if sp.source = 0 then holdResult s snap else svcReleased s
      let s := if sp.source = 2 then
          { s with acq.startRun := false, acq.startDone := some words, acq.startOw := false, acq.owBoot := false }
        else s
      .next (reclose (if isAnchor s then putReport s (ownReport s words sp.start) else s))

/-- Mark a kept snapshot `UNSCHEDULED`. -/
def markKept (l : List Snapshot) (seq : BitVec 16) : List Snapshot :=
  l.map fun k => if k.seq = seq ∧ k.source = 0 then { k with unsched := true } else k

/-- No later frame came within 10 ms of the instant: the oldest held result is released marked `UNSCHEDULED` (05 R169). -/
def execResultReleaseTimeout (s : State) : Host.Outcome State Fault Refusal :=
  if !active s then .next s
  else
    match s.acq.held with
    | [] => .next s
    | k :: t => .next (svcReleased { s with acq.held := t, acq.rel := s.acq.rel ++ [{ k with unsched := true }],
                                            acq.kept := markKept s.acq.kept k.seq })

/-- The strobe of the queued on-request acquisition, once the quiet time has passed (14 R528; 08 R268). -/
def execOnrequestAcquisition (s : State) : Host.Outcome State Fault Refusal :=
  if !active s || !quietOk s then .next s
  else
    match s.acq.req with
    | none => .next s
    | some n => .next (openSpan { s with acq.req := none } 1 n 0 (!alignedNow s) false (chainMp s))

/-! ### Start-up acquisitions (04 R102 to R105) -/

/-- The internal strobe of a start-up acquisition. -/
def startStrobe (s : State) : State :=
  let n := s.acq.seqN + 1
  openSpan { s with acq.seqN := n, acq.startRun := true, acq.startDue := false, acq.startDone := none } 2 n 0 (!alignedNow s) false
    (chainMp s)

/-- The length of a thermistor cycle in ct: twice 250 µs × `SETTLE` + 750 µs (07 R231). -/
def ntcCt (cfg : Word) : Nat := 2 * (fld cfg 11 8 * 49152 + 147456)

/-- A start-up strobe may fire: the quiet time has passed (08 R268), and its window ends no earlier than its thermistor cycle (07
R238). -/
def startReady (s : State) : Bool :=
  quietOk s && decide (s.aux.ntcAt + ntcCt s.aux.ntcCfg ≤ s.now + winCt (takeWin s).acq.win)

/-- The first start-up acquisition (04 R102), once the PLL is locked (05 R127). -/
def execStartupAcquisition (s : State) : Host.Outcome State Fault Refusal :=
  if active s && s.clk.pllLock && !s.acq.startRun && !s.prot.everRel && startReady s then .next (startStrobe s) else .next s

/-- Phase A of a thermistor cycle starts: `NTC_CFG` is read (07 R227, R229, R236). -/
def ntcStart (s : State) : State :=
  { s with aux.ntcRun := true, aux.ntcB := false, aux.ntcIdx := 0, aux.ntcCfg := s.cfg.ntcCfg, aux.ntcMp := chainMp s,
           aux.ntcAt := s.now, aux.ntcFrame := s.aux.frame, aux.satA := 0, aux.satB := 0, aux.ntcDone := false, aux.tsa := true,
           aux.tsb := false }

/-- The strobe of a repeated start-up acquisition fires at the first moment it may. -/
def tickStart (s : State) : State :=
  if s.acq.startDue && s.clk.pllLock && !s.prot.everRel && startReady s then startStrobe s else s

/-- A repeated one, every 100 ms until `FAULT_N` has been released (04 R104), with a thermistor cycle of its own (07 R239). Before
its evaluation the firmware scans the ROM again (21 R814) and makes the self-tests again that 09 R901 skipped (R902). -/
def execStartupAcqRepeat (s : State) : Host.Outcome State Fault Refusal :=
  if fwOn s && s.clk.pllLock && !s.acq.startRun && !s.prot.everRel then
    let s := if s.ce.ch[0].state == .busy then s else romScan s
    let s := { s with acq.startSet := s.aux.ntcCount, acq.startDue := true, prot.oweOv := s.prot.oweOv ||| s.prot.againOv,
                      prot.oweUv := s.prot.oweUv ||| s.prot.againUv }
    .next (tickStart (if s.aux.ntcRun then s else ntcStart s))
  else .next s

/-- Every used channel carries none of `STALE`, `CLIPPED`, `OPENWIRE` (04 R103). -/
def channelsClean (s : State) (words : List Word) : Bool :=
  (!bitOf s.cfg.curCfg 0 || !hasStatus (words.getD 0 0) 0x07) &&
    (wellWords (popOf s.cfg) words).all fun w => !hasStatus w.2 0x07

/-- Every enabled thermistor channel carries no flag in the set of the acquisition's own cycle (07 R235, R238, R239). -/
def thermClean (s : State) : Bool :=
  (List.finRange 8).all fun n => !bitOf s.cfg.ntcCfg n.val ||
    (s.aux.ntcPub && s.aux.ntcCount != s.acq.startSet && !bitOf s.aux.ntcWord[n] 31 && fld s.aux.ntcWord[n] 20 16 == 0)

/-- A completed start-up acquisition is clean (04 R103; 07 R248; 09 R902). The check that follows its window is part of it (06
R204). -/
def startClean (s : State) (words : List Word) : Bool :=
  channelsClean s words && s.acq.startOw && (s.acq.owFail &&& usedMask s.cfg) == 0 && thermClean s && !s.aux.xcEver &&
    s.aux.xcRan == 0x1F && s.aux.xcFail == 0 && s.aux.xcFault == 0 &&
    ((s.prot.ovTrip ||| s.prot.uvTrip) &&& cellMask s.cfg) == 0 && s.prot.redo == 0 && s.prot.redoUv == 0 &&
    (s.prot.oweOv &&& cellMask s.cfg) == 0 && (s.prot.oweUv &&& cellMask s.cfg) == 0

/-- The evaluation: a clean one releases `FAULT_N` when a configuration whose seal checks is loaded, the ROM scan has matched
and no other condition stands (04 R104, R105; 21 R814); a core that cannot run releases nothing (09 R306). -/
def execStartupEvaluation (s : State) : Host.Outcome State Fault Refusal :=
  if !fwOn s then .next s
  else
    match s.acq.startDone with
    | none => .next s
    | some words =>
      let s := { s with acq.startDone := none }
      let freed := { s with prot.unclean := false, prot.everRel := true }
      if !s.prot.everRel && startClean s words && s.prot.loaded && s.prot.romOk && !ownFault freed then
        .next (noteConditions freed)
      else .next s

/-! ### Open-wire checks (06 R201 to R207) -/

/-- A check starts: every switch opens, those of a switch test with it, and its first phase waits for the quiet time (06 R201; 08
R268, R269). -/
def owStart (s : State) (forced boot : Bool) : State :=
  let s := dropTest (openSwitches s)
  { s with acq.ow := .check, acq.owForced := forced, acq.owBoot := boot, acq.owEven := false, acq.owAt := s.now,
           acq.owStep := if quietOk s then .reference else .quiet }

/-- `n` × `OW_PERIOD` (06 Table 6-4) has passed since a moment. -/
def owElapsed (s : State) (n : Nat) (t : Nat) : Bool :=
  decide (t + n * (fld s.cfg.acqCfg 15 8 * 100 * ctPerMs) ≤ s.now)

/-- A periodic check starts once `OW_PERIOD` has elapsed since the last completed one, when no span is open and no tick is pending
(06 R205); before the first completed check nothing has to elapse (log 113). It waits for a switch test in progress (08 R269).
After a start-up acquisition it needs none of this (R204). -/
def execOpenWireStart (s : State) : Host.Outcome State Fault Refusal :=
  if !active s || s.acq.ow != .idle then .next s
  else if s.acq.startDone.isSome && !s.acq.startOw then .next (owStart s true true)
  else if (match s.acq.owDone with | some t => owElapsed s 1 t | none => true) && noSpan s && !tickPending s
      && s.bal.testRun == 0 then
    .next (owStart s false false)
  else .next s

/-- No check has completed for 10 × `OW_PERIOD`: the next runs regardless of spans and ticks (06 R207). -/
def execOpenWireForced (s : State) : Host.Outcome State Fault Refusal :=
  if active s && s.acq.ow == .idle && owElapsed s 10 (s.acq.owDone.getD s.rst.releaseAt) then .next (owStart s true false)
  else .next s

/-- The verdict of one well: failed, passed, or inconclusive (06 R202). -/
def owVerdict (s : State) (ref test : List Reading) (w : Well) : Bool :=
  let (lo, hi) := codeLimits (isBusbarRange s.cfg w)
  let z : Reading := { code := 0, overload := false }
  let a := ref.getD w.val z
  let b := test.getD w.val z
  if readClipped lo hi a || readClipped lo hi b then hasW s.acq.owFail w else decide (a.code - b.code > 10000)

/-- `OPENWIRE` after a check. -/
def owMask (s : State) (ref test : List Reading) : Wells :=
  (wellList (usedMask s.cfg)).foldl (fun m w => putW m w (owVerdict s ref test w)) 0

/-- `OW_STAT` by 06 Table 6-10. -/
def owStatOf (n : Nat) (f : Wells) : Word :=
  let bad (k : Nat) : Bool := decide (1 ≤ k) && decide (k ≤ n) && f.getLsbD (k - 1)
  let shared := ((List.range (n + 1)).filter fun k => bad k && bad (k + 1)).foldl (fun m k => m + 2 ^ k) 0
  let c0 := b2n (bad 1 && !bad 2)
  let cn := if bad n && !bad (n - 1) then 2 ^ n else 0
  let alone := (List.range (n + 1)).any fun k => decide (2 ≤ k) && decide (k < n) && bad k && !bad (k - 1) && !bad (k + 1)
  BitVec.ofNat 32 (shared + c0 + cn + 2 ^ 19 * b2n alone)

/-- A check completes, its last recovery over; XC1 and XC2 follow directly (06 R202, R203; 07 R244). What its sinks and XC1 and
XC2 meet of an open span carries `STALE` (06 R204, R207; log 114). -/
def execOpenWireDone (ref test : List Reading) (s : State) : Host.Outcome State Fault Refusal :=
  if !active s || s.acq.ow != .check || s.acq.owStep != .over then .next s
  else
    let f := owMask s ref test
    let st := owStatOf (popOf s.cfg) f
    let old := s.acq.owStat
    let s := { s with acq.owFail := f, acq.owStat := st, acq.ow := .xc, acq.xcDue := true, acq.owDone := some s.now,
                      acq.startOw := s.acq.startOw || s.acq.owBoot }
    let s := markSpans s (staleOf (usedMask s.cfg) true)
    .next (if st = old then s else jrnPut s false 0x43 (leBytes 4 st.toNat))

/-! ### Cross-checks (07 R243 to R248) -/

/-- Bit of check `i`. -/
def xcBit (i : Nat) : BitVec 5 := 1#5 <<< (i - 1)

/-- One run of check `i`, 2 to 5: two failures in a row raise a fault, three passes in a row clear it (07 R246, R247). `before`:
an earlier run counts as the one before although another lies between. While the core does not run, the firmware raises and clears
nothing (09 R306); the next run then counts the runs before it. -/
def xcRunAfter (s : State) (i : Fin 5) (pass before : Bool) : State :=
  let b := xcBit (i.val + 1)
  let n : Byte := BitVec.ofNat 8 (i.val + 1)
  let twice := before || (s.aux.xcFail &&& b) != 0
  let fault := (s.aux.xcFault &&& b) != 0
  let s := { s with aux.xcRan := s.aux.xcRan ||| b }
  if pass then
    let s := { s with aux.xcFail := s.aux.xcFail &&& ~~~ b }
    if !fault then s
    else
      let g := s.aux.xcGood[i] + 1
      if g < 3 || !fwOn s then { s with aux.xcGood := s.aux.xcGood.set i (min g 3) }
      else jrnPut { s with aux.xcGood := s.aux.xcGood.set i 0, aux.xcFault := s.aux.xcFault &&& ~~~ b } false 0x41 [2, n]
  else
    let s := { s with aux.xcFail := s.aux.xcFail ||| b, aux.xcEver := true, aux.xcGood := s.aux.xcGood.set i 0 }
    if twice && !fault && fwOn s then jrnPut { s with aux.xcFault := s.aux.xcFault ||| b } true 0x05 [n, 0] else s

/-- One run of check `i`. -/
def xcRun (s : State) (i : Fin 5) (pass : Bool) : State := xcRunAfter s i pass false

/-- One run of XC3 in a phase: a failure follows the last run of the same phase as well, since a supply stuck low fails every second
run (07 R246 and the corner on `TSB`; log 119). -/
def xc3Run (s : State) (phaseB pass : Bool) : State :=
  let i := b2n phaseB
  let s := xcRunAfter s 2 pass (s.aux.xc3Last.getLsbD i)
  let m : BitVec 2 := 1#2 <<< i
  { s with aux.xc3Last := if pass then s.aux.xc3Last &&& ~~~ m else s.aux.xc3Last ||| m }

/-- One XC1 run of a well; its fault is counted well by well (log 16). -/
def xc1Well (s : State) (w : Well) (pass : Bool) : State :=
  let twice := hasW s.aux.xcWell w
  let fault := hasW s.aux.xcWellFault w
  let wn : Byte := BitVec.ofNat 8 (w.val + 1)
  if pass then
    let s := { s with aux.xcWell := putW s.aux.xcWell w false }
    if !fault then s
    else
      let g := s.aux.xcWellGood[w] + 1
      if g < 3 || !fwOn s then { s with aux.xcWellGood := s.aux.xcWellGood.set w (min g 3) }
      else jrnPut { s with aux.xcWellGood := s.aux.xcWellGood.set w 0,
                           aux.xcWellFault := putW s.aux.xcWellFault w false } false 0x41 [2, 1]
  else
    let s := { s with aux.xcWell := putW s.aux.xcWell w true, aux.xcEver := true,
                      aux.xcWellGood := s.aux.xcWellGood.set w 0 }
    if twice && !fault && fwOn s then jrnPut { s with aux.xcWellFault := putW s.aux.xcWellFault w true } true 0x05 [1, wn] else s

/-- XC1 over its wells; `FAIL` tells of this run alone (07 Table 7-12). -/
def xc1All (s : State) (v : List Nat) : State :=
  let wells := (wellList (cellMask s.cfg)).filter fun w => !isBusbarRange s.cfg w
  let s := wells.foldl (fun s w =>
    let x := v.getD w.val 0
    xc1Well s w (decide (1194000 ≤ x) && decide (x ≤ 1206000))) s
  let b (m : Wells) : BitVec 5 := if m = 0 then 0 else 1
  let run := wells.foldl (fun m w => putW m w true) 0
  { s with aux.xcRan := s.aux.xcRan ||| 1, aux.xcFail := (s.aux.xcFail &&& 0x1E) ||| b (s.aux.xcWell &&& run),
           aux.xcFault := (s.aux.xcFault &&& 0x1E) ||| b s.aux.xcWellFault }

/-- XC1 and XC2 run: directly after the check, or alone once their quiet time has passed. -/
def xcReady (s : State) : Bool := s.acq.xcDue && s.acq.ow == .xc && s.acq.owStep == .over

/-- After a tick's abort XC1 and XC2 restart alone when no span is open and no tick is pending, or, forced, when no run has completed
for 10 × `OW_PERIOD` (07 R244); every switch opens, and they wait for the quiet time (08 R267 to R269). -/
def tickXc (s : State) : State :=
  if s.acq.ow == .idle && s.acq.xcDue then
    let free := noSpan s && !tickPending s
    if free || owElapsed s 10 (s.acq.xcDone.getD s.rst.releaseAt) then
      { dropTest (openSwitches s) with acq.ow := .xc, acq.owForced := !free, acq.owStep := .quiet, acq.owAt := s.now }
    else s
  else if s.acq.ow == .xc && s.acq.owStep == .quiet && quietOk s then
    { markSpans s (staleOf (usedMask s.cfg) true) with acq.owStep := .over, acq.owAt := s.now }
  else s

/-- XC1 and XC2 run, in µV (07 R244, R245). XC2 runs whatever `CUR_CFG.EN` holds (log 120). -/
def execXc1Xc2Run (xc1 : List Nat) (xc2 : Nat) (s : State) : Host.Outcome State Fault Refusal :=
  if !active s || !xcReady s then .next s
  else
    let s := markSpans s (staleOf (usedMask s.cfg) true)
    let s := xcRun (xc1All (irqRaise s 38) xc1) 1 (decide (99600 ≤ xc2) && decide (xc2 ≤ 100400))
    let s := owEnd { s with acq.xcDue := false, acq.xcDone := some s.now }
    .next (reclose (balPauseNow (noteConditions s)))

/-- XC4 measures `VREFC`, in µV (07 Table 7-11). -/
def execXc4Run (microvolts : Nat) (s : State) : Host.Outcome State Fault Refusal :=
  if !active s then .next s
  else .next (balPauseNow (noteConditions (xcRun (irqRaise s 38) 3 (decide (2485000 ≤ microvolts) && decide (microvolts ≤ 2515000)))))

/-! ### Thermistors (07 R226 to R239) -/

/-- A thermistor cycle starts (07 R229). -/
def execNtcCycleStart (s : State) : Host.Outcome State Fault Refusal :=
  if !active s || s.aux.ntcRun then .next s else .next (ntcStart s)

/-- A phase starts at a frame boundary: the supplies change over once phase A has made its nine conversions (07 R229, R230). -/
def execNtcPhaseStart (s : State) : Host.Outcome State Fault Refusal :=
  if active s && s.aux.ntcRun && !s.aux.ntcB && s.aux.ntcIdx == 9 then
    .next { s with aux.ntcB := true, aux.ntcIdx := 0, aux.ntcFrame := s.aux.frame, aux.tsa := false, aux.tsb := true }
  else .next s

/-- Put bit `n` of a byte. -/
def putBit8 (m : Byte) (n : Fin 8) (b : Bool) : Byte := if b then m ||| (1#8 <<< n.val) else m &&& ~~~ (1#8 <<< n.val)

/-- A slot of the present frame is free for the phase: `SETTLE` has elapsed since its start (07 R228, R231). -/
def slotFree (s : State) : Bool :=
  s.aux.slots != 0 && decide (s.aux.ntcFrame + fld s.aux.ntcCfg 11 8 < s.aux.frame)

/-- One conversion of the phase in the next free slot, `NTC0` to `NTC7` and then XC3, its code limited to 16 bits (07 R226, R228,
R231). -/
def execNtcConversion (code : Int) (s : State) : Host.Outcome State Fault Refusal :=
  if !active s || !s.aux.ntcRun || decide (s.aux.ntcIdx > 8) || !slotFree s then .next s
  else
    let s := { s with aux.slots := s.aux.slots - 1 }
    let c := (clampI 0 65535 code).toNat
    let b := s.aux.ntcB
    if h : s.aux.ntcIdx < 8 then
      let n : Fin 8 := ⟨s.aux.ntcIdx, h⟩
      let sat := c == 0 || c == 65535
      let s := { s with aux.ntcIdx := s.aux.ntcIdx + 1 }
      .next (if b then { s with aux.codeB := s.aux.codeB.set n (BitVec.ofNat 16 c), aux.satB := putBit8 s.aux.satB n sat }
        else { s with aux.codeA := s.aux.codeA.set n (BitVec.ofNat 16 c), aux.satA := putBit8 s.aux.satA n sat })
    else
      let pass := decide (47490 ≤ c) && decide (c ≤ 52013)
      let s := { s with aux.ntcIdx := 9 }
      let s := if b then { s with aux.xc3B := pass, aux.ntcRun := false, aux.ntcDone := true, aux.tsb := false }
        else { s with aux.xc3A := pass }
      .next (balPauseNow (noteConditions (xc3Run (irqRaise s 37) b pass)))

/-- The word of a channel (07 R232, R233, Table 7-9) from the codes of its phases. -/
def ntcWordOf (cfg : Word) (n : Nat) (own other : Nat) (sat xcOwn xcOther : Bool) : Word :=
  if !bitOf cfg n then 0x80000000#32
  else BitVec.ofNat 32 (own + 65536 * (b2n sat + 2 * b2n (decide (own > 64880)) + 4 * b2n (decide (own < 655))
    + 8 * b2n (xcOther && decide (other > 1311)) + 16 * b2n (!xcOwn)))

/-- The word of channel `n` after a cycle: an even channel is powered in phase A, an odd one in phase B. -/
def ntcWordAt (s : State) (n : Fin 8) : Word :=
  let a := s.aux.codeA[n].toNat
  let b := s.aux.codeB[n].toNat
  if n.val % 2 = 0 then ntcWordOf s.aux.ntcCfg n.val a b (s.aux.satA.getLsbD n.val) s.aux.xc3A s.aux.xc3B
  else ntcWordOf s.aux.ntcCfg n.val b a (s.aux.satB.getLsbD n.val) s.aux.xc3B s.aux.xc3A

/-- A thermistor set (07 R236). -/
def ntcSetBytes (mp : Word) (count : BitVec 16) (patrol : Bool) (words : List Word) : List Byte :=
  leBytes 4 mp.toNat ++ leBytes 2 count.toNat ++ [BitVec.ofNat 8 (b2n patrol), 0] ++ wordsLe words

/-- Journal every channel whose flags, `UNUSED` among them, changed (07 R234, Table 7-9). -/
def ntcFlagRecords : List (Fin 8) → (Fin 8 → Word) → State → State
  | [], _, s => s
  | n :: t, old, s =>
    let f := fld s.aux.ntcWord[n] 23 16
    if f = fld (old n) 23 16 ∧ bitOf s.aux.ntcWord[n] 31 = bitOf (old n) 31 then ntcFlagRecords t old s
    else ntcFlagRecords t old (jrnPut s false 0x44 [BitVec.ofNat 8 n.val, BitVec.ofNat 8 f])

/-- The firmware publishes the set of a complete cycle (07 R236). The cycle count counts published sets, the first being 1 (log
121). -/
def execNtcSetPublish (s : State) : Host.Outcome State Fault Refusal :=
  if !fwOn s || !s.aux.ntcDone then .next s
  else
    let old := s.aux.ntcWord
    let words := Vector.ofFn (ntcWordAt s)
    let set := ntcSetBytes s.aux.ntcMp (s.aux.ntcCount + 1) false words.toList
    let s := { s with aux.ntcDone := false, aux.ntcCount := s.aux.ntcCount + 1, aux.ntcWord := words, aux.ntcPub := true,
                      acq.ntcKept := (set :: s.acq.ntcKept).take 2, acq.ntcRel := s.acq.ntcRel ++ [set] }
    .next (balPauseNow (ntcFlagRecords (List.finRange 8) (fun n => old[n]) s))

/-! ### Die sensors (07 R241, R242; 03 R92) -/

/-- The highest of the readings of the sensors that have converted. -/
def dieMax (d : Vector (BitVec 16) 4) (seen : BitVec 4) : BitVec 16 :=
  match (List.finRange 4).filter (fun i => seen.getLsbD i.val) with
  | [] => 0
  | i :: t => t.foldl (fun m j => if m.slt d[j] then d[j] else m) d[i]

/-- The lowest of the four readings. -/
def dieMin (d : Vector (BitVec 16) 4) : BitVec 16 :=
  [d[1], d[2], d[3]].foldl (fun m x => if x.slt m then x else m) d[0]

/-- Over-temperature stands from 135 °C until 125 °C (09 Table 9-2, R305); it stays as it is while the core does not run (R306). -/
def overTemp (s : State) : State :=
  let t := s.aux.tmax.toInt
  if !fwOn s then s
  else if !s.aux.ot && t ≥ 8640 then jrnPut { s with aux.ot := true } true 0x08 (leBytes 2 s.aux.tmax.toNat)
  else if s.aux.ot && t ≤ 8000 then jrnPut { s with aux.ot := false } false 0x41 [3, 0]
  else s

/-- A die reading is taken: the latest readings and `DIE_TMAX` (07 R242). -/
def dieTake (s : State) (n : Fin 4) (t : BitVec 16) : State :=
  let d := s.aux.die.set n t
  let seen := s.aux.dieSeen ||| (1#4 <<< n.val)
  { s with aux.die := d, aux.dieSeen := seen, aux.tmax := dieMax d seen }

/-- XC5 runs on the four latest readings (07 Table 7-11). -/
def xc5Run (s : State) : State :=
  if s.aux.dieSeen = 0xF then xcRun s 4 (decide ((dieMax s.aux.die 0xF).toInt - (dieMin s.aux.die).toInt ≤ 1600)) else s

/-- The next frame begins: its slot 0 converts die sensor f mod 4, and three slots are left; `DIE_TMAX`, XC5 and over-temperature
follow (07 R228, R241 to R243). A conversion out of its order is none (log 134). -/
def execDieConversion (n : Fin 4) (t : BitVec 16) (s : State) : Host.Outcome State Fault Refusal :=
  if !active s || s.aux.frame % 4 != n.val then .next s
  else
    let s := dieTake (irqRaise { s with aux.frame := s.aux.frame + 1, aux.slots := 3 } 38) n t
    .next (balPauseNow (noteConditions (overTemp (xc5Run s))))

end Sys2Proof.Machine
end

