-- ==== Sys2Proof/Machine/Check.lean ====
section
/-! DEFINITION. Check-engine commands and bursts (21). -/

namespace Sys2Proof.Machine

open Sys2Proof

/-- `START` of a channel (21 R799, R800). -/
def execCeStart (m : Fin 4) (s : State) : Host.Outcome State Fault Refusal :=
  if active s then .next (ceStart s m) else .next s

/-- `ABORT` of a channel (21 R805). -/
def execCeAbort (m : Fin 4) (s : State) : Host.Outcome State Fault Refusal :=
  if active s then .next (ceAbort s m) else .next s

/-! ## Bursts -/

/-- A read of an aligned word by a channel; the error is the subcause of 21 Table 21-2. -/
def ceRead (s : State) (m : Fin 4) (a : Nat) : Except (BitVec 4) (List Byte × State) :=
  let phys := if 2 ≤ m.val then mpuCheck s true a 1 else .ok a
  match phys with
  | .error e => .error e
  | .ok p =>
    if inPeri p then .error 7
    else
      match busRead s p 4 with
      | .error e => .error (e + 6)
      | .ok r => .ok r

/-- The bytes of a word at `a` that lie in the block from `lo` to `hi` − 1. -/
def ceTake (b : List Byte) (a lo hi : Nat) : List Byte :=
  ((List.range 4).filter fun i => decide (lo ≤ a + i) && decide (a + i < hi)).map fun i => b.getD i 0

/-- Read up to `k` words from the channel's position on, within one aligned 32-byte block (21 R802, R808). -/
def ceWords : Nat → State → Fin 4 → State × Bool
  | 0, s, _ => (s, true)
  | k + 1, s, m =>
    let c := s.ce.ch[m]
    let lo := c.addr.toNat
    let hi := lo + c.len.toNat
    let at_ := lo + c.pos
    let a := at_ / 4 * 4
    if hi ≤ at_ then (s, true)
    else
      match ceRead s m (a % 2 ^ 32) with
      | .error e =>
        (ceIrq (setCe s m { c with state := .fault, fsub := e, faddr := BitVec.ofNat 32 a, done := true, abort := false }) m,
          false)
      | .ok (b, s) =>
        let l := ceTake b a lo hi
        let c := { c with r := l.foldl (ceByte c) c.r, pos := a + 4 - lo }
        let s := setCe s m c
        if (a + 4) % 32 = 0 then (s, true) else ceWords k s m

/-- The scan of a channel has taken its whole block. -/
def ceAll (c : CeCh) : Bool := decide (c.len.toNat ≤ c.pos)

/-- The byte at which a burst over the configuration record fails: a free bit says whether an uncorrectable byte of the area is one
of its bytes (log 8). -/
def cfgBad (s : State) : Option Nat × State :=
  let (v, s) := takeFree s
  (if bitOf v 0 then s.ecc.find? inCfgArea else none, s)

/-- A burst of channel 1 over the configuration record fails (21 R804). -/
def cfgFault (s : State) (a : Nat) : State :=
  let c := { s.ce.ch[1] with state := .fault, fsub := 8, faddr := BitVec.ofNat 32 a, done := true, abort := false }
  ceIrq (setCe { s with ce.cfgScan := false } 1 c) 1

/-- The bursts of channel 1 over the configuration record: a free bit says whether this one is the last. The result is the CRC over
the record's items (21 R811; 17 Table 17-2; log 8). -/
def cfgBurst (s : State) : State :=
  let (bad, s) := cfgBad s
  match bad with
  | some a => scanEnded (cfgFault s a) 1 false
  | none =>
    let (v, s) := takeFree s
    if !bitOf v 0 then s
    else
      let c := s.ce.ch[1]
      let x := areaCrc s.store.record
      let s := setCe { s with ce.cfgScan := false } 1 { c with res := x, raw := ~~~ reflect 32 x, mtch := x == c.exp,
                                                               state := .idle, done := true, abort := false }
      scanEnded (if x == c.exp then s else ceIrq s 1) 1 true

/-- The burst of a channel, and its end. -/
def ceBurst (s : State) (m : Fin 4) : State :=
  if m = 1 ∧ s.ce.cfgScan then cfgBurst s
  else
    let (t, ok) := ceWords 8 s m
    if !ok then scanHook t m false
    else if ceAll t.ce.ch[m] then scanHook (ceEnd t m t.ce.ch[m]) m true
    else t

/-- A channel under an `ABORT`: whether a burst was in progress, and finishes or faults first, is left open; then it is idle
without a result, and a fault of the burst is still reported (21 R805). -/
def ceAborted (s : State) (m : Fin 4) : State :=
  let (v, s) := takeFree s
  let s := if !bitOf v 0 then s
    else if m == 1 && s.ce.cfgScan then
      match cfgBad s with
      | (some a, s) => cfgFault s a
      | (none, s) => s
    else (ceWords 8 s m).1
  let s := setCe s m { s.ce.ch[m] with state := .idle, abort := false }
  if m = 1 then { s with ce.cfgScan := false } else s

/-- One burst of the reader (21 R808); while DMA asks for the SRAM port too, it waits for its turn (20 R757). -/
def execCeBurst (s : State) : Host.Outcome State Fault Refusal :=
  if !active s || portTaken s false then .next s
  else
    match ceNext s with
    | none => .next s
    | some m =>
      let s := { notePort s false with ce.lastCh := m }
      .next (if s.ce.ch[m].abort then ceAborted s m else ceBurst s m)

/-- Channel 0's scan falls due (21 R810). -/
def execRomScanStart (s : State) : Host.Outcome State Fault Refusal :=
  if fwRuns s && s.ce.ch[0].state != .busy then .next (romScan s) else .next s

/-- Channel 1's scan falls due (21 R811). -/
def execConfigScanStart (s : State) : Host.Outcome State Fault Refusal :=
  if fwRuns s && s.ce.ch[1].state != .busy then .next (cfgScan s) else .next s

end Sys2Proof.Machine
end

