-- ==== Sys2Proof/Machine/Dma.lean ====
section
/-! DEFINITION. DMA commands and bursts (20 R773 to R785). -/

namespace Sys2Proof.Machine

open Sys2Proof

/-- `START` of a channel (20 R778). -/
def execDmaStart (n : Fin 8) (s : State) : Host.Outcome State Fault Refusal :=
  if active s then .next (dmaStart s n) else .next s

/-- `ABORT` of a channel (20 R781). -/
def execDmaAbort (n : Fin 8) (s : State) : Host.Outcome State Fault Refusal :=
  if active s then .next (dmaAbort s n) else .next s

/-- `RESUME` of a channel (20 R785). -/
def execDmaResume (n : Fin 8) (s : State) : Host.Outcome State Fault Refusal :=
  if active s then .next (dmaResume s n) else .next s

/-- A request of a trigger: every channel that waits for it may run one burst (20 R782). -/
def execDmaTrigger (trig : BitVec 5) (s : State) : Host.Outcome State Fault Refusal :=
  if active s && trig != 0 then
    .next { s with dma.ch := s.dma.ch.map fun c =>
      if c.state == .wait && fld c.ctl 28 24 == trig.toNat then { c with req := true } else c }
  else .next s

/-- Read up to `k` units; a fault leaves what was read in the channel (20 R775, R784). -/
def dmaReads : Nat → State → Fin 8 → State × Bool
  | 0, s, _ => (s, true)
  | k + 1, s, n =>
    let c := s.dma.ch[n]
    let w := dmaWidth c.ctl
    match dmaRead s n c.src.toNat w with
    | .error e => (dmaFault s n e false c.src, false)
    | .ok (b, s) =>
      let src := if bitOf c.ctl 20 then c.src + BitVec.ofNat 32 w else c.src
      dmaReads k (setCh s n { s.dma.ch[n] with held := s.dma.ch[n].held ++ b, src := src }) n

/-- Write up to `k` held units. -/
def dmaWrites : Nat → State → Fin 8 → State × Bool
  | 0, s, _ => (s, true)
  | k + 1, s, n =>
    let c := s.dma.ch[n]
    let w := dmaWidth c.ctl
    match dmaAddr s n c.dst.toNat 2 with
    | .error e => (dmaFault s n e true c.dst, false)
    | .ok p =>
      match busWrite s false p (c.held.take w) with
      | .error e => (dmaFault s n (e + 6) true c.dst, false)
      | .ok s =>
        let c := s.dma.ch[n]
        let dst := if bitOf c.ctl 21 then c.dst + BitVec.ofNat 32 w else c.dst
        dmaWrites k (setCh s n { c with held := c.held.drop w, dst := dst, left := c.left - w }) n

/-- Units of the next burst: up to 8 and 32 bytes, and no more than are left (20 R775). -/
def burstUnits (c : DmaCh) : Nat := min 8 (c.left / dmaWidth c.ctl)

/-- What follows a finished burst: the next one, the next descriptor, or the end of the chain (20 R777, R779, R782). -/
def dmaNext (s : State) (n : Fin 8) : State :=
  let c := s.dma.ch[n]
  if c.left ≠ 0 then
    if fld c.ctl 28 24 = 0 then s else setCh s n { c with state := .wait, req := false }
  else
    let last := bitOf c.ctl 23
    let s := if last || bitOf c.ctl 22 then
        let s := setCh s n { c with done := true }
        { s with dma.irq := s.dma.irq ||| (1#8 <<< n.val) }
      else s
    if last then setCh s n { s.dma.ch[n] with state := .idle } else dmaLoad s n c.next

/-- One burst of a channel: held bytes first, otherwise it reads its units and then writes them; true when it finished. -/
def dmaBurst (s : State) (n : Fin 8) : State × Bool :=
  let c := s.dma.ch[n]
  let (s, ok) := if c.held.isEmpty then dmaReads (burstUnits c) s n else (s, true)
  if ok then dmaWrites (s.dma.ch[n].held.length / dmaWidth c.ctl) s n else (s, false)

/-- The end of a channel under an `ABORT`: whether a burst of it is in progress, and finishes or faults first, is left open; a
channel that waited without a request has none (20 R781, R783). -/
def dmaAborted (s : State) (n : Fin 8) : State :=
  let (v, s) := takeFree s
  let s := if bitOf v 0 && s.dma.ch[n].req then (dmaBurst s n).1 else s
  setCh s n { s.dma.ch[n] with state := .idle, held := [], req := false }

/-- Grant the next burst. -/
def dmaGrant (s : State) : State :=
  match lowestCh s dmaReadyCh with
  | none => s
  | some n =>
    let (t, ok) := dmaBurst s n
    if ok then dmaNext t n else t

/-- The engine grants and completes one burst (20 R783). A channel under an `ABORT` goes idle here; whether a burst of it was
in progress, and finishes first, is left open (20 R781). While the check engine asks for the SRAM port too, it waits for its turn
(R757). -/
def execDmaBurst (s : State) : Host.Outcome State Fault Refusal :=
  if !active s || portTaken s true then .next s
  else
    let s := notePort s true
    match lowestCh s fun c => c.state == .aborting with
    | none => .next (dmaGrant s)
    | some n => .next (dmaAborted s n)

end Sys2Proof.Machine
end

