-- ==== Sys2Proof/Machine/Flags.lean ====
section
/-! DEFINITION. The status word's bits and every flag computation of the core (18 Table 18-2; 19 Table 19-4), and the
conditions of `BC` (19 Table 19-6). -/

namespace Sys2Proof.Machine

open Sys2Proof

/-- The fields of `SW` that exist: bits 0 to 6 and `LVL` (18 Table 18-2). -/
def swMask : Word := 0x7F7F#32

/-- A bit of `SW` set or cleared. -/
def swPut (sw : Word) (i : Nat) (b : Bool) : Word := if b then sw ||| (1#32 <<< i) else sw &&& ~~~ (1#32 <<< i)

/-- `SW.A`: applet mode. -/
def swA (sw : Word) : Bool := sw.getLsbD 6
/-- `SW.H`: hold. -/
def swH (sw : Word) : Bool := sw.getLsbD 5
/-- `SW.P`: precise arithmetic. -/
def swP (sw : Word) : Bool := sw.getLsbD 4
/-- `SW.LVL`. -/
def swLvl (sw : Word) : Nat := fld sw 14 8
/-- `SW` with another `LVL`. -/
def swSetLvl (sw : Word) (v : Nat) : Word := (sw &&& ~~~ 0x7F00#32) ||| (BitVec.ofNat 32 (v % 128) <<< 8)

/-- The four flags. -/
structure Flags where
  /-- zero -/
  z : Bool
  /-- negative -/
  n : Bool
  /-- carry, or borrow -/
  c : Bool
  /-- signed overflow -/
  v : Bool
deriving DecidableEq, Repr

/-- The flags in `SW`. -/
def flagsOf (sw : Word) : Flags := { z := sw.getLsbD 0, n := sw.getLsbD 1, c := sw.getLsbD 2, v := sw.getLsbD 3 }

/-- `SW` with these flags; every other bit stays. -/
def swFlags (sw : Word) (f : Flags) : Word :=
  (sw &&& ~~~ 0xF#32) ||| BitVec.ofNat 32 (b2n f.z + 2 * b2n f.n + 4 * b2n f.c + 8 * b2n f.v)

/-- Flags of a result with a carry and an overflow. -/
def flagsRes (r : Word) (c v : Bool) : Flags := { z := r == 0, n := r.getLsbD 31, c := c, v := v }

/-- Signed overflow of an addition: the exact sum lies outside the 32-bit range. -/
def addOvf (a b : Word) : Bool := decide (a.toInt + b.toInt ≠ (a + b).toInt)
/-- Signed overflow of a subtraction. -/
def subOvf (a b : Word) : Bool := decide (a.toInt - b.toInt ≠ (a - b).toInt)
/-- The signed product lies outside the 32-bit range. -/
def mulOvf (a b : Word) : Bool := decide (a.toInt * b.toInt ≠ (a * b).toInt)

/-- Flags of `ADD` and `ADDT`. -/
def flagsAdd (a b : Word) : Flags := flagsRes (a + b) (decide (2 ^ 32 ≤ a.toNat + b.toNat)) (addOvf a b)
/-- Flags of `SUB`, `SUBT` and `CMPI`: `C` is the borrow. -/
def flagsSub (a b : Word) : Flags := flagsRes (a - b) (decide (a.toNat < b.toNat)) (subOvf a b)
/-- Flags of the logical operations, the comparisons and the multiplies. -/
def flagsLogic (r : Word) : Flags := flagsRes r false false
/-- `C` of a shift left: the last bit shifted out, 0 for no shift. -/
def outLeft (a : Word) (n : Nat) : Bool := n != 0 && a.getLsbD (32 - n)
/-- `C` of a shift or rotation right. -/
def outRight (a : Word) (n : Nat) : Bool := n != 0 && a.getLsbD (n - 1)

/-- The condition that bits [2:0] of cond name (19 Table 19-6). -/
def condBase (f : Flags) (n : Nat) : Bool :=
  match n with
  | 0 => f.z
  | 1 => f.c
  | 2 => f.c || f.z
  | 3 => f.n != f.v
  | 4 => f.z || f.n != f.v
  | 5 => f.n
  | 6 => f.v
  | _ => true

/-- A condition of `BC`: bit 3 inverts the condition of bits [2:0]. -/
def condHolds (f : Flags) (cond : BitVec 4) : Bool := condBase f (cond.toNat % 8) != cond.getLsbD 3

end Sys2Proof.Machine
end

