-- ==== Sys2Proof/Machine/Operands.lean ====
section
/-! DEFINITION. The operands of the core's instructions: the general registers, immediates, the fetch, loads, stores and the
store buffer (18 R671, R691 to R694; 19 R725 to R736). -/

namespace Sys2Proof.Machine

open Sys2Proof

/-- A synchronous fault: its entry, and what `CAUSE` and `FADDR` say of it (18 Table 18-7). -/
structure CoreFault where
  /-- vector entry -/
  entry : Nat
  /-- subcause -/
  sub : BitVec 4
  /-- size code: 0 byte, 1 halfword, 2 word, 3 block move -/
  size : Nat
  /-- the access is a write -/
  write : Bool
  /-- the access is a fetch -/
  fetch : Bool
  /-- failing address -/
  faddr : Word
deriving DecidableEq, Repr

/-- A fault that is no access: illegal opcode 1, privilege 2, arithmetic 6, `ENTER` 8, `BRK` 9. -/
def plainFault (entry : Nat) (sub : BitVec 4) : CoreFault :=
  { entry := entry, sub := sub, size := 0, write := false, fetch := false, faddr := 0 }

/-- What an instruction does once it is fetched: a state, or a fault that leaves no effect (18 R687). -/
abbrev Exec := Except CoreFault State

/-! ## Registers (18 R671; 19 R720) -/

/-- Applet mode. -/
def inApplet (s : State) : Bool := swA s.core.sw

/-- The value of a register: g0 reads 0, and g15 is the copy of the current mode. -/
def getG (s : State) (i : Fin 16) : Word :=
  if i = 0 then 0 else if i = 15 ∧ inApplet s then s.core.asp else s.core.g[i]

/-- Write a register of a mode: a write to g0 is discarded. -/
def setGAs (s : State) (applet : Bool) (i : Fin 16) (v : Word) : State :=
  if i = 0 then s else if i = 15 ∧ applet then { s with core.asp := v } else { s with core.g := s.core.g.set i v }

/-- Write a register of the current mode. -/
def setG (s : State) (i : Fin 16) (v : Word) : State := setGAs s (inApplet s) i v

/-- The next instruction's address. -/
def nextPc (s : State) : Word := s.core.pc + 4

/-- Continue at the next instruction. -/
def advancePc (s : State) : State := { s with core.pc := s.core.pc + 4 }

/-- Write the flags. -/
def setFlags (s : State) (f : Flags) : State := { s with core.sw := swFlags s.core.sw f }

/-- Write a register, the flags when `S` is 1, and continue. -/
def finish (s : State) (rd : Fin 16) (v : Word) (flags : Bool) (f : Flags) : State :=
  let s := setG s rd v
  advancePc (if flags then setFlags s f else s)

/-- An 18-bit immediate, sign-extended (19 R725). -/
def sext18 (i : BitVec 18) : Word := i.signExtend 32
/-- An 18-bit immediate, zero-extended. -/
def zext18 (i : BitVec 18) : Word := i.setWidth 32

/-! ## The store buffer (18 R691; 19 R731, R732) -/

/-- Bytes it holds. -/
def sbufDepth : Nat := 4

/-- One buffered store reaches SRAM. -/
def drainOne (s : State) : State :=
  match s.core.sbuf with
  | [] => s
  | b :: t => { s with mem := memPuts s.mem b.addr b.bytes, core.sbuf := t }

/-- `n` buffered stores reach SRAM, oldest first. -/
def drainN : Nat → State → State
  | 0, s => s
  | n + 1, s => drainN n (drainOne s)

/-- The whole store buffer drains. -/
def drainAll (s : State) : State := drainN s.core.sbuf.length s

/-- A store enters the buffer; when it is full the oldest one drains first. -/
def bufferStore (s : State) (b : BufStore) : State :=
  let s := if s.core.sbuf.length < sbufDepth then s else drainOne s
  { s with core.sbuf := s.core.sbuf ++ [b] }

/-- The newest buffered byte of a physical address. -/
def sbufByte : List BufStore → Nat → Option Byte
  | [], _ => none
  | b :: t, a =>
    match sbufByte t a with
    | some v => some v
    | none => if b.addr ≤ a ∧ a < b.addr + b.bytes.length then b.bytes[a - b.addr]? else none

/-- Loaded bytes with the buffered ones over them (19 R731). -/
def overlay (l : List BufStore) : Nat → List Byte → List Byte
  | _, [] => []
  | a, b :: t => (sbufByte l a).getD b :: overlay l (a + 1) t

/-! ## Accesses (18 R676, R692; 19 R729, R730; 20 R759 to R766) -/

/-- Bytes of a size code. -/
def sizeBytes (size : Nat) : Nat := 2 ^ size

/-- A load, with the size `CAUSE` names for a fault. -/
def coreLoadAs (s : State) (a : Word) (size causeSize : Nat) : Except CoreFault (List Byte × State) :=
  let f (entry : Nat) (sub : BitVec 4) : CoreFault :=
    { entry := entry, sub := sub, size := causeSize, write := false, fetch := false, faddr := a }
  let n := sizeBytes size
  if a.toNat % n ≠ 0 then .error (f 3 0)
  else
    match mpuCheck s (inApplet s) a.toNat 1 with
    | .error e => .error (f 7 e)
    | .ok p =>
      match busRead s p n with
      | .error e => .error (f 4 e)
      | .ok (b, s) => .ok (overlay s.core.sbuf p b, s)

/-- A store, with the size `CAUSE` names for a fault: SRAM through the store buffer, everything else unbuffered. -/
def coreStoreAs (s : State) (a : Word) (b : List Byte) (size causeSize : Nat) : Exec :=
  let f (entry : Nat) (sub : BitVec 4) : CoreFault :=
    { entry := entry, sub := sub, size := causeSize, write := true, fetch := false, faddr := a }
  if a.toNat % sizeBytes size ≠ 0 then .error (f 3 0)
  else
    match mpuCheck s (inApplet s) a.toNat 2 with
    | .error e => .error (f 7 e)
    | .ok p =>
      if inSram p then .ok (bufferStore s { addr := p, issued := a, bytes := b, size := causeSize, a := inApplet s })
      else
        match busWrite s (!inApplet s) p b with
        | .error e => .error (f 4 e)
        | .ok t => .ok t

/-- A load or store of a size (19 Table 19-5). -/
def coreLoad (s : State) (a : Word) (size : Nat) : Except CoreFault (List Byte × State) := coreLoadAs s a size size
/-- A store of a size. -/
def coreStore (s : State) (a : Word) (b : List Byte) (size : Nat) : Exec := coreStoreAs s a b size size

/-- What the fetch of the instruction at the pc meets: misaligned, a region fault, a bus error (18 Table 18-5 order 2). -/
def fetchFault (s : State) : Option CoreFault :=
  let a := s.core.pc
  let f (entry : Nat) (sub : BitVec 4) : CoreFault :=
    { entry := entry, sub := sub, size := 2, write := false, fetch := true, faddr := a }
  if a.toNat % 4 ≠ 0 then some (f 3 0)
  else
    match mpuCheck s (inApplet s) a.toNat 3 with
    | .error e => some (f 7 e)
    | .ok p =>
      match busRead s p 4 with
      | .error e => some (f 4 e)
      | .ok _ => none

end Sys2Proof.Machine
end

