-- ==== Sys2Proof/Machine/Except.lean ====
section
/-! DEFINITION. Exceptions of the core: the divide unit, exception entry, escalation, asynchronous events, what FW 4.2 does
about a fault, and the frame in which every instruction runs (18 R677 to R699, R713 to R715; 20 R788, R789, R794). -/

namespace Sys2Proof.Machine

open Sys2Proof

/-! ## The divide unit (18 R696 to R698; 19 R724) -/

/-- The fault of a divide: subcause 1 for a zero divisor, 2 for −2^31 ÷ −1 (19 Table 19-3). -/
def divFault (op : DivOp) (x y : Word) : Option (BitVec 4) :=
  if y = 0 then some 1 else if op = .divs ∧ x = 0x80000000 ∧ y = 0xFFFFFFFF then some 2 else none

/-- The result of a divide. -/
def divVal (op : DivOp) (x y : Word) : Word :=
  match op with
  | .divs => x.sdiv y
  | .divu => x / y
  | .rems => x.srem y
  | .remu => x % y

/-- A divide ends in the divide unit: its result is written, or an imprecise fault waits and the destination keeps its value
(18 R698). -/
def completeDivide (s : State) : State :=
  match s.core.div with
  | none => s
  | some d =>
    let s := { s with core.div := none }
    match divFault d.op d.x d.y with
    | none => setGAs s d.a d.rd (divVal d.op d.x d.y)
    | some sub => { s with core.imp := some (s.core.imp.getD (sub, d.pc, d.a)) }

/-! ## The applet's end (20 R772, R788; 18 R712 to R714) -/

/-- The wells whose request is an applet's. -/
def appletWells (s : State) : Wells :=
  (wellList (BitVec.allOnes 18)).foldl (fun m w => putW m w (s.bal.wells[w].req && s.bal.wells[w].applet)) 0

/-- A DMA channel of the applet aborted, its burst in progress included (20 R772, R781). -/
def dmaHalt (s : State) (n : Fin 8) : State :=
  let s := dmaAbort s n
  if s.dma.ch[n].state = .aborting then dmaAborted s n else s

/-- A check channel of the applet aborted, its burst in progress included (20 R772; 21 R805). -/
def ceHalt (s : State) (m : Fin 4) : State :=
  let s := ceAbort s m
  if s.ce.ch[m].state = .busy then ceAborted s m else s

/-- The firmware goes on in firmware mode; where, the spec does not say. -/
def leaveApplet (s : State) : State :=
  if inApplet s then
    let (v, s) := takeFree s
    { s with core.sw := swPut s.core.sw 6 false, core.pc := v &&& ~~~ 3#32 }
  else s

/-- What every stop of the applet does: channels aborted, regions disabled, requests ended (20 R772; 18 R712, R714). -/
def haltApplet (s : State) : State :=
  let s := ceHalt (ceHalt (dmaHalt (dmaHalt s 6) 7) 2) 3
  let s := { s with mpu.ap := s.mpu.ap.map fun r => { r with va := r.va &&& ~~~ 1#32 } }
  let s := leaveApplet (balEnd s (appletWells s) 3)
  { s with apl.inSvc := false, apl.suspended := false, apl.svcPend := false, apl.stopDue := none }

/-- Stop the applet: without a fault (`data` empty), or for a fault whose `APLFAULT` entry is `data` (18 R712, R714). -/
def stopApplet (s : State) (data : List Byte) : State :=
  let s := haltApplet s
  match data with
  | [] => { s with apl.state := if s.store.imgValid then .valid else .none }
  | _ =>
    let s := { s with apl.state := .faulted, apl.fvec := data.getD 1 0, apl.faults := s.apl.faults + 1 }
    jrnPut s false 0x49 data

/-- A stop is decided: at once, or when the service in progress completes (20 R788). -/
def decideStop (s : State) (data : List Byte) : State :=
  if s.apl.state != .running then s
  else if s.apl.inSvc then { s with apl.stopDue := some (s.apl.stopDue.getD data) }
  else stopApplet s data

/-- The data of an `APLFAULT` entry (22 Table 22-2): kind 1 fault, 2 budget. -/
def aplFaultData (kind v : Nat) (frame : List Word) : List Byte :=
  [BitVec.ofNat 8 kind, BitVec.ofNat 8 v, 0, 0] ++ wordsLe frame

/-- The applet's budget is exhausted (20 R794). -/
def overBudget (s : State) : Bool := s.apl.state == .running && decide (s.apl.budget * 24576 < s.apl.charge * 125)

/-! ## Exception entry (18 R683 to R686) -/

/-- `CAUSE` (18 Table 18-7). -/
def causeWord (v : Nat) (a write : Bool) (size : Nat) (fetch imprecise : Bool) (sub : BitVec 4) (ovr : Bool) : Word :=
  BitVec.ofNat 32 (v + 64 * b2n a + 128 * b2n write + 256 * size + 1024 * b2n fetch + 2048 * b2n imprecise
    + 4096 * sub.toNat + 65536 * b2n ovr)

/-- Write words with unbuffered stores in firmware mode, up to the first that faults; whether all were written. -/
def pushWords : State → Word → List Word → State × Bool
  | s, _, [] => (s, true)
  | s, a, w :: t =>
    match mpuCheck s false a.toNat 2 with
    | .error _ => (s, false)
    | .ok p =>
      match busWrite s true p (leBytes 4 w.toNat) with
      | .error _ => (s, false)
      | .ok s => pushWords s (a + 4) t

/-- A word read in firmware mode, unbuffered. -/
def fwWord (s : State) (a : Word) : Option (Word × State) :=
  match mpuCheck s false a.toNat 1 with
  | .error _ => none
  | .ok p =>
    match busRead s p 4 with
    | .error _ => none
    | .ok (b, s) => some (BitVec.ofNat 32 (leVal (overlay s.core.sbuf p b)), s)

/-- `SW` on entry: `A` 0, `H` 1, `P` 1, and `LVL` v for an interrupt. -/
def entrySw (sw : Word) (lvl : Option Nat) : Word :=
  let sw := swPut (swPut (swPut sw 6 false) 5 true) 4 true
  match lvl with
  | none => sw
  | some v => swSetLvl sw v

/-- Take entry `v` with this frame (18 R683 to R686), and find an exhausted budget (20 R794). -/
def takeEntry (s : State) (v : Nat) (lvl : Option Nat) (pcRet cause faddr : Word) : State :=
  let s := completeDivide s
  let old := s.core.sw
  let ev := [pcRet, old, cause, faddr]
  let sp := s.core.g[15]
  if sp.toNat % 8 ≠ 0 then fullStop s 2 0 ev
  else
    let (s, pushed) := pushWords s (sp - 16) ev
    if !pushed then fullStop s 2 0 ev
    else
      let s := { s with core.g := s.core.g.set 15 (sp - 16), core.sw := entrySw old lvl }
      match fwWord s (s.core.vbase + BitVec.ofNat 32 (4 * v)) with
      | none => fullStop s 2 0 ev
      | some (w, s) =>
        if w.toNat % 4 ≠ 0 then fullStop s 2 0 ev
        else
          let s := { s with core.pc := w }
          if swA old && overBudget s then decideStop s (aplFaultData 2 v ev) else s

/-- The code of `FSTOP` with which FW 4.2 answers a fault in firmware mode (20 R789). -/
def reactCode (v : Nat) (sub : BitVec 4) (ch : Nat) : Word := BitVec.ofNat 32 (v * 256 + sub.toNat * 16 + ch)

/-- Take the entry of a fault, and do what FW 4.2 does about it (20 Table 20-17): the applet stops for a fault of its own,
the firmware owes an `FSTOP` for one of its own. -/
def takeFault (s : State) (applet : Bool) (v : Nat) (sub : BitVec 4) (ch : Nat) (pcRet cause faddr : Word) : State :=
  if applet then
    let ev := [pcRet, s.core.sw, cause, faddr]
    decideStop (takeEntry s v none pcRet cause faddr) (aplFaultData 1 v ev)
  else takeEntry { s with core.owed := some (reactCode v sub ch) } v none pcRet cause faddr

/-! ## Asynchronous events (18 R679, R680, R682; Table 18-5 orders 5 to 8) -/

/-- An event that waits for a boundary. -/
inductive AsyncEv where
  | late (e : LateErr)
  | imp (sub : BitVec 4) (pc : Word) (a : Bool)
  | dma (n : Fin 8)
  | irq (v : Nat)
deriving DecidableEq, Repr

/-- The pending bits of entries 16 to 63 (18 R682, Table 18-6): the brown-out, the doorbell, DMA and the check engine are levels of
their units' own state, the other sources a request held until its handler clears it (log 34). -/
def pendBits (s : State) : BitVec 48 :=
  s.core.ipend ||| (if s.sup.brown then 1#48 else 0#48) ||| (if s.mbx.takeq.isEmpty then 0#48 else 1#48 <<< 26)
    ||| (s.dma.irq.setWidth 48 <<< 6) ||| (if s.ce.irq &&& 3 = 0 then 0#48 else 0x10000000#48)
    ||| (if s.ce.irq &&& 12 = 0 then 0#48 else 0x20000000#48)

/-- The enable bits of entries 16 to 63. -/
def enableBits (s : State) : BitVec 48 := s.core.ien0.setWidth 48 ||| (s.core.ien1.setWidth 48 <<< 32)

/-- The lowest set bit of a mask. -/
def lowest {n : Nat} (m : BitVec n) : Option Nat := (List.range n).find? m.getLsbD

/-- The interrupt to take: the lowest pending and enabled entry, when it lies below `LVL`. -/
def dueIrq (s : State) : Option Nat :=
  match lowest (pendBits s &&& enableBits s) with
  | none => none
  | some i => if 16 + i < swLvl s.core.sw then some (16 + i) else none

/-- The asynchronous event that is due and not waiting. -/
def asyncEvent (s : State) : Option AsyncEv :=
  if swH s.core.sw || s.core.fstop then none
  else
    match s.core.late with
    | some e => some (.late e)
    | none =>
      match s.core.imp with
      | some (sub, pc, a) => some (.imp sub pc a)
      | none =>
        match lowest s.dma.fnew with
        | some n => some (.dma (Fin.ofNat 8 n))
        | none => (dueIrq s).map .irq

/-- Take a late bus error as entry 5 (18 R693, R694). -/
def takeLate (s : State) (e : LateErr) (pcRet : Word) : State :=
  takeFault { s with core.late := none } e.a 5 e.sub 0 pcRet (causeWord 5 e.a true e.size.toNat false false e.sub e.ovr) e.addr

/-- Take an asynchronous event with `PC_RET` as given (18 R683, R693, R694, R698; 20 R786, Table 20-17). An imprecise fault
of the firmware is a full stop with `REASON` 4 (18 Table 18-9). After entry 46 the firmware owes `FSTOP` 0xD000 (24 R885). -/
def takeAsync (s : State) (pcRet : Word) : State :=
  match asyncEvent s with
  | none => s
  | some (.late e) => takeLate s e pcRet
  | some (.imp sub pc a) =>
    let c := causeWord 6 a false 0 false true sub false
    let s := { s with core.imp := none }
    if a then takeFault s true 6 sub 0 pcRet c pc else fullStop s 4 0 [pcRet, s.core.sw, c, pc]
  | some (.dma n) =>
    let c := s.dma.ch[n]
    let ap := decide (6 ≤ n.val)
    let w := causeWord 10 ap c.fwr (fld c.ctl 19 18) false false c.fsub false
    let s := { s with dma.rpt := BitVec.ofNat 3 n.val, core.dmaRep := true }
    takeFault s ap 10 c.fsub n.val pcRet w c.faddr
  | some (.irq v) =>
    let s := if v = 63 then { s with core.ipend := s.core.ipend &&& ~~~ (1#48 <<< 47) } else s
    let s := if v = 46 then { s with core.owed := some 0xD000 } else s
    takeEntry s v (some v) pcRet (causeWord v (inApplet s) false 0 false false 0 false) 0

/-- Raise a synchronous fault (18 R679, R681, R687): while `H` is 1 it escalates, and in the full stop it is a full reset (R702). -/
def raiseSync (s : State) (f : CoreFault) : State :=
  let a := inApplet s
  let c := causeWord f.entry a f.write f.size f.fetch false f.sub false
  if s.core.fstop then fullReset s 9
  else if swH s.core.sw then fullStop s 1 0 [s.core.pc, s.core.sw, c, f.faddr]
  else takeFault s a f.entry f.sub 0 s.core.pc c f.faddr

/-! ## How an instruction runs -/

/-- Work of level 2 waits: a message to take, or a journal entry to write (20 Table 20-18). -/
def workWaits (s : State) : Bool := !s.mbx.takeq.isEmpty || (!s.jrn.queue.isEmpty && !causesOpen s)

/-- The core takes events and issues instructions: no reset, and no `WAIT`. -/
def coreAwake (s : State) : Bool := active s && !s.clk.coreDead && !s.core.waiting

/-- The core issues instructions; an applet's only in ACTIVE, and while no work of level 2 waits (20 R790; 23 R843). -/
def coreOn (s : State) : Bool := coreAwake s && (!inApplet s || (s.pw.state == .active && !workWaits s))

/-- An instruction can issue at this boundary: no event is due before it. -/
def coreReady (s : State) : Bool := coreOn s && (asyncEvent s).isNone

/-- An imprecise arithmetic fault is due: it is taken before a synchronous fault (18 R699). -/
def impDue (s : State) : Bool := s.core.imp.isSome && !swH s.core.sw && !s.core.fstop

/-- An instruction issues: a late bus error noted before it is none of its drain. -/
def staleLate (s : State) : State := { s with core.late := s.core.late.map fun e => { e with fresh := false } }

/-- An instruction waits for the divide: it touches the destination, it is one that always waits, or it would be the
eighteenth since (18 R698; 19 R724). -/
def mustWait (s : State) (regs : List (Fin 16)) (bar : Bool) : Bool :=
  match s.core.div with
  | none => false
  | some d => bar || (d.rd != 0 && regs.contains d.rd) || decide (17 ≤ d.n)

/-- Let the divide end if the instruction waits for it, or count the instruction. -/
def settleDivide (s : State) (regs : List (Fin 16)) (bar : Bool) : State :=
  if mustWait s regs bar then completeDivide s
  else { s with core.div := s.core.div.map fun d => { d with n := d.n + 1 } }

/-- Run one instruction: the registers it reads or writes, whether it always waits for a divide, and its effect. Its own fault
comes before an asynchronous event of the same boundary, whose turn it otherwise is (18 R680, Table 18-5), but for an imprecise
fault (R699). A divide that faults while it waits is taken before it (18 Example 18-1). -/
def issue (regs : List (Fin 16)) (bar : Bool) (body : State → Exec) (s : State) : State :=
  if !coreOn s || impDue s then s
  else
    match fetchFault s with
    | some f => raiseSync s f
    | none =>
      if (asyncEvent s).isSome then
        match body s with
        | .ok _ => s
        | .error f => if mustWait s regs bar then s else raiseSync s f
      else
      let w := settleDivide (staleLate s) regs bar
      if (asyncEvent w).isSome then takeAsync w w.core.pc
      else
        match body w with
        | .ok t => t
        | .error f => raiseSync w f

/-- A privileged instruction in applet mode raises entry 2 (19 R748). -/
def privileged (s : State) (t : Exec) : Exec := if inApplet s then .error (plainFault 2 0) else t

/-! ## The events -/

/-- The core takes the event that is due: an asynchronous one, or before it the fault of the next fetch (18 R680, R683, R699). -/
def execExceptionEntry (s : State) : Host.Outcome State Fault Refusal :=
  if !coreAwake s || (asyncEvent s).isNone then .next s
  else
    match fetchFault s with
    | some f => .next (if impDue s || !coreOn s then takeAsync s s.core.pc else raiseSync s f)
    | none => .next (takeAsync s s.core.pc)

/-- The full-stop timer ends (18 R703; 24 Table 24-1). -/
def execFullStopTimerExpire (s : State) : Host.Outcome State Fault Refusal :=
  if s.rst.fstopTimer then .next (fullReset s 10) else .next s

/-- A divide ends (18 R696 to R699). -/
def execDivideComplete (s : State) : Host.Outcome State Fault Refusal :=
  if running s then .next (completeDivide s) else .next s

/-- A late bus error is noted: the first keeps its address, a second sets `OVR` (18 R693, R694). -/
def noteLate (s : State) (b : BufStore) (sub : BitVec 4) : State :=
  match s.core.late with
  | some e => { s with core.late := some { e with ovr := true } }
  | none =>
    { s with core.late := some { addr := b.issued, a := b.a, sub := sub, size := BitVec.ofNat 2 b.size, ovr := false,
                                 fresh := true } }

/-- The oldest buffered store reaches SRAM, or a bus error discards it (18 R691, R693; 19 R732). -/
def execStoreDrain (busErr : Option (BitVec 4)) (s : State) : Host.Outcome State Fault Refusal :=
  if !running s then .next s
  else
    match s.core.sbuf with
    | [] => .next s
    | b :: t =>
      match busErr with
      | none => .next (drainOne s)
      | some sub => .next (noteLate { s with core.sbuf := t } b sub)

/-- An enabled interrupt is pending, or in STANDBY work waits: `WAIT` ends (19 R750; 23 R843). -/
def execWaitEnd (s : State) : Host.Outcome State Fault Refusal :=
  if s.core.waiting && (pendBits s &&& enableBits s != 0 || (s.pw.state == .standby && workWaits s)) then
    .next { s with core.waiting := false }
  else .next s

/-- The word is an instruction (19 R717). -/
def legalWord (w : Word) : Bool := (decodeCore w).isSome

/-- The core decodes a word that the spec does not list: entry 1 (19 R717, R718). -/
def execIllegalOpcode (w : Word) (s : State) : Host.Outcome State Fault Refusal :=
  if legalWord w then .next s else .next (issue [] false (fun _ => .error (plainFault 1 0)) s)

/-- The fetch at the pc faults: misaligned, a region fault, or the bus error it meets (18 R672, R692; Table 18-5 order 2). -/
def execInstructionFetchFault (busErr : Option (BitVec 4)) (s : State) : Host.Outcome State Fault Refusal :=
  if !coreOn s || impDue s then .next s
  else
    match fetchFault s, busErr with
    | some f, _ => .next (raiseSync s f)
    | none, some sub =>
      .next (raiseSync s { entry := 4, sub := sub, size := 2, write := false, fetch := true, faddr := s.core.pc })
    | none, none => .next s

end Sys2Proof.Machine
end

