-- ==== Sys2Proof/Machine/Alu.lean ====
section
/-! DEFINITION. Arithmetic, logic, shifts, multiplies, divides and immediates of the core (19 R721 to R728, Tables 19-3,
19-4). -/

namespace Sys2Proof.Machine

open Sys2Proof

/-- An operation of two registers that never faults: its result, and the flags that S = 1 sets. -/
def aluBody (rd ra rb : Fin 16) (sb : Bool) (f : Word → Word → Word) (fl : Word → Word → Flags) (s : State) : Exec :=
  let a := getG s ra
  let b := getG s rb
  .ok (finish s rd (f a b) sb (fl a b))

/-- As a step. -/
def alu (rd ra rb : Fin 16) (sb : Bool) (f : Word → Word → Word) (fl : Word → Word → Flags) (s : State) :
    Host.Outcome State Fault Refusal :=
  .next (issue [rd, ra, rb] false (aluBody rd ra rb sb f fl) s)

/-- A trapping operation: entry 6 with subcause 3 when `ovf` holds, whatever S is (19 R723). -/
def trapBody (rd ra rb : Fin 16) (sb : Bool) (f : Word → Word → Word) (ovf : Word → Word → Bool)
    (fl : Word → Word → Flags) (s : State) : Exec :=
  if ovf (getG s ra) (getG s rb) then .error (plainFault 6 3) else aluBody rd ra rb sb f fl s

/-- As a step. -/
def trapping (rd ra rb : Fin 16) (sb : Bool) (f : Word → Word → Word) (ovf : Word → Word → Bool)
    (fl : Word → Word → Flags) (s : State) : Host.Outcome State Fault Refusal :=
  .next (issue [rd, ra, rb] false (trapBody rd ra rb sb f ovf fl) s)

/-- Amount of a shift: `rb[4:0]`. -/
def shAmt (b : Word) : Nat := b.toNat % 32

/-- Flags of a shift (19 Table 19-4). -/
def flagsShift (r : Word) (out : Bool) : Flags := flagsRes r out false

/-- 1 for true. -/
def boolWord (b : Bool) : Word := if b then 1 else 0

/-- High half of the signed product. -/
def mulHighS (a b : Word) : Word := ((a.signExtend 64 * b.signExtend 64) >>> 32).setWidth 32
/-- High half of the unsigned product. -/
def mulHighU (a b : Word) : Word := ((a.setWidth 64 * b.setWidth 64) >>> 32).setWidth 32

/-- The flags of a logical result. -/
def flagsOfRes (f : Word → Word → Word) (a b : Word) : Flags := flagsLogic (f a b)

/-- `ADD` (19 Table 19-3). -/
def execAdd (rd ra rb : Fin 16) (sb : Bool) (s : State) : Host.Outcome State Fault Refusal :=
  alu rd ra rb sb (fun a b => a + b) flagsAdd s

/-- `SUB`. -/
def execSub (rd ra rb : Fin 16) (sb : Bool) (s : State) : Host.Outcome State Fault Refusal :=
  alu rd ra rb sb (fun a b => a - b) flagsSub s

/-- `AND`. -/
def execAnd (rd ra rb : Fin 16) (sb : Bool) (s : State) : Host.Outcome State Fault Refusal :=
  alu rd ra rb sb (fun a b => a &&& b) (flagsOfRes (fun a b => a &&& b)) s

/-- `OR`. -/
def execOr (rd ra rb : Fin 16) (sb : Bool) (s : State) : Host.Outcome State Fault Refusal :=
  alu rd ra rb sb (fun a b => a ||| b) (flagsOfRes (fun a b => a ||| b)) s

/-- `XOR`. -/
def execXor (rd ra rb : Fin 16) (sb : Bool) (s : State) : Host.Outcome State Fault Refusal :=
  alu rd ra rb sb (fun a b => a ^^^ b) (flagsOfRes (fun a b => a ^^^ b)) s

/-- `ANDN`. -/
def execAndn (rd ra rb : Fin 16) (sb : Bool) (s : State) : Host.Outcome State Fault Refusal :=
  alu rd ra rb sb (fun a b => a &&& ~~~ b) (flagsOfRes (fun a b => a &&& ~~~ b)) s

/-- `SLL`. -/
def execSll (rd ra rb : Fin 16) (sb : Bool) (s : State) : Host.Outcome State Fault Refusal :=
  alu rd ra rb sb (fun a b => a <<< shAmt b) (fun a b => flagsShift (a <<< shAmt b) (outLeft a (shAmt b))) s

/-- `SRL`. -/
def execSrl (rd ra rb : Fin 16) (sb : Bool) (s : State) : Host.Outcome State Fault Refusal :=
  alu rd ra rb sb (fun a b => a >>> shAmt b) (fun a b => flagsShift (a >>> shAmt b) (outRight a (shAmt b))) s

/-- `SRA`. -/
def execSra (rd ra rb : Fin 16) (sb : Bool) (s : State) : Host.Outcome State Fault Refusal :=
  alu rd ra rb sb (fun a b => a.sshiftRight (shAmt b)) (fun a b => flagsShift (a.sshiftRight (shAmt b)) (outRight a (shAmt b))) s

/-- `ROR`. -/
def execRor (rd ra rb : Fin 16) (sb : Bool) (s : State) : Host.Outcome State Fault Refusal :=
  alu rd ra rb sb (fun a b => a.rotateRight (shAmt b)) (fun a b => flagsShift (a.rotateRight (shAmt b)) (outRight a (shAmt b))) s

/-- `MUL`. -/
def execMul (rd ra rb : Fin 16) (sb : Bool) (s : State) : Host.Outcome State Fault Refusal :=
  alu rd ra rb sb (fun a b => a * b) (flagsOfRes fun a b => a * b) s

/-- `MULHS`. -/
def execMulhs (rd ra rb : Fin 16) (sb : Bool) (s : State) : Host.Outcome State Fault Refusal :=
  alu rd ra rb sb mulHighS (flagsOfRes mulHighS) s

/-- `MULHU`. -/
def execMulhu (rd ra rb : Fin 16) (sb : Bool) (s : State) : Host.Outcome State Fault Refusal :=
  alu rd ra rb sb mulHighU (flagsOfRes mulHighU) s

/-- `ADDT` (19 R723). -/
def execAddt (rd ra rb : Fin 16) (sb : Bool) (s : State) : Host.Outcome State Fault Refusal :=
  trapping rd ra rb sb (fun a b => a + b) addOvf flagsAdd s

/-- `SUBT`. -/
def execSubt (rd ra rb : Fin 16) (sb : Bool) (s : State) : Host.Outcome State Fault Refusal :=
  trapping rd ra rb sb (fun a b => a - b) subOvf flagsSub s

/-- `MULT`. -/
def execMult (rd ra rb : Fin 16) (sb : Bool) (s : State) : Host.Outcome State Fault Refusal :=
  trapping rd ra rb sb (fun a b => a * b) mulOvf (flagsOfRes fun a b => a * b) s

/-- A divide: with `P` = 1 the core issues nothing until it ends, and its fault is precise; with `P` = 0 it goes to the
divide unit (18 R696 to R698). -/
def divBody (op : DivOp) (rd ra rb : Fin 16) (s : State) : Exec :=
  let x := getG s ra
  let y := getG s rb
  if swP s.core.sw then
    match divFault op x y with
    | some sub => .error (plainFault 6 sub)
    | none => .ok (advancePc (setG s rd (divVal op x y)))
  else
    .ok (advancePc { s with core.div := some { op := op, rd := rd, x := x, y := y, pc := s.core.pc, a := inApplet s, n := 0 } })

/-- A divide as a step; a second divide waits for the first (19 R724). -/
def divide (op : DivOp) (rd ra rb : Fin 16) (s : State) : Host.Outcome State Fault Refusal :=
  .next (issue [rd, ra, rb] true (divBody op rd ra rb) s)

/-- `DIVS` (19 R724). -/
def execDivs (rd ra rb : Fin 16) (s : State) : Host.Outcome State Fault Refusal := divide .divs rd ra rb s

/-- `DIVU` (19 R724). -/
def execDivu (rd ra rb : Fin 16) (s : State) : Host.Outcome State Fault Refusal := divide .divu rd ra rb s

/-- `REMS` (19 R724). -/
def execRems (rd ra rb : Fin 16) (s : State) : Host.Outcome State Fault Refusal := divide .rems rd ra rb s

/-- `REMU` (19 R724). -/
def execRemu (rd ra rb : Fin 16) (s : State) : Host.Outcome State Fault Refusal := divide .remu rd ra rb s

/-- `SLT`. -/
def execSlt (rd ra rb : Fin 16) (sb : Bool) (s : State) : Host.Outcome State Fault Refusal :=
  alu rd ra rb sb (fun a b => boolWord (a.slt b)) (flagsOfRes fun a b => boolWord (a.slt b)) s

/-- `SLTU`. -/
def execSltu (rd ra rb : Fin 16) (sb : Bool) (s : State) : Host.Outcome State Fault Refusal :=
  alu rd ra rb sb (fun a b => boolWord (a.ult b)) (flagsOfRes fun a b => boolWord (a.ult b)) s

/-- An operation of a register and an immediate: it leaves the flags (19 R725, R727, R728). -/
def immBody (rd ra : Fin 16) (f : Word → Word) (s : State) : Exec := .ok (advancePc (setG s rd (f (getG s ra))))

/-- As a step. -/
def immediate (rd ra : Fin 16) (f : Word → Word) (s : State) : Host.Outcome State Fault Refusal :=
  .next (issue [rd, ra] false (immBody rd ra f) s)

/-- `ADDI` (19 R725). -/
def execAddi (rd ra : Fin 16) (imm : BitVec 18) (s : State) : Host.Outcome State Fault Refusal :=
  immediate rd ra (fun a => a + sext18 imm) s

/-- `ANDI`. -/
def execAndi (rd ra : Fin 16) (imm : BitVec 18) (s : State) : Host.Outcome State Fault Refusal :=
  immediate rd ra (fun a => a &&& zext18 imm) s

/-- `ORI`. -/
def execOri (rd ra : Fin 16) (imm : BitVec 18) (s : State) : Host.Outcome State Fault Refusal :=
  immediate rd ra (fun a => a ||| zext18 imm) s

/-- `XORI`. -/
def execXori (rd ra : Fin 16) (imm : BitVec 18) (s : State) : Host.Outcome State Fault Refusal :=
  immediate rd ra (fun a => a ^^^ zext18 imm) s

/-- `CMPI` (19 R726). -/
def execCmpi (ra : Fin 16) (imm : BitVec 18) (s : State) : Host.Outcome State Fault Refusal :=
  .next (issue [ra] false (fun s => .ok (advancePc (setFlags s (flagsSub (getG s ra) (sext18 imm))))) s)

/-- `SHI`, left (19 R727). -/
def execShiSll (rd ra : Fin 16) (amount : BitVec 5) (s : State) : Host.Outcome State Fault Refusal :=
  immediate rd ra (fun a => a <<< amount.toNat) s

/-- `SHI`, right with zeros in. -/
def execShiSrl (rd ra : Fin 16) (amount : BitVec 5) (s : State) : Host.Outcome State Fault Refusal :=
  immediate rd ra (fun a => a >>> amount.toNat) s

/-- `SHI`, right with the sign in. -/
def execShiSra (rd ra : Fin 16) (amount : BitVec 5) (s : State) : Host.Outcome State Fault Refusal :=
  immediate rd ra (fun a => a.sshiftRight amount.toNat) s

/-- `SHI`, rotation right. -/
def execShiRor (rd ra : Fin 16) (amount : BitVec 5) (s : State) : Host.Outcome State Fault Refusal :=
  immediate rd ra (fun a => a.rotateRight amount.toNat) s

/-- `LUI` (19 R728). -/
def execLui (rd : Fin 16) (imm : BitVec 16) (s : State) : Host.Outcome State Fault Refusal :=
  .next (issue [rd] false (fun s => .ok (advancePc (setG s rd (imm.setWidth 32 <<< 16)))) s)

end Sys2Proof.Machine
end

