-- ==== Sys2Proof/Machine/Bal.lean ====
section
/-! DEFINITION. Balancing frames, the governor and switch tests (08). -/

namespace Sys2Proof.Machine

open Sys2Proof

/-- Allowed internal dissipation in nW at a die temperature in 1/64 °C (03 Table 3-13, R90, R91). -/
def pAllow (t : Int) : Nat :=
  if t ≤ 6080 then 1200000000 else if 8000 ≤ t then 0 else 1200000000 - 625000 * (t - 6080).toNat

/-- v(k) in 10 µV (08 R265). -/
def vOf (s : State) (w : Well) : Nat :=
  match s.acq.good[w] with
  | some (c, t) => if s.now - t < 2000 * ctPerMs then c.natAbs else 525000
  | none => 525000

/-- The power of a conducting switch in nW. -/
def pWell (s : State) (w : Well) : Nat :=
  let v := vOf s w
  let r := s.bal.wells[w].ron
  v * v * r * 100000 / ((loopR s.bal.rbUse w + r) * (loopR s.bal.rbUse w + r))

/-- The wells in state RUN. -/
def runMask (s : State) : Wells := reqMask s &&& ~~~ (pausedMask s)

/-- A well of a set has a neighbour in it. -/
def hasNeighbour (m : Wells) (w : Well) : Bool :=
  (decide (0 < w.val) && m.getLsbD (w.val - 1)) || (decide (w.val < 17) && m.getLsbD (w.val + 1))

/-- Of requested neighbours, the odd wells rest in odd frames and the even wells in even frames (08 R264). -/
def dropNeighbours (m : Wells) (frame : Nat) : Wells :=
  (wellList m).foldl (fun r w => if hasNeighbour m w && (w.val + 1) % 2 == frame % 2 then putW r w false else r) m

/-- The length of a balancing frame in ct. -/
def frameCt : Nat := 10 * ctPerMs

/-- The conduction time each kept well is granted, in ct. -/
def grantTime (s : State) (keep : Wells) : Nat :=
  if extFet s then frameCt
  else
    let p := ((wellList keep).map (pWell s)).foldl (· + ·) 0
    let a := pAllow s.aux.tmax.toInt
    if a = 0 then 0 else if p ≤ a then frameCt else frameCt * a / p

/-- A target-mode well whose latest usable result has reached its target (08 R262). -/
def reached (s : State) (w : Well) : Bool :=
  let b := s.bal.wells[w]
  b.req && b.target && (match fresh2s s s.acq.usable[w] with
    | some c => decide (c ≤ (b.targetV.toNat * 10 : Nat))
    | none => false)

/-- The wells of a set for which a condition holds. -/
def wellsWhere (m : Wells) (p : Well → Bool) : Wells := (wellList m).foldl (fun r w => if p w then r else putW r w false) m

/-- The firmware's decisions at a frame start (08 R257, R262 to R264, R273). -/
def balDecide (s : State) (frame : Nat) : State :=
  let changed := s.bal.rbUse != s.cfg.balRb
  let s := { s with bal.rbUse := s.cfg.balRb }
  let s := if changed then balEnd s (wellsWhere (reqMask s) (r254 s s.bal.rbUse)) 9 else s
  let s := balEnd s (wellsWhere (reqMask s) (reached s)) 2
  let s := { s with bal.due := s.bal.due ||| wellsWhere (reqMask s) (fun w => !tested s w) }
  let s := { s with bal.wells := Vector.ofFn fun i =>
                      { s.bal.wells[i] with pause := if s.bal.wells[i].req then pauseOf s i else 0 } }
  let run := runMask s
  let keep := if extFet s then run else dropNeighbours run frame
  let g := grantTime s keep
  reclose { s with bal.grant := if g = 0 then 0 else keep, bal.grantCt := g }

/-- A balancing frame starts: what the last one granted ends; in ACTIVE and STANDBY the firmware decides,
where it runs (08 R264, R899). -/
def execBalFrame (s : State) : Host.Outcome State Fault Refusal :=
  if !running s then .next s
  else
    let n := s.bal.frame
    let s := { openSwitches s with bal.frame := n + 1, bal.grant := 0, bal.grantCt := 0 }
    .next (if fwOn s then balDecide s n else s)

/-- A grant has run out (08 R899). -/
def execBalGrantExpire (w : Well) (s : State) : Host.Outcome State Fault Refusal :=
  .next { openWells s (wbit w) with bal.grant := putW s.bal.grant w false }

/-- A request's conduction time has run out (08 R261). -/
def execBalTimeElapsed (w : Well) (s : State) : Host.Outcome State Fault Refusal :=
  if active s && s.bal.wells[w].req then .next (balEnd s (wbit w) 1) else .next s

/-! ### Switch tests -/

/-- A test starts while no span is open, no acquisition is queued and no tick is pending; its first phase waits for the quiet time (08
R268, R274, R275). At 125 °C no internal switch conducts (03 R91). -/
def execSwitchTestStart (s : State) : Host.Outcome State Fault Refusal :=
  let m := testWanted s
  if fwOn s && noSpan s && !tickPending s && s.acq.req.isNone && s.acq.ow == .idle && s.bal.testRun == 0 && !dieHot s
      && m != 0 then
    let s := openSwitches s
    .next { s with bal.testRun := m, bal.due := 0, bal.testWait := !quietOk s, bal.testEven := (m &&& oddWells) == 0,
                   bal.testAt := s.now, bal.testOn := 0 }
  else .next s

/-- Every 600 s for every well that holds a request (08 R273); a pending test pauses at once. -/
def execSwitchTestPeriodic (s : State) : Host.Outcome State Fault Refusal :=
  if active s then .next (balPauseNow { s with bal.due := s.bal.due ||| reqMask s }) else .next s

/-- What a test of one well shows. -/
inductive SwitchVerdict where
  | pass (ron : Option Nat) | closedFail | openFail
deriving DecidableEq, Repr

/-- The verdict of 08 R276, R277, R279, in µV and µΩ. -/
def switchVerdict (s : State) (w : Well) (r : SwitchReading) : SwitchVerdict :=
  if r.clipped then .closedFail
  else if extFet s then
    if 200000 < r.vo then .openFail else if r.vd < 4500000 then .closedFail else .pass none
  else if 50000 < r.vc - r.vo then .openFail
  else
    let den := r.vc - r.vd
    let x := r.vd * (loopR s.bal.rbUse w : Int)
    if 0 < den ∧ 200000 * den ≤ x ∧ x ≤ 2200000 * den then .pass (some (x / den).toNat) else .closedFail

/-- Note a well's result in a `BAL_TEST` in progress. -/
def btestNote (t : TestVerb) (w : Well) (pass : Bool) : TestVerb :=
  if hasW t.todo w then
    { t with todo := putW t.todo w false, pass := putW t.pass w pass, other := putW t.other w (!pass) }
  else t

/-- The well is named by a `BAL_TEST` in progress. -/
def inBtest (s : State) (w : Well) : Bool := s.bal.btest.any fun t => hasW t.todo w

/-- Act on the verdict of one well (08 R276 to R281). -/
def switchResult (s : State) (w : Well) (v : SwitchVerdict) : State :=
  let wn : Byte := BitVec.ofNat 8 (w.val + 1)
  let named := inBtest s w
  let pass := match v with | .pass _ => true | _ => false
  let s := { s with bal.btest := s.bal.btest.map fun t => btestNote t w pass, bal.testFail := putW s.bal.testFail w (!pass) }
  match v with
  | .pass ron =>
    let b := s.bal.wells[w]
    let s := { s with bal.wells := s.bal.wells.set w { b with ron := ron.getD b.ron, passAt := some s.now } }
    if named && hasW s.bal.stuck w then jrnPut { s with bal.stuck := putW s.bal.stuck w false } false 0x41 [4, wn] else s
  | .closedFail => jrnPut (balEnd s (wbit w) 7) false 0x45 [7, wn]
  | .openFail => jrnPut { balEnd s (BitVec.allOnes 18) 7 with bal.stuck := putW s.bal.stuck w true } true 0x06 [wn]

/-- Act on the verdicts of the wells under test. -/
def switchResults : List Well → List SwitchReading → State → State
  | [], _, s => s
  | w :: t, r, s =>
    let z : SwitchReading := { vc := 0, vo := 0, vd := 0, clipped := false }
    switchResults t r (switchResult s w (switchVerdict s w (r.getD w.val z)))

/-- Answer every `BAL_TEST` of a list that has nothing left to test; the others wait on (14 R536). -/
def btestAnswers : List TestVerb → State → State
  | [], s => s
  | t :: l, s =>
    if t.todo = 0 then btestAnswers l (btestReply s t)
    else btestAnswers l { s with bal.btest := s.bal.btest ++ [t] }

/-- Place the replies of the `BAL_TEST` verbs that have nothing left to test. -/
def btestFinish (s : State) : State := btestAnswers s.bal.btest { s with bal.btest := [] }

/-- The steps of both phases of the test are over: V_D of the last one has been read (08 R275; log 118). -/
def testOver (s : State) : Bool :=
  !s.bal.testWait && (s.bal.testEven || (s.bal.testRun &&& ~~~ oddWells) == 0) && decide (s.bal.testAt + 23348 ≤ s.now)

/-- A switch test completes; readings by well (08 R275 to R281). -/
def execSwitchTestDone (r : List SwitchReading) (s : State) : Host.Outcome State Fault Refusal :=
  if !fwOn s || s.bal.testRun == 0 || !testOver s then .next s
  else
    let m := s.bal.testRun &&& usedMask s.cfg
    let s := { dropTest s with bal.due := s.bal.due }
    let s := switchResults (wellList m) r s
    .next (reclose (btestFinish (noteConditions s)))

/-- `T_BAL_LOSS` expires: every request ends, with one record when there was any (08 Table 8-7). One that has expired stays so until
host activity restarts it (23 R851). -/
def execBalLossExpire (s : State) : Host.Outcome State Fault Refusal :=
  if !active s || s.pw.balGone then .next s
  else
    let any := reqMask s != 0
    let s := balEnd { s with pw.balGone := true } (BitVec.allOnes 18) 4
    .next (if any then jrnPut s false 0x45 [4, 0] else s)

end Sys2Proof.Machine
end

