-- ==== Sys2Proof/Machine/Prot.lean ====
section
/-! DEFINITION. OV and UV comparators, their self-test, and the fault frames (09). -/

namespace Sys2Proof.Machine

open Sys2Proof

/-- `PROT_STAT` (09 Table 9-3). -/
def protStat (s : State) : Word :=
  BitVec.ofNat 32 (b2n (s.prot.ovTrip != 0) + 2 * b2n (s.prot.uvTrip != 0) + 4 * b2n s.gate.disc
    + 8 * b2n (s.prot.ovFault != 0 || s.prot.uvFault != 0) + 16 * b2n s.aux.ot + 32 * b2n (fwCond s)
    + 64 * b2n (faultLow s || s.sup.faultExt) + 256 * gateCode s.gate.state
    + 4096 * (if s.gate.disc then s.gate.cause.toNat else 0))

/-- A comparator runs: a used CELL-role well, in every state but SHUTDOWN (23 Table 23-1, 06 R184). -/
def cmpOn (s : State) (w : Well) : Bool := s.sup.por && s.pw.state != .shutdown && hasW (cellMask s.cfg) w

/-- A comparator is tripped. -/
def cmpTripped (s : State) (w : Well) (uv : Bool) : Bool := hasW (if uv then s.prot.uvTrip else s.prot.ovTrip) w

/-- Its deglitch runs. -/
def cmpDeg (s : State) (w : Well) (uv : Bool) : Bool := hasW (if uv then s.prot.uvDeg else s.prot.ovDeg) w

/-- Start or end a deglitch. -/
def putDeg (s : State) (w : Well) (uv b : Bool) : State :=
  if uv then { s with prot.uvDeg := putW s.prot.uvDeg w b } else { s with prot.ovDeg := putW s.prot.ovDeg w b }

/-- Trip or release a comparator. -/
def putTrip (s : State) (w : Well) (uv b : Bool) : State :=
  if uv then { s with prot.uvTrip := putW s.prot.uvTrip w b } else { s with prot.ovTrip := putW s.prot.ovTrip w b }

/-- The OV hold-off counts while the gate is in RAMP or ON and some OV comparator is tripped (09 R904). -/
def noteHold (s : State) : State :=
  { s with gate.hold := fld s.cfg.gateCfg2 15 8 != 0 && (s.gate.state == .ramp || s.gate.state == .on) && s.prot.ovTrip != 0 }

/-- This comparator is under test. -/
def underTest (s : State) (w : Well) (uv : Bool) : Bool :=
  match s.prot.test with
  | some t => t.w == w && t.uv == uv
  | none => false

/-- The input comes to lie across the threshold, or returns before the deglitch ends (09 R289). During a test of the comparator the
window's end takes it up (R298). -/
def execComparatorCrossing (w : Well) (uv : Bool) (across : Bool) (s : State) : Host.Outcome State Fault Refusal :=
  if !cmpOn s w || cmpTripped s w uv then .next s
  else if underTest s w uv then .next { s with prot.test := s.prot.test.map fun t => { t with cross := across } }
  else .next (putDeg s w uv across)

/-- The firmware's part of a trip: the record with the threshold in force, a UV trip's effect on balancing, torque and the
wake (09 R291; 08 Table 8-7; 16 cause 8; 23 R848, R863). -/
def tripNoted (s : State) (w : Well) (uv : Bool) : State :=
  let s := tripRecord s w uv true
  let s := if uv then tqImmediate (balEnd s (wbit w) 6) 8 else s
  let s := irqRaise s 20
  if lowOrDecided s (fun p => p == .patrol || p == .sleep) then wakeAlarm s (if uv then 0x10 else 0x08) else s

/-- A trip or release while reset is held: the release of reset journals it (04 R117). -/
def heldNote (s : State) (w : Well) (uv trip : Bool) : State :=
  { s with prot.heldEvents := s.prot.heldEvents ++ [(w, uv, trip)] }

/-- A deglitch ends across the threshold: the comparator trips (09 R289 to R292). Under test it only passes its test
(R297). -/
def execComparatorTrip (w : Well) (uv : Bool) (s : State) : Host.Outcome State Fault Refusal :=
  if !cmpOn s w then .next s
  else if underTest s w uv then .next { s with prot.test := s.prot.test.map fun t => { t with tripped := true } }
  else if cmpTripped s w uv || !cmpDeg s w uv then .next s
  else
    let s := noteHold (putDeg (putTrip s w uv true) w uv false)
    let s := mapOpen s fun sp => { sp with trip := putW sp.trip w true }
    .next (noteConditions (if running s then tripNoted s w uv else heldNote s w uv true))

/-- The release condition is met: the comparator releases, with a routine record (09 R289, R291). -/
def execComparatorRelease (w : Well) (uv : Bool) (s : State) : Host.Outcome State Fault Refusal :=
  if !cmpTripped s w uv then .next s
  else
    let s := noteHold (putTrip s w uv false)
    let s := { s with prot.relAt := noteAt (wbit w) s.now s.prot.relAt }
    let s := if running s then irqRaise (tripRecord s w uv false) 20 else heldNote s w uv false
    .next (noteConditions s)

/-! ### Self-tests (09 R293 to R302, R901 to R903) -/

/-- How one test ended. -/
inductive CmpResult where
  | passed | failed | skipped
deriving DecidableEq, Repr

/-- Note a result in a `CMP_TEST` in progress. -/
def ctestNote (t : TestVerb) (w : Well) (uv : Bool) (r : CmpResult) : TestVerb :=
  if uv then
    if hasW t.todoUv w then { t with todoUv := putW t.todoUv w false, passUv := putW t.passUv w (r == .passed),
                                     otherUv := putW t.otherUv w (r == .skipped) } else t
  else
    if hasW t.todo w then { t with todo := putW t.todo w false, pass := putW t.pass w (r == .passed),
                                   other := putW t.other w (r == .skipped) } else t

/-- Answer every `CMP_TEST` of a list that has nothing left to do (14 Table 14-7). -/
def ctestAnswers : List TestVerb → State → State
  | [], s => s
  | t :: l, s =>
    if t.todo = 0 ∧ t.todoUv = 0 then
      ctestAnswers l (replyOk s t.w.verb t.w.msg
        (leBytes 4 t.pass.toNat ++ leBytes 4 t.passUv.toNat ++ leBytes 4 t.other.toNat ++ leBytes 4 t.otherUv.toNat))
    else ctestAnswers l { s with prot.ctest := s.prot.ctest ++ [t] }

/-- Place the replies of the `CMP_TEST` verbs that are done. -/
def ctestFinish (s : State) : State := ctestAnswers s.prot.ctest { s with prot.ctest := [] }

/-- The test is one of those a `CMP_TEST` waits for. -/
def inCtest (s : State) (w : Well) (uv : Bool) : Bool := s.prot.ctest.any fun t => hasW (if uv then t.todoUv else t.todo) w

/-- It is a start-up test still owed. -/
def owed (s : State) (w : Well) (uv : Bool) : Bool := hasW (if uv then s.prot.oweUv else s.prot.oweOv) w
/-- It is to be repeated (R902). -/
def toRedo (s : State) (w : Well) (uv : Bool) : Bool := hasW (if uv then s.prot.redoUv else s.prot.redo) w

/-- Change the sets of owed tests. -/
def putOwe (s : State) (w : Well) (uv b : Bool) : State :=
  if uv then { s with prot.oweUv := putW s.prot.oweUv w b } else { s with prot.oweOv := putW s.prot.oweOv w b }
/-- Change the sets of tests to repeat. -/
def putRedo (s : State) (w : Well) (uv b : Bool) : State :=
  if uv then { s with prot.redoUv := putW s.prot.redoUv w b } else { s with prot.redo := putW s.prot.redo w b }
/-- Note that a start-up test was skipped under R901 (R902). -/
def putAgain (s : State) (w : Well) (uv b : Bool) : State :=
  if uv then { s with prot.againUv := putW s.prot.againUv w b } else { s with prot.againOv := putW s.prot.againOv w b }
/-- A comparator fault stands. -/
def cmpFaulty (s : State) (w : Well) (uv : Bool) : Bool := hasW (if uv then s.prot.uvFault else s.prot.ovFault) w
/-- Raise or clear a comparator fault. -/
def putFault (s : State) (w : Well) (uv b : Bool) : State :=
  if uv then { s with prot.uvFault := putW s.prot.uvFault w b } else { s with prot.ovFault := putW s.prot.ovFault w b }

/-- The latest result of a well, if there is one since reset release; an unused channel's word is none (log 133). -/
def lastCode (s : State) (w : Well) : Option Int :=
  let m := s.acq.last[w.val + 1]
  if m.seen then some m.code else none

/-- A test is skipped by the well's latest result (09 R300). -/
def skipByResult (s : State) (w : Well) (uv : Bool) : Bool :=
  match lastCode s w with
  | none => false
  | some c => if uv then decide (460000 < c) else decide (c < 100000)

/-- The well whose pair is next in the periodic turn: the wells are taken in turn, and only used CELL-role wells (09 R301, R903). -/
def turnWell (s : State) : Option Well :=
  let l := wellList (cellMask s.cfg)
  match l.find? fun w => decide (s.prot.turn ≤ w.val) with
  | some w => some w
  | none => l.head?

/-- The tests of a well's pair that the turn has made: none of a well at which it has only just arrived. -/
def pairDone (s : State) (w : Well) : BitVec 2 := if s.prot.turn = w.val then s.prot.turnDone else 0

/-- The periodic turn has this test next. -/
def inTurn (s : State) (w : Well) (uv : Bool) : Bool := turnWell s == some w && !(pairDone s w).getLsbD (b2n uv)

/-- The periodic turn has made a test; after both of a pair it goes to the next well. -/
def turnOn (s : State) (w : Well) (uv : Bool) : State :=
  let d := pairDone s w ||| (1#2 <<< b2n uv)
  if d = 3 then { s with prot.turn := w.val + 1, prot.turnDone := 0 } else { s with prot.turn := w.val, prot.turnDone := d }

/-- A test ends with a result (09 R302, R902): a failure made without a result of the well is no fault and is repeated; a repeat
that fails is a fault. Only a `CMP_TEST` that passes clears a fault. -/
def cmpResult (s : State) (w : Well) (uv : Bool) (o : TestOrigin) (blind : Bool) (r : CmpResult) : State :=
  let s := match o with
    | .verb => { s with prot.ctest := s.prot.ctest.map fun t => ctestNote t w uv r }
    | .startup => putAgain (putOwe s w uv false) w uv false
    | .periodic => turnOn s w uv
  let s := match r with
    | .passed => putRedo (if o == .verb then putFault s w uv false else s) w uv false
    | .skipped => putRedo s w uv false
    | .failed =>
      if blind then putRedo s w uv true
      else
        let s := putRedo s w uv false
        if cmpFaulty s w uv then s
        else jrnPut (putFault s w uv true) true 0x04 [BitVec.ofNat 8 (w.val + 1), BitVec.ofNat 8 (b2n uv)]
  ctestFinish (noteConditions s)

/-- Who asked for the test that starts now, if anybody: a start-up test owed or to be repeated, a `CMP_TEST`, or the periodic turn. -/
def testOrigin (s : State) (w : Well) (uv : Bool) : Option TestOrigin :=
  if owed s w uv || toRedo s w uv then some .startup
  else if inCtest s w uv then some .verb
  else if inTurn s w uv then some .periodic
  else none

/-- A well that is no used CELL-role well is passed over: a `CMP_TEST` reports its test as skipped (09 R903). -/
def passOver (s : State) (w : Well) (uv : Bool) : State :=
  let s := putAgain (putRedo (putOwe s w uv false) w uv false) w uv false
  if inCtest s w uv then ctestFinish { s with prot.ctest := s.prot.ctest.map fun t => ctestNote t w uv .skipped } else s

/-- A test is about to start: it is skipped under R901, or under R300 (but not before the first result, R902), else it runs. A
start-up test skipped under R901 is to be made again until it has run (R902). -/
def execCmpSelfTestStart (w : Well) (uv : Bool) (s : State) : Host.Outcome State Fault Refusal :=
  if !active s || s.prot.test.isSome then .next s
  else if !hasW (cellMask s.cfg) w then .next (passOver s w uv)
  else
    match testOrigin s w uv with
    | none => .next s
    | some o =>
      let blind := (lastCode s w).isNone
      let again := o == .startup && hasW (if uv then s.prot.againUv else s.prot.againOv) w
      if cmpTripped s w uv || cmpDeg s w uv then
        let s := cmpResult s w uv o blind .skipped
        .next (if o == .startup then putAgain s w uv true else s)
      else if skipByResult s w uv then
        let s := cmpResult s w uv o blind .skipped
        .next (if again then putAgain s w uv true else s)
      else .next { s with prot.test := some { w := w, uv := uv, origin := o, tripped := false, blind := blind, cross := false } }

/-- The 40 µs window ends: passed when the comparator has tripped; a crossing that began in it starts its deglitch (09 R295, R296,
R298). The test of a well that has meanwhile left the used CELL-role wells, whose comparators are off, counts as passed over
(06 R184; 09 R903). -/
def execCmpTestWindowEnd (s : State) : Host.Outcome State Fault Refusal :=
  match s.prot.test with
  | none => .next s
  | some t =>
    let s := putDeg { s with prot.test := none } t.w t.uv (t.cross && cmpOn s t.w)
    if !active s then .next s
    else if !hasW (cellMask s.cfg) t.w then .next (passOver s t.w t.uv)
    else .next (cmpResult (irqRaise s 20) t.w t.uv t.origin t.blind (if t.tripped then .passed else .failed))

/-- The gate has left RAMP or ON by a latch of this very moment: what arises together with its cause still counts (09 R330). -/
def latchedNow (s : State) : Bool := s.gate.state == .turnoff && s.gate.disc && decide (s.gate.discAt = s.now)

/-- The hold-off reaches `OVOFF` × 100 ms (09 R904). -/
def execOvHoldoffExpire (s : State) : Host.Outcome State Fault Refusal :=
  if (s.gate.hold && (s.gate.state == .ramp || s.gate.state == .on))
      || (latchedNow s && fld s.cfg.gateCfg2 15 8 != 0 && s.prot.ovTrip != 0) then .next (discLatch s 9)
  else .next s

/-! ### Fault frames (09 R312, 11 R416, R433) -/

/-- Send a FAULT frame with `PROT_STAT` south; an orphaned device of a ring sends it on both ports. -/
def sendFaultFrame (s : State) : State :=
  let p := leBytes 4 (protStat s).toNat
  let s := sendFrame s .south 4 0 p
  if s.tim.orphaned && s.chn.ring then sendFrame s .north 4 0 p else s

/-- 500 µs after a bit became set no noun frame has carried it south (09 R312). Before enumeration the ports only receive frames
(04 Table 4-3, R112). -/
def execFaultFrameTimer (s : State) : Host.Outcome State Fault Refusal :=
  if active s && s.chn.fltTimer && s.chn.addr != 0x7F then
    .next (sendFaultFrame { s with chn.fltTimer := false, chn.fltRep := 4 })
  else .next s

/-- The FAULT frame is repeated, at most four times (11 R416). -/
def execFaultFrameRepeat (s : State) : Host.Outcome State Fault Refusal :=
  if active s && s.chn.fltRep != 0 && s.chn.addr != 0x7F then .next (sendFaultFrame { s with chn.fltRep := s.chn.fltRep - 1 }) else .next s

end Sys2Proof.Machine
end

