-- ==== Sys2Proof/Machine/Gate.lean ====
section
/-! DEFINITION. The disconnect gate and the short-circuit comparator (09, 07). -/

namespace Sys2Proof.Machine

open Sys2Proof

/-- The VDS limit of checkpoint `i`, 1 to 4, in mV (09 Tables 9-4, 9-6). -/
def ckLimit (c : CfgRegs) (i : Nat) : Int :=
  match i with
  | 1 => 500 * (fld c.gateCfg 15 8 : Int)
  | 2 => 500 * (fld c.gateCfg 23 16 : Int)
  | 3 => 500 * (fld c.gateCfg 31 24 : Int)
  | _ => 50 * (fld c.gateCfg2 7 0 : Int)

/-- The short-circuit comparator is armed in RAMP, ON and TURNOFF (07 R219), the turn-off at an entry to SLEEP or SHUTDOWN
included (09 R905; 23 Table 23-2). -/
def scArmed (s : State) : Bool := s.gate.state == .ramp || s.gate.state == .on || s.gate.state == .turnoff

/-- The direction is one that `SC_CFG.DIR` enables (07 Table 7-5). -/
def scDir (s : State) (ispHigh : Bool) : Bool := bitOf s.cfg.scCfg (if ispHigh then 8 else 9)

/-- A trip of the armed short-circuit comparator shows in every open span (07 R212); `now` of it is kept for a strobe whose span
has already begun. -/
def scMark (s : State) : State :=
  { mapOpen s fun sp => { sp with scTrip := true } with acq.scAt := some s.now }

/-- An armed short-circuit trip (07 R221; 09 R327, R329, R905): cause 1 in RAMP or a turn-off that began there, else 2. In the turn-off
that a reset has begun the gate controller latches it without the core, which is held in reset and writes no record (R324; log 110). -/
def execScTrip (ispHigh : Bool) (s : State) : Host.Outcome State Fault Refusal :=
  if !scArmed s || !scDir s ispHigh then .next s
  else
    let on := s.gate.state == .on || (s.gate.state == .turnoff && s.gate.fromOn)
    let c : BitVec 4 := if on then 2 else 1
    let s := scMark s
    if !running s then .next (if s.gate.disc then s else noteConditions (latchDisc s c))
    else
    let s := discLatch s c
    .next (if lowOrDecided s (· == .patrol) then wakeAlarm s 0x20 else s)

/-- The self-test of the short-circuit comparator ends: every enabled direction must have tripped (07 R222, R223). -/
def execScSelfTestDone (trip01 trip10 : Bool) (s : State) : Host.Outcome State Fault Refusal :=
  if !active s || s.gate.state != .test then .next s
  else if (scDir s true && !trip01) || (scDir s false && !trip10) then .next (discLatch s 8)
  else .next (irqRaise { s with gate.testOk := true } 19)

/-- `CP` has reached 90 % and the self-test has passed: the ramp starts (09 R320). -/
def execGateRampStart (s : State) : Host.Outcome State Fault Refusal :=
  if active s && s.gate.state == .test && s.gate.testOk then
    .next (noteHold { s with gate.state := .ramp, gate.ck := 0, gate.overs := 0 })
  else .next s

/-- A checkpoint of the ramp, with the sensed VDS in mV; a short-circuit trip of the same cycle belongs to RAMP (09 R321,
R322, R329, R330). The fourth that passes completes the ramp. One missed at the very moment of a latch joins its causes. -/
def execGateCheckpoint (vds : Int) (scTrip : Bool) (s : State) : Host.Outcome State Fault Refusal :=
  let i := s.gate.ck + 1
  let missed := decide (ckLimit s.cfg i < vds)
  let c : BitVec 4 := BitVec.ofNat 4 (2 + i)
  if running s && latchedNow s && !s.gate.fromOn && decide (i ≤ 4) && missed then .next (discLatch s c)
  else if !running s || s.gate.state != .ramp then .next s
  else
    let s := { s with gate.vds := vds }
    if scTrip then
      let s := discLatch (scMark s) 1
      .next (if missed then discLatch s c else s)
    else if missed then .next (discLatch s c)
    else if i < 4 then .next { s with gate.ck := i }
    else .next (gateNotify <| noteHold <| irqRaise (v := 19) { s with gate.ck := 4, gate.state := .on, gate.overs := 0 })

/-- The 100 µs sample in ON: two in a row above `CK4` are a fault (09 R323), also when the second falls on the moment of a latch
(R330). -/
def execGateVdsSample (vds : Int) (s : State) : Host.Outcome State Fault Refusal :=
  if active s && latchedNow s && s.gate.fromOn && decide (1 ≤ s.gate.overs) && decide (ckLimit s.cfg 4 < vds) then
    .next (discLatch s 7)
  else if !active s || s.gate.state != .on then .next s
  else
    let s := { s with gate.vds := vds }
    if vds ≤ ckLimit s.cfg 4 then .next { s with gate.overs := 0 }
    else if s.gate.overs + 1 < 2 then .next { s with gate.overs := s.gate.overs + 1 }
    else .next (discLatch s 7)

/-- A stage of the turn-off ends: after stage 2 the gate is clamped, OFF or FAULT (09 R325). -/
def execGateTurnoffStageEnd (s : State) : Host.Outcome State Fault Refusal :=
  if s.gate.state != .turnoff then .next s
  else if !s.gate.stage2 then .next { s with gate.stage2 := true }
  else .next (gateNotify <| irqRaise (v := 19) { s with gate.state := if s.gate.disc then .fault else .off, gate.stage2 := false })

end Sys2Proof.Machine
end

