-- ==== Sys2Proof/Machine/Link.lean ====
section
/-! DEFINITION. Frames on the line, relay, retransmission, bursts and breaks (10, 11). -/

namespace Sys2Proof.Machine

open Sys2Proof

/-! ### Receiving and relaying -/

/-- The device relays frames (11 R388): it has an address. -/
def relays (s : State) : Bool := s.chn.addr != 0x7F#7

/-- From the first symbol in of a cut-through copy to its first symbol out, in ns (10 Table 10-5). -/
def cutNs : Nat := 320

/-- The device transmits its own alarm burst on some port. -/
def alarmOnAir (s : State) : Bool :=
  (s.sp.alarmTx && decide (s.now < s.sp.txEnd)) || (s.np.alarmTx && decide (s.now < s.np.txEnd))

/-- A frame begins to arrive. While the outgoing port transmits it is not relayed, and counted (11 R389). Otherwise an EL2 frame
whose outgoing port runs EL2 is relayed by cut-through (10 R355), but dropped and counted as well when that port cannot start
(log 19); every other one is stored. -/
def execFrameRelayStart (p : Port) (g : Gen) (s : State) : Host.Outcome State Fault Refusal :=
  if !portLive s p || transmitting s (portOf s p) then .next s
  else
    let s := setPort s p { portOf s p with rxBusy := true, cut := false, noRelay := false, hurt := false }
    let q := otherPort p
    if !relays s || !portLive s q then .next s
    else
      let s := if transmitting s (portOf s q) then s else latchGen s q
      let u := portOf s q
      let cutThrough := g == .el2 && txGen u == .el2
      if transmitting s u || (cutThrough && !(pairQuiet s u && decide (u.freeAt ≤ s.now + nsCt cutNs))) then
        .next (setPort { s with chn.drops := satInc s.chn.drops } p { portOf s p with noRelay := true })
      else if cutThrough then
        let s := setPort s q { u with relaying := true, txAs := .el2, alarmTx := false, burstTx := false, txRel := false }
        .next (setPort s p { portOf s p with cut := true })
      else .next s

/-- Set one position of a crumb message being assembled; `LSEQ` 0 begins a new one (11 R432). -/
def crumbBit (a : CrumbAsm) (f : Frame) : CrumbAsm :=
  let i := f.lseq.toNat
  let a := if i = 0 then { a with bits := 0, got := 0 } else a
  let m : BitVec 256 := 1#256 <<< i
  { a with bits := if f.crumb then a.bits ||| m else a.bits &&& ~~~ m, got := a.got ||| m }

/-- A complete message whose CRC-16 checks. -/
def crumbDone (a : CrumbAsm) : Option (List Byte) :=
  let b := leBytes 32 a.bits.toNat
  if a.got = BitVec.allOnes 256 ∧ leBytes 2 (crc16 (b.take 30)).toNat = b.drop 30 then some b else none

/-- The head assembles crumbs of frames with `CV` = 0 from addresses 0x02 to 0x40 (11 R432). -/
def noteCrumb (s : State) (f : Frame) : State :=
  if !isHead s || f.cv || decide (f.src < 2#7) || decide (0x40#7 < f.src) then s
  else
    let a := (s.chn.casm.find? fun a => a.src == f.src).getD { src := f.src, bits := 0, got := 0 }
    let a := crumbBit a f
    let rest := s.chn.casm.filter fun a => a.src != f.src
    match crumbDone a with
    | none => { s with chn.casm := a :: rest }
    | some b => { s with chn.casm := rest,
                         chn.cacc := (f.src, b, s.now) :: s.chn.cacc.filter fun c => c.1 != f.src }

/-- The window frame of the address above this one has been forwarded (11 R420). -/
def noteForward (s : State) (f : Frame) (at_ : Nat) : State :=
  if f.src = s.chn.addr + 1 ∧ (f.type = 3 ∨ f.type = 0xB ∨ f.type = 0xC ∨ (f.type = 4 ∧ f.payload = [])) then
    { s with chn.winFwd := some at_ }
  else s

/-- The end of a cut-through copy: a crust only for a validated frame that is not spoiled (11 R390, R391, R396). Of its own
conditions the copy carries those of the frame's end, which also end the timer of 09 R312 (log 125). -/
def endCut (s : State) (p : Port) (f : Option Frame) : State :=
  let q := otherPort p
  let s := setPort s q { portOf s q with relaying := false, freeAt := s.now + nsCt (cutNs + gapNs .el2) }
  match f with
  | none => setPort s q { portOf s q with txNow := none, endOut := some .burnt }
  | some f =>
    if spoils s p f then setPort s q { portOf s q with txNow := some f, endOut := some .burnt }
    else
      let s := setPort s q { portOf s q with txNow := some (orFlt s q f), endOut := some .valid }
      let s := if q = .south then noteForward s f (s.now + nsCt cutNs) else s
      if q = .south ∧ isNoun f.type = true then { s with chn.fltTimer := false } else s

/-- A frame ends on a port: validated or discarded; its copy ends, or waits for store and forward (11 R387 to R391; 10 R337,
R349, R355, R356, R370). "A frame with a valid crust" of R337 and R370 is one that ends with the marker, validated or not
(log 126). -/
def frameEnd (s : State) (p : Port) (r : RawFrame) : State :=
  let v := validate r
  let u := portOf s p
  let s := setPort s p { u with rxBusy := false, cut := false, noRelay := false, hurt := false,
                                freeAt := s.now + nsCt (turnNs r.gen),
                                cerr := if r.codeErr then satInc u.cerr else u.cerr }
  let s := if r.crust = .burnt then { s with chn.burnt := satInc s.chn.burnt } else s
  let s := if r.crust = .valid then setPortGen s p { portOf s p with rx := some r.gen, alarmOn := false, alarm := 0 } else s
  let s := if u.cut then endCut s p v else s
  match v with
  | none => s
  | some f =>
    let s := irqRaise (noteTop (noteCrumb s f) f.src) (if p = .south then 30 else 31)
    let q := otherPort p
    if !u.cut && !u.noRelay && relays s && portLive s q then
      setPort s q { portOf s q with fwd := (portOf s q).fwd ++ [{ frame := f, gen := r.gen, endAt := s.now }] }
    else s

/-- The levels of an arriving frame have come in; one that a burst has met is damaged (10 R345 to R351, R372; 11 R387). -/
def execFrameEndReceived (p : Port) (r : LineFrame) (s : State) : Host.Outcome State Fault Refusal :=
  if !portLive s p || !(portOf s p).rxBusy then .next s
  else
    let x := readLine r
    .next (frameEnd s p { x with codeErr := x.codeErr || (portOf s p).hurt })

/-- A stored frame leaves by port `p`, in the generation that port uses at that moment (10 R355, R357; 11 R386); not while an own
alarm burst is on the air (10 R367). -/
def execStoreForwardSend (p : Port) (s : State) : Host.Outcome State Fault Refusal :=
  if !portLive s p || !lineFree s p || alarmOnAir s then .next s
  else
    match (portOf s p).fwd with
    | [] => .next s
    | w :: t =>
      let s := latchGen (setPort s p { portOf s p with fwd := t }) p
      let g := txGen (portOf s p)
      let s := putOnLine s p (formCopy s p w g) (if spoils s (otherPort p) w.frame then .burnt else .valid) (preambleNs g)
      let s := setPort s p { portOf s p with txRel := true }
      .next (if p = .south then noteForward s w.frame (portOf s p).txEnd else s)

/-! ### Own frames -/

/-- A frame would start and end within the free interval of the latest tick frame or beat (11 R412). -/
def inFree (s : State) (p : Port) (f : Frame) : Bool :=
  let g := txGen (portOf s p)
  decide (s.chn.freeFrom ≤ s.now) && decide (s.now + frameCt' g f .valid (preambleNs g) ≤ s.chn.freeTo)

/-- The copy of a tick frame or beat that waits on the other port can start with this one (11 R407). -/
def twinReady (s : State) (p : Port) (f : Frame) : Bool :=
  let q := otherPort p
  !(f.type == 5 || f.type == 6) || !sendLive s q || lineFree s q

/-- A frame may start now by port `p` (11 R407, R412, R413): time frames, records and the empty FAULT frames of a window at their
own times, the others within a free interval or while orphaned. An unassigned device only answers ENUM (04 Table 4-3; 11 R398). -/
def mayStart (s : State) (p : Port) (f : Frame) : Bool :=
  if s.chn.addr = 0x7F ∧ f.type ≠ 8 then false
  else if isTime f.type then twinReady s p f
  else f.type == 3 || f.type == 0xB || f.type == 0xC || (f.type == 4 && f.payload.isEmpty) || inFree s p f || s.tim.orphaned

/-- The first frame of a queue that may start, and the others. -/
def takeStart (s : State) (p : Port) : List Frame → Option (Frame × List Frame)
  | [] => none
  | f :: t =>
    if mayStart s p f then some (f, t)
    else match takeStart s p t with
      | none => none
      | some (g, t') => some (g, f :: t')

/-- A waiting tick frame whose instant has come nearer than the lead: it does not start any more (05 R160; log 99). -/
def tickLate (s : State) (f : Frame) : Bool := f.type == 5 && !leadKept s (BitVec.ofNat 32 (leAt f.payload 8 4))

/-- The queues without the tick frames that come too late. -/
def dropLate (s : State) : State :=
  { s with sp := { s.sp with txq := s.sp.txq.filter fun f => !tickLate s f },
           np := { s.np with txq := s.np.txq.filter fun f => !tickLate s f } }

/-- A queue without a frame that both ports start now (11 R407). -/
def unqueue (s : State) (f : Frame) : State :=
  { s with sp := { s.sp with txq := s.sp.txq.erase f }, np := { s.np with txq := s.np.txq.erase f } }

/-- A waiting frame starts (11 R407, R412; 10 R338, R352). -/
def execFrameTransmit (p : Port) (s : State) : Host.Outcome State Fault Refusal :=
  if !portLive s p || !lineFree s p then .next s
  else
    let s := dropLate (latchGen s p)
    match takeStart s p (portOf s p).txq with
    | none => .next s
    | some (f, t) =>
      let s := if f.type = 5 ∨ f.type = 6 then startPair (latchGen (unqueue s f) (otherPort p)) f
        else startOwn (setPort s p { portOf s p with txq := t }) p f
      .next (irqRaise s (if p = .south then 32 else 33))

/-- The line differs from the port's own drive: burnt crust, release, one collision counted (10 R354). Bursts are sent in
full (R371). -/
def execCollisionDetect (p : Port) (s : State) : Host.Outcome State Fault Refusal :=
  let u := portOf s p
  let q := otherPort p
  if !active s || u.burstTx || u.brkOut || !transmitting s u then .next s
  else
    let wasRelay := u.relaying
    let s := setPort s p { u with relaying := false, txEnd := s.now, endOut := some .burnt, cerr := satInc u.cerr,
                                  freeAt := s.now + nsCt (crustNs u.txAs .burnt + turnNs u.txAs) }
    .next (if wasRelay then setPort s q { portOf s q with cut := false, noRelay := true } else s)

/-! ### Retransmission -/

/-- A forwarded message or a refused one is answered outside the duplicate window (13 Table 13-2). -/
def errDirect (s : State) (verb : BitVec 16) (m : Msg) (code detail : Nat) : State :=
  deliver s m (withTrailer (replyBody s verb m true false (leBytes 2 code ++ leBytes 2 detail)))

/-- A message of this device's own host port. -/
def hostMsg (i : Fin 4) (tag : BitVec 16) (payload : List Byte) : Msg :=
  { mbx := i, tag := tag, src := none, lseq := 0, port := .south, bcast := false, env := false, payload := payload }

/-- The head completes a forwarded message with `LINKFAIL` (12 R469, 13 R487). -/
def linkFail (s : State) (i : Fin 4) (detail : Nat) : State :=
  match s.chn.fwd.find? fun f => f.pair == i with
  | none => s
  | some f =>
    let s := { s with chn.fwd := s.chn.fwd.filter fun f => f.pair != i }
    let s := errDirect s f.verb (hostMsg i f.tag []) 0xB detail
    irqSet { s with host.lfail := BitVec.ofNat 32 (f.target.toNat % 128 + 128 + 256 * i.val) } 0x200#13

/-- Drop a frame that waits for an ACK. -/
def dropUnacked (l : List Unacked) (n : Byte) : List Unacked := l.filter fun u => u.frame.lseq != n

/-- No ACK came in time: send again with `RTX`, or after three retransmissions report a link failure (11 R426). -/
def execRetransmitTimeout (lseq : Byte) (s : State) : Host.Outcome State Fault Refusal :=
  if !active s then .next s
  else
    match s.chn.unacked.find? fun u => u.frame.lseq == lseq with
    | none => .next s
    | some u =>
      if u.tries < 3 then
        let l := s.chn.unacked.map fun v => if v.frame.lseq == lseq then { v with tries := v.tries + 1 } else v
        let s := { s with chn.unacked := l, chn.rtxs := satInc s.chn.rtxs }
        .next (enqueueTx s u.port { u.frame with rtx := true })
      else
        let s := { s with chn.unacked := dropUnacked s.chn.unacked lseq, chn.lfail := satInc s.chn.lfail }
        .next (match u.pair with
          | none => s
          | some i => linkFail s i 0)

/-! ### Bursts (10 R364 to R372) -/

/-- A port can send a burst (10 R340, R352, R372): enabled, `VPORT` present, nothing on its line. In SLEEP and SHUTDOWN Tables
2-2 and 2-3 give the transmitter as off, while 23 Table 23-1 gives the ports as in PATROL, where bursts are sent and relayed; the
model lets bursts go out in every power state (log 103). -/
def canBurst (s : State) (p : Port) : Bool := running s && portEnabled s p && s.sup.vport && lineFree s p

/-- The port sends a burst of 200 µs. -/
def sendBurst (s : State) (p : Port) (alarm relay : Bool) : State :=
  let u := portOf s p
  setPort s p { u with txEnd := s.now + usCt 200, alarmTx := alarm, burstTx := true, txRel := relay, bursts := u.bursts + 1 }

/-- The device relays something at this moment: a copy, a burst or a break. -/
def relayOnAir (s : State) : Bool :=
  let on (u : PortUnit) : Bool := u.relaying || u.brkRelay || (u.txRel && decide (s.now < u.txEnd))
  on s.sp || on s.np

/-- Energy for the detection time: the port's bit latches, a relay on the other port is queued where that port could send
(10 R365, R366, R368; 23 R862, R864). A disabled port's detector is off (R340). The burst holds the pair for what is left of its
202 µs at most (R352; log 104), and damages a frame that is arriving (R372). -/
def execBurstDetect (p : Port) (s : State) : Host.Outcome State Fault Refusal :=
  if !running s || !portEnabled s p || transmitting s (portOf s p) then .next s
  else
    let q := otherPort p
    let u := portOf s p
    let s := setPort s p { u with rxBurst := s.now + usCt 202, hurt := u.hurt || u.rxBusy }
    let s := if portEnabled s q && s.sup.vport then setPort s q { portOf s q with burst := true } else s
    .next (wakeFor s (if p = .south then 2 else 4))

/-- The pending relay of port `p` is sent (10 R366, R367). -/
def execBurstRelay (p : Port) (s : State) : Host.Outcome State Fault Refusal :=
  if (portOf s p).burst && canBurst s p && !alarmOnAir s then
    let s := setPort s p { portOf s p with burst := false }
    .next (sendBurst s p false true)
  else .next s

/-- One own alarm burst on a port, of those that are left (10 R369, R370; 23 R866). It waits for the end of what the device relays,
since during it nothing is relayed (10 R367; log 124). -/
def alarmBurst (s : State) (p : Port) : State :=
  let u := portOf s p
  if u.alarmOn && u.alarm != 0 && canBurst s p && !relayOnAir s then
    let s := setPort s p { u with alarm := u.alarm - 1, alarmOn := u.alarm != 1 }
    let s := sendBurst s p true false
    { s with pw.wake := s.pw.wake ||| 0x800#32 }
  else s

/-- The device sends its first own alarm burst, south and with `ALMN` north (10 R369). -/
def execAlarmBurstSend (s : State) : Host.Outcome State Fault Refusal :=
  let first (s : State) (p : Port) : State := if (portOf s p).alarm = 8 then alarmBurst s p else s
  .next (first (first s .south) .north)

/-- The repeat interval has ended without a valid frame (10 R370). -/
def execAlarmBurstRepeat (p : Port) (s : State) : Host.Outcome State Fault Refusal :=
  if (portOf s p).alarm < 8 then .next (alarmBurst s p) else .next s

/-- The wake burst of a device woken by `HCS_N` (23 R865). -/
def execWakeBurstSend (s : State) : Host.Outcome State Fault Refusal :=
  if s.pw.wakeBurst && canBurst s .north && !alarmOnAir s then
    .next (sendBurst { s with pw.wakeBurst := false } .north false false)
  else .next s

/-! ### Breaks (10 R373 to R378) -/

/-- A port can transmit a break at all: enabled and with `VPORT` (10 R375, R377). -/
def breakPort (s : State) (q : Port) : Bool := portEnabled s q && s.sup.vport

/-- R352 lets a break begin on the port: nothing is detected on its pair and its turnaround has passed. What the port itself sends
is cut (log 124). -/
def breakFree (s : State) (q : Port) : Bool :=
  let u := portOf s q
  pairQuiet s u && (transmitting s u || decide (u.freeAt ≤ s.now))

/-- The port puts the break pattern on its line, and cuts what it sends. -/
def putBreak (s : State) (q : Port) : State :=
  let u := portOf s q
  setPort s q { u with brkOut := true, relaying := false, txEnd := s.now,
                       endOut := if transmitting s u && !u.brkOut then some .missing else u.endOut }

/-- Port `q` relays a break where it can, at once or, while an own alarm burst is on the air or R352 holds it back, later (10 R352,
R367, R375, R377; log 124). A relay that turns out impossible after the incoming break has ended leaves the full reset of R376. -/
def startBreak (s : State) (q : Port) : State :=
  if !breakPort s q || (portOf s q).brkIn then
    let s := setPort s q { portOf s q with brkDue := false }
    if (portOf s (otherPort q)).brkIn then s else fullReset s 5
  else if alarmOnAir s || !breakFree s q then setPort s q { portOf s q with brkDue := true }
  else
    let s := putBreak s q
    setPort s q { portOf s q with brkRelay := true, brkDue := false }

/-- A break is recognised, in every power state but not in reset; it is relayed where the other port can (10 R375, R377). A frame
that was arriving is lost. -/
def execBreakRecognise (p : Port) (s : State) : Host.Outcome State Fault Refusal :=
  if s.rst.held || !portEnabled s p || (portOf s p).brkIn then .next s
  else
    let s := if (portOf s p).cut then endCut s p none else s
    let s := setPort s p { portOf s p with brkIn := true, rxBusy := false, cut := false }
    .next (startBreak s (otherPort p))

/-- The pattern of the oldest `CHAIN_BREAK` begins on the north port where R352 allows (14 R542; log 124). -/
def chainBreakGo (s : State) : State :=
  if !s.chn.brk.isEmpty && !s.np.brkOut && breakPort s .north && breakFree s .north then putBreak s .north else s

/-- Breaks that have been held back start as soon as they may (10 R352, R367). -/
def tickBreak (s : State) : State :=
  let due (s : State) (q : Port) : State := if (portOf s q).brkDue then startBreak s q else s
  chainBreakGo (due (due s .south) .north)

/-- The relay of a break on port `p` ends, after the incoming break has ended and at least 2.5 ms: full reset (10 R375, R376). -/
def execBreakRelayEnd (p : Port) (s : State) : Host.Outcome State Fault Refusal :=
  if (portOf s p).brkRelay && !(portOf s (otherPort p)).brkIn then .next (fullReset s 5) else .next s

/-- The incoming break ends: a device that does not relay it makes the full reset, one that does, or still has to, ends its relay
first (10 R375, R376). -/
def execBreakEnd (p : Port) (s : State) : Host.Outcome State Fault Refusal :=
  let q := portOf s (otherPort p)
  if !(portOf s p).brkIn then .next s
  else if q.brkRelay || q.brkDue then .next (setPort s p { portOf s p with brkIn := false })
  else .next (fullReset s 5)

/-! ### Fault bits at the head -/

/-- No validated frame has carried this bit for 10 ms (12 R470). -/
def execHostFltLiveAgeOut (bit : Fin 4) (s : State) : Host.Outcome State Fault Refusal :=
  if running s && isHead s then
    let m : BitVec 4 := 1#4 <<< bit.val
    .next (updateLive { s with chn.flts := s.chn.flts.map fun f => (f.1 &&& ~~~ m, f.2) })
  else .next s

end Sys2Proof.Machine
end

