-- ==== Sys2Proof/Machine/Chain.lean ====
section
/-! DEFINITION. Frames a device acts on: time frames, enumeration, calibration, records, replies and windows (11). -/

namespace Sys2Proof.Machine

open Sys2Proof

/-! ### What every validated frame brings -/

/-- `FLT` of a validated frame: noted for 10 ms (11 R411, 12 R470), and presented to the safety monitor of the anchor
(16 R616, causes 9 and 10). -/
def heardFrame (s : State) (f : Frame) : State :=
  let recent := s.chn.flts.filter fun x => decide (s.now - x.2 ≤ 10 * ctPerMs)
  let s := updateLive { noteTop s f.src with chn.flts := (f.flt, s.now) :: recent }
  let s := if f.flt.getLsbD 1 then tqImmediate s 9 else s
  if f.flt.getLsbD 2 then tqImmediate s 10 else s

/-- Acknowledge a frame out of the port it came by (11 R425, R433). -/
def sendAck (s : State) (p : Port) (f : Frame) : State := sendFrame s p 0xA f.src [f.lseq, 0]

/-! ### Chain time -/

/-- A second anchor shows itself (16 R596): no more time frames, torque removed, `FAULT_N` held, one record. -/
def anchorConflict (s : State) (p : Port) (f : Frame) : State :=
  if s.tq.conflict then s
  else
    let s := tqImmediate { s with tq.conflict := true } 18
    noteConditions (jrnPut s true 0x15 [BitVec.ofNat 8 f.type.toNat, if p = .south then 0 else 1])

/-- One span of the chain-time counter, in ct/16. -/
def chainSpan : Int := 2 ^ 32 * 24 * 16

/-- A difference of chain times as the nearest signed number (05 R146). -/
def wrapCt (d : Int) : Int := (d + chainSpan / 2) % chainSpan - chainSpan / 2

/-- The offset of a time frame that arrived at the counter value `at_`, in ct/16 (11 R408). -/
def timeOffset (s : State) (f : Frame) (at_ : Nat) : Int :=
  let ttx := leAt f.payload 0 4 * 24 + byteAt f.payload 4 % 32
  wrapCt (((ttx + leAt f.payload 24 3 : Nat) : Int) * 16 + (s.chn.da.toNat : Int) - (at_ : Int) * 16)

/-- An offset in ct/16 lies within a limit in ns. -/
def withinNs (off : Int) (ns : Nat) : Bool := decide (off.natAbs * 1000000 ≤ ns * 16 * 196608)

/-- Move the chain-time counter by a number of ct. -/
def moveCnt (s : State) (d : Int) : State :=
  { s with tim.cnt := (((s.tim.cnt : Int) + d) % (2 ^ 32 * 24)).toNat }

/-- Frequency steering: a free steering value, to which the output slews (05 R131, R143; 11 R404; log 15). -/
def steerFreq (s : State) : State :=
  let (v, s) := takeFree s
  retune { s with clk.steer := v }

/-- Steering: the frequency, and the sub-period phase by a free amount of at most 1 ct per millisecond (05 R143; log 15). -/
def steer (s : State) (ms : Nat) : State :=
  let (d, s) := takeFree (steerFreq s)
  moveCnt s ((d.toNat % (2 * ms + 1) : Nat) - (ms : Int))

/-- The port that a tick frame or beat came by, at this moment. -/
def noteBeat (s : State) (p : Port) : State :=
  match p with
  | .south => { s with tim.southBeat := some s.now }
  | .north => { s with tim.northBeat := some s.now }

/-- A tick frame or beat came by each port within the last 50 ms (16 R596). -/
def beatsBothPorts (s : State) : Bool :=
  let near (t : Option Nat) : Bool := match t with | some t => decide (s.now - t ≤ 50 * ctPerMs) | none => false
  near s.tim.southBeat && near s.tim.northBeat

/-- A beat with another calibration epoch makes the calibration invalid (11 R403). -/
def checkEpoch (s : State) (f : Frame) : State :=
  if s.chn.calValid && s.chn.calEp != f.payload.getD 5 0 then { s with chn.calValid := false } else s

/-- `ALIGNED` falls when it stands and an offset is too large (05 R145); while it has not been set again the device only steers
(R143). -/
def applyOffset (s : State) (off : Int) (el2 : Bool) (ms : Nat) : State :=
  let good := withinNs off (if el2 then 10 else 500)
  if s.tim.stepDue then
    moveCnt { s with tim.stepDue := false, tim.goodBeats := b2n good, sch.lastFix := none } ((off + 192) / 384 * 24)
  else if s.tim.aligned && !withinNs off (if el2 then 20 else 800) then loseAlign s
  else
    let n := if good then s.tim.goodBeats + 1 else 0
    steer { s with tim.goodBeats := n, tim.aligned := s.tim.aligned || decide (4 ≤ n) } ms

/-- Take time from a frame that came by the port alone: the offset steps the counter, steers, or loses alignment. A device without
a valid calibration steers its frequency only (11 R404). -/
def applyTime (s : State) (p : Port) (f : Frame) (at_ ms : Nat) : State :=
  let el2 := (portOf s p).rx == some .el2
  let s := { s with tim.facing := p }
  if !s.chn.calValid then steerFreq (loseAlign s)
  else
    let off := timeOffset s f at_
    applyOffset { s with tim.offset := BitVec.ofInt 8 (clampI (-127) 127 (off.tdiv 16)) } off el2 ms

/-- A device other than the anchor takes time from a validated tick frame or beat (05 R142 to R145; 11 R403, R404, R408);
with frames on both ports within 50 ms it takes time from neither and keeps `ALIGNED` at 0 (16 R596). -/
def takeTime (s : State) (p : Port) (f : Frame) (at_ : Nat) : State :=
  let ms := match s.tim.beatAt with | some t => msSince s t | none => 0
  let s := checkEpoch (noteBeat { s with tim.beatAt := some s.now, tim.orphaned := false } p) f
  if beatsBothPorts s then loseAlign s else applyTime s p f at_ ms

/-- The tick of a sequence number is marked cancelled in a mask (11 Table 11-6, `CMASK`). -/
def maskHas (tseq : BitVec 16) (mask : Nat) (n : BitVec 16) : Bool :=
  let i := (tseq - 1 - n).toNat
  decide (i < 16) && (mask / 2 ^ i % 2 == 1)

/-- Mark the samples of ticks `UNSCHEDULED` (05 R168). -/
def markUnsched (s : State) (c : BitVec 16 → Bool) : State :=
  let snap (k : Snapshot) : Snapshot := if k.source = 0 ∧ c k.seq = true then { k with unsched := true } else k
  { s with sch.ticks := s.sch.ticks.map fun t => if c t.tseq then { t with late := true } else t,
           acq.spans := s.acq.spans.map fun k => if k.source = 0 ∧ c k.seq = true then { k with unsched := true } else k,
           acq.held := s.acq.held.map snap, acq.kept := s.acq.kept.map snap }

/-- `now` at a chain time in ct near the counter's value; 0 for one before the model's own time. -/
def nowAt (s : State) (ct : Nat) : Nat := ((s.now : Int) + (wrapCt (((ct : Int) - s.tim.cnt) * 16)) / 16).toNat

/-- `now` at the `TTX` of a validated time frame, from which its offsets count: on a device that does not keep chain time, the first
symbol as it arrived (log 105). -/
def frameBase (s : State) (f : Frame) (at_ : Nat) : Nat :=
  nowAt s (if s.chn.calValid && !s.tim.stepDue then leAt f.payload 0 4 * 24 + byteAt f.payload 4 % 32 else at_)

/-- The free interval of a validated time frame (11 R412). -/
def takeFree' (s : State) (f : Frame) (at_ : Nat) : State :=
  setFree s (frameBase s f at_) (leAt f.payload 20 2) (leAt f.payload 22 2)

/-- What a tick frame and a beat bring alike: time, the mask, the release of results, the free interval, the report. -/
def timeFrame (s : State) (p : Port) (f : Frame) (at_ : Nat) : State :=
  let s := takeTime (irqRaise (heardFrame s f) 34) p f at_
  let tseq : BitVec 16 := BitVec.ofNat 16 (leAt f.payload 6 2)
  let s := markUnsched s (maskHas tseq (leAt f.payload 14 2))
  let s := releaseHeld s ((leAt f.payload 0 4 * 24 + byteAt f.payload 4 % 32) % (2 ^ 32 * 24))
  let s := if byteAt f.payload 27 / 32 % 2 = 1 then { s with sch.repEpoch := BitVec.ofNat 32 (leAt f.payload 38 4) } else s
  takeFree' { s with sch.tseq := tseq, chn.fltRep := if (ownFlt s &&& ~~~ f.flt) = 0 then 0 else s.chn.fltRep } f at_

/-- A window that a tick frame announces (11 R417). The reserved codes 0b11 of `WMODE` and `WKIND` announce none (00 R12, 11
Table 11-6; log 106). -/
def takeWindow (s : State) (f : Frame) (at_ : Nat) : State :=
  let m := byteAt f.payload 12 / 16 % 4
  let k := byteAt f.payload 12 / 64
  if m = 0 || m = 3 || k = 3 then s
  else
    let w : Window := { mode := BitVec.ofNat 2 m, kind := BitVec.ofNat 2 k,
                        count := f.payload.getD 13 0, ofs := BitVec.ofNat 16 (leAt f.payload 16 2),
                        slot := BitVec.ofNat 16 (leAt f.payload 18 2),
                        start := frameBase s f at_ + nsCt (40 * leAt f.payload 16 2), done := false, swept := false }
    { s with chn.win := some w, chn.winAt := some s.now, chn.winFwd := none }

/-- The tick of a validated tick frame: scheduled when its instant lies at least 2 µs ahead, otherwise discarded and counted as
missed (05 R165); a discarded one aborts no open-wire check (log 128). -/
def takeTick (s : State) (f : Frame) : State :=
  let t : Tick := { tseq := BitVec.ofNat 16 (leAt f.payload 6 2), instant := BitVec.ofNat 32 (leAt f.payload 8 4),
                    point := BitVec.ofNat 4 (byteAt f.payload 12), hold := byteAt f.payload 4 / 32 % 2 == 1, sent := true,
                    late := false }
  if inTime s t.instant then
    blankForTick { s with sch.ticks := (s.sch.ticks.filter fun u => u.tseq != t.tseq) ++ [t], sch.tseq := t.tseq + 1 }
  else { s with sch.missed := satInc s.sch.missed, sch.tseq := t.tseq + 1 }

/-- A validated tick frame (11 R406, R408; 05 R165; 16 R596). -/
def execTickReceived (p : Port) (f : Frame) (at_ : Nat) (s : State) : Host.Outcome State Fault Refusal :=
  if !active s || f.payload.length != 42 then .next s
  else if isAnchor s then .next (anchorConflict (heardFrame s f) p f)
  else .next (takeTick (takeWindow (timeFrame s p f at_) f at_) f)

/-- A validated beat (05 R143; 11 R408). -/
def execBeatReceived (p : Port) (f : Frame) (at_ : Nat) (s : State) : Host.Outcome State Fault Refusal :=
  if !active s || f.payload.length != 42 then .next s
  else if isAnchor s then .next (anchorConflict (heardFrame s f) p f)
  else .next (timeFrame s p f at_)

/-- A validated cancellation: in time it stops the strobe, later the sample is marked (05 R168; 11 R410). -/
def execCancelReceived (p : Port) (f : Frame) (s : State) : Host.Outcome State Fault Refusal :=
  if !active s || f.payload.length != 4 then .next s
  else if isAnchor s then .next (anchorConflict (heardFrame s f) p f)
  else
    let n : BitVec 16 := BitVec.ofNat 16 (leAt f.payload 0 2)
    let s := irqRaise (heardFrame s f) 34
    let stop (t : Tick) : Bool := t.tseq == n && inTime s t.instant
    .next (markUnsched { s with sch.ticks := s.sch.ticks.filter fun t => !stop t } (fun m => m == n))

/-! ### Enumeration (11 R394 to R399) -/

/-- The ENUM reply (11 Table 11-4). -/
def enumReply (s : State) (addr : Nat) : List Byte :=
  let b1 := popOf s.cfg + 32 * b2n (isAnchor s) + 64 * b2n (bitOf s.cfg.gateCfg2 16)
  let b2 := genCode (txGen s.sp) + 4 * genCode (txGen s.np) + 16 * b2n (portEnabled s .north)
  [BitVec.ofNat 8 addr, BitVec.ofNat 8 b1, BitVec.ofNat 8 b2, 0xB1, 0x02, 0x04, 0, 0] ++ leBytes 8 s.store.uid.toNat

/-- An unassigned device answers an ENUM that came from the south (11 R395, R398). -/
def takeAddress (s : State) (next : Nat) (ring : Bool) : State :=
  if 1 ≤ next ∧ next ≤ 0x40 then
    let s := { setAddr s (BitVec.ofNat 7 next) with chn.ring := ring, chn.enumDone := true, chn.top := BitVec.ofNat 8 next }
    sendFrame s .south 8 0 (enumReply s next)
  else sendFrame s .south 8 0 (enumReply s 0x7F)

/-- The head asks for the next address (11 R397). -/
def enumAsk (s : State) (e : EnumRun) : State :=
  sendFrame { s with chn.enum := some e } .north 8 0 [BitVec.ofNat 8 e.next, BitVec.ofNat 8 (b2n s.chn.ring)]

/-- Enumeration ends at a top (11 R397, R398; 14 Table 14-7). -/
def enumFinish (s : State) (e : EnumRun) (top : Nat) (beyond : Bool) : State :=
  let s := { s with chn.enum := none, chn.enumDone := true, chn.top := BitVec.ofNat 8 top, chn.el1 := e.el1 }
  replyOk s e.w.verb e.w.msg [BitVec.ofNat 8 top, BitVec.ofNat 8 top, e.anchor,
    BitVec.ofNat 8 (b2n e.twoAnchors + 2 * b2n beyond)]

/-- What an ENUM reply tells of its device's generations is kept by address (11 Table 11-4, R405). -/
def noteHop (s : State) (f : Frame) : State :=
  let a := byteAt f.payload 0 % 128
  let b := byteAt f.payload 2
  let gen (n : Nat) : Gen := if n % 4 = 2 then .el2 else .el1
  { s with chn.hops := (a, gen b, gen (b / 4)) :: s.chn.hops.filter fun h => h.1 != a }

/-- The head takes a reply: the address asked for, or the probe beyond 0x40. -/
def enumTake (s : State) (e : EnumRun) (f : Frame) : State :=
  let a := byteAt f.payload 0 % 128
  if e.next ≤ 0x40 && a == e.next then
    let anc := byteAt f.payload 1 / 32 % 2 == 1
    let stx := byteAt f.payload 2 % 4
    let e := { e with next := e.next + 1, tries := 1, twoAnchors := e.twoAnchors || (anc && e.anchor != 0),
                      anchor := if anc && e.anchor == 0 then BitVec.ofNat 8 a else e.anchor,
                      el1 := e.el1 || stx == 1 || e.ntx == 1, ntx := BitVec.ofNat 2 (byteAt f.payload 2 / 4) }
    enumAsk (noteHop s f) e
  else if e.next == 0x41 && a == 0x7F then enumFinish s e 0x40 true
  else s

/-- A device that relays an ENUM reply learns the addresses north of it and their generations (log 100). -/
def noteEnum (s : State) (f : Frame) : State :=
  let a := byteAt f.payload 0 % 128
  if a ≤ 0x40 then
    noteHop { s with chn.top := BitVec.ofNat 8 (max s.chn.top.toNat a),
                     chn.el1 := s.chn.el1 || byteAt f.payload 2 % 4 == 1 } f
  else s

/-- A validated ENUM frame: a request of 2 bytes, or a reply of 16 (11 R395, R396, R398). -/
def execEnumReceived (p : Port) (f : Frame) (s : State) : Host.Outcome State Fault Refusal :=
  if !active s then .next s
  else if f.payload.length = 2 then
    let next := byteAt f.payload 0
    if p != .south then .next s
    else if s.chn.addr = 0x7F then .next (takeAddress s next (byteAt f.payload 1 % 2 == 1))
    else if next = s.chn.addr.toNat then .next (sendFrame s .south 8 0 (enumReply s next))
    else .next s
  else if f.payload.length = 16 ∧ p = .north then
    match s.chn.enum with
    | none => .next (noteEnum s f)
    | some e => .next (enumTake s e f)
  else .next s

/-- No reply within 20 ms: another attempt, or after three the last address was the top's (11 R397, R398). -/
def execEnumReplyTimeout (s : State) : Host.Outcome State Fault Refusal :=
  if !active s then .next s
  else
    match s.chn.enum with
    | none => .next s
    | some e => if e.tries < 3 then .next (enumAsk s { e with tries := e.tries + 1 })
                else .next (enumFinish s e (e.next - 1) false)

/-! ### Calibration (11 R400 to R405) -/

/-- The port toward an address. -/
def toward (s : State) (a : Nat) : Port := if a < s.chn.addr.toNat then .south else .north

/-- A CAL payload (11 R400). -/
def calBytes (kind : Nat) (ep : Byte) (xchg : BitVec 16) (v : Nat) (b8 : Nat) (res : Nat) : List Byte :=
  [BitVec.ofNat 8 kind, ep] ++ leBytes 2 xchg.toNat ++ leBytes 4 v ++ [BitVec.ofNat 8 b8] ++ leBytes 3 res

/-- The generation of the hop by which frames of the anchor come to address `x`: its own port's for a neighbour; EL2 for a device
whose exchanges showed no residence; otherwise what the last ENUM replies told, and EL1 where the anchor heard none (log 100). -/
def hopInto (s : State) (c : CalRun) (x : Nat) : Gen :=
  let me := s.chn.addr.toNat
  let told (a : Nat) : Option (Gen × Gen) := (s.chn.hops.find? fun h => h.1 == a).map (·.2)
  if x = me + 1 then txGen s.np
  else if x + 1 = me then txGen s.sp
  else if c.okMap.getLsbD (x - 1) && !c.far.getLsbD (x - 1) then .el2
  else if me < x then (match told (x - 1) with | some h => h.2 | none => .el1)
  else (match told (x + 1) with | some h => h.1 | none => .el1)

/-- The largest residence of a tick frame at a relay, in ct: none by cut-through; by store and forward its line time, the 4 µs of
10 R355 and the outgoing preamble (11 R393, R405). -/
def tickResidence (gin gout : Gen) : Nat :=
  if gin = .el2 ∧ gout = .el2 then 0
  else nsCt (bodyNs gin (match gin with | .el1 => 50 | .el2 => 52) .valid + 4000 + preambleNs gout) + 1

/-- The relays between the anchor and address `a`, each with the hop that leads into it and the next one. -/
def pathResidence (s : State) (c : CalRun) (a : Nat) : Nat :=
  let me := s.chn.addr.toNat
  let relays := if me < a then (List.range (a - me - 1)).map fun i => (me + 1 + i, me + 2 + i)
    else (List.range (me - a - 1)).map fun i => (me - 1 - i, me - 2 - i)
  (relays.map fun r => tickResidence (hopInto s c r.1) (hopInto s c r.2)).sum

/-- The tick delivery time in ct (11 R405): the largest, over all calibrated devices, of D_A, the residences on the path, the line
time of a tick frame on the incoming hop and 1 µs. -/
def tickDelivery (s : State) (c : CalRun) : Word :=
  let one (d : Nat × Nat) : Nat :=
    let g := hopInto s c d.1
    (d.2 + 15) / 16 + pathResidence s c d.1 + nsCt (bodyNs g (match g with | .el1 => 50 | .el2 => 52) .valid) + 1 + usCt 1
  BitVec.ofNat 32 (c.ds.foldl (fun m d => max m (one d)) 0)

/-- Broadcast the result CAL out of the ports that are live: one frame (11 R427). -/
def sendResult (s : State) (p : List Byte) : State × Byte :=
  let (s, f) := originate s 9 0 p
  let put (s : State) (q : Port) : State := if sendLive s q then enqueueTx s q f else s
  (put (put s .south) .north, f.lseq)

/-- Calibration ends: the epoch rises and the result is broadcast; the reply follows it (11 R402, R405; 14 R540). -/
def calFinish (s : State) (c : CalRun) : State :=
  let ep := s.chn.ep + 1
  let me := s.chn.addr.toNat
  let tdel := tickDelivery s c
  let p := calBytes 2 ep 0 c.dhead.toNat me 0
  let (s, n) := sendResult s p
  let s := { s with chn.cal := none, chn.ep := ep, chn.calMap := c.okMap, chn.calValid := true, chn.calEp := ep, chn.da := 0,
                    chn.dh := c.dhead, chn.anchor := BitVec.ofNat 8 me, sch.tdel := tdel, chn.el1 := decide (c.far ≠ 0) }
  let all := (List.range s.chn.top.toNat).map (· + 1)
  let bad := all.filter fun a => a != me && !c.okMap.getLsbD (a - 1)
  let k := (all.filter fun a => c.okMap.getLsbD (a - 1)).length
  let b := [BitVec.ofNat 8 k, ep, 0, 0] ++ leBytes 4 tdel.toNat ++ leBytes 8 (bad.foldl (fun m a => m + 2 ^ (a - 1)) 0)
  { s with chn.calDone := s.chn.calDone ++ [(c.w, n, b)] }

/-- A calibration's reply is placed once its result has left (14 R540). -/
def calReply (s : State) : State :=
  match s.chn.calDone with
  | [] => s
  | (w, n, b) :: t => if frameGone s 9 n then replyOk { s with chn.calDone := t } w.verb w.msg b else s

/-- The next exchange with the present address, or the next address, or the end. -/
def calAsk (s : State) (c : CalRun) : State :=
  let a := if c.addr = s.chn.addr.toNat then c.addr + 1 else c.addr
  if a > s.chn.top.toNat then calFinish s c
  else
    let c := { c with addr := a, xchg := c.xchg + 1 }
    sendFrame { s with chn.cal := some c } (toward s a) 9 (BitVec.ofNat 7 a) (calBytes 0 s.chn.ep c.xchg 0 0 0)

/-- The anchor takes a reply: an exchange without `FLOCK` is discarded; after 16 the mean goes to the device in one more request,
bytes 4 to 7, with byte 8 set (11 R400, R401; log 127). `arrive` is t4, `depart` the t1 of the request. -/
def calTake (s : State) (c : CalRun) (f : Frame) (arrive depart : Nat) : State :=
  if f.src.toNat != c.addr || leAt f.payload 2 2 != c.xchg.toNat then s
  else if byteAt f.payload 8 % 2 = 0 then calAsk s c
  else
    let d : Int := (arrive : Int) - depart - (leAt f.payload 4 4 : Nat) - (leAt f.payload 9 3 : Nat)
    let c := { c with n := c.n + 1, sum := c.sum + d,
                      far := if leAt f.payload 9 3 = 0 then c.far else c.far ||| (1#64 <<< (c.addr - 1)) }
    if c.n < 16 then calAsk s c
    else
      let mean := (c.sum / 2).toNat
      let a := c.addr
      let s := sendFrame s (toward s a) 9 (BitVec.ofNat 7 a) (calBytes 0 s.chn.ep (c.xchg + 1) mean 1 0)
      calAsk s { c with addr := a + 1, n := 0, sum := 0, okMap := c.okMap ||| (1#64 <<< (a - 1)),
                        dhead := if a = 1 then BitVec.ofNat 32 mean else c.dhead, ds := (a, mean) :: c.ds }

/-- D_H from D_A, `DHEAD` and the anchor's address (11 R402). -/
def delayHead (addr anchor : Nat) (da dhead : Word) : Word :=
  if addr = 1 ∧ dhead = 0 then da else if anchor < addr then da + dhead else dhead - da

/-- A validated CAL frame: a request is answered, a reply is averaged, a result is stored (11 R400 to R404). A mean that a request
brings waits for the broadcast result; until then a valid calibration stands (log 127). -/
def execCalReceived (p : Port) (f : Frame) (arrive depart : Nat) (flock : Bool) (s : State) :
    Host.Outcome State Fault Refusal :=
  if !active s || f.payload.length != 12 then .next s
  else
    let kind := byteAt f.payload 0
    let ep := f.payload.getD 1 0
    let own := f.dst == s.chn.addr
    if kind = 0 ∧ own = true then
      let s := if byteAt f.payload 8 = 1 then { s with chn.daNew := some (BitVec.ofNat 32 (leAt f.payload 4 4)) } else s
      .next (sendFrame s p 9 f.src (calBytes 1 ep (BitVec.ofNat 16 (leAt f.payload 2 2)) ((depart - arrive) % 2 ^ 32)
        (b2n flock) (leAt f.payload 9 3)))
    else if kind = 1 ∧ own = true then
      match s.chn.cal with
      | none => .next s
      | some c => .next (calTake s c f arrive depart)
    else if kind = 2 ∧ f.dst = 0 ∧ isAnchor s = false then
      match s.chn.daNew with
      | none => .next s
      | some d =>
        let a := byteAt f.payload 8
        .next (loseAlign { s with chn.daNew := none, chn.da := d, chn.calEp := ep, chn.calValid := true,
                                  chn.anchor := BitVec.ofNat 8 a,
                                  chn.dh := delayHead s.chn.addr.toNat a d (BitVec.ofNat 32 (leAt f.payload 4 4)) })
    else .next s

/-! ### Records and windows -/

/-- Bytes 0 to 3 of a snapshot (06 Table 6-6). -/
def snapHead (k : Snapshot) : List Byte :=
  leBytes 2 k.seq.toNat ++ [BitVec.ofNat 8 (k.point.toNat + 16 * k.source.toNat + 64 * k.win.toNat),
    BitVec.ofNat 8 (b2n k.hold + 2 * b2n k.unsched)]

/-- A CELLSET record (11 Table 11-7). -/
def cellsetBytes (s : State) (k : Snapshot) : List Byte := snapHead k ++ wordsLe (k.words.take (popOf s.cfg + 1))

/-- The entry of a list with the lowest, or the highest, code. -/
def extreme (high : Bool) (l : List (Nat × Int)) : Nat × Int :=
  match l with
  | [] => (0, 0)
  | x :: t => t.foldl (fun m y => if (if high then decide (m.2 < y.2) else decide (y.2 < m.2)) then y else m) x

/-- A SUMMARY record (11 Table 11-8). -/
def summaryBytes (s : State) (k : Snapshot) : List Byte :=
  let l := includedWells (popOf s.cfg) k.words
  let mn := extreme false l
  let mx := extreme true l
  let stor := (wellWords (popOf s.cfg) k.words).foldl (fun r w => r ||| w.2) (0 : Word)
  snapHead k ++ leBytes 4 (k.words.getD 0 0).toNat ++ leBytes 3 (codeOf 24 mn.2) ++ [BitVec.ofNat 8 mn.1] ++
    leBytes 3 (codeOf 24 mx.2) ++ [BitVec.ofNat 8 mx.1] ++ leBytes 4 (codeOf 32 ((l.map (·.2)).foldl (· + ·) 0)) ++
    [BitVec.ofNat 8 l.length, BitVec.ofNat 8 (fld stor 31 24), 0, 0]

/-- Queue a streamed record at the head (14 R531). -/
def queueRecord (s : State) (kind : Fin 3) (src : BitVec 7) (b : List Byte) : State :=
  let q := s.chn.recs[kind]
  let q' : RecQueue := if q.recs.length < 128 then { q with recs := q.recs ++ [(src, b)] }
    else { recs := q.recs.drop 1 ++ [(src, b)], lost := satInc q.lost }
  { s with chn.recs := s.chn.recs.set kind q' }

/-- The kind of a record frame. -/
def recKind (t : BitVec 4) : Option (Fin 3) := if t = 3 then some 0 else if t = 0xB then some 1 else if t = 0xC then some 2 else none

/-- The instant of the tick of a `SEQ`, as `now`, when the anchor still knows it (16 R618; log 22). -/
def tickTime (s : State) (seq : BitVec 16) : Option Nat := (s.sch.log.find? fun x => x.1 == seq).map (·.2)

/-- The words of wells 1 to N of a CELLSET, with their well numbers (11 Table 11-7). -/
def cellsetWells (p : List Byte) : List (Nat × Word) :=
  (List.range ((p.length - 8) / 4)).map fun i => (i + 1, BitVec.ofNat 32 (leAt p (8 + 4 * i) 4))

/-- The energy report of a record (16 R617, R620, R622). -/
def recordReport (f : Frame) (t : Nat) : Option Report :=
  let flt3 := f.flt.getLsbD 3
  if f.type = 0xB then
    some { addr := f.src, time := t, ninc := byteAt f.payload 20, vmin := signedOf 24 (leAt f.payload 8 3), flt3 := flt3,
           excl := byteAt f.payload 21 &&& exclMask != 0 }
  else if f.type = 3 then
    let w := cellsetWells f.payload
    let l := (w.filter fun x => !hasStatus x.2 0xC7).map fun x => (x.1, wordCode x.2)
    some { addr := f.src, time := t, ninc := l.length, vmin := minCode l, flt3 := flt3,
           excl := w.any fun x => hasStatus x.2 exclMask }
  else none

/-- A record comes in a window: one is announced, and is on (14 R531; 11 R418 to R420). -/
def inWindow (s : State) : Bool := s.chn.win.any (fun w => decide (w.start ≤ s.now)) && !windowOver s

/-- A validated record (11; 14 R531; 16 R617). -/
def execRecordFrameReceived (p : Port) (f : Frame) (s : State) : Host.Outcome State Fault Refusal :=
  if !active s then .next s
  else
    match recKind f.type with
    | none => .next s
    | some k =>
      let s := irqRaise (heardFrame s f) (if p = .south then 30 else 31)
      let s := if isHead s && inWindow s then queueRecord s k f.src f.payload else s
      if !isAnchor s then .next s
      else
        match tickTime s (BitVec.ofNat 16 (leAt f.payload 0 2)) with
        | none => .next s
        | some t => .next (match recordReport f t with | some r => putReport s r | none => s)

/-- A validated FAULT frame (16 R616; 12 R470). -/
def execFaultFrameReceived (p : Port) (f : Frame) (s : State) : Host.Outcome State Fault Refusal :=
  if active s && f.type == 4 then .next (irqRaise (heardFrame s f) (if p = .south then 30 else 31)) else .next s

/-- The oldest released record of a kind, and the state without it (11 R421). -/
def takeRecord (s : State) (kind : BitVec 2) : Option (List Byte × State) :=
  if kind = 2 then
    match s.acq.ntcRel with
    | [] => none
    | b :: t => some (b, { s with acq.ntcRel := t })
  else
    match s.acq.rel with
    | [] => none
    | k :: t => some (if kind = 0 then cellsetBytes s k else summaryBytes s k, { s with acq.rel := t })

/-- The frame type of a window kind. -/
def kindType (kind : BitVec 2) : BitVec 4 := if kind = 0 then 3 else if kind = 1 then 0xB else 0xC

/-- Originate a frame and start it south (11 R418). -/
def sendSlot (s : State) (type : BitVec 4) (payload : List Byte) : State :=
  let (s, f) := originate s type 0 payload
  startOrWait s .south f

/-- The window in which this device has a slot. -/
def myWindow (s : State) : Option Window :=
  match s.chn.win with
  | none => none
  | some w => if s.tim.orphaned || s.chn.addr == 0x7F || decide (w.count.toNat < s.chn.addr.toNat) then none else some w

/-- `now` at W plus `slots` slots and `ns`, less D_H (11 R418, R419). -/
def timedAt (s : State) (w : Window) (slots ns : Nat) : Nat :=
  w.start + nsCt (40 * slots * w.slot.toNat + ns) - (s.chn.dh.toNat + 15) / 16

/-- The slots before the sweep: half of them, rounded up (11 R418, R419). -/
def sweepSlots (w : Window) : Nat := (w.count.toNat + 1) / 2

/-- `now` at which this device starts its slot frame (11 R418, R420). -/
def slotAt (s : State) (w : Window) : Nat :=
  let k := s.chn.addr.toNat
  if w.mode = 1 then timedAt s w (k - 1) (if k ≤ sweepSlots w then 0 else 6560)
  else
    let latest := w.start + nsCt (40 * (2 * (w.count.toNat - k) * w.slot.toNat))
    match s.chn.winFwd with
    | some t => min latest (t + nsCt 4000)
    | none => latest

/-- The device's own slot, at its time (11 R418, R420, R421). The head queues its own record as well (14 R531). -/
def execWindowSlotSend (s : State) : Host.Outcome State Fault Refusal :=
  if !active s then .next s
  else
    match myWindow s with
    | none => .next s
    | some w =>
      if w.done || decide (s.now < slotAt s w) then .next s
      else
        let s := { s with chn.win := some { w with done := true } }
        match takeRecord s w.kind with
        | some (b, s) =>
          let s := match recKind (kindType w.kind) with
            | some k => if isHead s then queueRecord s k s.chn.addr b else s
            | none => s
          .next (sendSlot s (kindType w.kind) b)
        | none => if s.chn.addr.toNat = w.count.toNat then .next (sendSlot s 4 []) else .next s

/-- The sweep of the top in a TIMED window, at its time (11 R419). -/
def execSweepSend (s : State) : Host.Outcome State Fault Refusal :=
  if !active s then .next s
  else
    match myWindow s with
    | none => .next s
    | some w =>
      if w.mode = 1 ∧ w.swept = false ∧ s.chn.addr.toNat = w.count.toNat ∧ timedAt s w (sweepSlots w) 0 ≤ s.now then
        .next (sendSlot { s with chn.win := some { w with swept := true } } 4 [])
      else .next s

/-! ### Replies and acknowledgements -/

/-- The forwarded message that a reply answers (12 R466; 13 R474). -/
def forwardedOf (s : State) (f : Frame) : Option Forwarded :=
  s.chn.fwd.find? fun w => w.verb.toNat == leAt f.payload 0 2 && w.tag.toNat == leAt f.payload 2 2
    && w.target.toNat == f.src.toNat && w.pair.val == byteAt f.payload 8 % 4

/-- A validated REPLY: it tells as well that its VERB has arrived. Its `FLT` is heard everywhere; at its destination it is
acknowledged, a duplicate or late one is discarded, else it goes to `MB_OUTi` (11 R425, R429; 12 R466; 13 R488). -/
def execReplyFrameReceived (p : Port) (f : Frame) (s : State) : Host.Outcome State Fault Refusal :=
  if !active s then .next s
  else
    let s := heardFrame s f
    if f.dst != s.chn.addr then .next s
    else
      let s := sendAck s p f
      if f.rtx && s.chn.seenR.contains (f.src, f.lseq) then .next s
      else
        let s := { s with chn.seenR := (f.src, f.lseq) :: s.chn.seenR.filter fun x => x.1 != f.src }
        match forwardedOf s f with
        | none => .next s
        | some w =>
          let s := { s with chn.fwd := s.chn.fwd.filter fun x => x.pair != w.pair, mbx.lastReply := f.payload,
                            chn.unacked := s.chn.unacked.filter fun u => u.pair != some w.pair }
          .next (placeOut s w.pair f.payload)

/-- The frame an ACK names. -/
def ackedFrame (s : State) (f : Frame) : Option Unacked :=
  s.chn.unacked.find? fun u => u.frame.lseq == f.payload.getD 0 0 && u.frame.dst == f.src

/-- A REPLY is the normal reply to an accepted `RESET` (13 Table 13-1). -/
def isResetReply (u : Unacked) (m : Msg) : Bool :=
  let b := u.frame.payload
  !m.bcast && m.src == some u.frame.dst && u.frame.type == 2 && leAt b 0 2 == 0x0F01 && leAt b 2 2 == m.tag.toNat &&
    byteAt b 8 == m.mbx.val && byteAt b 7 / 4 % 2 == 0

/-- An accepted `RESET` waits for this REPLY's acknowledgement (14 R554). -/
def resetAcked (s : State) (u : Unacked) : Bool := s.pw.resetVerb.any fun x => isResetReply u x.1

/-- A validated ACK ends the retransmission of the frame it names (11 R385, R426). -/
def execAckReceived (p : Port) (f : Frame) (s : State) : Host.Outcome State Fault Refusal :=
  if !active s || f.dst != s.chn.addr then .next s
  else
    let s := irqRaise s (if p = .south then 30 else 31)
    match ackedFrame s f with
    | none => .next s
    | some u =>
      let fwd := s.chn.fwd.map fun w => if u.pair == some w.pair then { w with acked := true } else w
      let s := { s with chn.unacked := s.chn.unacked.filter fun v => !(v == u), chn.fwd := fwd }
      .next (if resetAcked s u then fullReset s 6 else s)

end Sys2Proof.Machine
end

