-- ==== Sys2Proof/Machine/Control.lean ====
section
/-! DEFINITION. Control transfer of the core (19 R733 to R736, Table 19-6). -/

namespace Sys2Proof.Machine

open Sys2Proof

/-- `BC` (19 R733); condition 0xF is illegal (R717). -/
def bcBody (cond : BitVec 4) (off : BitVec 22) (s : State) : Exec :=
  if cond = 15 then .error (plainFault 1 0)
  else if condHolds (flagsOf s.core.sw) cond then .ok { s with core.pc := s.core.pc + (off.signExtend 32 <<< 2) }
  else .ok (advancePc s)

/-- `BC` (19 R733). -/
def execBc (cond : BitVec 4) (off : BitVec 22) (s : State) : Host.Outcome State Fault Refusal :=
  .next (issue [] false (bcBody cond off) s)

/-- `CALL` (19 R734). -/
def callBody (off : BitVec 26) (s : State) : Exec :=
  .ok { setG s 14 (nextPc s) with core.pc := s.core.pc + (off.signExtend 32 <<< 2) }

/-- `CALL` (19 R734). -/
def execCall (off : BitVec 26) (s : State) : Host.Outcome State Fault Refusal :=
  .next (issue [14] false (callBody off) s)

/-- `JMPR`: ra is read before rd is written (19 R735). -/
def jmprBody (rd ra : Fin 16) (imm : BitVec 18) (s : State) : Exec :=
  let t := getG s ra + sext18 imm
  .ok { setG s rd (nextPc s) with core.pc := t }

/-- `JMPR` (19 R735). -/
def execJmpr (rd ra : Fin 16) (imm : BitVec 18) (s : State) : Host.Outcome State Fault Refusal :=
  .next (issue [rd, ra] false (jmprBody rd ra imm) s)

end Sys2Proof.Machine
end

