-- ==== Sys2Proof/Machine/Host.lean ====
section
/-! DEFINITION. The host window and its two ports (12), and the mailbox pairs as a host port sees them (13). -/

namespace Sys2Proof.Machine

open Sys2Proof

/-! ### Errors and interrupts -/

/-- Count an SPI or a UART error (12 Table 12-1). A count that increments sets `HOST_IRQ.ERR` (Table 12-3); one at 255 stays. -/
def portError (s : State) (h : HPort) : State :=
  match h with
  | .spi => if s.host.errSpi = 255 then s else irqSet { s with host.errSpi := s.host.errSpi + 1 } 0x1000#13
  | .uart => if s.host.errUart = 255 then s else irqSet { s with host.errUart := s.host.errUart + 1 } 0x1000#13

/-- Count a claim conflict (12 R460). -/
def claimError (s : State) : State :=
  if s.host.errClaim = 255 then s else irqSet { s with host.errClaim := s.host.errClaim + 1 } 0x1000#13

/-- `HIRQ_N` is asserted (12 R462). -/
def hirq (s : State) : Bool := (s.host.irq &&& s.host.irqen) != 0

/-! ### Registers of the window (12 Table 12-1) -/

/-- A bit per pair. -/
def pairBits (s : State) (p : MbxPair → Bool) : Nat :=
  b2n (p s.mbx.pairs[0]) + 2 * b2n (p s.mbx.pairs[1]) + 4 * b2n (p s.mbx.pairs[2]) + 8 * b2n (p s.mbx.pairs[3])

/-- `HOST_ID`. -/
def hostId (s : State) : Word := BitVec.ofNat 32 (0xB1 + 256 * 0x0402 + 2 ^ 24 * s.store.grade.toNat)

/-- `HOST_STAT` (12 Table 12-2). -/
def hostStat (s : State) : Word :=
  BitVec.ofNat 32 (b2n s.host.ready + 2 * b2n (ownFault s) + 4 * b2n (hirq s) + 8 * b2n (!commissioned s)
    + 16 * s.host.live.toNat + 256 * pairBits s (·.full) + 4096 * pairBits s (·.busy) + 65536 * b2n (s.pw.state == .standby)
    + 131072 * b2n (isAnchor s))

/-- `SEL` and `PTR` of a port's bank. -/
def bankOf (s : State) (h : HPort) : BitVec 3 × Nat :=
  match h with
  | .spi => (s.host.spiSel, s.host.spiPtr)
  | .uart => (s.host.uartSel, s.host.uartPtr)

/-- Set a port's bank. -/
def setBank (s : State) (h : HPort) (sel : BitVec 3) (ptr : Nat) : State :=
  match h with
  | .spi => { s with host.spiSel := sel, host.spiPtr := ptr }
  | .uart => { s with host.uartSel := sel, host.uartPtr := ptr }

/-- A register of the window, by its index, for a read through a port. -/
def hostReg (s : State) (h : HPort) (r : Nat) : Word :=
  match r with
  | 0 => hostId s
  | 1 => hostStat s
  | 2 => s.host.irqen.setWidth 32
  | 3 => s.host.irq.setWidth 32
  | 4 => BitVec.ofNat 32 (pairBits s (·.busy) + 256 * pairBits s (·.full))
  | 5 => BitVec.ofNat 32 ((bankOf s h).1.toNat + 256 * min 255 (bankOf s h).2)
  | 7 => BitVec.ofNat 32 (s.host.live.toNat + 16 * s.host.seen.toNat)
  | 8 => s.host.lfail
  | 9 => BitVec.ofNat 32 (b2n s.host.baudReg)
  | 10 => BitVec.ofNat 32 (s.host.errSpi.toNat + 256 * s.host.errUart.toNat + 65536 * s.host.errClaim.toNat)
  | _ => 0

/-- The device serves its host ports: `VIO` present, in ACTIVE or STANDBY (02 R44, R49). -/
def hostOn (s : State) : Bool := active s && s.sup.vio

/-- Result codes of an access (12 R454). -/
inductive Access where
  | done | ignored | conflict | overflow
deriving DecidableEq, Repr

/-- The code byte. -/
def accessCode (a : Access) : Byte := match a with | .done => 0 | .ignored => 1 | .conflict => 2 | .overflow => 3

/-- The first code that is not "done". -/
def accessJoin (a b : Access) : Access := if a = .done then b else a

/-! ### Mailbox data (12 R439, R459, R460; 13 R475 to R482) -/

/-- The pair a port's bank selects. -/
def selPair (sel : BitVec 3) : Fin 4 := ⟨sel.toNat % 4, Nat.mod_lt _ (by decide)⟩

/-- The other port holds the claim of a pair. -/
def claimedByOther (s : State) (h : HPort) (i : Fin 4) : Bool :=
  match s.mbx.pairs[i].claim with
  | none => false
  | some c => c != h

/-- One byte written to `HOST_MBDATA`, into the selected mailbox (12 R439); only one into `MB_INi` claims the pair (R459) and finds
it busy (13 R478). -/
def mbWrite (s : State) (h : HPort) (b : Byte) : State × Access :=
  let (sel, ptr) := bankOf s h
  let i := selPair sel
  let p := s.mbx.pairs[i]
  if claimedByOther s h i then (claimError s, .conflict)
  else if ptr ≥ 256 then (portError s h, .overflow)
  else if sel ≥ 4 then
    (setBank { s with mbx.pairs := s.mbx.pairs.set i { p with outb := (padTo 256 p.outb).set ptr b } } h sel (ptr + 1), .done)
  else if p.busy then (portError s h, .done)
  else
    let p := { p with inb := p.inb.set ptr b, claim := some h }
    (setBank { s with mbx.pairs := s.mbx.pairs.set i p } h sel (ptr + 1), .done)

/-- The broadcast of a `RESET` at the head has not left the north port yet, and the port can send it (14 R555; log 29). -/
def bcastWaits (s : State) (m : Msg) : Bool :=
  let isIt (f : Frame) : Bool := f.type == 1 && f.dst == 0 && leAt f.payload 0 2 == 0x0F01
  let onAir := match s.np.txNow with
    | some f => isIt f && decide (s.now < s.np.txEnd)
    | none => false
  m.bcast && m.src.isNone && portEnabled s .north && s.sup.vport && (s.np.txq.any isIt || onAir)

/-- An event of 14 R554 comes for the accepted `RESET`s of a kind: a full reset, or, for a broadcast that has not left yet, one when
it leaves (R555). -/
def resetEvent (s : State) (c : Msg → Bool) : State :=
  if s.pw.resetVerb.any fun x => c x.1 && !bcastWaits s x.1 then fullReset s 6
  else { s with pw.resetVerb := s.pw.resetVerb.map fun x => (x.1, x.2 || c x.1) }

/-- A broadcast `RESET` of the head leaves after the event that R554 asks for (14 R555). -/
def tickReset (s : State) : State :=
  if s.pw.resetVerb.any fun x => x.2 && !bcastWaits s x.1 then fullReset s 6 else s

/-- The host port has consumed a reply: perhaps that of an accepted `RESET` (14 R554). -/
def resetConsumed (s : State) (i : Fin 4) (out : List Byte) : State :=
  resetEvent s fun m => m.src.isNone && m.mbx == i && leAt out 0 2 == 0x0F01 && leAt out 2 2 == m.tag.toNat

/-- The reply is consumed: `MB_OUTi` empty, the claim released (13 R481). -/
def consume (s : State) (i : Fin 4) : State :=
  let p := s.mbx.pairs[i]
  { s with mbx.pairs := s.mbx.pairs.set i { p with outb := [], full := false, claim := none } }

/-- One byte read from `HOST_MBDATA`. -/
def mbRead (s : State) (h : HPort) : State × Byte × Access :=
  let (sel, ptr) := bankOf s h
  let i := selPair sel
  let p := s.mbx.pairs[i]
  if claimedByOther s h i then (claimError s, 0, .conflict)
  else if ptr ≥ 256 then (portError s h, 0, .overflow)
  else
    let s := setBank s h sel (ptr + 1)
    if sel < 4 then (s, p.inb.getD ptr 0, .done)
    else
      let b := p.outb.getD ptr 0
      if p.full && p.claim == some h && ptr == 15 + leAt p.outb 4 2 then
        (resetConsumed (consume s i) i p.outb, b, .done)
      else (s, b, .done)

/-! ### The doorbell (13 R476, R477; 13 R502) -/

/-- A ring of bit `i`. -/
def ring (s : State) (h : HPort) (i : Fin 4) : State × Access :=
  let p := s.mbx.pairs[i]
  if claimedByOther s h i then (claimError s, .conflict)
  else if p.claim == some h && !p.busy && !p.flight && !p.full && s.pw.decided.isNone then
    ({ s with mbx.pairs := s.mbx.pairs.set i { p with busy := true, flight := true },
              mbx.takeq := s.mbx.takeq ++ [i] }, .done)
  else (portError s h, .done)

/-- The rings of a doorbell word, lowest index first (13 R490). -/
def rings (s : State) (h : HPort) (v : Word) : List (Fin 4) → State × Access
  | [] => (s, .done)
  | i :: t =>
    if bitOf v i.val then
      let (s, a) := ring s h i
      let (s, b) := rings s h v t
      (s, accessJoin a b)
    else rings s h v t

/-! ### Writes of whole registers (12 R438) -/

/-- A write that is ignored and counted (12 R436, R441). -/
def ignoredWrite (s : State) (h : HPort) : State × Access := (portError s h, .ignored)

/-- Write a register of the window once its four bytes have arrived. -/
def hostRegWrite (s : State) (h : HPort) (r : Nat) (v : Word) : State × Access :=
  if !s.host.ready then ignoredWrite s h
  else
    match r with
    | 2 => ({ s with host.irqen := v.setWidth 13 }, .done)
    | 3 => ({ s with host.irq := s.host.irq &&& ~~~ (v.setWidth 13) }, .done)
    | 4 => rings s h v [0, 1, 2, 3]
    | 5 => (setBank s h (v.setWidth 3) (fld v 15 8), .done)
    | 7 => ({ s with host.seen := (s.host.seen &&& ~~~ ((v >>> 4).setWidth 4)) ||| s.host.live }, .done)
    | 9 => ({ s with host.baudReg := bitOf v 0, host.baud := if h = .spi then bitOf v 0 else s.host.baud }, .done)
    | _ => ignoredWrite s h

/-! ### A run of bytes (12 R438, R439, R447) -/

/-- A register being written or read byte by byte: its index and the bytes that have arrived, or those still to be read. -/
structure Run where
  /-- register index -/
  reg : Nat
  /-- bytes by offset -/
  got : List (Option Byte)
deriving DecidableEq, Repr

/-- No byte of a register. -/
def Run.fresh (r : Nat) : Run := { reg := r, got := [none, none, none, none] }

/-- The bytes of a complete register. -/
def Run.full (r : Run) : Option Word :=
  match r.got with
  | [some a, some b, some c, some d] => some (BitVec.ofNat 32 (leVal [a, b, c, d]))
  | _ => none

/-- The address after one byte (12 R447, Table 12-4). -/
def nextAddr (a : Nat) (inc : Bool) : Nat :=
  if a / 4 = 6 then a else if inc then (a + 1) % 128 else a / 4 * 4 + (a + 1) % 4

/-- Write data bytes from an address. -/
def writeRun (h : HPort) (inc : Bool) : List Byte → Nat → Run → State → State × Access
  | [], _, _, s => (s, .done)
  | b :: t, a, r, s =>
    if a / 4 = 6 then
      let (s, x) := if s.host.ready then mbWrite s h b else ignoredWrite s h
      let (s, y) := writeRun h inc t (nextAddr a inc) (Run.fresh 6) s
      (s, accessJoin x y)
    else
      let r := if r.reg = a / 4 then r else Run.fresh (a / 4)
      let r := { r with got := r.got.set (a % 4) (some b) }
      match r.full with
      | none => writeRun h inc t (nextAddr a inc) r s
      | some v =>
        let (s, x) := hostRegWrite s h (a / 4) v
        let (s, y) := writeRun h inc t (nextAddr a inc) (Run.fresh (a / 4)) s
        (s, accessJoin x y)

/-- Start reading a register: its value is latched, and `HOST_ERR` clears (12 Table 12-1). Before READY only `HOST_ID` and
`HOST_STAT` are served (R441). -/
def latchReg (s : State) (h : HPort) (r : Nat) : State × Word × Access :=
  if !s.host.ready && decide (2 ≤ r) then (portError s h, 0, .ignored)
  else
    let v := hostReg s h r
    (if r = 10 then { s with host.errSpi := 0, host.errUart := 0, host.errClaim := 0 } else s, v, .done)

/-- Read `n` bytes from an address; `left` bytes of the latched register are still unread. -/
def readRun (h : HPort) (inc : Bool) : Nat → Nat → Nat → Nat → Word → State → State × List Byte × Access
  | 0, _, _, _, _, s => (s, [], .done)
  | n + 1, a, reg, left, v, s =>
    if a / 4 = 6 then
      let (s, b, x) := if s.host.ready then mbRead s h else (portError s h, 0, .ignored)
      let (s, bs, y) := readRun h inc n (nextAddr a inc) 6 0 0 s
      (s, b :: bs, accessJoin x y)
    else if reg = a / 4 ∧ left ≠ 0 then
      let (s, bs, y) := readRun h inc n (nextAddr a inc) reg (left - 1) v s
      (s, BitVec.ofNat 8 (v.toNat / 2 ^ (8 * (a % 4))) :: bs, y)
    else
      let (s, v, x) := latchReg s h (a / 4)
      let (s, bs, y) := readRun h inc n (nextAddr a inc) (a / 4) 3 v s
      (s, BitVec.ofNat 8 (v.toNat / 2 ^ (8 * (a % 4))) :: bs, accessJoin x y)

/-- Bits 7 and 13 to 8 of the command word are 0 (12 Table 12-4). -/
def cmdOk (cmd : Nat) : Bool := cmd / 128 % 128 == 0

/-- Address, `INC` and `W` of a command word. -/
def cmdAddr (cmd : Nat) : Nat := cmd % 128
/-- `INC`. -/
def cmdInc (cmd : Nat) : Bool := cmd / 2 ^ 14 % 2 == 1
/-- `W`. -/
def cmdW (cmd : Nat) : Bool := cmd / 2 ^ 15 % 2 == 1

/-- The whole bytes of an SPI transaction, and what `HSDO` shifts out meanwhile (12 R446 to R448, R450). -/
def spiBytes (s : State) (bytes : List Byte) : State × List Byte :=
  let head := (leBytes 2 (hostStat s).toNat).take bytes.length
  let cmd := leAt bytes 0 2
  let zeros : List Byte := List.replicate (bytes.length - 2) 0
  if bytes.length < 2 then (s, head)
  else if !cmdOk cmd then (portError s .spi, head ++ zeros)
  else if cmdW cmd then
    ((writeRun .spi (cmdInc cmd) (bytes.drop 2) (cmdAddr cmd) (Run.fresh (cmdAddr cmd / 4)) s).1, head ++ zeros)
  else
    let (s, out, _) := readRun .spi (cmdInc cmd) (bytes.length - 3) (cmdAddr cmd) 0 0 0 s
    (s, head ++ zeros.take 1 ++ out)

/-- A whole SPI transaction: the bytes shifted in, and the bits of a last partial byte, which is counted when the transaction ends
(12 R444 to R450, R49). -/
def execSpiTransaction (bytes : List Byte) (partialBits : Fin 8) (s : State) : Host.Outcome State Fault Refusal :=
  if !hostOn s then .next s
  else
    let (s, out) := spiBytes (irqRaise s 40) bytes
    .next (if partialBits.val = 0 then { s with host.hsdo := out } else { portError s .spi with host.hsdo := out })

/-! ### UART (12 R451 to R457) -/

/-- Undo the stuffing; `none` for an aborted frame. -/
def unstuff : List Byte → Option (List Byte)
  | [] => some []
  | [b] => if b = 0x7D then none else some [b]
  | b :: c :: t =>
    if b = 0x7D then (unstuff t).map (fun l => (c ^^^ 0x20) :: l) else (unstuff (c :: t)).map (fun l => b :: l)

/-- Stuff the content of a frame. -/
def stuff : List Byte → List Byte
  | [] => []
  | b :: t => if b = 0x7E ∨ b = 0x7D then 0x7D :: (b ^^^ 0x20) :: stuff t else b :: stuff t

/-- The reply frame (12 R454). -/
def uartReply (s : State) (code : Access) (out : List Byte) : List Byte :=
  let c := leBytes 2 (hostStat s).toNat ++ [accessCode code] ++ out
  [0x7E] ++ stuff (c ++ leBytes 2 (crc16 c).toNat) ++ [0x7E]

/-- The content of a request passes the checks of 12 R453, R455. -/
def uartOk (c : List Byte) : Bool :=
  let n := c.length
  let len := byteAt c 2
  decide (5 ≤ n) && c.drop (n - 2) == leBytes 2 (crc16 (c.take (n - 2))).toNat && cmdOk (leAt c 0 2) && len != 0 &&
    n == 5 + (if cmdW (leAt c 0 2) then len else 0)

/-- Line time of `n` bytes of 8N1, in ct (12 R451). -/
def uartCt (baud : Bool) (n : Nat) : Nat := if baud then n * 196608 / 100 else n * 51200 / 3

/-- A request that gets no reply: discarded and counted; the next may start 1 ms later, and not before a reply on its way has ended
(12 R455, R457). -/
def uartDiscard (s : State) : State := { portError s .uart with host.uartAt := max s.host.uartAt (s.now + ctPerMs) }

/-- The reply leaves: it starts within 50 µs, a free value, and the next request may start once it has ended (12 R456, R457). -/
def uartAnswer (s : State) (baud : Bool) (frame : List Byte) : State :=
  let (v, s) := takeFree s
  let stop := s.now + v.toNat % (usCt 50 + 1) + uartCt baud frame.length
  { s with host.htx := frame, host.htxEnd := stop, host.uartAt := stop }

/-- The request whose bytes, without its two 0x7E, have just come in with pauses of `gaps` ct in all began before it might (12
R457). -/
def uartEarly (s : State) (bytes : List Byte) (gaps : Nat) : Bool :=
  s.host.uartAt != 0 && decide (s.now < s.host.uartAt + uartCt s.host.baud (bytes.length + 2) + gaps)

/-- A whole UART request (12 R453 to R457). A new baud rate takes effect after the reply (R451). -/
def execUartRequest (r : UartReq) (s : State) : Host.Outcome State Fault Refusal :=
  if !hostOn s then .next s
  else
    let s := irqRaise s 41
    if uartEarly s r.bytes r.gaps then .next (uartDiscard s)
    else
    match unstuff r.bytes with
    | none => .next (uartDiscard s)
    | some c =>
      if !uartOk c then .next (uartDiscard s)
      else
        let baud := s.host.baud
        let cmd := leAt c 0 2
        let a := cmdAddr cmd
        if cmdW cmd then
          let (s, x) := writeRun .uart (cmdInc cmd) ((c.drop 3).take (byteAt c 2)) a (Run.fresh (a / 4)) s
          let s := uartAnswer s baud (uartReply s x [])
          .next { s with host.baud := s.host.baudReg }
        else
          let (s, out, x) := readRun .uart (cmdInc cmd) (byteAt c 2) a 0 0 0 s
          .next (uartAnswer s baud (uartReply s x out))

/-- More than 1 ms between two bytes of a frame (12 R455). -/
def execUartByteTimeout (s : State) : Host.Outcome State Fault Refusal :=
  if hostOn s then .next (uartDiscard s) else .next s

/-! ### Single accesses -/

/-- A write of one register of the window. -/
def hostWrite (s : State) (h : HPort) (r : Nat) (v : Word) : Host.Outcome State Fault Refusal :=
  if hostOn s then .next (hostRegWrite s h r v).1 else .next s

/-- A write of `HOST_MBSEL` (12 R437, R440). -/
def execHostMbselWrite (h : HPort) (v : Word) (s : State) : Host.Outcome State Fault Refusal := hostWrite s h 5 v

/-- A byte written to `HOST_MBDATA` (12 R439). -/
def execHostMbdataWrite (h : HPort) (b : Byte) (s : State) : Host.Outcome State Fault Refusal :=
  if !hostOn s then .next s
  else if !s.host.ready then .next (portError s h)
  else .next (mbWrite s h b).1

/-- What a read returned goes out of the port. -/
def putRead (s : State) (h : HPort) (out : List Byte) : State :=
  match h with
  | .spi => { s with host.hsdo := out }
  | .uart => { s with host.htx := out }

/-- A byte read from `HOST_MBDATA` (12 R439; 13 R481). -/
def execHostMbdataRead (h : HPort) (s : State) : Host.Outcome State Fault Refusal :=
  if !hostOn s then .next s
  else if !s.host.ready then .next (putRead (portError s h) h [0])
  else
    let (s, b, _) := mbRead s h
    .next (putRead s h [b])

/-- A doorbell write (13 R476). -/
def execMailboxRing (h : HPort) (v : Word) (s : State) : Host.Outcome State Fault Refusal := hostWrite s h 4 v

/-- A W1C write of `HOST_IRQ` (12 R462). -/
def execHostIrqClear (h : HPort) (v : Word) (s : State) : Host.Outcome State Fault Refusal := hostWrite s h 3 v

/-- A write of `HOST_IRQEN` (12 R462). -/
def execHostIrqenWrite (h : HPort) (v : Word) (s : State) : Host.Outcome State Fault Refusal := hostWrite s h 2 v

/-- A W1C write of `HOST_FLT.SEEN` (12 R470). -/
def execHostFltClear (h : HPort) (v : Word) (s : State) : Host.Outcome State Fault Refusal := hostWrite s h 7 v

/-- A write of `HOST_UCFG` (12 R451). -/
def execHostUcfgWrite (h : HPort) (v : Word) (s : State) : Host.Outcome State Fault Refusal :=
  if !hostOn s then .next s
  else
    let s := (hostRegWrite s h 9 v).1
    .next { s with host.baud := s.host.baudReg }

/-- A read of `HOST_ERR`: the counts, cleared (12 Table 12-1). -/
def execHostErrRead (h : HPort) (s : State) : Host.Outcome State Fault Refusal :=
  if !hostOn s then .next s
  else
    let (s, v, _) := latchReg s h 10
    .next (putRead s h (leBytes 4 v.toNat))

/-! ### Readiness, wake pins and claims -/

/-- `READY` becomes 1 (12 R442). -/
def execHostReady (s : State) : Host.Outcome State Fault Refusal :=
  if active s && !s.host.ready then .next (irqSet { s with host.ready := true } 0x400#13) else .next s

/-- `HWAKE_N` is released once the host has cleared `WAKE`, and not before it has been low for 100 µs (12 R463). -/
def execHwakeRelease (s : State) : Host.Outcome State Fault Refusal :=
  if s.host.hwake && !s.host.irq.getLsbD 11 && decide (usCt 100 ≤ s.now - s.host.hwakeAt) then
    .next { s with host.hwake := false }
  else .next s

/-- A wake pulse on `HCS_N` in a lower state, or once one is decided (02 R47; 23 R848, R865). -/
def execHcsWake (s : State) : Host.Outcome State Fault Refusal :=
  if !running s || !s.sup.vio || (awake s && s.pw.decided.isNone) then .next s
  else .next (wakeFor { s with pw.wakeBurst := true } 1)

/-- A claim lapses after 1 s without access (13 R482). -/
def execClaimLapse (i : Fin 4) (s : State) : Host.Outcome State Fault Refusal :=
  let p := s.mbx.pairs[i]
  if p.flight || p.full then .next s
  else .next { s with mbx.pairs := s.mbx.pairs.set i { p with claim := none } }

/-- No REPLY within the limit after the ACK of a forwarded message (13 R487). -/
def execReplyTimeout (i : Fin 4) (s : State) : Host.Outcome State Fault Refusal :=
  if active s && s.chn.fwd.any fun f => f.pair == i && f.acked then .next (linkFail s i 1) else .next s

/-- The oldest entry of a history is 10 s old (13 R495). -/
def execHistoryExpire (i : Fin 4) (s : State) : Host.Outcome State Fault Refusal :=
  .next { s with mbx.hist := s.mbx.hist.set i s.mbx.hist[i].dropLast }

end Sys2Proof.Machine
end

