-- ==== Sys2Proof/Machine/Torque.lean ====
section
/-! DEFINITION. The energy budget, torque enable and the run-down of the anchor (16), and the safety connection's end (15). -/

namespace Sys2Proof.Machine

open Sys2Proof

/-! ### Energy (16 R598, R617 to R625, R629, R630). Energies are kept in 1/200,000 J, so that every product is exact. -/

/-- E_need in J (16 R598). -/
def eNeed (c : CfgRegs) : Nat :=
  let e := 25 * fld c.roleCfg 31 16 * fld c.roleCfg 15 8 + 1000 * fld c.tenCfg 31 16
  if e = 0 then 1 else e

/-- The code of the charging current in word 0 of the latest own result, 0 under discharge or `UNUSED` (16 R623). -/
def chargeCode (s : State) : Nat :=
  let w := lastWord0 s
  let c := wordCode w
  if bitOf w 31 then 0
  else if bitOf s.cfg.curCfg 1 then (-c).toNat else c.toNat

/-- A report's energy (16 R621): NINC × KE × (VMIN − VE0 − V_IR). -/
def eReport (s : State) (r : Report) : Nat :=
  let v : Int := r.vmin * 2000 - (fld s.cfg.rdnCfg 11 0 * 200000 : Nat) - (fld s.cfg.rdnCfg 31 24 * chargeCode s : Nat)
  r.ninc * fld s.cfg.rdnCfg 23 12 * v.toNat

/-- A cross-check fault zeroes the own report (16 R624): XC1 of a used CELL-role well, XC2, XC4. -/
def ownZero (s : State) : Bool :=
  (s.aux.xcWellFault &&& cellMask s.cfg) != 0 || s.aux.xcFault.getLsbD 1 || s.aux.xcFault.getLsbD 3

/-- A report is no older than 500 ms at a moment (16 R618). -/
def freshAt (t : Nat) (r : Report) : Bool := decide (t - r.time ≤ 500 * ctPerMs)

/-- What a fresh report contributes (16 R619 to R624). -/
def eContrib (s : State) (r : Report) : Nat :=
  if r.flt3 || (r.addr == s.chn.addr && ownZero s) then 0 else eReport s r

/-- The fresh reports at a moment. -/
def freshReports (s : State) (t : Nat) : List Report := s.en.reports.filter (freshAt t)

/-- E_sum at a moment, in 1/200,000 J (16 R625). -/
def eSum (s : State) (t : Nat) : Nat := (freshReports s t).foldl (fun e r => e + eContrib s r) 0

/-- Whether an address contributes nothing. -/
def addrZero (s : State) (t : Nat) (a : Nat) : Bool :=
  match (freshReports s t).find? fun r => r.addr.toNat == a with
  | none => true
  | some r => eContrib s r == 0

/-- The addresses the anchor knows. -/
def knownAddrs (s : State) : List Nat := (List.range s.en.top).map (· + 1)

/-- Saturate to 32 bits. -/
def sat32 (n : Nat) : Nat := min n 0xFFFFFFFF

/-- `EUSE`, `AGE` and flags of `SAFE_ENERGY` (16 R629, R630; 14 Table 14-7). -/
def energyReply (s : State) : List Byte :=
  if isAnchor s then
    let rs := freshReports s s.now
    let age := rs.foldl (fun a r => max a (msSince s r.time)) 0
    let age := if rs.isEmpty then 65535 else age
    let stale := (knownAddrs s).any fun a => !rs.any fun r => r.addr.toNat == a
    leBytes 4 (sat32 (eSum s s.now / 200000)) ++ leBytes 2 (min 65535 age) ++
      [BitVec.ofNat 8 (b2n (rs.any (·.excl)) + 2 * b2n stale), 0]
  else
    match s.acq.kept with
    | [] => leBytes 4 0 ++ leBytes 2 65535 ++ [2, 0]
    | k :: _ =>
      let r := ownReport s k.words k.start
      leBytes 4 (sat32 (eContrib s r / 200000)) ++ leBytes 2 (min 65535 (msSince s k.start)) ++
        [BitVec.ofNat 8 (b2n r.excl + 2 * b2n (!freshAt s.now r)), 0]

/-! ### The connection (15) -/

/-- A close that is no failure writes `CONNCLOSE` (15 R569): 1 `SAFE_CLOSE`, 2 power state, 3 uncommissioned. -/
def connClose (s : State) (why : Byte) : State :=
  match s.safe.conn with
  | none => s
  | some c => jrnPut { s with safe.conn := none } false 0x47 ([why, 0, 0, 0] ++ leBytes 4 c.id.toNat)

/-- A failure closes the connection, is recorded, and on the anchor is a stop request (15 R581 to R583; 16 causes 4, 5). -/
def connFail (s : State) (cause : Nat) : State :=
  match s.safe.conn with
  | none => s
  | some c =>
    let inc := isAnchor s && torqueOn s
    let s := jrnPut { s with safe.conn := none } inc 0x0B
      ([BitVec.ofNat 8 cause, 0] ++ leBytes 2 c.sseq.toNat ++ leBytes 4 c.id.toNat)
    tqDecision s (if cause = 5 then 5 else 4)

/-- The safety monitor starts its 2 ms timer when torque is on (16 R614). -/
def startSmTimer (s : State) : State := if isAnchor s && torqueOn s then { s with tq.smTimer := true } else s

/-- The time expectation expires (15 R576, R582). -/
def execTimeExpectationExpire (s : State) : Host.Outcome State Fault Refusal :=
  if active s && s.safe.conn.isSome then .next (startSmTimer (irqRaise (connFail s 5) 18)) else .next s

/-! ### Stop requests and the decision (16) -/

/-- `STOP_N` has been low for 20 µs (16 R610; 02 R40). -/
def execStopNLow (s : State) : Host.Outcome State Fault Refusal :=
  let s := { s with sup.stopN := false }
  if active s && isAnchor s then .next (startSmTimer (irqRaise (tqDecision s 1) 18)) else .next s

/-- The record of a decision (16 R627). -/
def decisionData (s : State) (sum : Nat) (course : Byte) : List Byte :=
  let none0 := ((knownAddrs s).filter (addrZero s s.tq.decideAt)).length
  leBytes 4 (sat32 (sum / 200000)) ++ leBytes 4 (sat32 (eNeed s.cfg)) ++ [BitVec.ofNat 8 none0, course]

/-- The `PHA` rising edges of a list in the `w` ct up to `t`, the start excluded and the end included (16 R631). -/
def edges8 (l : List Nat) (w t : Nat) : Nat := (l.filter fun e => decide (t < e + w) && decide (e ≤ t)).length

/-- Eight milliseconds of the system clock, to which the sample clock is locked (05 Table 5-1, R128, R148). -/
def fw8ms : Nat := 8 * ctPerMs

/-- Eight milliseconds on the clock of the safety monitor, which differ from the nominal ones by `d` ct (05 Table 5-1, log 122). -/
def smWindow (slow : Bool) (d : Nat) : Nat := if slow then fw8ms + d else fw8ms - d

/-- The firmware ends DECIDE: a run-down when the budget covers the need, otherwise removal (16 R625 to R628, R641). Each monitor
latches its own count of the 8 ms that end at the decision (R632), the safety monitor by its own clock. -/
def execEnergyDecision (slow : Bool) (d : Nat) (s : State) : Host.Outcome State Fault Refusal :=
  if !fwOn s || !isAnchor s || s.tq.rd != .decide then .next s
  else
    let sum := eSum s s.tq.decideAt
    if eNeed s.cfg * 200000 ≤ sum then
      let s := jrnPut s true 0x0C (decisionData s sum 1)
      let waits := s.tq.rdnWaits
      let s := { s with tq.rd := .rundown, tq.rdnLow := true, tq.smTimer := false,
                        tq.n0f := edges8 s.ph.phaAt fw8ms s.now, tq.n0s := edges8 s.tq.smEdges (smWindow slow d) s.now, tq.runAt := s.now,
                        tq.checks := 0, tq.smChecks := 0, tq.zeros := 0, tq.rdnWaits := [] }
      .next (rdnAnswers waits 1 s)
    else .next (tqRemove (jrnPut s true 0x0C (decisionData s sum 2)) 6 .removed)

/-- The 2 ms timer of the safety monitor ends with no run-down started and no removal (16 R614). -/
def execDecisionTimerExpire (s : State) : Host.Outcome State Fault Refusal :=
  if !running s || !s.tq.smTimer then .next s
  else
    let s := { s with tq.smTimer := false }
    if s.tq.rd == .enabled || s.tq.rd == .decide then .next (tqImmediate s 13) else .next s

/-! ### Enabling (16 R603 to R608) -/

/-- 1 ms after an accepted `SAFE_TEN` both outputs are driven high (16 R603). -/
def execTenRise (s : State) : Host.Outcome State Fault Refusal :=
  if fwOn s && isAnchor s && !s.tq.enabling.isEmpty then .next { s with tq.ten := true } else .next s

/-- 50 µs after the rise: ENABLED, or a read-back fault (16 R604, R605). -/
def execTenReadbackCheck (a b : Bool) (s : State) : Host.Outcome State Fault Refusal :=
  if !active s || !isAnchor s || !s.tq.ten then .next s
  else
    let s := { s with sup.tfbA := a, sup.tfbB := b, tq.tfbHigh := if a || b then some s.now else s.tq.tfbHigh }
    if s.tq.enabling.isEmpty then .next s
    else if a && b then
      .next (s.tq.enabling.foldl (fun s w => replyEnv s w []) { s with tq.rd := .enabled, tq.enabling := [] })
    else .next (endEnabling s 12)

/-- A comma pulse begins on one output (16 R606). -/
def execCommaPulse (chB : Bool) (s : State) : Host.Outcome State Fault Refusal :=
  if !running s || !s.tq.ten || !torqueOn s then .next s
  else .next (if chB then { s with tq.pulseB := true } else { s with tq.pulseA := true })

/-- It ends (16 R606). -/
def execCommaPulseEnd (chB : Bool) (s : State) : Host.Outcome State Fault Refusal :=
  .next (if chB then { s with tq.pulseB := false } else { s with tq.pulseA := false })

/-- A read-back sample differs from its output (16 R607, R608). With the outputs low it only shows a high read-back, which
`SAFE_TEN` tests (Table 16-5, 0x0016). In the lower states the inputs are off (02 Table 2-2). -/
def execReadbackFault (chB : Bool) (s : State) : Host.Outcome State Fault Refusal :=
  if !active s || !isAnchor s then .next s
  else if torqueOn s || !s.tq.enabling.isEmpty then
    .next (irqRaise (tqImmediate { s with tq.tenFault := true } 12) 18)
  else
    .next (if chB then { s with sup.tfbB := true, tq.tfbHigh := some s.now }
      else { s with sup.tfbA := true, tq.tfbHigh := some s.now })

/-! ### The run-down (16 R631 to R637) -/

/-- The run-down time limit T in ms. -/
def rdnLimitMs (role : Word) : Nat := fld role 15 8 * 250

/-- The limit of check `j`: floor(n8₀ × (T − t) / T) + ceil(n8₀ × VTOL / 50) + 2 (16 R633). -/
def rdnEdgeLimit (role : Word) (n0 j : Nat) : Nat :=
  n0 * (rdnLimitMs role - j) / rdnLimitMs role + (n0 * fld role 7 2 + 49) / 50 + 2

/-- The firmware's check j: it counts from the tracker's stamps; an envelope violation removes torque at once, 100 zero counts end
the run-down (16 R631 to R635). -/
def fwCheck (s : State) : State :=
  let j := s.tq.checks + 1
  let n := edges8 s.ph.phaAt fw8ms s.now
  let z := if n = 0 then s.tq.zeros + 1 else 0
  let s := { s with tq.checks := j, tq.zeros := z }
  if rdnEdgeLimit s.cfg.roleCfg s.tq.n0f j < n then tqImmediate s 11
  else if z ≥ 100 then tqRemove s 16 .stopped
  else s

/-- The safety monitor's check j, without the core: it counts from its own counter, by its own copies of the parameters (16 R631,
R633, R637). Copies that do not agree count as a violation (log 129). -/
def smCheck (w : Nat) (s : State) : State :=
  let j := s.tq.smChecks + 1
  let s := { s with tq.smChecks := j }
  if s.tq.smRoleN != ~~~s.tq.smRole || decide (rdnEdgeLimit s.tq.smRole s.tq.n0s j < edges8 s.tq.smEdges w s.now) then
    tqImmediate s 11
  else s

/-- A check of one monitor, j ms after the decision on its own clock (16 R631); `d` is the drift of the safety monitor's. -/
def execRundownCheck (mon : Monitor) (d : Nat) (s : State) : Host.Outcome State Fault Refusal :=
  if s.tq.rd != .rundown then .next s
  else
    match mon with
    | .firmware => if fwOn s && bitOf s.cfg.roleCfg 1 then .next (fwCheck s) else .next s
    | .safety slow => if active s && bitOf s.tq.smRole 1 then .next (smCheck (smWindow slow d) s) else .next s

/-- The run-down reaches T (16 R635). -/
def execRundownTimeLimit (s : State) : Host.Outcome State Fault Refusal :=
  if fwOn s && s.tq.rd == .rundown then .next (tqRemove s 17 .stopped) else .next s

/-- At T + 1 ms the safety monitor removes torque itself (16 R635). -/
def execSmRundownLimitBackup (s : State) : Host.Outcome State Fault Refusal :=
  if running s && s.tq.rd == .rundown then .next (tqRemove s 17 .stopped) else .next s

end Sys2Proof.Machine
end

