-- ==== Sys2Proof/Machine/VerbBase.lean ====
section
/-! DEFINITION. What every verb shares: check 7 of 13 R483 in the order of 14 R513 (Where, broadcast, privilege, R509,
length, values, state), sessions and envelopes. -/

namespace Sys2Proof.Machine

open Sys2Proof

/-- Privileges (14 R506). -/
inductive Priv where
  | opn | pw | safe
deriving DecidableEq, Repr

/-- The Where column (14 R510). -/
inductive Place where
  | any | head | anchor | port
deriving DecidableEq, Repr

/-- A row of 14 Table 14-1: code, privilege, place, broadcast, and the required `LEN` (none where more than one fits). -/
structure VerbRow where
  /-- verb code -/
  code : BitVec 16
  /-- privilege -/
  priv : Priv
  /-- place -/
  place : Place
  /-- may be broadcast -/
  bc : Bool
  /-- required length -/
  len : Option Nat
deriving DecidableEq, Repr

/-- `PRIV`. -/
def errPriv (s : State) (v : VerbRow) (m : Msg) (d : Nat) : State := replyErr s v.code m 7 d
/-- `STATE`. -/
def errState (s : State) (v : VerbRow) (m : Msg) (d : Nat) : State := replyErr s v.code m 8 d
/-- `PAYLOAD`: the required `LEN`, or 0xFFFF (14 R514). -/
def errPayload (s : State) (v : VerbRow) (m : Msg) : State := replyErr s v.code m 9 (v.len.getD 0xFFFF)
/-- `VALUE`: the offset of the first refused field. -/
def errValue (s : State) (v : VerbRow) (m : Msg) (off : Nat) : State := replyErr s v.code m 10 off

/-- The verb runs here (14 R510). -/
def placeOk (s : State) (p : Place) (m : Msg) : Bool :=
  match p with
  | .any => true
  | .head => isHead s
  | .anchor => isAnchor s
  | .port => m.src.isNone

/-! ### Envelopes (15 R560 to R575) -/

/-- `SLEN`. -/
def envLen (p : List Byte) : Nat := byteAt p 2

/-- Well formed (15 R561). -/
def envFormed (p : List Byte) : Bool :=
  decide (4 ≤ p.length) && decide (envLen p ≤ 32) && p.length == 8 + envLen p && byteAt p 3 / 2 == 0

/-- `SCHK` checks (15 R562, R563). -/
def envCheck (s : State) (id : Word) (verb : BitVec 16) (p : List Byte) : Bool :=
  leAt p (4 + envLen p) 4 == (schk s id verb (p.take (4 + envLen p))).toNat

/-- The outcome of the checks of 15 R570. -/
inductive EnvResult where
  | accepted (sseq : BitVec 16) (d : Nat)
  | refused
  | repeated
  | failed (cause : Nat)
deriving DecidableEq, Repr

/-- The checks of an envelope in their order (15 R570). -/
def envJudge (s : State) (verb : BitVec 16) (p : List Byte) : EnvResult :=
  match s.safe.conn with
  | none => .refused
  | some c =>
    if !envFormed p then .failed 1
    else if byteAt p 3 % 2 = 1 then .failed 2
    else if !envCheck s c.id verb p then .failed 3
    else
      let q : BitVec 16 := BitVec.ofNat 16 (leAt p 0 2)
      let d := (q - c.sseq).toNat
      if 1 ≤ d ∧ d ≤ 8 then .accepted q d
      else if d = 0 ∨ 32768 ≤ d then .repeated
      else .failed 4

/-- A count that saturates at 255. -/
def satAdd8 (b : Byte) (n : Nat) : Byte := BitVec.ofNat 8 (min 255 (b.toNat + n))

/-- Change the open connection. -/
def mapConn (s : State) (f : Conn → Conn) : State := { s with safe.conn := s.safe.conn.map f }

/-- Run the body of a "safe" verb under an accepted envelope (15 R570 to R574). -/
def withEnvelope (s : State) (v : VerbRow) (m : Msg) (body : State → Waiting → State) : State :=
  if !commissioned s then errPriv s v m 2
  else if !m.env then errPriv s v m 3
  else
    match envJudge s v.code m.payload with
    | .refused => errPriv s v m 3
    | .repeated => errPriv (mapConn s fun c => { c with reps := satAdd8 c.reps 1 }) v m 3
    | .failed c => errPriv (connFail s c) v m 3
    | .accepted q d =>
      let id := match s.safe.conn with | some c => c.id | none => 0
      let s := mapConn s fun c => { c with sseq := q, losts := satAdd8 c.losts (d - 1), restart := s.now }
      let w : Waiting := { verb := v.code, msg := m, env := some (q, id) }
      if some m.payload.length = v.len then body s w else errPayload s v m

/-! ### Check 7 -/

/-- The length is the required one, where there is one. -/
def lenOk (v : VerbRow) (m : Msg) : Bool :=
  match v.len with
  | none => true
  | some n => m.payload.length == n

/-- A password session stands for the message's `MBX`; the verb restarts its 300 s (14 R506, 17 R665). -/
def withSession (s : State) (v : VerbRow) (m : Msg) (body : State → State) : State :=
  if s.safe.sess[m.mbx].isNone then errPriv s v m 1
  else body { s with safe.sess := s.safe.sess.set m.mbx (some s.now) }

/-- After the privilege step: R509, then the length. -/
def afterPriv (v : VerbRow) (m : Msg) (body : State → State) (s : State) : State :=
  if m.env || !lenOk v m then errPayload s v m else body s

/-- A message that no reply waits for beyond the verb's own. -/
def waitOf (v : VerbRow) (m : Msg) : Waiting := { verb := v.code, msg := m, env := none }

/-- The first steps of check 7, then the verb's own (14 R513). -/
def enterVerb (s : State) (v : VerbRow) (m : Msg) (body : State → Waiting → State) : State :=
  if !placeOk s v.place m then errState s v m 1
  else if m.bcast && !v.bc then errState s v m 3
  else
    match v.priv with
    | .opn => afterPriv v m (fun s => body s (waitOf v m)) s
    | .pw => withSession s v m (afterPriv v m fun s => body s (waitOf v m))
    | .safe => withEnvelope s v m body

/-- A verb's row as a step: it runs in ACTIVE and STANDBY. -/
def verbStep (f : Msg → State → State) (m : Msg) (s : State) : Host.Outcome State Fault Refusal :=
  if fwRuns s then .next (f m (hostActivity s)) else .next s

/-- The first byte of a list that is not 0, from an offset. -/
def firstNonzero : List Byte → Nat → Option Nat
  | [], _ => none
  | b :: t, i => if b = 0 then firstNonzero t (i + 1) else some i

/-- The offset of the first refused field: the first of a list that has one. -/
def firstBad : List (Option Nat) → Option Nat
  | [] => none
  | some n :: _ => some n
  | none :: t => firstBad t

/-- A field at an offset is refused when a condition holds. -/
def badIf (b : Bool) (off : Nat) : Option Nat := if b then some off else none

/-- The reserved bytes of a payload from `i` on, `n` of them, must be 0 (14 R516). -/
def reserved (p : List Byte) (i n : Nat) : Option Nat := firstNonzero ((p.drop i).take n) i

/-- The byte of a 32-bit field at offset 0 that holds the lowest bit set outside a mask. -/
def reservedBits (w allowed : Word) : Option Nat :=
  let x := w &&& ~~~ allowed
  if x = 0 then none
  else if x &&& 0xFF#32 != 0 then some 0 else if x &&& 0xFF00#32 != 0 then some 1
  else if x &&& 0xFF0000#32 != 0 then some 2 else some 3

/-- The four-byte value of a payload. -/
def word0 (p : List Byte) : Word := BitVec.ofNat 32 (leAt p 0 4)

end Sys2Proof.Machine
end

