-- ==== Sys2Proof/Machine/VerbAcq.lean ====
section
/-! DEFINITION. The acquisition verbs (14 R528 to R532, Tables 14-5, 14-6). -/

namespace Sys2Proof.Machine

open Sys2Proof

/-- Row of `ACQ_START`. -/
def rowAcqStart : VerbRow := { code := 0x0301, priv := .opn, place := .any, bc := true, len := some 0 }

/-- `ACQ_START` (14 R528, R529; 06 R898). The switches open for the quiet time (08 R268). -/
def vAcqStart (m : Msg) (s : State) : State :=
  enterVerb s rowAcqStart m fun s _ =>
    if s.acq.req.isSome then errState s rowAcqStart m 0x10
    else
      let n := s.acq.seqN + 1
      replyOk (openSwitches { s with acq.seqN := n, acq.req := some n }) rowAcqStart.code m (leBytes 2 n.toNat ++ [0, 0])

/-- `ACQ_START` (14 R528). -/
def execAcqStart (m : Msg) (s : State) : Host.Outcome State Fault Refusal := verbStep vAcqStart m s

/-- Row of `ACQ_READ`. -/
def rowAcqRead : VerbRow := { code := 0x0302, priv := .opn, place := .any, bc := false, len := some 4 }

/-- A snapshot as its 84 bytes (06 Table 6-6). -/
def snapBytes (k : Snapshot) : List Byte := snapHead k ++ leBytes 4 k.instant.toNat ++ wordsLe k.words

/-- The kept records of a kind, newest first: `SEQ` or cycle count, and the bytes (14 R530; 07 R236). -/
def keptRecords (s : State) (kind : Nat) : List (Nat × List Byte) :=
  if kind = 0 then s.acq.kept.map fun k => (k.seq.toNat, snapBytes k)
  else s.acq.ntcKept.map fun b => (leAt b 4 2, b)

/-- `ACQ_READ` (14 R530, Table 14-5). -/
def vAcqRead (m : Msg) (s : State) : State :=
  enterVerb s rowAcqRead m fun s _ =>
    let p := m.payload
    let kind := byteAt p 0
    let sel := byteAt p 1
    let seq := leAt p 2 2
    let l := keptRecords s kind
    match firstBad [badIf (decide (1 < kind)) 0, badIf (decide (1 < sel)) 1, badIf (sel == 0 && seq != 0) 2] with
    | some off => errValue s rowAcqRead m off
    | none =>
      if sel = 1 then
        match l.find? fun r => r.1 == seq with
        | some r => replyOk s rowAcqRead.code m r.2
        | none => errValue s rowAcqRead m 2
      else
        match l with
        | r :: _ => replyOk s rowAcqRead.code m r.2
        | [] => errState s rowAcqRead m 0x10

/-- `ACQ_READ` (14 R530). -/
def execAcqRead (m : Msg) (s : State) : Host.Outcome State Fault Refusal := verbStep vAcqRead m s

/-- Row of `ACQ_FETCH`. -/
def rowAcqFetch : VerbRow := { code := 0x0303, priv := .opn, place := .head, bc := false, len := some 4 }

/-- The records, at most `n` of them, that fit in `room` bytes: their bytes, their number, and the rest of the queue. -/
def fetchRecords : List (BitVec 7 × List Byte) → Nat → Nat → List Byte × Nat × List (BitVec 7 × List Byte)
  | [], _, _ => ([], 0, [])
  | r :: t, 0, _ => ([], 0, r :: t)
  | r :: t, n + 1, room =>
    if r.2.length + 2 ≤ room then
      let (b, k, rest) := fetchRecords t n (room - (r.2.length + 2))
      (r.1.setWidth 8 :: BitVec.ofNat 8 r.2.length :: r.2 ++ b, k + 1, rest)
    else ([], 0, r :: t)

/-- `ACQ_FETCH` (14 R532, Tables 14-5, 14-6). -/
def vAcqFetch (m : Msg) (s : State) : State :=
  enterVerb s rowAcqFetch m fun s _ =>
    let p := m.payload
    let mx := byteAt p 1
    match firstBad [badIf (decide (2 < byteAt p 0)) 0, badIf (decide (9 < mx)) 1, reserved p 2 2] with
    | some off => errValue s rowAcqFetch m off
    | none =>
      let k := Fin.ofNat 3 (byteAt p 0)
      let q := s.chn.recs[k]
      let (b, n, rest) := fetchRecords q.recs (if mx = 0 then 236 else mx) 236
      let s := { s with chn.recs := s.chn.recs.set k { recs := rest, lost := 0 } }
      replyOk s rowAcqFetch.code m ([BitVec.ofNat 8 n, 0] ++ leBytes 2 q.lost.toNat ++ b)

/-- `ACQ_FETCH` (14 R532). -/
def execAcqFetch (m : Msg) (s : State) : Host.Outcome State Fault Refusal := verbStep vAcqFetch m s

end Sys2Proof.Machine
end

