-- ==== Sys2Proof/Machine/VerbApl.lean ====
section
/-! DEFINITION. The applet verbs (14 R548 to R551, Table 14-8; 20 R768 to R772). -/

namespace Sys2Proof.Machine

open Sys2Proof

/-- The image area (20 Table 20-1). -/
def imgBase : Nat := 0x30014000
/-- Its bytes. -/
def imgMax : Nat := 40960
/-- The applet window. -/
def winBase : Nat := 0x20020000

/-- Bytes from `lo` to `hi` − 1 become 0. -/
def memClear : Memory → Nat → Nat → Memory
  | [], _, _ => []
  | (k, v) :: t, lo, hi => if lo ≤ k ∧ k < hi then memClear t lo hi else (k, v) :: memClear t lo hi

/-- The image's first `n` bytes; none when one of them cannot be read. -/
def imgBytes (s : State) (n : Nat) : Option (List Byte) :=
  if s.ecc.any fun e => decide (imgBase ≤ e) && decide (e < imgBase + n) then none else some (memGets s.mem imgBase n)

/-- The image has this length and check. -/
def imgChecks (s : State) (n : Nat) (chk : Word) : Bool :=
  match imgBytes s n with
  | none => false
  | some b => crc32c b == chk

/-- Row of `APL_LOAD`. -/
def rowAplLoad : VerbRow := { code := 0x0901, priv := .pw, place := .any, bc := false, len := none }

/-- `APL_LOAD` (14 R548, R549). -/
def vAplLoad (m : Msg) (s : State) : State :=
  enterVerb s rowAplLoad m fun s _ =>
    let p := m.payload
    let off := leAt p 0 4
    let n := p.length - 4
    if p.length < 5 ∨ 236 < p.length then errPayload s rowAplLoad m
    else if imgMax < off + n then errValue s rowAplLoad m 0
    else if s.apl.state == .running then errState s rowAplLoad m 0x10
    else
      replyOk { s with mem := memPuts s.mem (imgBase + off) (p.drop 4), store.imgValid := false, apl.state := .none }
        rowAplLoad.code m []

/-- `APL_LOAD` (14 R548). -/
def execAplLoad (m : Msg) (s : State) : Host.Outcome State Fault Refusal := verbStep vAplLoad m s

/-- Row of `APL_COMMIT`. -/
def rowAplCommit : VerbRow := { code := 0x0902, priv := .pw, place := .any, bc := false, len := some 8 }

/-- `APL_COMMIT` (14 R548, R550). -/
def vAplCommit (m : Msg) (s : State) : State :=
  enterVerb s rowAplCommit m fun s _ =>
    let p := m.payload
    let n := leAt p 0 4
    let chk := BitVec.ofNat 32 (leAt p 4 4)
    if n = 0 ∨ imgMax < n then errValue s rowAplCommit m 0
    else if !imgChecks s n chk then errValue s rowAplCommit m 4
    else
      replyOk { s with store.imgValid := true, store.imgLen := BitVec.ofNat 32 n, store.imgChk := chk,
                       apl.state := if s.apl.state == .running then .running else .valid } rowAplCommit.code m []

/-- `APL_COMMIT` (14 R550). -/
def execAplCommit (m : Msg) (s : State) : Host.Outcome State Fault Refusal := verbStep vAplCommit m s

/-- The image header keeps 20 Table 20-7. -/
def headerOk (b : List Byte) (len : Nat) : Bool :=
  let entry := leAt b 4 4
  let abud := leAt b 8 4
  b.take 4 == [0x53, 0x51, 0x59, 0x31] && entry % 4 == 0 && decide (16 ≤ entry) && decide (entry < len)
    && decide (10 ≤ abud) && decide (abud ≤ 25000) && leAt b 12 4 == 0

/-- C of 20 R770. -/
def codeSize (len : Nat) : Nat := 256 * ((len + 255) / 256)

/-- A region of the applet partition: first address with its permissions, last address, physical base. -/
def aplRgn (va last pa : Nat) : Region :=
  { va := BitVec.ofNat 32 va, last := BitVec.ofNat 32 last &&& 0xFFFFFF00#32, pa := BitVec.ofNat 32 pa }

/-- The applet partition of FW 4.2 (20 Table 20-8). -/
def aplRegions (len : Nat) : Vector Region 16 :=
  let c := codeSize len
  let v := Vector.replicate 16 { va := 0, last := 0, pa := 0 }
  (((v.set 0 (aplRgn 0xB (c - 1) winBase)).set 1 (aplRgn 0x10007 (0x10000 + 65535 - c) (winBase + c))).set 2
    (aplRgn 0x20007 0x201FF 0x40005600)).set 3 (aplRgn 0x20207 0x203FF 0x40006200)

/-- The general registers an applet starts with: g1 to g14 0, the firmware g15 as it is (20 R771). -/
def startRegs (g : Vector Word 16) : Vector Word 16 := (Vector.replicate 16 0).set 15 g[15]

/-- Start the applet whose image is `b` (20 R770, R771, R792; 21 R819). -/
def startApplet (s : State) (b : List Byte) : State :=
  let abud := leAt b 8 4
  let s := setCe (setCe s 2 CeCh.reset) 3 CeCh.reset
  { s with
    mem := memPuts (memClear s.mem winBase (winBase + 65536)) winBase b
    mpu.ap := aplRegions b.length
    core.pc := BitVec.ofNat 32 (leAt b 4 4)
    core.g := startRegs s.core.g
    core.asp := BitVec.ofNat 32 (0x10000 + 65536 - codeSize b.length)
    core.sw := 0x4050
    core.waiting := false
    apl := { s.apl with state := .running, abud := abud, budget := abud, charge := 0, ivAt := s.now, inSvc := false,
                        suspended := false, svcPend := false, stopDue := none } }

/-- Row of `APL_START`. -/
def rowAplStart : VerbRow := { code := 0x0903, priv := .pw, place := .any, bc := false, len := some 0 }

/-- `APL_START` (20 R769, R770). -/
def vAplStart (m : Msg) (s : State) : State :=
  enterVerb s rowAplStart m fun s _ =>
    let n := s.store.imgLen.toNat
    if s.apl.state == .running then errState s rowAplStart m 0x10
    else
      match imgBytes s n with
      | none => errState s rowAplStart m 0x11
      | some b =>
        if s.store.imgValid && headerOk b n && crc32c b == s.store.imgChk then
          replyOk (startApplet s b) rowAplStart.code m []
        else errState s rowAplStart m 0x11

/-- `APL_START` (20 R770). -/
def execAplStart (m : Msg) (s : State) : Host.Outcome State Fault Refusal := verbStep vAplStart m s

/-- Row of `APL_STOP`. -/
def rowAplStop : VerbRow := { code := 0x0904, priv := .opn, place := .any, bc := true, len := some 0 }

/-- `APL_STOP` (14 R551; 20 R788). -/
def vAplStop (m : Msg) (s : State) : State :=
  enterVerb s rowAplStop m fun s _ => replyOk (decideStop s []) rowAplStop.code m []

/-- `APL_STOP` (14 R551). -/
def execAplStop (m : Msg) (s : State) : Host.Outcome State Fault Refusal := verbStep vAplStop m s

/-- Row of `APL_STAT`. -/
def rowAplStat : VerbRow := { code := 0x0905, priv := .opn, place := .any, bc := false, len := some 0 }

/-- The code of `APL_STAT.STATE`. -/
def aplCode (a : AplState) : Nat := match a with | .none => 0 | .valid => 1 | .running => 2 | .faulted => 3

/-- `APL_STAT` (14 Table 14-8). -/
def vAplStat (m : Msg) (s : State) : State :=
  enterVerb s rowAplStat m fun s _ =>
    replyOk s rowAplStat.code m
      ([BitVec.ofNat 8 (aplCode s.apl.state), s.apl.fvec, 0, 0] ++ wordsLe [s.store.imgLen, s.store.imgChk, s.apl.faults])

/-- `APL_STAT`. -/
def execAplStat (m : Msg) (s : State) : Host.Outcome State Fault Refusal := verbStep vAplStat m s

/-- Row of `APL_MSG`. -/
def rowAplMsg : VerbRow := { code := 0x0906, priv := .opn, place := .any, bc := false, len := none }

/-- `APL_MSG`: the applet's answer is its reply (14 Table 14-9). -/
def vAplMsg (m : Msg) (s : State) : State :=
  enterVerb s rowAplMsg m fun s w =>
    if 240 < m.payload.length then errPayload s rowAplMsg m
    else if s.apl.state != .running then errState s rowAplMsg m 0x13
    else { s with apl.msgs := s.apl.msgs ++ [w] }

/-- `APL_MSG`. -/
def execAplMsg (m : Msg) (s : State) : Host.Outcome State Fault Refusal := verbStep vAplMsg m s

/-- 50 ms after the take of the oldest pending `APL_MSG` (14 Table 14-9). -/
def execAplMsgTimeout (s : State) : Host.Outcome State Fault Refusal :=
  match s.apl.msgs with
  | [] => .next s
  | w :: t => if active s then .next (errState { s with apl.msgs := t } rowAplMsg w.msg 0x12) else .next s

/-- Row of `APL_ERASE`. -/
def rowAplErase : VerbRow := { code := 0x0907, priv := .pw, place := .any, bc := false, len := some 0 }

/-- `APL_ERASE`: no image is left (log 54). -/
def vAplErase (m : Msg) (s : State) : State :=
  enterVerb s rowAplErase m fun s _ =>
    if s.apl.state == .running then errState s rowAplErase m 0x10
    else
      replyOk { s with mem := memClear s.mem imgBase (imgBase + imgMax), store.imgValid := false, store.imgLen := 0,
                       store.imgChk := 0, apl.state := .none } rowAplErase.code m []

/-- `APL_ERASE`. -/
def execAplErase (m : Msg) (s : State) : Host.Outcome State Fault Refusal := verbStep vAplErase m s

end Sys2Proof.Machine
end

