-- ==== Sys2Proof/Machine/VerbBal.lean ====
section
/-! DEFINITION. The balancing verbs (08 Tables 8-4, 8-5; 14 R533 to R536). Request records serve applets too (08 R283). -/

namespace Sys2Proof.Machine

open Sys2Proof

/-- A request record (08 Table 8-4). -/
structure BalRec where
  /-- `WELL` -/
  well : Nat
  /-- `KIND` -/
  kind : Nat
  /-- bits [7:2] of the kind byte -/
  kindRest : Nat
  /-- `TIME` -/
  time : Nat
  /-- `TARGET` -/
  target : Nat
  /-- the reserved half-word -/
  rest : Nat
deriving DecidableEq, Repr

/-- The records of a list of bytes. -/
def balRecs (p : List Byte) : List BalRec :=
  (List.range (p.length / 8)).map fun i =>
    let k := byteAt p (8 * i + 1)
    { well := byteAt p (8 * i), kind := k % 4, kindRest := k / 4, time := leAt p (8 * i + 2) 2,
      target := leAt p (8 * i + 4) 2, rest := leAt p (8 * i + 6) 2 }

/-- The well of a record. -/
def BalRec.w (r : BalRec) : Well := Fin.ofNat 18 (r.well - 1)

/-- The first refused field of a record, as an offset within it (08 R254, R258). A cancel record names a well from 1 to 18
and carries zeros. -/
def balRecBad (s : State) (r : BalRec) : Option Nat :=
  let wellBad :=
    if r.kind = 0 then r.well = 0 || decide (18 < r.well)
    else r.well = 0 || decide (18 < r.well) || !hasW (cellMask s.cfg) r.w || r254 s s.bal.rbUse r.w
  let timeBad := if r.kind = 0 then r.time != 0 else r.time == 0
  let targetBad := if r.kind = 2 then decide (r.target < 10 * (uvMv s.cfg + 100)) else r.target != 0
  firstBad [badIf wellBad 0, badIf (r.kind == 3 || r.kindRest != 0) 1, badIf timeBad 2, badIf targetBad 4, badIf (r.rest != 0) 6]

/-- The first refused field of a list of records, from record `i` on. -/
def balRecsBad (s : State) : List BalRec → Nat → Option Nat
  | [], _ => none
  | r :: t, i =>
    match balRecBad s r with
    | some o => some (8 * i + o)
    | none => balRecsBad s t (i + 1)

/-- Some duration or target record names a well that refuses requests after a failed test (08 R278). -/
def balTestFails (s : State) (l : List BalRec) : Bool := l.any fun r => r.kind != 0 && hasW s.bal.testFail r.w

/-- Apply one accepted record (08 R260): a standing request ends with `END` = 3; a cancel record of an applet ends only the
applet's own request (08 R282). -/
def balApplyOne (applet : Bool) (s : State) (r : BalRec) : State :=
  let w := r.w
  if r.kind = 0 then
    if applet && !s.bal.wells[w].applet then s else balEnd s (wbit w) 3
  else
    let s := balEnd s (wbit w) 3
    let b := s.bal.wells[w]
    let b' := { b with req := true, applet := applet, target := r.kind == 2, targetV := BitVec.ofNat 16 r.target,
                       left := r.time * 1000 * ctPerMs }
    let s := { s with bal.wells := s.bal.wells.set w b' }
    let s := if tested s w then s else { s with bal.due := s.bal.due ||| wbit w }
    { s with bal.wells := s.bal.wells.set w { s.bal.wells[w] with pause := pauseOf s w } }

/-- Apply accepted records in their order. -/
def balApply (applet : Bool) (s : State) (l : List BalRec) : State := l.foldl (balApplyOne applet) s

/-- Row of `BAL_SET`. -/
def rowBalSet : VerbRow := { code := 0x0401, priv := .opn, place := .any, bc := false, len := none }

/-- `BAL_SET` (08 R258 to R260, R278; 14 Table 14-9). -/
def vBalSet (m : Msg) (s : State) : State :=
  enterVerb s rowBalSet m fun s _ =>
    let p := m.payload
    let n := p.length / 8
    if p.length % 8 != 0 || n = 0 || decide (18 < n) then errPayload s rowBalSet m
    else
      let l := balRecs p
      match balRecsBad s l 0 with
      | some off => errValue s rowBalSet m off
      | none =>
        if !s.prot.everRel then errState s rowBalSet m 0x10
        else if balTestFails s l then errState s rowBalSet m 0x11
        else replyOk (balApply false s l) rowBalSet.code m []

/-- `BAL_SET` (08 R258). -/
def execBalSet (m : Msg) (s : State) : Host.Outcome State Fault Refusal := verbStep vBalSet m s

/-- The mask of a payload. -/
def maskOf (p : List Byte) : Wells := BitVec.ofNat 18 (leAt p 0 4)

/-- Row of `BAL_STOP`. -/
def rowBalStop : VerbRow := { code := 0x0402, priv := .opn, place := .any, bc := true, len := some 4 }

/-- `BAL_STOP` (14 R533, R534). -/
def vBalStop (m : Msg) (s : State) : State :=
  enterVerb s rowBalStop m fun s _ =>
    match reservedBits (word0 m.payload) 0x3FFFF with
    | some off => errValue s rowBalStop m off
    | none => replyOk (balEnd s (maskOf m.payload) 3) rowBalStop.code m []

/-- `BAL_STOP` (14 R534). -/
def execBalStop (m : Msg) (s : State) : Host.Outcome State Fault Refusal := verbStep vBalStop m s

/-- Row of `BAL_STAT`. -/
def rowBalStat : VerbRow := { code := 0x0403, priv := .opn, place := .any, bc := false, len := some 0 }

/-- The status word of a well (08 Table 8-5; 14 R907). -/
def balWord (s : State) (w : Well) : Nat :=
  let b := s.bal.wells[w]
  let st := if b.req then (if b.pause = 0 then 1 else 2) else 0
  let sec := 1000 * ctPerMs
  st + 4 * b2n (b.req && b.applet) + 8 * b2n (hasW s.bal.testFail w) + 16 * b.endCode.toNat
    + (if b.req then 256 * b.pause.toNat + 65536 * ((b.left + sec - 1) / sec) else 0)

/-- The 72 bytes of `BAL_STAT`. -/
def balStatBytes (s : State) : List Byte := (List.finRange 18).flatMap fun w => leBytes 4 (balWord s w)

/-- `BAL_STAT`. -/
def vBalStat (m : Msg) (s : State) : State :=
  enterVerb s rowBalStat m fun s _ => replyOk s rowBalStat.code m (balStatBytes s)

/-- `BAL_STAT` (08 Table 8-5). -/
def execBalStat (m : Msg) (s : State) : Host.Outcome State Fault Refusal := verbStep vBalStat m s

/-- The first refused field of a test mask: a well beyond the population or of the BUSBAR role, or a reserved bit (14 R533,
R535). -/
def testMaskBad (s : State) (p : List Byte) : Option Nat :=
  firstBad [badIf (maskOf p &&& ~~~ (cellMask s.cfg) != 0) 0, reservedBits (word0 p) 0x3FFFF]

/-- A test verb over these masks, with nothing done yet. -/
def newTest (w : Waiting) (ov uv : Wells) : TestVerb :=
  { w := w, todo := ov, todoUv := uv, pass := 0, passUv := 0, other := 0, otherUv := 0 }

/-- Row of `BAL_TEST`. -/
def rowBalTest : VerbRow := { code := 0x0404, priv := .opn, place := .any, bc := false, len := some 4 }

/-- `BAL_TEST` (14 R535, R536): the tests run when 08 R274 lets them; a mask of no well replies at once. -/
def vBalTest (m : Msg) (s : State) : State :=
  enterVerb s rowBalTest m fun s w =>
    match testMaskBad s m.payload with
    | some off => errValue s rowBalTest m off
    | none => btestFinish <| balPauseNow { s with bal.btest := s.bal.btest ++ [newTest w (maskOf m.payload) 0] }

/-- `BAL_TEST` (14 R536). -/
def execBalTest (m : Msg) (s : State) : Host.Outcome State Fault Refusal := verbStep vBalTest m s

/-- 1 s after the take of the oldest `BAL_TEST`: what is left is `NOTRUN` (14 R536). -/
def execBalTestTimeout (s : State) : Host.Outcome State Fault Refusal :=
  match s.bal.btest with
  | [] => .next s
  | t :: l => if active s then .next (btestReply { s with bal.btest := l } t) else .next s

end Sys2Proof.Machine
end

