-- ==== Sys2Proof/Machine/VerbChain.lean ====
section
/-! DEFINITION. The chain verbs (11; 14 R539 to R542, Tables 14-7, 14-9, 11-9). -/

namespace Sys2Proof.Machine

open Sys2Proof

/-- Row of `CHAIN_ENUM`. -/
def rowChainEnum : VerbRow := { code := 0x0601, priv := .pw, place := .port, bc := false, len := some 4 }

/-- A window was announced in a tick frame of the last 100 ms (14 Table 14-9). -/
def windowRecent (s : State) : Bool :=
  match s.chn.winAt with
  | some t => decide (s.now - t ≤ 100 * ctPerMs)
  | none => false

/-- An enumeration in progress ends with what it has found: a new one takes its place. -/
def enumSettle (s : State) : State :=
  match s.chn.enum with
  | none => s
  | some e => enumFinish s e (e.next - 1) false

/-- `CHAIN_ENUM` (11 R397, R399; 14 R539). -/
def vChainEnum (m : Msg) (s : State) : State :=
  enterVerb s rowChainEnum m fun s w =>
    let p := m.payload
    match firstBad [badIf (decide (1 < byteAt p 0)) 0, reserved p 1 3] with
    | some off => errValue s rowChainEnum m off
    | none =>
      if windowRecent s then errState s rowChainEnum m 0x10
      else
        let s := enumSettle s
        let s := { setAddr s 1 with chn.ring := byteAt p 0 == 1 }
        let ntx : BitVec 2 := BitVec.ofNat 2 (genCode (txGen s.np))
        enumAsk s { next := 2, tries := 1, anchor := if isAnchor s then 1 else 0, twoAnchors := false, beyond := false,
                    el1 := ntx == 1, ntx := ntx, w := w }

/-- `CHAIN_ENUM` (14 R539). -/
def execChainEnum (m : Msg) (s : State) : Host.Outcome State Fault Refusal := verbStep vChainEnum m s

/-- Row of `CHAIN_CAL`. -/
def rowChainCal : VerbRow := { code := 0x0602, priv := .pw, place := .anchor, bc := false, len := some 0 }

/-- A calibration in progress ends with what it has found. -/
def calSettle (s : State) : State :=
  match s.chn.cal with
  | none => s
  | some c => calFinish s c

/-- `M` as last set: the latest setting, in effect or not (14 R541). -/
def streamM (s : State) : Byte :=
  match s.chn.setq.getLast? with
  | some x => x.m
  | none => s.chn.m

/-- `CHAIN_CAL` (11 R400 to R402; 14 R540). -/
def vChainCal (m : Msg) (s : State) : State :=
  enterVerb s rowChainCal m fun s w =>
    if streamM s != 0 then errState s rowChainCal m 0x10
    else if !s.chn.enumDone then errState s rowChainCal m 0x11
    else
      calAsk (calSettle s) { addr := 1, xchg := 0, n := 0, sum := 0, okMap := 0, dhead := 0, ds := [], far := 0, start := s.now, w := w }

/-- `CHAIN_CAL` (14 R540). -/
def execChainCal (m : Msg) (s : State) : Host.Outcome State Fault Refusal := verbStep vChainCal m s

/-! ### Streaming -/

/-- Row of `CHAIN_STREAM`. -/
def rowChainStream : VerbRow := { code := 0x0603, priv := .pw, place := .anchor, bc := false, len := some 4 }

/-- The positions of the enabled points, in their order. -/
def pointPositions (c : CfgRegs) : List Nat := (c.phPoint.toList.filter fun w => bitOf w 31).map fun w => fld w 23 0

/-- The least distance from a position to another of a list, around the cycle. -/
def leastAhead (cycle p : Nat) (l : List Nat) : Nat :=
  (l.filter (· != p)).foldl (fun m q => min m ((q % cycle + cycle - p % cycle) % cycle)) cycle

/-- The shortest time between two points in ns at the largest phase rate of 03 Table 3-2 in the configured mode (11 R414);
`none` without an enabled point. -/
def pointGapNs (s : State) : Option Nat :=
  let l := pointPositions s.cfg
  if l.isEmpty then none
  else
    let cycle := phCycle s
    let d := l.foldl (fun m p => min m (leastAhead cycle p l)) cycle
    some (fastestNs s d)

/-- Length of a window in ns from its start. -/
def windowNs (s : State) (slot cnt : Nat) : Nat :=
  if chainEl1 s then 2 * cnt * slot * 40 else cnt * slot * 40 + 6560

/-- The longest gap between two opportunities of the top, in ns, with a window in every m-th of the shortest intervals `g`
(11 R415, Example 11-1 step 7, Example 11-2 step 6; log 23). -/
def worstGapNs (s : State) (slot cnt wofs g : Nat) (m : Nat) : Nat :=
  let half := (cnt + 1) / 2
  let tdel := s.sch.tdel.toNat * 125000 / 24576
  let wend := wofs * 40 + windowNs s slot cnt
  let late := tdel + 105000
  if chainEl1 s then windowNs s slot cnt
  else
    let inner := (cnt - 1 - half) * slot * 40 + 6560
    let room := decide (wend + late ≤ g) || decide (1 < m)
    let outer := if room then late + wofs * 40 + half * slot * 40 else g - inner
    max inner outer

/-- Every enumerated device but the anchor itself is calibrated. -/
def allCalibrated (s : State) : Bool :=
  s.chn.calValid && ((List.range s.chn.top.toNat).map (· + 1)).all fun a =>
    a == s.chn.addr.toNat || s.chn.calMap.getLsbD (a - 1)

/-- The state tests of `CHAIN_STREAM`, in their order (14 Table 14-9); the last two speak of the windows, which `M` = 0 has none
of. -/
def streamRefusal (s : State) (kind : BitVec 2) (m slot wofs : Nat) : Option Nat :=
  let cnt := s.chn.top.toNat
  let g := if m = 0 then none else pointGapNs s
  firstBad [badIf (!allCalibrated s) 0x11, badIf (chainEl1 s && kind != 1) 0x12,
    badIf (match g with | some g => decide (g < wofs * 40 + windowNs s slot cnt) | none => false) 0x13,
    badIf (match g with | some g => decide (gapLimitNs s < worstGapNs s slot cnt wofs g m) | none => false) 0x14]

/-- A new setting, from the next tick that the anchor fixes (14 R541). -/
def setStream (s : State) (m : Byte) (kind : BitVec 2) (wofs : Nat) : State :=
  { s with chn.setq := s.chn.setq ++ [{ from_ := s.sch.tseq, m := m, kind := kind, wofs := wofs }] }

/-- `CHAIN_STREAM` (11 R415, R417, R423, R424; 14 R541, Table 14-9). -/
def vChainStream (m : Msg) (s : State) : State :=
  enterVerb s rowChainStream m fun s _ =>
    let p := m.payload
    match firstBad [badIf (decide (2 < byteAt p 0)) 0, reserved p 2 2] with
    | some off => errValue s rowChainStream m off
    | none =>
      let kind : BitVec 2 := BitVec.ofNat 2 (byteAt p 0)
      let slot := windowSlot s kind
      let (wofs, s') := windowOfs s
      match streamRefusal s kind (byteAt p 1) slot wofs with
      | some d => errState s rowChainStream m d
      | none =>
        let s := setStream s' (p.getD 1 0) kind wofs
        replyOk s rowChainStream.code m (if byteAt p 1 = 0 then List.replicate 8 0
          else [if chainEl1 s then 2 else 1, s.chn.top] ++ leBytes 2 slot ++ leBytes 2 wofs ++ [0, 0])

/-- `CHAIN_STREAM` (14 R541). -/
def execChainStream (m : Msg) (s : State) : Host.Outcome State Fault Refusal := verbStep vChainStream m s

/-! ### Reports -/

/-- Row of `CHAIN_STAT`. -/
def rowChainStat : VerbRow := { code := 0x0604, priv := .opn, place := .any, bc := false, len := some 0 }

/-- The 32 bytes of `CHAIN_STAT` (11 Table 11-9). -/
def chainStatBytes (s : State) : List Byte :=
  let flags := b2n (s.tim.facing == .north) + 2 * b2n s.chn.calValid + 4 * b2n s.tim.orphaned + 8 * b2n s.chn.ring
  let age := match s.tim.beatAt with | some t => min 65535 (msSince s t) | none => 65535
  [s.chn.addr.setWidth 8, BitVec.ofNat 8 flags, s.chn.calEp, 0] ++ leBytes 4 s.chn.da.toNat ++ leBytes 4 s.chn.dh.toNat ++
    leBytes 2 age ++ leBytes 2 s.sch.missed.toNat ++ leBytes 2 s.chn.burnt.toNat ++ leBytes 2 s.chn.drops.toNat ++
    leBytes 2 s.chn.rtxs.toNat ++ leBytes 2 s.chn.lfail.toNat ++ List.replicate 8 0

/-- `CHAIN_STAT`. -/
def vChainStat (m : Msg) (s : State) : State :=
  enterVerb s rowChainStat m fun s _ => replyOk s rowChainStat.code m (chainStatBytes s)

/-- `CHAIN_STAT` (11 R435). -/
def execChainStat (m : Msg) (s : State) : Host.Outcome State Fault Refusal := verbStep vChainStat m s

/-- Row of `CHAIN_CRUMB`. -/
def rowChainCrumb : VerbRow := { code := 0x0605, priv := .opn, place := .head, bc := false, len := some 4 }

/-- `CHAIN_CRUMB` (11 R432; 14 Table 14-7). -/
def vChainCrumb (m : Msg) (s : State) : State :=
  enterVerb s rowChainCrumb m fun s _ =>
    let p := m.payload
    let a := byteAt p 0
    match firstBad [badIf (decide (a < 2) || decide (0x40 < a)) 0, reserved p 1 3] with
    | some off => errValue s rowChainCrumb m off
    | none =>
      match s.chn.cacc.find? fun c => c.1.toNat == a with
      | none => errState s rowChainCrumb m 0x10
      | some (_, b, t) => replyOk s rowChainCrumb.code m (padTo 32 b ++ leBytes 4 (min 0xFFFFFFFF (msSince s t)))

/-- `CHAIN_CRUMB` (11 R432). -/
def execChainCrumb (m : Msg) (s : State) : Host.Outcome State Fault Refusal := verbStep vChainCrumb m s

/-! ### The break of a host -/

/-- Row of `CHAIN_BREAK`. -/
def rowChainBreak : VerbRow := { code := 0x0606, priv := .pw, place := .port, bc := false, len := some 0 }

/-- `CHAIN_BREAK` (14 R542): the pattern goes out of the north port for 3.0 ms, as soon as R352 lets it begin. -/
def vChainBreak (m : Msg) (s : State) : State :=
  enterVerb s rowChainBreak m fun s w =>
    if !portEnabled s .north || !s.sup.vport then errState s rowChainBreak m 0x10
    else
      chainBreakGo { s with chn.brk := s.chn.brk ++ [w] }

/-- `CHAIN_BREAK` (14 R542). -/
def execChainBreak (m : Msg) (s : State) : Host.Outcome State Fault Refusal := verbStep vChainBreak m s

/-- The pattern of the oldest `CHAIN_BREAK` ends (14 R542), and that of the next begins where the north port can still transmit
(02 R51). The device neither resets nor loses its address. A pattern that has not begun does not end; one that a loss of the port
has cut is over. -/
def execChainBreakEnd (s : State) : Host.Outcome State Fault Refusal :=
  match s.chn.brk with
  | [] => .next s
  | w :: t =>
    if !active s || (breakPort s .north && !s.np.brkOut) then .next s
    else .next (chainBreakGo (replyOk { s with chn.brk := t, np.brkOut := s.np.brkRelay } w.verb w.msg []))

end Sys2Proof.Machine
end

