-- ==== Sys2Proof/Machine/VerbGate.lean ====
section
/-! DEFINITION. The gate and protection verbs (09 R319 to R334; 14 R535 to R538). -/

namespace Sys2Proof.Machine

open Sys2Proof

/-- Row of `GATE_ON`. -/
def rowGateOn : VerbRow := { code := 0x0501, priv := .pw, place := .any, bc := false, len := some 0 }

/-- The refusal of `GATE_ON`, in the order of 09 R319. -/
def gateOnRefusal (s : State) : Option Nat :=
  firstBad [badIf (!bitOf s.cfg.gateCfg2 16) 0x10, badIf s.gate.disc 0x11, badIf (!s.prot.everRel) 0x12,
    badIf (s.pw.state != .active) 0x02, badIf (s.gate.state != .off) 0x13]

/-- `GATE_ON` (09 R319, R320; 14 R537): state TEST, and the reply waits. -/
def vGateOn (m : Msg) (s : State) : State :=
  enterVerb s rowGateOn m fun s w =>
    match gateOnRefusal s with
    | some d => errState s rowGateOn m d
    | none => { s with gate.state := .test, gate.cp := true, gate.testOk := false, gate.waits := s.gate.waits ++ [w] }

/-- `GATE_ON` (09 R320). -/
def execGateOn (m : Msg) (s : State) : Host.Outcome State Fault Refusal := verbStep vGateOn m s

/-- Row of `GATE_OFF`. -/
def rowGateOff : VerbRow := { code := 0x0502, priv := .opn, place := .any, bc := true, len := some 0 }

/-- `GATE_OFF` (09 R326; 14 R538). -/
def vGateOff (m : Msg) (s : State) : State :=
  enterVerb s rowGateOff m fun s w =>
    gateNotify (gateTurnOff { s with gate.waits := s.gate.waits ++ [w] })

/-- `GATE_OFF` (09 R326). -/
def execGateOff (m : Msg) (s : State) : Host.Outcome State Fault Refusal := verbStep vGateOff m s

/-- Row of `GATE_REARM`. -/
def rowGateRearm : VerbRow := { code := 0x0503, priv := .pw, place := .any, bc := false, len := some 0 }

/-- `GATE_REARM` (09 R333, R334). -/
def vGateRearm (m : Msg) (s : State) : State :=
  enterVerb s rowGateRearm m fun s _ =>
    if s.gate.disc && decide (s.now - s.gate.discAt < 500 * ctPerMs) then errState s rowGateRearm m 0x14
    else if !s.gate.disc then errState s rowGateRearm m 0x15
    else
      let s := { s with gate.disc := false, gate.cause := 0, gate.causes := 0, store.disc := none,
                        gate.state := if s.gate.state == .fault then .off else s.gate.state }
      replyOk (noteConditions (jrnPut s false 0x41 [5, 0])) rowGateRearm.code m []

/-- `GATE_REARM` (09 R334). -/
def execGateRearm (m : Msg) (s : State) : Host.Outcome State Fault Refusal := verbStep vGateRearm m s

/-- Row of `PROT_STAT`. -/
def rowProtStat : VerbRow := { code := 0x0504, priv := .opn, place := .any, bc := false, len := some 0 }

/-- `PROT_STAT`. -/
def vProtStat (m : Msg) (s : State) : State :=
  enterVerb s rowProtStat m fun s _ =>
    replyOk s rowProtStat.code m (leBytes 4 (protStat s).toNat ++ leBytes 4 s.prot.ovFault.toNat ++ leBytes 4 s.prot.uvFault.toNat)

/-- `PROT_STAT` (14 Table 14-7; 09 Table 9-3). -/
def execProtStat (m : Msg) (s : State) : Host.Outcome State Fault Refusal := verbStep vProtStat m s

/-- Row of `CMP_TEST`. -/
def rowCmpTest : VerbRow := { code := 0x0505, priv := .opn, place := .any, bc := false, len := some 4 }

/-- `CMP_TEST` (09 R301; 14 R535): both comparators of every named well. -/
def vCmpTest (m : Msg) (s : State) : State :=
  enterVerb s rowCmpTest m fun s w =>
    match testMaskBad s m.payload with
    | some off => errValue s rowCmpTest m off
    | none =>
      ctestFinish { s with prot.ctest := s.prot.ctest ++ [newTest w (maskOf m.payload) (maskOf m.payload)] }

/-- `CMP_TEST` (09 R301). -/
def execCmpTest (m : Msg) (s : State) : Host.Outcome State Fault Refusal := verbStep vCmpTest m s

end Sys2Proof.Machine
end

