-- ==== Sys2Proof/Machine/VerbCfg.lean ====
section
/-! DEFINITION. Identity, configuration, password and session verbs (14, 17). -/

namespace Sys2Proof.Machine

open Sys2Proof

/-! ### Registers (14 Table 14-4) -/

/-- The value of an RW register. -/
def rwGet (c : CfgRegs) (id : Nat) : Option Word := ((rwRegs c).find? fun r => r.1 == id).map (·.2)

/-- Set an RW register; nothing where the identifier names none. -/
def rwSet (c : CfgRegs) (id : Nat) (v : Word) : CfgRegs :=
  if h : 0x30 ≤ id ∧ id < 0x40 then { c with phPoint := c.phPoint.set (id - 0x30) v (by omega) }
  else if h : 0x51 ≤ id ∧ id < 0x56 then { c with balRb := c.balRb.set (id - 0x51) v (by omega) }
  else
    match id with
    | 0x10 => { c with clkCfg := v }
    | 0x20 => { c with phCfg := v }
    | 0x22 => { c with phCycle := v }
    | 0x23 => { c with phStall := v }
    | 0x24 => { c with phLead := v }
    | 0x25 => { c with phZofs := v }
    | 0x26 => { c with phZtol := v }
    | 0x27 => { c with phHcycle := v }
    | 0x40 => { c with acqCfg := v }
    | 0x41 => { c with cellRange := v }
    | 0x42 => { c with wellCfg := v }
    | 0x48 => { c with curCfg := v }
    | 0x49 => { c with scCfg := v }
    | 0x4A => { c with ntcCfg := v }
    | 0x50 => { c with balCfg := v }
    | 0x58 => { c with cmpCfg := v }
    | 0x59 => { c with gateCfg := v }
    | 0x5A => { c with gateCfg2 := v }
    | 0x60 => { c with linkCfg := v }
    | 0x68 => { c with roleCfg := v }
    | 0x69 => { c with tenCfg := v }
    | 0x6A => { c with rdnCfg := v }
    | 0x70 => { c with tmrCfg := v }
    | 0x71 => { c with patCfg := v }
    | _ => c

/-- The code of `TBASE`. -/
def tbaseCode (t : TBase) : Nat := match t with | .tracking => 0 | .settling => 1 | .holdover => 2 | .internal => 3

/-- `PH_STAT` (05 Table 5-11). -/
def phStat (s : State) : Word :=
  BitVec.ofNat 32 (tbaseCode s.ph.tbase + 4 * b2n s.ph.rev + 8 * b2n (leadRaised s) + 256 * fld s.ph.epoch 31 24
    + 65536 * s.ph.skips.toNat)

/-- The value a read of a register returns (14 Table 14-4). -/
def regGet (s : State) (id : Nat) : Option Word :=
  match id with
  | 0x11 => some (clkStat s)
  | 0x21 => some (phStat s)
  | 0x43 => some s.acq.owStat
  | 0x4B => some (BitVec.ofNat 32 (s.aux.die[0].toNat + 65536 * s.aux.die[1].toNat))
  | 0x4C => some (BitVec.ofNat 32 (s.aux.die[2].toNat + 65536 * s.aux.die[3].toNat))
  | 0x4D => some (BitVec.ofNat 32 (s.aux.tmax.toNat + 65536 * b2n (s.aux.dieSeen == 0xF)))
  | 0x4E => some (BitVec.ofNat 32 (s.aux.xcFail.toNat + 256 * s.aux.xcFault.toNat))
  | 0x4F => some (s.aux.xcWell.setWidth 32)
  | 0x5B => some (protStat s)
  | 0x61 => some (linkStat s)
  | _ => rwGet s.cfg id

/-- A read of `LINK_STAT` clears its error counts (10 Table 10-2). -/
def regReadEffect (s : State) (id : Nat) : State := if id = 0x61 then { s with sp.cerr := 0, np.cerr := 0 } else s

/-! ### Values that the registers' chapters refuse -/

/-- Within a range. -/
def within (lo n hi : Nat) : Bool := decide (lo ≤ n) && decide (n ≤ hi)

/-- The bits a register has. -/
def regBits (id : Nat) : Word :=
  if 0x30 ≤ id ∧ id < 0x40 then 0x83FFFFFF
  else
    match id with
    | 0x10 => 0x3
    | 0x20 => 0x1F
    | 0x40 => 0xFF03
    | 0x41 => 0x3FFFF
    | 0x42 => 0x03FFFF1F
    | 0x48 => 0x3
    | 0x49 => 0x37F
    | 0x4A => 0x3FFF0FFF
    | 0x50 => 0x00FFFF01
    | 0x55 => 0xFFFF
    | 0x58 => 0x1FFF1FFF
    | 0x5A => 0x1FFFF
    | 0x60 => 0x7F
    | 0x69 => 0xFFFF7F3F
    | 0x70 => 0xFFFF03FF
    | 0x71 => 0xFFFF3FFF
    | _ => 0xFFFFFFFF

/-- The fields of a value lie where the register's chapter allows them. -/
def regFields (id : Nat) (v : Word) : Bool :=
  if 0x30 ≤ id ∧ id < 0x40 then fld v 25 24 != 3
  else
    match id with
    | 0x20 => decide (fld v 2 0 ≤ 4)
    | 0x22 => within 2 v.toNat (2 ^ 24)
    | 0x23 => within 1 v.toNat 1000
    | 0x24 => within 100 v.toNat 10000
    | 0x26 => decide (v.toNat ≤ 65535)
    | 0x27 => within 10 v.toNat 60000
    | 0x40 => fld v 15 8 != 0
    | 0x42 => within 6 (fld v 4 0) 18
    | 0x49 => decide (fld v 6 0 ≤ 70) && fld v 9 8 != 0
    | 0x4A => within 1 (fld v 11 8) 8 && within 10 (fld v 29 16) 10000
    | 0x50 => decide (2 ≤ fld v 15 8)
    | 0x58 => decide (fld v 9 0 ≤ 700) && decide (fld v 25 16 ≤ 700) && fld v 12 10 != 7 && fld v 28 26 != 7 &&
        decide (800 + 4 * fld v 25 16 + 200 ≤ 2000 + 4 * fld v 9 0)
    | 0x59 => within 1 (fld v 7 0) 200
    | 0x60 => fld v 2 1 != 3 && fld v 5 4 != 3
    | 0x68 => within 1 (fld v 15 8) 240
    | 0x69 => within 10 (fld v 5 0) 50 && within 5 (fld v 14 8) 100
    | 0x6A => within 800 (fld v 11 0) 4095
    | 0x70 => within 1 (fld v 9 0) 600 && (fld v 31 16 == 0 || decide (10 ≤ fld v 31 16))
    | 0x71 => within 1 (fld v 11 0) 3600 && decide (fld v 23 16 ≤ 250) &&
        (fld v 23 16 == 0 || fld v 31 24 == 0 || decide (1500 + 10 * fld v 31 24 < 2000 + 10 * fld v 23 16))
    | _ => true

/-- A value is refused by the rules that concern it alone (14 R516, R520). -/
def regValueOk (id : Nat) (v : Word) : Bool := (v &&& ~~~ (regBits id)) == 0 && regFields id v

/-! ### Tests across registers (05 R156, R157; 14 R906) -/

/-- An enabled point with its position. -/
def enabledPoints (c : CfgRegs) : List (Nat × Nat) :=
  ((List.finRange 16).filter fun n => bitOf c.phPoint[n] 31).map fun n => (0x30 + n.val, fld c.phPoint[n] 23 0)

/-- The pairs of a list, each with every later element. -/
def laterPairs : List (Nat × Nat) → List ((Nat × Nat) × (Nat × Nat))
  | [] => []
  | x :: t => t.map (fun y => (x, y)) ++ laterPairs t

/-- The failing tests: the registers each compares. -/
def crossFails (c : CfgRegs) : List (List Nat) :=
  let pts := enabledPoints c
  ((pts.filter fun p => decide (c.phCycle.toNat ≤ p.2)).map fun p => [p.1, 0x22]) ++
  (((laterPairs pts).filter fun q => q.1.2 == q.2.2).map fun q => [q.1.1, q.2.1]) ++
  (if c.phCycle.toNat ≤ c.phZofs.toNat then [[0x25, 0x22]] else [])

/-! ### `CFG_WRITE` -/

/-- A record: offset, identifier, value. -/
structure CfgRec where
  /-- offset in the payload -/
  off : Nat
  /-- `ID` -/
  id : Nat
  /-- `VALUE` -/
  v : Word
deriving DecidableEq, Repr

/-- The records of a payload (14 Table 14-3). -/
def cfgRecs (p : List Byte) : List CfgRec :=
  (List.range (p.length / 8)).map fun i =>
    { off := 8 * i, id := leAt p (8 * i) 2, v := BitVec.ofNat 32 (leAt p (8 * i + 4) 4) }

/-- The offset at which a record alone is refused (14 R514, R520). -/
def recBad (c : CfgRegs) (p : List Byte) (r : CfgRec) : Option Nat :=
  firstBad [badIf (rwGet c r.id).isNone r.off, reserved p (r.off + 2) 2, badIf (!regValueOk r.id r.v) (r.off + 4)]

/-- The registers that a whole write leaves in force (14 R906). -/
def applyRecs (c : CfgRegs) (l : List CfgRec) : CfgRegs := l.foldl (fun c r => rwSet c r.id r.v) c

/-- The offset the failing tests across registers give: of the records that write a register that one compares, the lowest (14
R514). -/
def crossBad (c : CfgRegs) (l : List CfgRec) : Option Nat :=
  (l.find? fun r => (crossFails c).any fun regs => regs.contains r.id).map fun r => r.off + 4

/-- Registers whose value changes: identifier, old, new. -/
def changes (old new : CfgRegs) : List (Nat × Word × Word) :=
  ((rwRegs old).zip (rwRegs new)).filterMap fun p => if p.1.2 = p.2.2 then none else some (p.1.1, p.1.2, p.2.2)

/-- The safety parameters (17 R647). -/
def isSafetyParam (id : Nat) : Bool := [0x42, 0x48, 0x49, 0x58, 0x59, 0x5A, 0x68, 0x69, 0x6A].contains id

/-- The state tests of 14 Table 14-9 for `CFG_WRITE` and `CFG_FACTORY`. -/
def cfgState (s : State) (new : CfgRegs) (arrival : Option Port) : Option Nat :=
  let ch := changes s.cfg new
  firstBad [badIf (torqueOn s && ch.any fun c => isSafetyParam c.1) 0x10,
    badIf (s.gate.state != .off && s.gate.state != .fault && ch.any fun c => c.1 == 0x59 || c.1 == 0x5A) 0x11,
    badIf (reqMask s != 0 && bitOf s.cfg.balCfg 0 != bitOf new.balCfg 0) 0x12,
    badIf (match arrival with
      | none => false
      | some .south => bitOf s.cfg.linkCfg 0 && !bitOf new.linkCfg 0
      | some .north => bitOf s.cfg.linkCfg 3 && !bitOf new.linkCfg 3) 0x13]

/-- The path byte of a change-log entry (22 R828). -/
def pathByte (m : Msg) : Byte := match m.src with | none => 0xFF | some a => a.setWidth 8

/-- One change-log entry (14 R524; 17 R670; 22 Table 22-2). -/
def logChange (m : Msg) (s : State) (c : Nat × Word × Word) : State :=
  let safety := isSafetyParam c.1
  jrnPut s safety (if safety then 0x12 else 0x4C)
    (leBytes 2 c.1 ++ [0, 0] ++ leBytes 4 c.2.1.toNat ++ leBytes 4 c.2.2.toNat ++ [BitVec.ofNat 8 m.mbx.val, pathByte m])

/-- A range change settles its wells for two windows; open spans carry `STALE` on them (06 R187, R188). The switch instant, for
which the spec gives only a bound of 10 µs, is the write itself (log 117). -/
def rangeChange (s : State) (m : Wells) : State :=
  if m = 0 then s
  else
    let t := s.now + 2 * winCt s.acq.win
    markSpans { s with acq.settle := Vector.ofFn fun i => if hasW m i then max t s.acq.settle[i] else s.acq.settle[i] } (staleOf m false)

/-- A write to `PH_CFG`, a phase parameter or a point (05 Table 5-12): ticks cancelled, era up, SETTLING or INTERNAL. A write
of `PH_CFG` starts the tracker anew (R150). Only the anchor has a tracker, and only it cancels ticks (R40, R166). A write that ends
hold-over keeps the position and the cycle count that hold-over has reached (log 123). -/
def phaseWrite (s : State) (ch : List (Nat × Word × Word)) : State :=
  if isAnchor s && ch.any fun c => (0x20 ≤ c.1 && c.1 < 0x40) then
    let s := cancelTicks s 5
    let s := { s with ph.epoch := raiseEra s.ph.epoch, ph.pos := s.ph.pos % phCycle s }
    if ch.any fun c => c.1 == 0x20 then startTracker s
    else { s with ph.tbase := if phMode s.cfg = 0 then .internal else .settling, ph.settle := 0 }
  else s

/-- A change of `LINK_CFG`: a disabled port falls silent; a generation takes effect after the reply (10 R338, R340). -/
def linkWrite (s : State) (old new : Word) (m : Msg) (p : Port) : State :=
  let f (w : Word) : Nat := match p with | .south => fld w 2 0 | .north => fld w 5 3
  let u := portOf s p
  let on := match p with | .south => bitOf new 0 | .north => bitOf new 3
  let s := if f old = f new then s
    else match m.src with
      | none => setPortGen s p { u with gen := genField s.cfg p, genDue := none }
      | some _ => setPort s p { u with genDue := some s.chn.lseq }
  if on then s else setPort s p (silence s.now (portOf s p))

/-- The write of `LINK_CFG` ends a break relay, or one that is still held back, on a port that it disables (10 R340, R376). -/
def endsRelay (s : State) (new : Word) : Bool :=
  let gone (u v : PortUnit) : Bool := u.brkRelay || (u.brkDue && !v.brkIn)
  (gone s.sp s.np && !bitOf new 0) || (gone s.np s.sp && !bitOf new 3)

/-- A change of `CLK_CFG` (05 Table 5-2, R129). A crystal stopped by `XTAL_EN` 0 clears `XTAL_OK` without the record of R130, and a
`CRYSTAL_FAIL` that follows finds nothing to do (log 107). -/
def clkWrite (s : State) : State := setRef { s with clk.xtalOk := s.clk.xtalOk && bitOf s.cfg.clkCfg 1 }

/-- The registers take their new values, and what hangs on them follows (14 R521; 08 Table 8-7; 09). A device that becomes the anchor
starts its tracker, with the era as it is (log 123). -/
def takeRegs (s : State) (new : CfgRegs) (m : Msg) : State :=
  let old := s.cfg
  let ch := changes old new
  let was := isAnchor s
  let s := { s with cfg := new }
  let s := if !was && isAnchor s then startTracker s else s
  let s := if fld old.acqCfg 1 0 = fld new.acqCfg 1 0 then s
    else { s with acq.winNext := s.acq.winNext ++ [(BitVec.ofNat 2 (fld new.acqCfg 1 0), s.now)] }
  let s := rangeChange s (BitVec.ofNat 18 ((old.cellRange ^^^ new.cellRange).toNat))
  let s := noteHold (handOver (balEnd s (cellMask old &&& ~~~ (cellMask new)) 8))
  let s := linkWrite (linkWrite s old.linkCfg new.linkCfg m .south) old.linkCfg new.linkCfg m .north
  balPauseNow (phaseWrite (if old.clkCfg = new.clkCfg then s else clkWrite s) ch)

/-- An accepted write: the record with its seal in one atomic write, the change log, the registers, and the connection of a
device that becomes uncommissioned (14 R521 to R525; 17 R649, R655; 04 R892; 15 R569). The first record written after a failed
area check counts `SCHG` on from the stored count: the spec gives no value there (log 108). -/
def applyWrite (s : State) (new : CfgRegs) (m : Msg) : State :=
  let was := commissioned s
  let ch := changes s.cfg new
  let safety := ch.any fun c => isSafetyParam c.1
  let s := takeRegs s new m
  let r : CfgRecord := { regs := new, sealV := sealOf s.store.uid new,
                         confirmed := if safety || !s.prot.loaded then none else s.store.record.confirmed,
                         schg := if safety then s.store.record.schg + 1 else s.store.record.schg, crc := 0 }
  let s := ch.foldl (logChange m) (storeRecord { abortCfgScan s with prot.loaded := true } r)
  noteConditions (if was && !commissioned s then connClose s 3 else s)

/-- Row of `CFG_WRITE`. -/
def rowCfgWrite : VerbRow := { code := 0x0202, priv := .pw, place := .any, bc := true, len := none }

/-- `CFG_WRITE` (14 R519 to R525, R906). -/
def vCfgWrite (m : Msg) (s : State) : State :=
  enterVerb s rowCfgWrite m fun s _ =>
    let p := m.payload
    let n := p.length / 8
    if p.length % 8 != 0 || n = 0 || decide (16 < n) then errPayload s rowCfgWrite m
    else
      let recs := cfgRecs p
      match firstBad (recs.map (recBad s.cfg p)) with
      | some off => errValue s rowCfgWrite m off
      | none =>
        let new := applyRecs s.cfg recs
        match crossBad new recs with
        | some off => errValue s rowCfgWrite m off
        | none =>
          match cfgState s new (m.src.map fun _ => m.port) with
          | some d => errState s rowCfgWrite m d
          | none =>
            let t := replyOk (applyWrite s new m) rowCfgWrite.code m []
            if endsRelay s new.linkCfg then fullReset t 5 else t

/-- `CFG_WRITE`. -/
def execCfgWrite (m : Msg) (s : State) : Host.Outcome State Fault Refusal := verbStep vCfgWrite m s

/-- Row of `CFG_FACTORY`. -/
def rowCfgFactory : VerbRow := { code := 0x0206, priv := .pw, place := .any, bc := false, len := some 0 }

/-- `CFG_FACTORY` (14 R526): reset values everywhere, and uncommissioned. -/
def vCfgFactory (m : Msg) (s : State) : State :=
  enterVerb s rowCfgFactory m fun s _ =>
    match cfgState s CfgRegs.reset none with
    | some d => errState s rowCfgFactory m d
    | none =>
      let was := commissioned s
      let s := applyWrite s CfgRegs.reset m
      let s := storeRecord s { s.store.record with confirmed := none }
      replyOk (if was && !commissioned s then connClose s 3 else s) rowCfgFactory.code m []

/-- `CFG_FACTORY`. -/
def execCfgFactory (m : Msg) (s : State) : Host.Outcome State Fault Refusal := verbStep vCfgFactory m s

/-! ### Reads -/

/-- Row of `ID_READ`. -/
def rowIdRead : VerbRow := { code := 0x0101, priv := .opn, place := .any, bc := false, len := some 0 }

/-- The reply of `ID_READ` (14 Table 14-2). -/
def idBytes (s : State) (mbx : Fin 4) : List Byte :=
  let flags := b2n (isAnchor s) + 2 * b2n (commissioned s) + 4 * b2n s.safe.sess[mbx].isSome + 8 * b2n s.store.imgValid
    + 16 * b2n (s.apl.state == .running)
  [0xB1, 0, 0x02, 0x04, s.store.grade, s.chn.addr.setWidth 8, BitVec.ofNat 8 flags, BitVec.ofNat 8 (popOf s.cfg)] ++
    leBytes 8 s.store.uid.toNat ++ leBytes 4 s.store.resets.toNat ++ leBytes 6 (uptimeUs s) ++ List.replicate 6 0

/-- `ID_READ`. -/
def vIdRead (m : Msg) (s : State) : State :=
  enterVerb s rowIdRead m fun s _ => replyOk s rowIdRead.code m (idBytes s m.mbx)

/-- `ID_READ` (14 Table 14-2). -/
def execIdRead (m : Msg) (s : State) : Host.Outcome State Fault Refusal := verbStep vIdRead m s

/-- Row of `ID_FACTORY`. -/
def rowIdFactory : VerbRow := { code := 0x0102, priv := .opn, place := .any, bc := false, len := some 0 }

/-- `ID_FACTORY`. -/
def vIdFactory (m : Msg) (s : State) : State :=
  enterVerb s rowIdFactory m fun s _ =>
    replyOk s rowIdFactory.code m (padTo 8 s.store.lot ++ [s.store.year, s.store.week, s.store.grade, 0] ++
      leBytes 4 s.store.fchk.toNat)

/-- `ID_FACTORY` (14 Table 14-2). -/
def execIdFactory (m : Msg) (s : State) : Host.Outcome State Fault Refusal := verbStep vIdFactory m s

/-- Row of `CFG_READ`. -/
def rowCfgRead : VerbRow := { code := 0x0201, priv := .opn, place := .any, bc := false, len := none }

/-- Read registers one after another. -/
def readRegs : List Nat → State → List Byte × State
  | [], s => ([], s)
  | id :: t, s =>
    let v := (regGet s id).getD 0
    let (b, s) := readRegs t (regReadEffect s id)
    (leBytes 4 v.toNat ++ b, s)

/-- `CFG_READ` (14 R518). -/
def vCfgRead (m : Msg) (s : State) : State :=
  enterVerb s rowCfgRead m fun s _ =>
    let p := m.payload
    let n := p.length / 2
    if p.length % 2 != 0 || n = 0 || decide (16 < n) then errPayload s rowCfgRead m
    else
      let ids := (List.range n).map fun i => leAt p (2 * i) 2
      match firstBad ((List.range n).map fun i => badIf (regGet s (leAt p (2 * i) 2)).isNone (2 * i)) with
      | some off => errValue s rowCfgRead m off
      | none =>
        let (b, s) := readRegs ids s
        replyOk s rowCfgRead.code m b

/-- `CFG_READ` (14 R518). -/
def execCfgRead (m : Msg) (s : State) : Host.Outcome State Fault Refusal := verbStep vCfgRead m s

/-! ### Password and sessions (17) -/

/-- The offset of the first byte that is no ASCII digit (14 R527). -/
def badDigit : List Byte → Nat → Option Nat
  | [], _ => none
  | b :: t, i => if 0x30 ≤ b.toNat ∧ b.toNat ≤ 0x39 then badDigit t (i + 1) else some i

/-- Row of `CFG_LOGIN`. -/
def rowCfgLogin : VerbRow := { code := 0x0203, priv := .opn, place := .any, bc := true, len := some 8 }

/-- A lockout starts (17 R666, R667, R669). -/
def startLockout (s : State) : State :=
  jrnPut (storePassword { s with store.lockRun := true }) false 0x48 (leBytes 2 s.store.lockDur)

/-- A wrong password: counted; the fifth starts a lockout, and every one after a lockout another (17 R666, R667). -/
def wrongPassword (s : State) : State :=
  let s := storePassword { s with store.wrong := s.store.wrong + 1 }
  if 5 ≤ s.store.wrong then startLockout s else s

/-- `CFG_LOGIN` (17 R663 to R667): the lockout is its privilege step, before length and values. -/
def vCfgLogin (m : Msg) (s : State) : State :=
  if s.store.lockRun then errPriv s rowCfgLogin m 5
  else
    enterVerb s rowCfgLogin m fun s _ =>
      match badDigit m.payload 0 with
      | some off => errValue s rowCfgLogin m off
      | none =>
        if sha256 (s.store.salt ++ m.payload) = s.store.digest then
          let s := storePassword { s with safe.sess := s.safe.sess.set m.mbx (some s.now), store.wrong := 0, store.lockDur := 60 }
          replyOk s rowCfgLogin.code m []
        else errPriv (wrongPassword s) rowCfgLogin m 4

/-- `CFG_LOGIN` (17 R663). -/
def execCfgLogin (m : Msg) (s : State) : Host.Outcome State Fault Refusal := verbStep vCfgLogin m s

/-- Row of `CFG_LOGOUT`. -/
def rowCfgLogout : VerbRow := { code := 0x0204, priv := .opn, place := .any, bc := true, len := some 0 }

/-- `CFG_LOGOUT` (14 R508). -/
def vCfgLogout (m : Msg) (s : State) : State :=
  enterVerb s rowCfgLogout m fun s _ =>
    replyOk { s with safe.sess := s.safe.sess.set m.mbx none } rowCfgLogout.code m []

/-- `CFG_LOGOUT` (14 R508). -/
def execCfgLogout (m : Msg) (s : State) : Host.Outcome State Fault Refusal := verbStep vCfgLogout m s

/-- Row of `CFG_PASSWD`. -/
def rowCfgPasswd : VerbRow := { code := 0x0205, priv := .pw, place := .any, bc := false, len := some 8 }

/-- A new salt from converter noise: four free values (17 R659; log 6). -/
def newSalt (s : State) : List Byte × State :=
  let (a, s) := takeFree s
  let (b, s) := takeFree s
  let (c, s) := takeFree s
  let (d, s) := takeFree s
  (wordsLe [a, b, c, d], s)

/-- `CFG_PASSWD` (17 R659, R661, R670). -/
def vCfgPasswd (m : Msg) (s : State) : State :=
  enterVerb s rowCfgPasswd m fun s _ =>
    match badDigit m.payload 0 with
    | some off => errValue s rowCfgPasswd m off
    | none =>
      if m.payload = List.replicate 8 0x30#8 then errValue s rowCfgPasswd m 0
      else
        let (salt, s) := newSalt s
        let s := storePassword { s with store.salt := salt, store.digest := sha256 (salt ++ m.payload),
                                        store.pwFactory := false }
        replyOk (logChange m s (0, 0, 0)) rowCfgPasswd.code m []

/-- `CFG_PASSWD` (17 R661). -/
def execCfgPasswd (m : Msg) (s : State) : Host.Outcome State Fault Refusal := verbStep vCfgPasswd m s

/-- A session has stood for 300 s (17 R665). -/
def execSessionLapse (i : Fin 4) (s : State) : Host.Outcome State Fault Refusal :=
  .next { s with safe.sess := s.safe.sess.set i none }

/-- A lockout ends; the next lasts twice as long, up to 3,840 s. Its time runs in every power state, and from the release after a
full reset (17 R667, R668). -/
def execLockoutExpire (s : State) : Host.Outcome State Fault Refusal :=
  if running s && s.store.lockRun then
    .next (storePassword { s with store.lockRun := false, store.lockDur := min 3840 (2 * s.store.lockDur) })
  else .next s

end Sys2Proof.Machine
end

