-- ==== Sys2Proof/Machine/VerbSafe.lean ====
section
/-! DEFINITION. The safety verbs (14 R543 to R545, Table 14-7; 15; 16 R601 to R605, R641, R642; 17 R652 to R654). -/

namespace Sys2Proof.Machine

open Sys2Proof

/-- Row of `SAFE_CONFIRM`. -/
def rowSafeConfirm : VerbRow := { code := 0x0701, priv := .pw, place := .any, bc := false, len := some 4 }

/-- Store the confirmation and log it (17 R654; 22 Table 22-2). -/
def confirmSeal (s : State) (m : Msg) : State :=
  let v := sealNow s
  jrnPut (storeRecord (abortCfgScan s) { s.store.record with confirmed := some v }) true 0x13
    (leBytes 4 v.toNat ++ [BitVec.ofNat 8 m.mbx.val, pathByte m])

/-- `SAFE_CONFIRM` (14 R543; 17 R653, R654). -/
def vSafeConfirm (m : Msg) (s : State) : State :=
  enterVerb s rowSafeConfirm m fun s _ =>
    if word0 m.payload ≠ sealNow s then errValue s rowSafeConfirm m 0
    else if !s.prot.everRel then errState s rowSafeConfirm m 0x10
    else if s.store.pwFactory then errState s rowSafeConfirm m 0x11
    else if commissioned s then replyOk s rowSafeConfirm.code m []
    else replyOk (confirmSeal s m) rowSafeConfirm.code m []

/-- `SAFE_CONFIRM` (17 R654). -/
def execSafeConfirm (m : Msg) (s : State) : Host.Outcome State Fault Refusal := verbStep vSafeConfirm m s

/-- Row of `SAFE_STAT`. -/
def rowSafeStat : VerbRow := { code := 0x0702, priv := .opn, place := .any, bc := false, len := some 0 }

/-- The 16 bytes of `SAFE_STAT` (14 Table 14-7). -/
def safeStatBytes (s : State) : List Byte :=
  let flags := b2n (commissioned s) + 2 * b2n s.safe.conn.isSome + 4 * b2n (isAnchor s) + 8 * b2n (torqueOn s)
  let id : Word := match s.safe.conn with | some c => c.id | none => 0
  leBytes 4 (sealNow s).toNat ++ [BitVec.ofNat 8 flags, BitVec.ofNat 8 (rdState s), 0, 0] ++ leBytes 4 id.toNat ++
    leBytes 4 s.store.record.schg.toNat

/-- `SAFE_STAT`. -/
def vSafeStat (m : Msg) (s : State) : State :=
  enterVerb s rowSafeStat m fun s _ => replyOk s rowSafeStat.code m (safeStatBytes s)

/-- `SAFE_STAT` (14 Table 14-7). -/
def execSafeStat (m : Msg) (s : State) : Host.Outcome State Fault Refusal := verbStep vSafeStat m s

/-- Row of `SAFE_OPEN`. -/
def rowSafeOpen : VerbRow := { code := 0x0703, priv := .pw, place := .any, bc := false, len := some 8 }

/-- `SAFE_OPEN` (15 R564 to R566): replaces any open connection. -/
def vSafeOpen (m : Msg) (s : State) : State :=
  enterVerb s rowSafeOpen m fun s _ =>
    let p := m.payload
    let id := word0 p
    let texp := leAt p 4 2
    match firstBad [badIf (id == 0 || s.safe.lastConn == some id) 0, badIf (texp == 0 || decide (1000 < texp)) 4,
        reserved p 6 2] with
    | some off => errValue s rowSafeOpen m off
    | none =>
      let c : Conn := { id := id, texp := BitVec.ofNat 16 texp, sseq := 0, losts := 0, reps := 0, restart := s.now }
      replyOk { s with safe.conn := some c, safe.lastConn := some id } rowSafeOpen.code m (leBytes 8 s.store.uid.toNat)

/-- `SAFE_OPEN` (15 R564). -/
def execSafeOpen (m : Msg) (s : State) : Host.Outcome State Fault Refusal := verbStep vSafeOpen m s

/-- Row of `SAFE_CLOSE`. -/
def rowSafeClose : VerbRow := { code := 0x0704, priv := .pw, place := .any, bc := false, len := some 0 }

/-- `SAFE_CLOSE` (15 R569; 16 R642): on the anchor a stop request with cause 3. -/
def vSafeClose (m : Msg) (s : State) : State :=
  enterVerb s rowSafeClose m fun s _ => replyOk (tqDecision (connClose s 1) 3) rowSafeClose.code m []

/-- `SAFE_CLOSE` (15 R569). -/
def execSafeClose (m : Msg) (s : State) : Host.Outcome State Fault Refusal := verbStep vSafeClose m s

/-- Row of `SAFE_CYCLE`: an envelope without safety data. -/
def rowSafeCycle : VerbRow := { code := 0x0705, priv := .safe, place := .any, bc := false, len := some 8 }

/-- The safety data of `SAFE_CYCLE` (15 Table 15-2). -/
def cycleData (s : State) : List Byte :=
  let flags := b2n (commissioned s) + 2 * b2n (isAnchor s) + 4 * b2n (torqueOn s) + 8 * b2n (ownFault s) + 16 * b2n s.gate.disc
  let flt := if isAnchor s then anchorFlt s else ownFlt s
  let (l, r) := match s.safe.conn with | some c => (c.losts, c.reps) | none => (0, 0)
  [BitVec.ofNat 8 flags, BitVec.ofNat 8 (rdState s), flt.setWidth 8, 0] ++ leBytes 4 (sealNow s).toNat ++
    (energyReply s).take 6 ++ [l, r]

/-- `SAFE_CYCLE` (15 R580). -/
def vSafeCycle (m : Msg) (s : State) : State := enterVerb s rowSafeCycle m fun s w => replyEnv s w (cycleData s)

/-- `SAFE_CYCLE` (15 R580). -/
def execSafeCycle (m : Msg) (s : State) : Host.Outcome State Fault Refusal := verbStep vSafeCycle m s

/-- The first refused field of the safety data of `SAFE_TEN` and `SAFE_RDN`: `CMD`, then its reserved bytes (16 R602; 14
R516). -/
def cmdBad (p : List Byte) : Option Nat := firstBad [badIf (byteAt p 4 != 1) 4, reserved p 5 3]

/-- Row of `SAFE_TEN`. -/
def rowSafeTen : VerbRow := { code := 0x0706, priv := .safe, place := .anchor, bc := false, len := some 12 }

/-- `TFB_A` or `TFB_B` read high in the last 1 ms (16 Table 16-5). -/
def tfbRecent (s : State) : Bool :=
  match s.tq.tfbHigh with
  | some t => decide (s.now - t ≤ ctPerMs)
  | none => false

/-- The refusal of `SAFE_TEN` in the order of 16 Table 16-5. `low`: `STOP_N` reads low. -/
def tenRefusal (s : State) (low : Bool) : Option Nat :=
  let f := anchorFlt s
  firstBad [badIf (torqueOn s) 0x11, badIf (!s.sup.vio) 0x12, badIf low 0x13,
    badIf (!s.prot.everRel || s.prot.uvTrip != 0 || f.getLsbD 1 || f.getLsbD 2) 0x14, badIf s.tq.tenFault 0x15,
    badIf (tfbRecent s) 0x16, badIf (bitOf s.cfg.roleCfg 1 && !encMode s.cfg) 0x17, badIf s.tq.conflict 0x1A]

/-- The level of `STOP_N` now: the table tells its fall only, so after a fall a free value says whether it is low still
(log 24). -/
def stopLow (s : State) : Bool × State :=
  if s.sup.stopN then (false, s)
  else
    let (v, s) := takeFree s
    (v.getLsbD 0, { s with sup.stopN := !v.getLsbD 0 })

/-- `SAFE_TEN` (16 R601 to R605): `RDN_N` high, and the rise follows 1 ms later. -/
def vSafeTen (m : Msg) (s : State) : State :=
  enterVerb s rowSafeTen m fun s w =>
    match cmdBad m.payload with
    | some off => errValue s rowSafeTen m off
    | none =>
      let (low, s) := stopLow s
      match tenRefusal s low with
      | some d => errState s rowSafeTen m d
      | none => { s with tq.enabling := s.tq.enabling ++ [w], tq.rdnLow := false, tq.rd := .off }

/-- `SAFE_TEN` (16 R603). -/
def execSafeTen (m : Msg) (s : State) : Host.Outcome State Fault Refusal := verbStep vSafeTen m s

/-- Row of `SAFE_RDN`. -/
def rowSafeRdn : VerbRow := { code := 0x0707, priv := .safe, place := .anchor, bc := false, len := some 12 }

/-- `SAFE_RDN` (16 R611, R641): the reply follows the decision it causes or finds. -/
def vSafeRdn (m : Msg) (s : State) : State :=
  enterVerb s rowSafeRdn m fun s w =>
    match cmdBad m.payload with
    | some off => errValue s rowSafeRdn m off
    | none =>
      match s.tq.rd with
      | .enabled =>
        let s := tqDecision s 2
        { s with tq.rdnWaits := s.tq.rdnWaits ++ [(w, false)] }
      | .decide => { s with tq.rdnWaits := s.tq.rdnWaits ++ [(w, true)] }
      | .rundown => replyEnv s w [4, 0, 0, 0]
      | _ => errState s rowSafeRdn m 0x18

/-- `SAFE_RDN` (16 R641). -/
def execSafeRdn (m : Msg) (s : State) : Host.Outcome State Fault Refusal := verbStep vSafeRdn m s

/-- Row of `SAFE_STO`. -/
def rowSafeSto : VerbRow := { code := 0x0708, priv := .opn, place := .any, bc := true, len := some 0 }

/-- `SAFE_STO` (14 R509, R545; 15 R586): either value of `ENV`; an envelope is neither checked nor counted. -/
def vSafeSto (m : Msg) (s : State) : State :=
  if !m.env && !m.payload.isEmpty then errPayload s rowSafeSto m
  else
    let removed := isAnchor s && (torqueOn s || !s.tq.enabling.isEmpty)
    replyOk (tqImmediate s 7) rowSafeSto.code m [BitVec.ofNat 8 (b2n removed), 0, 0, 0]

/-- `SAFE_STO` (14 R545). -/
def execSafeSto (m : Msg) (s : State) : Host.Outcome State Fault Refusal := verbStep vSafeSto m s

/-- Row of `SAFE_ENERGY`. -/
def rowSafeEnergy : VerbRow := { code := 0x0709, priv := .opn, place := .any, bc := false, len := some 0 }

/-- `SAFE_ENERGY`. -/
def vSafeEnergy (m : Msg) (s : State) : State :=
  enterVerb s rowSafeEnergy m fun s _ => replyOk s rowSafeEnergy.code m (energyReply s)

/-- `SAFE_ENERGY` (16 R629, R630). -/
def execSafeEnergy (m : Msg) (s : State) : Host.Outcome State Fault Refusal := verbStep vSafeEnergy m s

end Sys2Proof.Machine
end

