-- ==== Sys2Proof/Machine/VerbSys.lean ====
section
/-! DEFINITION. The journal, power, diagnostic and reset verbs (14 R546 to R555, Table 14-8; 22 R837 to R839, R908; 23). -/

namespace Sys2Proof.Machine

open Sys2Proof

/-! ### Journal -/

/-- `PART` of a stored record. -/
def recPart (s : State) (inc : Bool) (n : Nat) : Nat := byteAt (jrnRec s inc n) 5 % 4

/-- `MORE` of a stored record. -/
def recMore (s : State) (inc : Bool) (n : Nat) : Bool := byteAt (jrnRec s inc n) 5 / 4 % 2 == 1

/-- The oldest held record with `PART` 0, at most three records behind the oldest slot (22 R835, R839). -/
def jrnOldest (s : State) (inc : Bool) : Nat :=
  let lo := jrnOldestNum s inc
  match (List.range 4).find? fun k => recPart s inc (lo + k) == 0 with
  | some k => lo + k
  | none => lo

/-- The held record whose `NUM` is given (22 R822). -/
def heldRecord (s : State) (inc : Bool) (num : Nat) : Option Nat :=
  let head := (jrnHead s inc).1
  let d := (head + 2 ^ 32 - num % 2 ^ 32) % 2 ^ 32
  if d < head ∧ jrnOldest s inc ≤ head - d then some (head - d) else none

/-- Row of `JRN_READ`. -/
def rowJrnRead : VerbRow := { code := 0x0801, priv := .opn, place := .any, bc := false, len := some 8 }

/-- `JRN_READ` (14 R546, Table 14-8). -/
def vJrnRead (m : Msg) (s : State) : State :=
  enterVerb s rowJrnRead m fun s _ =>
    let p := m.payload
    let area := byteAt p 0
    let cnt := byteAt p 1
    match firstBad [badIf (decide (1 < area)) 0, badIf (cnt == 0 || decide (7 < cnt)) 1, reserved p 2 2] with
    | some off => errValue s rowJrnRead m off
    | none =>
      let inc := area == 1
      match heldRecord s inc (leAt p 4 4) with
      | none => errValue s rowJrnRead m 4
      | some n =>
        let k := min cnt ((jrnHead s inc).1 + 1 - n)
        replyOk s rowJrnRead.code m ([BitVec.ofNat 8 k, 0, 0, 0] ++ (List.range k).flatMap fun i => jrnRec s inc (n + i))

/-- `JRN_READ` (14 R546). -/
def execJrnRead (m : Msg) (s : State) : Host.Outcome State Fault Refusal := verbStep vJrnRead m s

/-- Row of `JRN_HEAD`. -/
def rowJrnHead : VerbRow := { code := 0x0802, priv := .opn, place := .any, bc := false, len := some 0 }

/-- `OLDEST`, `HEAD`, `CHAIN` of an area (22 R839). -/
def headBytes (s : State) (inc : Bool) : List Byte :=
  let (num, chain) := jrnHead s inc
  if num = 0 then leBytes 4 1 ++ leBytes 4 0 ++ padTo 8 (jrnSeed s inc)
  else leBytes 4 (jrnOldest s inc) ++ leBytes 4 num ++ padTo 8 chain

/-- `JRN_HEAD`. -/
def vJrnHead (m : Msg) (s : State) : State :=
  enterVerb s rowJrnHead m fun s _ => replyOk s rowJrnHead.code m (headBytes s false ++ headBytes s true)

/-- `JRN_HEAD` (22 R839). -/
def execJrnHead (m : Msg) (s : State) : Host.Outcome State Fault Refusal := verbStep vJrnHead m s

/-- Row of `JRN_RELEASE`. -/
def rowJrnRelease : VerbRow := { code := 0x0803, priv := .pw, place := .any, bc := false, len := some 4 }

/-- The last record, from `n` down to the oldest held, that ends an entry; `k` bounds the search. -/
def lastEnd (s : State) : Nat → Nat → Option Nat
  | 0, _ => none
  | k + 1, n => if n < s.jrn.iOld then none else if recMore s true n then lastEnd s k (n - 1) else some n

/-- The last record that an `UPTO` at a distance `d` behind the head releases (22 R837). -/
def releaseEnd (s : State) (d : Nat) : Option Nat := if d < s.jrn.iNum then lastEnd s 512 (s.jrn.iNum - d) else none

/-- Free the records up to `n` and write the `RELEASE` entry behind the entries that wait for the incident area (22 R837,
R838); a `DISCFAULT` entry whose causes are still open stays behind it (log 131). -/
def releaseTo (s : State) (n : Nat) : State :=
  let s := jrnFlushClosed s.jrn.queue.length s
  let data := leBytes 4 n ++ (jrnRec s true n).drop 24
  jrnCommit { s with jrn.iOld := n + 1, jrn.low := false, jrn.refused := false } (mkEntry s true 0x14 data)

/-- `JRN_RELEASE` (14 R547; 22 R837, R838). -/
def vJrnRelease (m : Msg) (s : State) : State :=
  enterVerb s rowJrnRelease m fun s _ =>
    let d := (s.jrn.iNum + 2 ^ 32 - leAt m.payload 0 4) % 2 ^ 32
    if 2 ^ 31 < d then errValue s rowJrnRelease m 0
    else
      match releaseEnd s d with
      | none => replyOk s rowJrnRelease.code m (leBytes 4 0)
      | some n => replyOk (releaseTo s n) rowJrnRelease.code m (leBytes 4 (n + 1 - s.jrn.iOld))

/-- `JRN_RELEASE` (22 R837). -/
def execJrnRelease (m : Msg) (s : State) : Host.Outcome State Fault Refusal := verbStep vJrnRelease m s

/-- Row of `JRN_MARK`. -/
def rowJrnMark : VerbRow := { code := 0x0804, priv := .pw, place := .any, bc := true, len := none }

/-- `JRN_MARK` (22 R831, R908): the reply waits for the write. -/
def vJrnMark (m : Msg) (s : State) : State :=
  enterVerb s rowJrnMark m fun s w =>
    let p := m.payload
    if p.isEmpty || decide (16 < p.length) then errPayload s rowJrnMark m
    else jrnQueue s { mkEntry s false 0x4B ([BitVec.ofNat 8 p.length, 0, 0, 0] ++ padTo 16 p) with mark := some w }

/-- `JRN_MARK` (22 R908). -/
def execJrnMark (m : Msg) (s : State) : Host.Outcome State Fault Refusal := verbStep vJrnMark m s

/-! ### Power -/

/-- The code of a power state (14 Table 14-8). -/
def pwCode (p : PState) : Nat := match p with | .active => 0 | .standby => 1 | .patrol => 2 | .sleep => 3 | .shutdown => 4

/-- Row of `PWR_SET`. -/
def rowPwrSet : VerbRow := { code := 0x0A01, priv := .pw, place := .any, bc := true, len := some 4 }

/-- Entry to ACTIVE or STANDBY from the other starts the tracker (05 R150, Table 5-12), and the watchdog restarts at an entry to
ACTIVE (24 R883), where the core no longer stops for want of work (23 R843); staying changes nothing. -/
def enterAwake (s : State) (t : PState) : State := if s.pw.state == t then s
  else wakeTracker { s with pw.state := t, core.waiting := t == .standby && s.core.waiting,
                            rst.wdServed := if t == .active then s.now else s.rst.wdServed }

/-- The transition that a `TARGET` decides (23 R844 to R846). -/
def pwDecide (s : State) (t : Nat) : State :=
  match t with
  | 0 => enterAwake s .active
  | 1 => enterAwake s .standby
  | 2 => { s with pw.decided := some .patrol, pw.decTloss := false }
  | 3 => { s with pw.decided := some .sleep, pw.decTloss := false }
  | _ => { s with pw.decided := some .shutdown, pw.decTloss := false }

/-- `PWR_SET` (14 R552; 23 R844, R845). -/
def vPwrSet (m : Msg) (s : State) : State :=
  enterVerb s rowPwrSet m fun s _ =>
    let t := byteAt m.payload 0
    match firstBad [badIf (decide (4 < t)) 0, reserved m.payload 1 3] with
    | some off => errValue s rowPwrSet m off
    | none => replyOk (pwDecide s t) rowPwrSet.code m []

/-- `PWR_SET` (23 R844). -/
def execPwrSet (m : Msg) (s : State) : Host.Outcome State Fault Refusal := verbStep vPwrSet m s

/-- Row of `PWR_STAT`. -/
def rowPwrStat : VerbRow := { code := 0x0A02, priv := .opn, place := .any, bc := false, len := some 0 }

/-- What is left of a timer of `limit` ct in units of `unit` ct, rounded up (14 R907). -/
def timerLeft (s : State) (gone : Bool) (limit unit : Nat) : Nat :=
  if gone then 0 else (limit - (s.now - s.pw.lossAt) + unit - 1) / unit

/-- `BALLEFT` in 0.1 s (23 Table 23-3). -/
def balLeft (s : State) : Nat := timerLeft s s.pw.balGone (fld s.cfg.tmrCfg 9 0 * 100 * ctPerMs) (100 * ctPerMs)

/-- `SLEEPLEFT` in s. -/
def sleepLeft (s : State) : Nat :=
  let n := fld s.cfg.tmrCfg 31 16
  if n = 0 then 65535 else min 65534 (timerLeft s s.pw.sleepGone (n * 1000 * ctPerMs) (1000 * ctPerMs))

/-- `PWR_STAT`. -/
def vPwrStat (m : Msg) (s : State) : State :=
  enterVerb s rowPwrStat m fun s _ =>
    replyOk s rowPwrStat.code m ([BitVec.ofNat 8 (pwCode s.pw.state), 0, 0, 0] ++ leBytes 4 s.pw.wake.toNat ++
      leBytes 2 (balLeft s) ++ leBytes 2 (sleepLeft s))

/-- `PWR_STAT` (14 Table 14-8). -/
def execPwrStat (m : Msg) (s : State) : Host.Outcome State Fault Refusal := verbStep vPwrStat m s

/-- Row of `PWR_WAKECLR`. -/
def rowPwrWakeclr : VerbRow := { code := 0x0A03, priv := .opn, place := .any, bc := true, len := some 4 }

/-- `PWR_WAKECLR` (23 R862): the reserved bits of Table 23-6 are refused (14 R516). -/
def vPwrWakeclr (m : Msg) (s : State) : State :=
  enterVerb s rowPwrWakeclr m fun s _ =>
    match reservedBits (word0 m.payload) 0x00070FFF with
    | some off => errValue s rowPwrWakeclr m off
    | none => replyOk { s with pw.wake := s.pw.wake &&& ~~~ (word0 m.payload) } rowPwrWakeclr.code m []

/-- `PWR_WAKECLR` (23 R862). -/
def execPwrWakeclr (m : Msg) (s : State) : Host.Outcome State Fault Refusal := verbStep vPwrWakeclr m s

/-- Row of `PWR_KEEP`. -/
def rowPwrKeep : VerbRow := { code := 0x0A04, priv := .opn, place := .any, bc := true, len := some 0 }

/-- `PWR_KEEP` (14, under Table 14-8): no effect beyond its take, which is host activity. -/
def vPwrKeep (m : Msg) (s : State) : State := enterVerb s rowPwrKeep m fun s _ => replyOk s rowPwrKeep.code m []

/-- `PWR_KEEP` (23 R850). -/
def execPwrKeep (m : Msg) (s : State) : Host.Outcome State Fault Refusal := verbStep vPwrKeep m s

/-! ### Diagnosis and reset -/

/-- Row of `DIAG_INFO`. -/
def rowDiagInfo : VerbRow := { code := 0x0B01, priv := .opn, place := .any, bc := false, len := some 0 }

/-- `DIAG_INFO`. -/
def vDiagInfo (m : Msg) (s : State) : State :=
  enterVerb s rowDiagInfo m fun s _ =>
    replyOk s rowDiagInfo.code m (leBytes 4 s.store.resets.toNat ++ leBytes 6 (uptimeUs s) ++ [s.rst.lastRst, 0] ++
      leBytes 4 s.store.fstops.toNat ++ leBytes 4 s.store.wdresets.toNat ++ List.replicate 4 0)

/-- `DIAG_INFO` (14 Table 14-8; 24 R877). -/
def execDiagInfo (m : Msg) (s : State) : Host.Outcome State Fault Refusal := verbStep vDiagInfo m s

/-- Row of `DIAG_SCAN`. -/
def rowDiagScan : VerbRow := { code := 0x0B02, priv := .opn, place := .any, bc := false, len := some 0 }

/-- `DIAG_SCAN`. -/
def vDiagScan (m : Msg) (s : State) : State :=
  enterVerb s rowDiagScan m fun s _ =>
    replyOk s rowDiagScan.code m (wordsLe [s.ce.ch[0].res, s.ce.ch[1].res, s.ce.scans, s.ce.mism])

/-- `DIAG_SCAN` (14 Table 14-8; 21 R815). -/
def execDiagScan (m : Msg) (s : State) : Host.Outcome State Fault Refusal := verbStep vDiagScan m s

/-- Row of `RESET`. -/
def rowReset : VerbRow := { code := 0x0F01, priv := .pw, place := .any, bc := true, len := some 4 }

/-- `RESET` (14 R553 to R555): the reset waits for the reply. -/
def vReset (m : Msg) (s : State) : State :=
  enterVerb s rowReset m fun s _ =>
    if m.payload = [0x5A, 0xA5, 0x0F, 0x01] then replyOk { s with pw.resetVerb := s.pw.resetVerb ++ [(m, false)] } rowReset.code m []
    else errValue s rowReset m 0

/-- `RESET` (14 R554). -/
def execReset (m : Msg) (s : State) : Host.Outcome State Fault Refusal := verbStep vReset m s

/-- 100 ms after the reply was placed, or 10 ms after a broadcast at a member: the full reset (14 R554, R555). At the head
it waits until the broadcast has left. -/
def execResetVerbTimeout (s : State) : Host.Outcome State Fault Refusal :=
  if running s then .next (resetEvent s fun _ => true) else .next s

end Sys2Proof.Machine
end

