-- ==== Sys2Proof/Machine/Mailbox.lean ====
section
/-! DEFINITION. Taking messages: the checks of 13 R483, the duplicate histories, forwarding at the head, and the verbs by their
codes (13; 12 R465 to R468; 11 R425, R428; 14 Table 14-1). -/

namespace Sys2Proof.Machine

open Sys2Proof

/-! ## Verbs by code -/

/-- The row of a verb code (14 Table 14-1). -/
def verbRow (code : Nat) : Option VerbRow :=
  match code with
  | 0x0101 => some rowIdRead
  | 0x0102 => some rowIdFactory
  | 0x0201 => some rowCfgRead
  | 0x0202 => some rowCfgWrite
  | 0x0203 => some rowCfgLogin
  | 0x0204 => some rowCfgLogout
  | 0x0205 => some rowCfgPasswd
  | 0x0206 => some rowCfgFactory
  | 0x0301 => some rowAcqStart
  | 0x0302 => some rowAcqRead
  | 0x0303 => some rowAcqFetch
  | 0x0401 => some rowBalSet
  | 0x0402 => some rowBalStop
  | 0x0403 => some rowBalStat
  | 0x0404 => some rowBalTest
  | 0x0501 => some rowGateOn
  | 0x0502 => some rowGateOff
  | 0x0503 => some rowGateRearm
  | 0x0504 => some rowProtStat
  | 0x0505 => some rowCmpTest
  | 0x0601 => some rowChainEnum
  | 0x0602 => some rowChainCal
  | 0x0603 => some rowChainStream
  | 0x0604 => some rowChainStat
  | 0x0605 => some rowChainCrumb
  | 0x0606 => some rowChainBreak
  | 0x0701 => some rowSafeConfirm
  | 0x0702 => some rowSafeStat
  | 0x0703 => some rowSafeOpen
  | 0x0704 => some rowSafeClose
  | 0x0705 => some rowSafeCycle
  | 0x0706 => some rowSafeTen
  | 0x0707 => some rowSafeRdn
  | 0x0708 => some rowSafeSto
  | 0x0709 => some rowSafeEnergy
  | 0x0801 => some rowJrnRead
  | 0x0802 => some rowJrnHead
  | 0x0803 => some rowJrnRelease
  | 0x0804 => some rowJrnMark
  | 0x0901 => some rowAplLoad
  | 0x0902 => some rowAplCommit
  | 0x0903 => some rowAplStart
  | 0x0904 => some rowAplStop
  | 0x0905 => some rowAplStat
  | 0x0906 => some rowAplMsg
  | 0x0907 => some rowAplErase
  | 0x0A01 => some rowPwrSet
  | 0x0A02 => some rowPwrStat
  | 0x0A03 => some rowPwrWakeclr
  | 0x0A04 => some rowPwrKeep
  | 0x0B01 => some rowDiagInfo
  | 0x0B02 => some rowDiagScan
  | 0x0F01 => some rowReset
  | _ => none

/-- The verb itself. -/
def runVerb (code : Nat) (m : Msg) (s : State) : State :=
  match code with
  | 0x0101 => vIdRead m s
  | 0x0102 => vIdFactory m s
  | 0x0201 => vCfgRead m s
  | 0x0202 => vCfgWrite m s
  | 0x0203 => vCfgLogin m s
  | 0x0204 => vCfgLogout m s
  | 0x0205 => vCfgPasswd m s
  | 0x0206 => vCfgFactory m s
  | 0x0301 => vAcqStart m s
  | 0x0302 => vAcqRead m s
  | 0x0303 => vAcqFetch m s
  | 0x0401 => vBalSet m s
  | 0x0402 => vBalStop m s
  | 0x0403 => vBalStat m s
  | 0x0404 => vBalTest m s
  | 0x0501 => vGateOn m s
  | 0x0502 => vGateOff m s
  | 0x0503 => vGateRearm m s
  | 0x0504 => vProtStat m s
  | 0x0505 => vCmpTest m s
  | 0x0601 => vChainEnum m s
  | 0x0602 => vChainCal m s
  | 0x0603 => vChainStream m s
  | 0x0604 => vChainStat m s
  | 0x0605 => vChainCrumb m s
  | 0x0606 => vChainBreak m s
  | 0x0701 => vSafeConfirm m s
  | 0x0702 => vSafeStat m s
  | 0x0703 => vSafeOpen m s
  | 0x0704 => vSafeClose m s
  | 0x0705 => vSafeCycle m s
  | 0x0706 => vSafeTen m s
  | 0x0707 => vSafeRdn m s
  | 0x0708 => vSafeSto m s
  | 0x0709 => vSafeEnergy m s
  | 0x0801 => vJrnRead m s
  | 0x0802 => vJrnHead m s
  | 0x0803 => vJrnRelease m s
  | 0x0804 => vJrnMark m s
  | 0x0901 => vAplLoad m s
  | 0x0902 => vAplCommit m s
  | 0x0903 => vAplStart m s
  | 0x0904 => vAplStop m s
  | 0x0905 => vAplStat m s
  | 0x0906 => vAplMsg m s
  | 0x0907 => vAplErase m s
  | 0x0A01 => vPwrSet m s
  | 0x0A02 => vPwrStat m s
  | 0x0A03 => vPwrWakeclr m s
  | 0x0A04 => vPwrKeep m s
  | 0x0B01 => vDiagInfo m s
  | 0x0B02 => vDiagScan m s
  | 0x0F01 => vReset m s
  | _ => s

/-- The repeatable verbs (14 Table 14-1, Class). -/
def repeatable (code : Nat) : Bool :=
  [0x0101, 0x0102, 0x0201, 0x0302, 0x0403, 0x0504, 0x0604, 0x0605, 0x0702,
   0x0709, 0x0801, 0x0802, 0x0905, 0x0A02, 0x0A04, 0x0B01, 0x0B02].contains code

/-! ## Messages (13 Table 13-1) -/

/-- A message as taken. -/
structure RawMsg where
  /-- `VERB` -/
  verb : BitVec 16
  /-- `TAG` -/
  tag : BitVec 16
  /-- `LEN` -/
  len : Nat
  /-- `TARGET` -/
  target : Byte
  /-- byte 7 -/
  flags : Byte
  /-- byte 8 -/
  mbx : Byte
  /-- bytes 9 to 11 -/
  rest : List Byte
  /-- payload -/
  payload : List Byte
  /-- the received trailer -/
  trailer : Word
  /-- the trailer checks -/
  crcOk : Bool
deriving DecidableEq, Repr

/-- Read a message from bytes. -/
def readMsg (b : List Byte) : RawMsg :=
  let len := leAt b 4 2
  let n := if len ≤ 240 then len else 0
  let t := BitVec.ofNat 32 (leAt b (12 + n) 4)
  { verb := BitVec.ofNat 16 (leAt b 0 2), tag := BitVec.ofNat 16 (leAt b 2 2), len := len, target := b.getD 6 0,
    flags := b.getD 7 0, mbx := b.getD 8 0, rest := (b.drop 9).take 3, payload := (b.drop 12).take n, trailer := t,
    crcOk := decide (16 + n ≤ b.length) && crc32 (b.take (12 + n)) == t }

/-- The mailbox index of a message. -/
def RawMsg.idx (r : RawMsg) : Fin 4 := Fin.ofNat 4 r.mbx.toNat

/-- `ENV` is the only flag a request may carry, and every reserved bit is 0 (13 R473). -/
def RawMsg.headerOk (r : RawMsg) : Bool := r.flags &&& ~~~ 8#8 == 0 && decide (r.mbx.toNat < 4) && r.rest.all (· == 0)

/-- The message the firmware acts on. -/
def RawMsg.toMsg (r : RawMsg) (src : Option (BitVec 7)) (lseq : Byte) (p : Port) (bcast : Bool) : Msg :=
  { mbx := r.idx, tag := r.tag, src := src, lseq := lseq, port := p, bcast := bcast, env := r.flags.getLsbD 3, payload := r.payload }

/-- Checks 1 to 3 (13 R483): the error code of the first that fails. -/
def formBad (r : RawMsg) (hdr : Bool) : Option Nat :=
  if 240 < r.len then some 1 else if !r.crcOk then some 2 else if !(r.headerOk && hdr) then some 3 else none

/-! ## Duplicates (13 R494 to R498) -/

/-- The live entry of a tag (13 R495). -/
def liveEntry (s : State) (i : Fin 4) (tag : BitVec 16) : Option HistEntry :=
  s.mbx.hist[i].find? fun e => e.tag == tag && decide (s.now - e.taken < 10000 * ctPerMs)

/-- Enter a message (13 R494, R498): at most 32 entries. -/
def enterHist (s : State) (r : RawMsg) : State :=
  let e : HistEntry := { tag := r.tag, verb := r.verb, trailer := r.trailer, taken := s.now, reply := none }
  let old := s.mbx.hist[r.idx].filter fun x => !(x.tag == r.tag)
  { s with mbx.hist := s.mbx.hist.set r.idx ((e :: old).take 32) }

/-- A duplicate of a once-verb whose reply is not there yet waits for it, however long its entry stands (13 R479, R497; log 26). -/
def waitForReply (s : State) (r : RawMsg) (m : Msg) : State :=
  { s with mbx.dups := s.mbx.dups ++ [{ pair := r.idx, tag := r.tag, verb := r.verb, msg := m }] }

/-- Check 5 lets the message go on to check 6: no live entry of its tag, or the same repeatable request (13 R496 to R498). -/
def passesWindow (s : State) (r : RawMsg) : Bool :=
  match liveEntry s r.idx r.tag with
  | none => true
  | some e => e.verb == r.verb && e.trailer == r.trailer &&
      (repeatable r.verb.toNat || (verbRow r.verb.toNat).isNone)

/-- Checks 6 and 7 (13 R483): an unknown code is refused, a known verb runs. -/
def execFresh (s : State) (r : RawMsg) (m : Msg) : State :=
  let s := enterHist s r
  if (verbRow r.verb.toNat).isSome then runVerb r.verb.toNat m s else replyErr s r.verb m 6 0

/-- Checks 5 to 7 (13 R483): a duplicate of a once-verb is answered from the history. -/
def execMsg (s : State) (r : RawMsg) (m : Msg) : State :=
  if passesWindow s r then execFresh s r m
  else
    match liveEntry s r.idx r.tag with
    | none => s
    | some e =>
      if e.verb != r.verb || e.trailer != r.trailer then errDirect s r.verb m 5 0
      else
        match e.reply with
        | some b => deliver s m (dupReply b)
        | none => waitForReply s r m

/-! ## The host port's messages (12 R465 to R468; 13 R477) -/

/-- The head sends a message north as a VERB frame (12 R466). -/
def forwardMsg (s : State) (r : RawMsg) (b : List Byte) : State :=
  let s := { s with chn.fwd := s.chn.fwd ++
    [{ pair := r.idx, verb := r.verb, tag := r.tag, target := r.target, acked := false }] }
  sendAcked s .north 1 (r.target.setWidth 7) (b.take (16 + r.len)) (some r.idx)

/-- The head forwards a broadcast that it executes, unless Table 14-1 forbids it (12 R467; 14 R511). -/
def forwardsBcast (r : RawMsg) : Bool :=
  match verbRow r.verb.toNat with
  | some v => v.bc
  | none => true

/-- Check 4 at a host port, and what follows. -/
def routeMsg (s : State) (r : RawMsg) (b : List Byte) : State :=
  let m := r.toMsg none 0 .south (r.target == 0)
  if r.target == 0 then
    let s := if isHead s && forwardsBcast r && passesWindow s r then sendFrame s .north 1 0 (b.take (16 + r.len)) else s
    execMsg (hostActivity s) r m
  else if r.target == 0x7F || r.target == s.chn.addr.setWidth 8 then execMsg (hostActivity s) r m
  else if !isHead s then errDirect s r.verb m 4 0
  else if r.target.getLsbD 7 then errDirect s r.verb m 3 0
  else forwardMsg s r b

/-- The error reply of checks 1 to 3: in the pair that was rung, with `MBX` as received (13 R474, R484). -/
def formError (s : State) (i : Fin 4) (r : RawMsg) (code : Nat) : State :=
  let m := r.toMsg none 0 .south false
  let body := replyBody s r.verb m true false (leBytes 2 code ++ leBytes 2 0)
  deliver s { m with mbx := i } (withTrailer body)

/-- The message of the oldest ring is taken: the mailbox is free again, the checks run, and the message is executed, answered or
forwarded (13 R477, R483). -/
def takeRung (s : State) : State :=
  match s.mbx.takeq with
  | [] => s
  | i :: t =>
    let p := s.mbx.pairs[i]
    let b := p.inb
    let s := { s with mbx.takeq := t, mbx.pairs := s.mbx.pairs.set i { p with busy := false } }
    let s := irqSet s (1#13 <<< (4 + i.val))
    let r := readMsg b
    match formBad r (r.mbx.toNat == i.val) with
    | some c => formError s i r c
    | none => routeMsg s r b

/-- `n` rung messages are taken, in the order of their rings (13 R490). -/
def takeRungs : Nat → State → State
  | 0, s => s
  | n + 1, s => takeRungs n (if fwRuns s then takeRung s else s)

/-- A rung message is taken (13 R477, R490). -/
def execMailboxTake (s : State) : Host.Outcome State Fault Refusal :=
  if fwRuns s then .next (takeRung s) else .next s

/-! ## Messages from the chain (11 R385, R425, R428; 13 R485, R486, R502) -/

/-- The VERB frame has been seen: acknowledged again, and its reply, if it has left, sent again (11 R428). -/
def seenAgain (s : State) (p : Port) (f : Frame) (r : Option Frame) : State :=
  let s := sendAck s p f
  match r with
  | some g => if frameGone s 2 g.lseq then enqueueTx s p { g with rtx := true } else s
  | none => s

/-- The message of a VERB frame. -/
def verbMessage (s : State) (p : Port) (f : Frame) : State :=
  let r := readMsg f.payload
  let m := r.toMsg (some f.src) f.lseq p (f.dst == 0)
  match formBad r true with
  | some c => errDirect s r.verb m c 0
  | none => execMsg (hostActivity s) r m

/-- The device acts on a validated VERB frame (11 R385): one for it, or for every device. Once a lower state is decided it stays
unacknowledged (13 R502). -/
def takesVerb (s : State) (f : Frame) : Bool :=
  fwRuns s && s.pw.decided.isNone && f.type == 1 && (f.dst == s.chn.addr || f.dst == 0)

/-- A validated VERB frame (11 R385, R425, R428). Messages that were rung before are taken before it (13 R490); where one of them
ends in a full reset, this one is lost (R501). -/
def execVerbFrameReceived (p : Port) (f : Frame) (s : State) : Host.Outcome State Fault Refusal :=
  if !takesVerb s f then .next s
  else
    let s := irqRaise s (if p = .south then 30 else 31)
    match (if f.rtx then s.chn.seenV.find? fun x => x.1 == f.src && x.2.1 == f.lseq else none) with
    | some x => .next (seenAgain s p f x.2.2)
    | none =>
      let s := { s with chn.seenV := ((f.src, f.lseq, none) :: s.chn.seenV).take 8 }
      let s := if f.dst == 0 then s else sendAck s p f
      let s := takeRungs s.mbx.takeq.length s
      .next (if fwRuns s then verbMessage s p f else s)

end Sys2Proof.Machine
end

