-- ==== Sys2Proof/Machine/MemOps.lean ====
section
/-! DEFINITION. Loads, stores and block moves of the core (19 R729 to R732, R737 to R743, Table 19-5). -/

namespace Sys2Proof.Machine

open Sys2Proof

/-- The address of a load or store (19 R729). -/
def memAddr (s : State) (ra : Fin 16) (imm : BitVec 18) : Word := getG s ra + sext18 imm

/-- A load: the register's value from the loaded number. -/
def loadBody (rd ra : Fin 16) (imm : BitVec 18) (size : Nat) (ext : Nat → Word) (s : State) : Exec :=
  match coreLoad s (memAddr s ra imm) size with
  | .error f => .error f
  | .ok (b, s) => .ok (advancePc (setG s rd (ext (leVal b))))

/-- As a step. -/
def load (rd ra : Fin 16) (imm : BitVec 18) (size : Nat) (ext : Nat → Word) (s : State) :
    Host.Outcome State Fault Refusal :=
  .next (issue [rd, ra] false (loadBody rd ra imm size ext) s)

/-- `LDW` (19 Table 19-5). -/
def execLdw (rd ra : Fin 16) (imm : BitVec 18) (s : State) : Host.Outcome State Fault Refusal :=
  load rd ra imm 2 (BitVec.ofNat 32) s

/-- `LDH`. -/
def execLdh (rd ra : Fin 16) (imm : BitVec 18) (s : State) : Host.Outcome State Fault Refusal :=
  load rd ra imm 1 (fun v => (BitVec.ofNat 16 v).signExtend 32) s

/-- `LDHU`. -/
def execLdhu (rd ra : Fin 16) (imm : BitVec 18) (s : State) : Host.Outcome State Fault Refusal :=
  load rd ra imm 1 (BitVec.ofNat 32) s

/-- `LDB`. -/
def execLdb (rd ra : Fin 16) (imm : BitVec 18) (s : State) : Host.Outcome State Fault Refusal :=
  load rd ra imm 0 (fun v => (BitVec.ofNat 8 v).signExtend 32) s

/-- `LDBU`. -/
def execLdbu (rd ra : Fin 16) (imm : BitVec 18) (s : State) : Host.Outcome State Fault Refusal :=
  load rd ra imm 0 (BitVec.ofNat 32) s

/-- A store of the low bytes of a register. -/
def storeBody (rs ra : Fin 16) (imm : BitVec 18) (size : Nat) (s : State) : Exec :=
  match coreStore s (memAddr s ra imm) (leBytes (sizeBytes size) (getG s rs).toNat) size with
  | .error f => .error f
  | .ok s => .ok (advancePc s)

/-- As a step. -/
def store (rs ra : Fin 16) (imm : BitVec 18) (size : Nat) (s : State) : Host.Outcome State Fault Refusal :=
  .next (issue [rs, ra] false (storeBody rs ra imm size) s)

/-- `STW`. -/
def execStw (rs ra : Fin 16) (imm : BitVec 18) (s : State) : Host.Outcome State Fault Refusal := store rs ra imm 2 s

/-- `STH`. -/
def execSth (rs ra : Fin 16) (imm : BitVec 18) (s : State) : Host.Outcome State Fault Refusal := store rs ra imm 1 s

/-- `STB`. -/
def execStb (rs ra : Fin 16) (imm : BitVec 18) (s : State) : Host.Outcome State Fault Refusal := store rs ra imm 0 s

/-! ## Block moves -/

/-- Size code of a step: a word when four bytes are left and the addresses allow it (19 R739). -/
def stepSize (left : Nat) (aligned : Bool) : Nat := if 4 ≤ left && aligned then 2 else 0

/-- After a step the registers carry the progress; with nothing left the pc passes the block move (19 R739, R742). -/
def stepDone (s : State) (rd rb : Fin 16) (w : Nat) : State :=
  let s := setG s rd (getG s rd + BitVec.ofNat 32 w)
  let s := setG s rb (getG s rb - BitVec.ofNat 32 w)
  if getG s rb = 0 then advancePc s else s

/-- One step of `BMOV`, or its end (19 R737 to R743). -/
def bmovBody (rd ra rb : Fin 16) (s : State) : Exec :=
  if rd = ra ∨ rd = rb ∨ ra = rb ∨ rd = 0 ∨ ra = 0 ∨ rb = 0 then .error (plainFault 1 0)
  else
    let left := (getG s rb).toNat
    if left = 0 then .ok (advancePc s)
    else
      let d := getG s rd
      let a := getG s ra
      let size := stepSize left (d.toNat % 4 == 0 && a.toNat % 4 == 0)
      let w := sizeBytes size
      match coreLoadAs s a size 3 with
      | .error f => .error f
      | .ok (b, s) =>
        match coreStoreAs s d b size 3 with
        | .error f => .error f
        | .ok s => .ok (stepDone (setG s ra (a + BitVec.ofNat 32 w)) rd rb w)

/-- `BMOV` (19 R739): one command is one step. -/
def execBmov (rd ra rb : Fin 16) (s : State) : Host.Outcome State Fault Refusal :=
  .next (issue [rd, ra, rb] true (bmovBody rd ra rb) s)

/-- The bytes a fill step writes at an address: byte (address mod 4) of the register for each. -/
def fillBytes (v : Word) (a : Word) (w : Nat) : List Byte :=
  (List.range w).map fun i => (leBytes 4 v.toNat).getD ((a.toNat + i) % 4) 0

/-- One step of `BFIL`, or its end. -/
def bfilBody (rd ra rb : Fin 16) (s : State) : Exec :=
  if rd = rb ∨ rd = ra ∨ rb = ra ∨ rd = 0 ∨ rb = 0 then .error (plainFault 1 0)
  else
    let left := (getG s rb).toNat
    if left = 0 then .ok (advancePc s)
    else
      let d := getG s rd
      let size := stepSize left (d.toNat % 4 == 0)
      let w := sizeBytes size
      match coreStoreAs s d (fillBytes (getG s ra) d w) size 3 with
      | .error f => .error f
      | .ok s => .ok (stepDone s rd rb w)

/-- `BFIL` (19 R739): one command is one step. -/
def execBfil (rd ra rb : Fin 16) (s : State) : Host.Outcome State Fault Refusal :=
  .next (issue [rd, ra, rb] true (bfilBody rd ra rb) s)

end Sys2Proof.Machine
end

