-- ==== Sys2Proof/Machine/System.lean ====
section
/-! DEFINITION. Control registers, flags and system instructions of the core (18 Table 18-1, R688 to R690, R695, R700, R706
to R709; 19 R745 to R750, Table 19-9). -/

namespace Sys2Proof.Machine

open Sys2Proof

/-! ## Control registers -/

/-- A control register's value (18 Table 18-1). -/
def readCr (s : State) (cr : Nat) : Word :=
  let c := s.core
  match cr with
  | 0 => c.sw
  | 1 => c.vbase
  | 2 => c.esp
  | 3 => c.asp
  | 4 => BitVec.ofNat 32 (b2n c.fe + 2 * b2n c.espl)
  | 5 => c.sysEntry
  | 6 => c.sysSp
  | 7 => c.sysRet
  | 8 => c.ien0
  | 9 => c.ien1.setWidth 32
  | 10 => (pendBits s).setWidth 32
  | 11 => (pendBits s >>> 32).setWidth 32
  | _ => c.cycle

/-- `SWI`: entry 63 becomes pending (18 Table 18-3). -/
def raiseSwi (s : State) : State := irqRaise s 63

/-- A write to a control register (18 Table 18-1; 19 R746). -/
def writeCr (s : State) (cr : Nat) (v : Word) : State :=
  match cr with
  | 0 => { s with core.sw := (v &&& 0x7F3F#32) ||| (s.core.sw &&& 0x40#32) }
  | 1 => { s with core.vbase := v &&& 0xFFFFFF00#32 }
  | 2 => if s.core.espl then s else { s with core.esp := v &&& 0xFFFFFFF8#32 }
  | 3 => { s with core.asp := v }
  | 4 =>
    let s := { s with core.fe := bitOf v 0, core.espl := s.core.espl || bitOf v 1 }
    if bitOf v 2 then raiseSwi s else s
  | 5 => { s with core.sysEntry := v &&& 0xFFFFFFFC#32 }
  | 6 => { s with core.sysSp := v &&& 0xFFFFFFF8#32 }
  | 7 => { s with core.sysRet := v }
  | 8 => { s with core.ien0 := v }
  | 9 => { s with core.ien1 := v.setWidth 16 }
  | _ => s

/-- `MFC` (19 R745; 18 R673): a reserved register is illegal in either mode, and an applet reads only `CYCLE`. -/
def mfcBody (rd : Fin 16) (cr : BitVec 5) (s : State) : Exec :=
  if 13 ≤ cr.toNat then .error (plainFault 1 0)
  else if inApplet s && cr != 12 then .error (plainFault 2 0)
  else .ok (advancePc (setG s rd (readCr s cr.toNat)))

/-- `MFC` (19 R745). -/
def execMfc (rd : Fin 16) (cr : BitVec 5) (s : State) : Host.Outcome State Fault Refusal :=
  .next (issue [rd] false (mfcBody rd cr) s)

/-- `MTC` (19 R745, R746). -/
def mtcBody (cr : BitVec 5) (rs : Fin 16) (s : State) : Exec :=
  if 13 ≤ cr.toNat then .error (plainFault 1 0)
  else privileged s (.ok (advancePc (writeCr s cr.toNat (getG s rs))))

/-- `MTC` (19 R746); it waits for any divide (R724). -/
def execMtc (cr : BitVec 5) (rs : Fin 16) (s : State) : Host.Outcome State Fault Refusal :=
  .next (issue [rs] true (mtcBody cr rs) s)

/-- An `MTC` that writes 1 to `SYS_CTL.SWI` and leaves the rest (18 Table 18-3). -/
def execSysCtlSwi (s : State) : Host.Outcome State Fault Refusal :=
  .next (issue [] true (fun s => privileged s (.ok (advancePc (raiseSwi s)))) s)

/-- An `MTC` that writes 1 to `SYS_CTL.ESPL` and leaves the rest. -/
def execSysCtlEspl (s : State) : Host.Outcome State Fault Refusal :=
  .next (issue [] true (fun s => privileged s (.ok (advancePc { s with core.espl := true }))) s)

/-- `SETF` (19 R747). -/
def execSetf (ra : Fin 16) (s : State) : Host.Outcome State Fault Refusal :=
  .next (issue [ra] false (fun s => .ok (advancePc (setFlags s (flagsOf (getG s ra))))) s)

/-- `GETF` (19 R747). -/
def execGetf (rd : Fin 16) (s : State) : Host.Outcome State Fault Refusal :=
  .next (issue [rd] false (fun s => .ok (advancePc (setG s rd (s.core.sw &&& 0x1F#32)))) s)

/-! ## Instructions that drain the store buffer (18 R695) -/

/-- The late bus error that the drain of an instruction finds: one noted since the last instruction issued (18 R693, R695). -/
def drainErr (s : State) : Option LateErr := s.core.late.filter (·.fresh)

/-- An instruction that drains the store buffer and waits for any divide. After its fetch and its decoding (Table 18-5), a late bus
error found during its drain is taken with `PC_RET` the instruction after it, in the mode before it, whatever `H` holds (18 R695;
log 52). -/
def drained (body : State → Exec) (s : State) : State :=
  match drainErr s, fetchFault s, body (drainAll s) with
  | some e, none, .ok _ => if coreOn s && s.core.imp.isNone && !s.core.fstop then
      let t := completeDivide (drainAll s)
      takeLate t e (nextPc t)
    else issue [] true (fun s => body (drainAll s)) s
  | _, _, _ => issue [] true (fun s => body (drainAll s)) s

/-- `SYNC` (19 Table 19-9). -/
def execSync (s : State) : Host.Outcome State Fault Refusal := .next (drained (fun s => .ok (advancePc s)) s)

/-- `ENTER`: the fast path into a firmware service (18 R706, R707). -/
def enterBody (s : State) : Exec :=
  if !inApplet s then .error (plainFault 8 1)
  else if !s.core.fe then .error (plainFault 8 0)
  else
    let ret := (nextPc s &&& 0xFFFFFFFC#32) ||| 1#32 ||| (if swP s.core.sw then 2#32 else 0#32)
    .ok { s with core.sysRet := ret, core.g := s.core.g.set 15 s.core.sysSp,
                 core.sw := swPut (swPut s.core.sw 6 false) 4 true, core.pc := s.core.sysEntry,
                 apl.inSvc := s.apl.state == .running, apl.svcPend := s.apl.state == .running }

/-- `ENTER` (18 R706). -/
def execEnter (s : State) : Host.Outcome State Fault Refusal := .next (drained enterBody s)

/-- `SW` with the mode to return to: `A` = 1 forces `H` 0 and `LVL` 64 (18 R689, R708). -/
def returnSw (sw : Word) : Word := if swA sw then swSetLvl (swPut sw 5 false) 64 else sw

/-- The number of a service FW 4.2 knows (18 Table 18-10). -/
def knownSvc (g1 : Word) : Bool := decide (1 ≤ g1.toNat) && decide (g1.toNat ≤ 13)

/-- Five free words: the vector and the frame of a stop that no exception caused. -/
def freeStop (s : State) : List Byte × State :=
  let (v, s) := takeFree s
  let (a, s) := takeFree s
  let (b, s) := takeFree s
  let (c, s) := takeFree s
  let (d, s) := takeFree s
  (aplFaultData 2 (v.toNat % 64) [a, b, c, d], s)

/-- What the end of a service does besides the return: the budget is compared, and a stop decided during the service takes effect
(20 R788, R794). -/
def endService (s : State) : State :=
  if !s.apl.inSvc then s
  else
    let s := { s with apl.inSvc := false, apl.svcPend := false, apl.suspended := false }
    match s.apl.stopDue with
    | some d => stopApplet { s with apl.stopDue := none } d
    | none =>
      if overBudget s then
        let (d, s) := freeStop s
        stopApplet s d
      else s

/-- `LEAVE` (18 R708). -/
def leaveBody (s : State) : Exec :=
  let r := s.core.sysRet
  let sw := swPut (swPut s.core.sw 6 (bitOf r 0)) 4 (bitOf r 1)
  privileged s (.ok (endService { s with core.sw := returnSw sw, core.pc := r &&& 0xFFFFFFFC#32 }))

/-- `LEAVE` (18 R708). -/
def execLeave (s : State) : Host.Outcome State Fault Refusal := .next (drained leaveBody s)

/-- The words at an address, through loads of the core. -/
def loadWords : Nat → Word → State → Except CoreFault (List Word × State)
  | 0, _, s => .ok ([], s)
  | n + 1, a, s =>
    match coreLoad s a 2 with
    | .error f => .error f
    | .ok (b, s) =>
      match loadWords n (a + 4) s with
      | .error f => .error f
      | .ok (l, s) => .ok (BitVec.ofNat 32 (leVal b) :: l, s)

/-- The cause of interrupt `v` is removed at its source, as its handler does before it returns (18 R682; 20 R780; 21 R817;
log 53). -/
def clearSource (s : State) (v : Nat) : State :=
  let s := { s with core.ipend := s.core.ipend &&& ~~~ (1#48 <<< (v - 16)) }
  if 22 ≤ v ∧ v ≤ 29 then { s with dma.irq := s.dma.irq &&& ~~~ (1#8 <<< (v - 22)) }
  else if v = 44 then { s with ce.irq := s.ce.irq &&& 0xC#4 }
  else if v = 45 then { s with ce.irq := s.ce.irq &&& 0x3#4 }
  else s

/-- The handler of entry 10 clears the `NEW` bit of the channel it was told (20 R786; log 76). -/
def dmaReported (s : State) : State :=
  if s.core.dmaRep then { s with core.dmaRep := false, dma.fnew := s.dma.fnew &&& ~~~ (1#8 <<< s.dma.rpt.toNat) } else s

/-- `RFE`: return by the frame at the firmware g15 (18 R688 to R690). A fault of the frame read escalates, whatever `H` holds
(R690; log 27). -/
def rfeBody (s : State) : Exec :=
  if inApplet s then .error (plainFault 2 0)
  else
    let sp := s.core.g[15]
    match loadWords 4 sp s with
    | .error f =>
      .ok (fullStop s 1 0 [s.core.pc, s.core.sw, causeWord f.entry false f.write f.size f.fetch false f.sub false, f.faddr])
    | .ok (l, s) =>
      let sw := returnSw (l.getD 1 0 &&& swMask)
      let v := swLvl s.core.sw
      let s := if v < 64 ∧ 16 ≤ v ∧ swLvl sw ≠ v then clearSource s v else s
      .ok { dmaReported s with core.g := s.core.g.set 15 (sp + 16), core.sw := sw, core.pc := l.getD 0 0, core.owed := none }

/-- `RFE` (18 R688). -/
def execRfe (s : State) : Host.Outcome State Fault Refusal := .next (drained rfeBody s)

/-- `FSTOP`: the full stop with its code in g1 (18 R700 to R704). -/
def fstopBody (s : State) : Exec := privileged s (.ok (fullStop s 3 s.core.g[1] (evFrame s 0 0)))

/-- `FSTOP` (18 R700); it reads g1 (19 R719, R724). -/
def execFstop (s : State) : Host.Outcome State Fault Refusal := .next (issue [1] false fstopBody s)

/-- `BRK`: entry 9; the core ignores the code (19 Table 19-9, R749). -/
def execBrk (_code : BitVec 16) (s : State) : Host.Outcome State Fault Refusal :=
  .next (issue [] false (fun _ => .error (plainFault 9 0)) s)

/-- `WAIT` (19 R750): it drains, and ends at once when an enabled source is pending. -/
def waitBody (s : State) : Exec :=
  let t := drainAll s
  privileged s (.ok { advancePc t with core.waiting := pendBits t &&& enableBits t == 0 })

/-- `WAIT` (19 R750). -/
def execWait (s : State) : Host.Outcome State Fault Refusal := .next (issue [] false waitBody s)

end Sys2Proof.Machine
end

