-- ==== Sys2Proof/Machine/Services.lean ====
section
/-! DEFINITION. The services an applet calls, and its budget intervals (18 R709 to R712, Table 18-10; 20 R791, R792). -/

namespace Sys2Proof.Machine

open Sys2Proof

/-- General register `i` as the service finds and leaves it. -/
def arg (s : State) (i : Fin 16) : Word := s.core.g[i]

/-- Put a result into a register. -/
def res (s : State) (i : Fin 16) (v : Nat) : State := { s with core.g := s.core.g.set i (BitVec.ofNat 32 v) }

/-- Service `n` has been called and is to be served. -/
def svcReady (s : State) (n : Nat) : Bool :=
  fwRuns s && s.pw.state == .active && s.apl.inSvc && s.apl.svcPend && !s.apl.suspended && arg s 1 == BitVec.ofNat 32 n

/-- The firmware's code leaves the flags undefined (18 R709): a free value. -/
def freeFlags (s : State) : State :=
  let (v, s) := takeFree s
  setFlags s (flagsOf v)

/-- The service is done, with its status. -/
def svcEnd (s : State) (status : Nat) : State := freeFlags (res { s with apl.svcPend := false } 1 status)

/-- A service whose number FW 4.2 does not know has status 1 (18 Table 18-10). -/
def unknownSvc (s : State) : Bool :=
  fwRuns s && s.pw.state == .active && s.apl.inSvc && s.apl.svcPend && !s.apl.suspended && !knownSvc s.core.g[1]

/-- A service as a step. -/
def service (n : Nat) (body : State → State) (s : State) : Host.Outcome State Fault Refusal :=
  if svcReady s n then .next (body s) else .next s

/-! ## Address arguments (18 R711) -/

/-- The physical address of a range that lies in one applet region with the permission, aligned to 4 bytes. -/
def svcRange (s : State) (a : Word) (len perm : Nat) : Option Nat :=
  if a.toNat % 4 ≠ 0 then none
  else
    match findRegion s.mpu.ap.toList a.toNat with
    | none => none
    | some r =>
      match mpuCheck s true a.toNat perm with
      | .error _ => none
      | .ok p => if a.toNat + len ≤ rgnHi r + 1 ∧ inFence (p + len - 1) then some p else none

/-- Words written to a register block; one that names no register is passed over. -/
def svcWords : State → Nat → List Byte → Nat → State
  | s, _, _, 0 => s
  | s, p, b, n + 1 =>
    let s := match busWrite s true p (padTo 4 b) with
      | .ok t => t
      | .error _ => s
    svcWords s (p + 4) (b.drop 4) n

/-- Write a result buffer. -/
def svcWrite (s : State) (p : Nat) (b : List Byte) : State :=
  if inSram p then { s with mem := memPuts s.mem p b } else svcWords s p b ((b.length + 3) / 4)

/-- Read an argument buffer; a register that does not answer reads 0. -/
def svcRead (s : State) (p len : Nat) : List Byte :=
  if inSram p then memGets s.mem p len
  else
    ((List.range ((len + 3) / 4)).flatMap fun i =>
      match busRead s (p + 4 * i) 4 with
      | .ok (b, _) => b
      | .error _ => [0, 0, 0, 0]).take len

/-- Fill a buffer of a fixed size with these bytes: status 2 for a bad address. -/
def svcFill (s : State) (a : Word) (b : List Byte) : State :=
  match svcRange s a b.length 2 with
  | none => svcEnd s 2
  | some p => svcEnd (svcWrite s p b) 0

/-! ## The services -/

/-- `SVC_VERSION`. -/
def execSvcVersion (s : State) : Host.Outcome State Fault Refusal :=
  service 1 (fun s => svcEnd (res (res s 2 0x0402) 3 s.store.imgLen.toNat) 0) s

/-- `SVC_TIME`. -/
def execSvcTime (s : State) : Host.Outcome State Fault Refusal :=
  service 2 (fun s =>
    let u := uptimeUs s % 2 ^ 48
    svcEnd (res (res (res s 2 (u % 2 ^ 32)) 3 (u / 2 ^ 32)) 4 (chainMp s).toNat) 0) s

/-- `SVC_WAIT`: the applet is suspended until a snapshot is released or the time is over. -/
def execSvcWait (s : State) : Host.Outcome State Fault Refusal :=
  service 3 (fun s =>
    let t := (arg s 2).toNat
    if 1 ≤ t ∧ t ≤ 10000 then freeFlags { s with apl.suspended := true } else svcEnd s 1) s

/-- The timeout of `SVC_WAIT`. -/
def execSvcWaitTimeout (s : State) : Host.Outcome State Fault Refusal :=
  if running s && s.apl.suspended then .next (svcEnd { s with apl.suspended := false } 5) else .next s

/-- `SVC_SNAPSHOT` (14 R530). -/
def execSvcSnapshot (s : State) : Host.Outcome State Fault Refusal :=
  service 4 (fun s =>
    let g := (arg s 3).toNat
    let k := if g = 0 then s.acq.kept.head? else s.acq.kept.find? fun k => k.seq.toNat + 0x10000 == g
    if g ≠ 0 ∧ (g < 0x10000 ∨ 0x20000 ≤ g) then svcEnd s 1
    else if (svcRange s (arg s 2) 84 2).isNone then svcEnd s 2
    else
      match k with
      | none => svcEnd s 4
      | some k => svcFill s (arg s 2) (snapBytes k)) s

/-- `SVC_NTCSET` (07 R236). -/
def execSvcNtcset (s : State) : Host.Outcome State Fault Refusal :=
  service 5 (fun s =>
    if (svcRange s (arg s 2) 40 2).isNone then svcEnd s 2
    else
      match s.acq.ntcKept with
      | [] => svcEnd s 4
      | b :: _ => svcFill s (arg s 2) b) s

/-- A refusal: status 3 with the error code and its detail. -/
def svcRefuse (s : State) (code detail : Nat) : State := svcEnd (res (res s 2 code) 3 detail) 3

/-- `SVC_BAL_SUBMIT`: the checks of a host request (08 R283). -/
def execSvcBalSubmit (s : State) : Host.Outcome State Fault Refusal :=
  service 6 (fun s =>
    let n := (arg s 3).toNat
    if n = 0 ∨ 18 < n then svcEnd s 1
    else
      match svcRange s (arg s 2) (8 * n) 1 with
      | none => svcEnd s 2
      | some p =>
        let l := balRecs (svcRead s p (8 * n))
        match balRecsBad s l 0 with
        | some off => svcRefuse s 10 off
        | none =>
          if !s.prot.everRel then svcRefuse s 8 0x10
          else if balTestFails s l then svcRefuse s 8 0x11
          else svcEnd (balApply true s l) 0) s

/-- `SVC_BAL_CANCEL`: the applet's own requests of the named wells end (08 R282). -/
def execSvcBalCancel (s : State) : Host.Outcome State Fault Refusal :=
  service 7 (fun s =>
    if 2 ^ 18 ≤ (arg s 2).toNat then svcEnd s 1
    else svcEnd (balEnd s ((arg s 2).setWidth 18 &&& appletWells s) 3) 0) s

/-- `SVC_BAL_STAT`. -/
def execSvcBalStat (s : State) : Host.Outcome State Fault Refusal :=
  service 8 (fun s => svcFill s (arg s 2) (balStatBytes s)) s

/-- `SVC_MSG_GET`. -/
def execSvcMsgGet (s : State) : Host.Outcome State Fault Refusal :=
  service 9 (fun s =>
    match svcRange s (arg s 2) 240 2 with
    | none => svcEnd s 2
    | some p =>
      match s.apl.msgs with
      | [] => svcEnd s 4
      | w :: _ => svcEnd (res (svcWrite s p w.msg.payload) 3 w.msg.payload.length) 0) s

/-- `SVC_MSG_PUT`. -/
def execSvcMsgPut (s : State) : Host.Outcome State Fault Refusal :=
  service 10 (fun s =>
    let n := (arg s 3).toNat
    if 240 < n then svcEnd s 1
    else
      match (if n = 0 ∧ (arg s 2).toNat % 4 = 0 then some 0 else svcRange s (arg s 2) n 1), s.apl.msgs with
      | none, _ => svcEnd s 2
      | some _, [] => svcEnd s 4
      | some p, w :: t =>
        let b := if n = 0 then [] else svcRead s p n
        svcEnd (replyOk { s with apl.msgs := t } w.verb w.msg b) 0) s

/-- `SVC_NOTE`: at most ten in one second. -/
def execSvcNote (s : State) : Host.Outcome State Fault Refusal :=
  service 11 (fun s =>
    let n := (arg s 3).toNat
    if n = 0 ∨ 16 < n then svcEnd s 1
    else
      match svcRange s (arg s 2) n 1 with
      | none => svcEnd s 2
      | some p =>
        let recent := s.apl.notes.filter fun t => decide (s.now - t < 1000 * ctPerMs)
        if 10 ≤ recent.length then svcEnd s 4
        else
          let b := padTo 16 (svcRead s p n)
          svcEnd (jrnPut { s with apl.notes := s.now :: recent } false 0x4A ([BitVec.ofNat 8 n, 0, 0, 0] ++ b)) 0) s

/-- `SVC_PRECISE`: `SW.P` on return (18 R674). -/
def execSvcPrecise (s : State) : Host.Outcome State Fault Refusal :=
  service 12 (fun s =>
    let v := arg s 2
    if v = 0 then svcEnd { s with core.sysRet := s.core.sysRet &&& ~~~ 2#32 } 0
    else if v = 1 then svcEnd { s with core.sysRet := s.core.sysRet ||| 2#32 } 0
    else svcEnd s 1) s

/-- `SVC_EXIT`: the applet stops without a fault and the service does not return (18 R712); a stop for a fault that was
decided meanwhile takes effect (20 R788). -/
def execSvcExit (s : State) : Host.Outcome State Fault Refusal :=
  service 13 (fun s =>
    let (v, s) := takeFree s
    stopApplet { s with core.pc := v &&& ~~~ 3#32 } (s.apl.stopDue.getD [])) s

/-- A budget interval ends 100 ms after it began when no snapshot has been released (20 R791, R792). -/
def execBudgetIntervalEnd (s : State) : Host.Outcome State Fault Refusal :=
  if running s && decide (s.apl.ivAt + 100 * ctPerMs ≤ s.now) then .next (endInterval s) else .next s

end Sys2Proof.Machine
end

