-- ==== Sys2Proof/Machine/Sleep.lean ====
section
/-! DEFINITION. Lower power states: deciding, entering, patrol, and the return to ACTIVE (23). -/

namespace Sys2Proof.Machine

open Sys2Proof

/-- `T_SLEEP_LOSS` expires: an entry to PATROL, or to SLEEP without `PAT_CFG.EN`, is decided (23 R851, R853). -/
def execSleepLossExpire (s : State) : Host.Outcome State Fault Refusal :=
  if active s && s.pw.decided.isNone && !s.pw.sleepGone && fld s.cfg.tmrCfg 31 16 != 0 then
    .next { s with pw.sleepGone := true, pw.decTloss := true,
                   pw.decided := some (if bitOf s.cfg.patCfg 12 then .patrol else .sleep) }
  else .next s

/-! ## Entering (23 R846, R847, Table 23-2) -/

/-- A VERB frame that carries `PWR_SET`. -/
def isPwrSet (f : Frame) : Bool := f.type == 1 && leAt f.payload 0 2 == 0x0A01

/-- The frame that carried the request has been relayed, and a broadcast of it has left the north port (23 R846). A port that can
send nothing keeps nobody waiting. -/
def pwrRelayed (s : State) : Bool :=
  let waits (p : Port) : Bool :=
    let u := portOf s p
    portLive s p && (u.txq.any isPwrSet || (u.fwd.any fun w => isPwrSet w.frame)
      || (decide (s.now < u.txEnd) && match u.txNow with | some f => isPwrSet f | none => false))
  !waits .south && !waits .north

/-- A message that came by a frame still waits for its reply (13: in flight until its reply is placed). -/
def replyOwed (s : State) : Bool :=
  !s.tq.enabling.isEmpty || !s.tq.rdnWaits.isEmpty || !s.gate.waits.isEmpty || !s.bal.btest.isEmpty || !s.prot.ctest.isEmpty
    || s.chn.enum.isSome || s.chn.cal.isSome || !s.chn.calDone.isEmpty || !s.chn.brk.isEmpty || !s.apl.msgs.isEmpty
    || s.jrn.queue.any fun e => e.mark.isSome

/-- The entry may take place (23 R846). A service in progress completes first (20 R788), and an open list of causes closes (09 R330;
log 131). -/
def entryReady (s : State) : Bool :=
  !discOpen s && !(s.apl.inSvc && !s.apl.suspended) &&
  s.mbx.pairs.toList.all (fun p => !p.flight) && !replyOwed s && s.chn.unacked.all (fun u => u.frame.type != 2) && pwrRelayed s
    && !(isAnchor s && s.tq.ten)

/-- A port that has stopped frame transmission; what waited to be sent is gone. A burst or a break on its pair goes on (10 R377;
23 Table 23-2 step 7). -/
def portStopped (now : Nat) (u : PortUnit) : PortUnit :=
  { u with txq := [], fwd := [], txNow := none, relaying := false, rxBusy := false, cut := false,
           txEnd := if u.burstTx then u.txEnd else 0,
           endOut := if u.relaying || (decide (now < u.txEnd) && !u.burstTx) then some .missing else u.endOut }

/-- Steps 1 to 4: balancing ended, measurements discarded, connection and sessions closed, the applet stopped. A crossing that a
comparator self-test has hidden starts its deglitch (09 R298). `RDN_N` is high in every lower state (02 Table 2-2; 16 R639). -/
def entryQuiet (s : State) : State :=
  let s := dropTest (owEnd (openSwitches (balEnd s (BitVec.allOnes 18) 5)))
  let s := match s.prot.test with
    | some t => if t.cross then putDeg s t.w t.uv true else s
    | none => s
  let s := { s with acq.spans := [], acq.startRun := false, acq.startDue := false, acq.startDone := none,
                    acq.startOw := false, acq.req := none, acq.xcDue := false, bal.due := 0, prot.test := none,
                    aux.ntcRun := false, aux.ntcDone := false, aux.slots := 0, aux.tsa := false, aux.tsb := false, sch.ticks := [],
                    tq.rdnLow := false }
  let s := { connClose s 2 with safe.sess := Vector.replicate 4 none }
  if s.apl.state == .running then stopApplet { s with apl.stopDue := none } (s.apl.stopDue.getD []) else s

/-- Steps 5 to 8 (Table 23-2). The PLL and the crystal do not run in a lower state (05 Table 5-4). -/
def entrySteps (s : State) (target : PState) : State :=
  let late := s.pw.alarmDue
  let s := entryQuiet s
  let s := if target == .patrol then s else gateTurnOff s
  let s := jrnDrain (s.jrn.queue.length + 8) s
  let s := { s with sp := portStopped s.now s.sp, np := portStopped s.now s.np, chn.unacked := [], chn.win := none }
  let wake := if s.pw.decTloss then s.pw.wake ||| 0x40000#32 else s.pw.wake &&& ~~~ 0x40000#32
  let s := setRef { s with clk.pllLock := false, clk.xtalOk := false }
  let s := { s with pw.state := target, pw.wake := wake, pw.decided := none, pw.patSet := none, host.ready := false,
                    pw.lowAt := s.now, pw.patK := 0, pw.alarmDue := false, rst.wdRun := false,
                    mbx := if target == .shutdown then MbxUnit.reset else s.mbx }
  noteConditions (if late then startAlarm s else s)

/-- The conditions of 23 R846 hold: the device enters the lower state. -/
def execLowerStateEntry (s : State) : Host.Outcome State Fault Refusal :=
  match s.pw.decided with
  | none => .next s
  | some t => if active s && entryReady s then .next (entrySteps s t) else .next s

/-! ## Patrol (23 R854 to R860) -/

/-- A crossing of the patrol cell limits, where they are enabled (23 Table 23-4). -/
def patCell (c : CfgRegs) (v : Int) : Bool :=
  let hi := fld c.patCfg 23 16
  let lo := fld c.patCfg 31 24
  (hi != 0 && decide (v > 200000 + 1000 * hi)) || (lo != 0 && decide (v < 150000 + 1000 * lo))

/-- The thermistor words of a patrol cycle. -/
def patWords (s : State) (r : PatrolReading) : List Word :=
  let code (l : List Int) (n : Nat) : Nat := (clampI 0 65535 (l.getD n 0)).toNat
  let sat (c : Nat) : Bool := c == 0 || c == 65535
  let xc (v : Nat) : Bool := decide (47490 ≤ v) && decide (v ≤ 52013)
  (List.range 8).map fun n =>
    let a := code r.ntcA n
    let b := code r.ntcB n
    if n % 2 = 0 then ntcWordOf s.cfg.ntcCfg n a b (sat a) (xc r.xc3A) (xc r.xc3B)
    else ntcWordOf s.cfg.ntcCfg n b a (sat b) (xc r.xc3B) (xc r.xc3A)

/-- A thermistor word is a finding: a flag, or a code below `NTC_LIM` (23 R857). -/
def patNtcBad (s : State) (w : Word) : Bool :=
  let lim := fld s.cfg.balCfg 23 16
  !bitOf w 31 && (fld w 20 16 != 0 || (lim != 0 && decide (fld w 15 0 < lim * 256)))

/-- A die reading makes a finding (23 R857). -/
def patDie (t : Int) : Bool := decide (8640 ≤ t)

/-- XC4 passes (07 Table 7-11). -/
def patXc4 (v : Nat) : Bool := decide (2485000 ≤ v) && decide (v ≤ 2515000)

/-- XC3 passes (07 Table 7-11). -/
def patXc3 (v : Nat) : Bool := decide (47490 ≤ v) && decide (v ≤ 52013)

/-- `PCELL`, `PNTC`, `PDIE`, `PXC` of the first `n` of a check's four steps, cells, XC4, die sensors and thermistors: a finding
stands only where the measurement `r` and its repeat `again` both cross (23 R856 to R858, Table 23-6). -/
def patFindings (s : State) (r again : PatrolReading) (n : Nat) : Word :=
  let cell := (wellList (cellMask s.cfg)).any fun w =>
    patCell s.cfg (r.cells.getD w.val 0) && patCell s.cfg (again.cells.getD w.val 0)
  let xc4 := !patXc4 r.vrefc && !patXc4 again.vrefc
  let die := (List.range 4).any fun i => patDie (r.die.getD i 0) && patDie (again.die.getD i 0)
  let ntc := bitOf s.cfg.patCfg 13 &&
    ((patWords s r).zip (patWords s again)).any fun w => patNtcBad s w.1 && patNtcBad s w.2
  BitVec.ofNat 32 (64 * b2n (decide (1 ≤ n) && cell) + 128 * b2n (decide (4 ≤ n) && ntc) + 256 * b2n (decide (3 ≤ n) && die)
    + 512 * b2n (decide (2 ≤ n) && xc4))

/-- The thermistor words of a check: of a word that is a finding, its repeat (23 R858). -/
def patStanding (s : State) (r again : PatrolReading) : List Word :=
  ((patWords s r).zip (patWords s again)).map fun w => if patNtcBad s w.1 then w.2 else w.1

/-- What a check leaves beside its findings: XC4's run, the four die conversions, each repeated where it crosses and each followed by
XC5, and XC3 of both phases of its thermistor cycle (07 R240 to R243, Table 7-11; log 84). -/
def patRuns (s : State) (r again : PatrolReading) : State :=
  let s := xcRun s 3 (patXc4 r.vrefc || patXc4 again.vrefc)
  let conv (s : State) (n : Fin 4) (t : Int) : State := xc5Run (dieTake s n (BitVec.ofInt 16 t))
  let s := (List.finRange 4).foldl (fun s n =>
    let t := r.die.getD n.val 0
    let s := conv s n t
    if patDie t then conv s n (again.die.getD n.val 0) else s) s
  if bitOf s.cfg.patCfg 13 then
    let rep := (patWords s r).any (patNtcBad s)
    let ok (a b : Nat) : Bool := patXc3 a || (rep && patXc3 b)
    xc3Run (xc3Run s false (ok r.xc3A again.xc3A)) true (ok r.xc3B again.xc3B)
  else s

/-- The next check falls at entry + k × `PERIOD`, timed from the LFO, so up to 3 % early (23 R855, Table 23-5). -/
def patrolDue (s : State) : Bool :=
  decide (97 * ((s.pw.patK + 1) * fld s.cfg.patCfg 11 0) * 1000 * ctPerMs ≤ 100 * (s.now - s.pw.lowAt))

/-- One patrol check (23 R855 to R859). A wake cause that has arisen meanwhile has ended it after some of its four steps: its
results are discarded, but for the findings that stand by then (R860). -/
def execPatrolCheck (p : PatrolRun) (s : State) : Host.Outcome State Fault Refusal :=
  if !running s || s.pw.state != .patrol || !patrolDue s then .next s
  else
    let s := { s with pw.patK := s.pw.patK + 1 }
    let m := patFindings s p.first p.again (if s.pw.wakeDue then p.done.val else 4)
    let wake (s : State) : State := if m = 0 then s else wakeAlarm s m
    if s.pw.wakeDue then .next (wake s)
    else
      let n := s.aux.ntcCount + 1
      let s := if bitOf s.cfg.patCfg 13 then
          { s with aux.ntcCount := n, pw.patSet := some (ntcSetBytes (chainMp s) n true (patStanding s p.first p.again)) }
        else s
      .next (wake (noteConditions (patRuns s p.first p.again)))

/-! ## Return to ACTIVE (23 R861, R868 to R870) -/

/-- The set of the last completed patrol check is published (23 R861). -/
def publishPatrol (s : State) : State :=
  match s.pw.patSet with
  | none => s
  | some b =>
    let old := s.aux.ntcWord
    let words : Vector Word 8 := Vector.ofFn fun i => BitVec.ofNat 32 (leAt b (8 + 4 * i.val) 4)
    let s := { s with pw.patSet := none, aux.ntcWord := words, aux.ntcPub := true,
                      acq.ntcKept := (b :: s.acq.ntcKept).take 2 }
    ntcFlagRecords (List.finRange 8) (fun n => old[n]) s

/-- `WAKE_CAUSE.LAST`. -/
def setLast (s : State) (v : Nat) : State :=
  { s with pw.wake := (s.pw.wake &&& ~~~ 0x30000#32) ||| BitVec.ofNat 32 (v * 65536) }

/-- From PATROL or SLEEP (23 R851, R868, R870; 24 R883). `HWAKE_N`, released in SLEEP, falls now (02 Table 2-2; 12 R463). -/
def wakeUp (s : State) : State :=
  let s := setLast s (if s.pw.state == .patrol then 1 else 2)
  let s := { s with pw.state := .active, pw.wakeDue := false, pw.lossAt := s.now, pw.balGone := false,
                    pw.sleepGone := false, pw.firstBeat := isAnchor s, pw.wokeAt := s.now, rst.wdRun := true, rst.wdServed := s.now,
                    host.hwakeAt := if s.pw.state == .sleep then s.now else s.host.hwakeAt, core.waiting := false,
                    tim.aligned := false, tim.stepDue := true, tim.goodBeats := 0 }
  noteConditions (wakeTracker (publishPatrol s))

/-- A wake cause has arisen in a lower state: the device returns to ACTIVE; from SHUTDOWN by a full reset (23 R868, R869). -/
def execActiveEntry (s : State) : Host.Outcome State Fault Refusal :=
  if !running s || awake s || !s.pw.wakeDue then .next s
  else if s.pw.state == .shutdown then
    let s := setLast s 3
    .next (fullReset { s with pw.wake := s.pw.wake ||| 0x400#32 } 11)
  else .next (wakeUp s)

end Sys2Proof.Machine
end

