-- ==== Sys2Proof/Machine/Watchdog.lean ====
section
/-! DEFINITION. The core watchdog and the supervisions (24 R881 to R886), the journal's writer (22 R830), and writes to the
register buses (12; 20). -/

namespace Sys2Proof.Machine

open Sys2Proof

/-- The watchdog counts (24 R881). -/
def wdOn (s : State) : Bool := active s && s.rst.wdRun

/-- The 1 ms system tick of level 1 has run since an instant: it runs at whole milliseconds after reset release (24 R884; log
28). -/
def sysTicked (s : State) (since : Nat) : Bool :=
  (s.now - s.rst.releaseAt) / ctPerMs != (since - s.rst.releaseAt) / ctPerMs

/-- Firmware level 2 serves the watchdog (24 R884). -/
def execWatchdogServe (s : State) : Host.Outcome State Fault Refusal :=
  if wdOn s && fwRuns s && !s.rst.supFail && sysTicked s s.rst.wdServed then .next { s with rst.wdServed := s.now } else .next s

/-- The early warning raises entry 46, and FW 4.2 answers it with `FSTOP` 0xD000 (24 R882, R885). While `H` is 1, or a handler
of this or a lower level runs, the entry waits (24 Example 24-1; log 28). -/
def execWatchdogEarlyWarning (s : State) : Host.Outcome State Fault Refusal :=
  if !wdOn s then .next s
  else if fwOn s && !swH s.core.sw && decide (46 < swLvl s.core.sw) then .next (fwStop (irqRaise s 46) 0xD000)
  else .next (irqRaise s 46)

/-- The watchdog expires (24 R882). -/
def execWatchdogExpire (s : State) : Host.Outcome State Fault Refusal :=
  if wdOn s then .next (fullReset s 7) else .next s

/-- The codes of 24 Table 24-4; a well adds its number to 0xD400. -/
def supCode (c : BitVec 16) : Bool :=
  [0xD100, 0xD200, 0xD300, 0xD301, 0xD500, 0xD600, 0xD601, 0xD700, 0xD800, 0xD900].contains c.toNat
    || (decide (0xD401 ≤ c.toNat) && decide (c.toNat ≤ 0xD412))

/-- A supervised function misses its deadline: `FSTOP` with its code (24 R886). -/
def execSupervisionFail (code : BitVec 16) (s : State) : Host.Outcome State Fault Refusal :=
  if fwOn s && supCode code then .next (fwStop { s with rst.supFail := true } (code.setWidth 32)) else .next s

/-- One queued journal entry is written (22 R830). -/
def execJournalWrite (s : State) : Host.Outcome State Fault Refusal :=
  if fwRuns s && !s.jrn.queue.isEmpty && !causesOpen s then .next (irqRaise (jrnWriteOne s) 43) else .next s

/-- A register write through the host window, at a byte address of the window. It stands for the write with its reply, so that a new
baud rate is in effect after it (12 R451). -/
def hostBusWrite (s : State) (h : HPort) (a : Nat) (v : Word) : State :=
  if !hostOn s then s
  else if a / 4 = 6 then if s.host.ready then (mbWrite s h (v.setWidth 8)).1 else portError s h
  else
    let t := (hostRegWrite s h (a / 4) v).1
    if a / 4 = 9 then { t with host.baud := t.host.baudReg } else t

/-- A word that the core's present mode writes over its bus, as a store does: a refused access raises its entry (20 R756, R763 to
R766, R778; 21 R797, R798). -/
def coreBusWrite (s : State) (a v : Word) : State :=
  if !coreOn s || impDue s then s
  else
    match coreStore s a (leBytes 4 v.toNat) 2 with
    | .error f => raiseSync s f
    | .ok t => t

/-- A register write over a bus (00 R11; 12 R436; 20 R756). -/
def execRegisterWrite (bus : RegBus) (addr v : Word) (s : State) : Host.Outcome State Fault Refusal :=
  match bus with
  | .host p => .next (hostBusWrite s p (addr.toNat % 128) v)
  | .core => .next (coreBusWrite s addr v)

end Sys2Proof.Machine
end

