-- ==== Sys2Proof/Machine/Dispatch.lean ====
section
/-! DEFINITION. The dispatch of the commands: one arm per constructor of Instr, in the opcode table's order. -/

namespace Sys2Proof.Machine

open Sys2Proof

/-- The effect of one command on everything but the queue. -/
def exec (i : Instr) (s : State) : Host.Outcome State Fault Refusal :=
  match i with
  | .powerOnReset => Sys2Proof.Machine.execPowerOnReset s
  | .vstackFaultDriveThreshold rising => Sys2Proof.Machine.execVstackFaultDriveThreshold rising s
  | .brownOut => Sys2Proof.Machine.execBrownOut s
  | .internalRailFail => Sys2Proof.Machine.execInternalRailFail s
  | .resetNAssert => Sys2Proof.Machine.execResetNAssert s
  | .resetRelease testHigh => Sys2Proof.Machine.execResetRelease testHigh s
  | .pllLock => Sys2Proof.Machine.execPllLock s
  | .sealCheck => Sys2Proof.Machine.execSealCheck s
  | .startupAcquisition => Sys2Proof.Machine.execStartupAcquisition s
  | .startupAcqRepeat => Sys2Proof.Machine.execStartupAcqRepeat s
  | .startupEvaluation => Sys2Proof.Machine.execStartupEvaluation s
  | .vioLoss => Sys2Proof.Machine.execVioLoss s
  | .vioReturn => Sys2Proof.Machine.execVioReturn s
  | .vportLoss => Sys2Proof.Machine.execVportLoss s
  | .vportReturn => Sys2Proof.Machine.execVportReturn s
  | .portOperational p => Sys2Proof.Machine.execPortOperational p s
  | .crystalGood => Sys2Proof.Machine.execCrystalGood s
  | .crystalFail => Sys2Proof.Machine.execCrystalFail s
  | .clockSupervisionCheck a b c => Sys2Proof.Machine.execClockSupervisionCheck a b c s
  | .beatSend => Sys2Proof.Machine.execBeatSend s
  | .alignTimeout => Sys2Proof.Machine.execAlignTimeout s
  | .orphanTimeout => Sys2Proof.Machine.execOrphanTimeout s
  | .encoderEdge a b => Sys2Proof.Machine.execEncoderEdge a b s
  | .indexEdge => Sys2Proof.Machine.execIndexEdge s
  | .zeroCross => Sys2Proof.Machine.execZeroCross s
  | .phaseStall => Sys2Proof.Machine.execPhaseStall s
  | .instantFix point => Sys2Proof.Machine.execInstantFix point s
  | .tickFrameSend => Sys2Proof.Machine.execTickFrameSend s
  | .cancelFrameSend => Sys2Proof.Machine.execCancelFrameSend s
  | .strobeFire tseq => Sys2Proof.Machine.execStrobeFire tseq s
  | .resultReady r => Sys2Proof.Machine.execResultReady r s
  | .resultReleaseTimeout => Sys2Proof.Machine.execResultReleaseTimeout s
  | .onrequestAcquisition => Sys2Proof.Machine.execOnrequestAcquisition s
  | .openWireStart => Sys2Proof.Machine.execOpenWireStart s
  | .openWireForced => Sys2Proof.Machine.execOpenWireForced s
  | .openWireDone ref test => Sys2Proof.Machine.execOpenWireDone ref test s
  | .xc1Xc2Run xc1 xc2 => Sys2Proof.Machine.execXc1Xc2Run xc1 xc2 s
  | .xc4Run microvolts => Sys2Proof.Machine.execXc4Run microvolts s
  | .scTrip ispHigh => Sys2Proof.Machine.execScTrip ispHigh s
  | .scSelfTestDone trip01 trip10 => Sys2Proof.Machine.execScSelfTestDone trip01 trip10 s
  | .ntcCycleStart => Sys2Proof.Machine.execNtcCycleStart s
  | .ntcPhaseStart => Sys2Proof.Machine.execNtcPhaseStart s
  | .ntcConversion code => Sys2Proof.Machine.execNtcConversion code s
  | .ntcSetPublish => Sys2Proof.Machine.execNtcSetPublish s
  | .dieConversion n t => Sys2Proof.Machine.execDieConversion n t s
  | .balFrame => Sys2Proof.Machine.execBalFrame s
  | .balGrantExpire w => Sys2Proof.Machine.execBalGrantExpire w s
  | .balTimeElapsed w => Sys2Proof.Machine.execBalTimeElapsed w s
  | .switchTestStart => Sys2Proof.Machine.execSwitchTestStart s
  | .switchTestPeriodic => Sys2Proof.Machine.execSwitchTestPeriodic s
  | .switchTestDone r => Sys2Proof.Machine.execSwitchTestDone r s
  | .balLossExpire => Sys2Proof.Machine.execBalLossExpire s
  | .comparatorCrossing w uv across => Sys2Proof.Machine.execComparatorCrossing w uv across s
  | .comparatorTrip w uv => Sys2Proof.Machine.execComparatorTrip w uv s
  | .comparatorRelease w uv => Sys2Proof.Machine.execComparatorRelease w uv s
  | .cmpSelfTestStart w uv => Sys2Proof.Machine.execCmpSelfTestStart w uv s
  | .cmpTestWindowEnd => Sys2Proof.Machine.execCmpTestWindowEnd s
  | .ovHoldoffExpire => Sys2Proof.Machine.execOvHoldoffExpire s
  | .gateRampStart => Sys2Proof.Machine.execGateRampStart s
  | .gateCheckpoint vds scTrip => Sys2Proof.Machine.execGateCheckpoint vds scTrip s
  | .gateVdsSample vds => Sys2Proof.Machine.execGateVdsSample vds s
  | .gateTurnoffStageEnd => Sys2Proof.Machine.execGateTurnoffStageEnd s
  | .faultFrameTimer => Sys2Proof.Machine.execFaultFrameTimer s
  | .faultFrameRepeat => Sys2Proof.Machine.execFaultFrameRepeat s
  | .frameRelayStart p g => Sys2Proof.Machine.execFrameRelayStart p g s
  | .frameEndReceived p r => Sys2Proof.Machine.execFrameEndReceived p r s
  | .storeForwardSend p => Sys2Proof.Machine.execStoreForwardSend p s
  | .verbFrameReceived p f => Sys2Proof.Machine.execVerbFrameReceived p f s
  | .replyFrameReceived p f => Sys2Proof.Machine.execReplyFrameReceived p f s
  | .ackReceived p f => Sys2Proof.Machine.execAckReceived p f s
  | .tickReceived p f at_ => Sys2Proof.Machine.execTickReceived p f at_ s
  | .beatReceived p f at_ => Sys2Proof.Machine.execBeatReceived p f at_ s
  | .cancelReceived p f => Sys2Proof.Machine.execCancelReceived p f s
  | .enumReceived p f => Sys2Proof.Machine.execEnumReceived p f s
  | .enumReplyTimeout => Sys2Proof.Machine.execEnumReplyTimeout s
  | .calReceived p f arrive depart flock => Sys2Proof.Machine.execCalReceived p f arrive depart flock s
  | .recordFrameReceived p f => Sys2Proof.Machine.execRecordFrameReceived p f s
  | .faultFrameReceived p f => Sys2Proof.Machine.execFaultFrameReceived p f s
  | .frameTransmit p => Sys2Proof.Machine.execFrameTransmit p s
  | .collisionDetect p => Sys2Proof.Machine.execCollisionDetect p s
  | .retransmitTimeout lseq => Sys2Proof.Machine.execRetransmitTimeout lseq s
  | .windowSlotSend => Sys2Proof.Machine.execWindowSlotSend s
  | .sweepSend => Sys2Proof.Machine.execSweepSend s
  | .burstDetect p => Sys2Proof.Machine.execBurstDetect p s
  | .burstRelay p => Sys2Proof.Machine.execBurstRelay p s
  | .alarmBurstSend => Sys2Proof.Machine.execAlarmBurstSend s
  | .alarmBurstRepeat p => Sys2Proof.Machine.execAlarmBurstRepeat p s
  | .wakeBurstSend => Sys2Proof.Machine.execWakeBurstSend s
  | .breakRecognise p => Sys2Proof.Machine.execBreakRecognise p s
  | .breakRelayEnd p => Sys2Proof.Machine.execBreakRelayEnd p s
  | .breakEnd p => Sys2Proof.Machine.execBreakEnd p s
  | .hcsWake => Sys2Proof.Machine.execHcsWake s
  | .spiTransaction bytes partialBits => Sys2Proof.Machine.execSpiTransaction bytes partialBits s
  | .uartRequest r => Sys2Proof.Machine.execUartRequest r s
  | .uartByteTimeout => Sys2Proof.Machine.execUartByteTimeout s
  | .hostMbselWrite h v => Sys2Proof.Machine.execHostMbselWrite h v s
  | .hostMbdataWrite h b => Sys2Proof.Machine.execHostMbdataWrite h b s
  | .hostMbdataRead h => Sys2Proof.Machine.execHostMbdataRead h s
  | .mailboxRing h v => Sys2Proof.Machine.execMailboxRing h v s
  | .hostIrqClear h v => Sys2Proof.Machine.execHostIrqClear h v s
  | .hostIrqenWrite h v => Sys2Proof.Machine.execHostIrqenWrite h v s
  | .hostFltClear h v => Sys2Proof.Machine.execHostFltClear h v s
  | .hostUcfgWrite h v => Sys2Proof.Machine.execHostUcfgWrite h v s
  | .hostErrRead h => Sys2Proof.Machine.execHostErrRead h s
  | .hostReady => Sys2Proof.Machine.execHostReady s
  | .hwakeRelease => Sys2Proof.Machine.execHwakeRelease s
  | .claimLapse idx => Sys2Proof.Machine.execClaimLapse idx s
  | .mailboxTake => Sys2Proof.Machine.execMailboxTake s
  | .replyTimeout idx => Sys2Proof.Machine.execReplyTimeout idx s
  | .historyExpire idx => Sys2Proof.Machine.execHistoryExpire idx s
  | .idRead m => Sys2Proof.Machine.execIdRead m s
  | .idFactory m => Sys2Proof.Machine.execIdFactory m s
  | .cfgRead m => Sys2Proof.Machine.execCfgRead m s
  | .cfgWrite m => Sys2Proof.Machine.execCfgWrite m s
  | .registerWrite bus addr v => Sys2Proof.Machine.execRegisterWrite bus addr v s
  | .cfgLogin m => Sys2Proof.Machine.execCfgLogin m s
  | .cfgLogout m => Sys2Proof.Machine.execCfgLogout m s
  | .cfgPasswd m => Sys2Proof.Machine.execCfgPasswd m s
  | .cfgFactory m => Sys2Proof.Machine.execCfgFactory m s
  | .sessionLapse idx => Sys2Proof.Machine.execSessionLapse idx s
  | .lockoutExpire => Sys2Proof.Machine.execLockoutExpire s
  | .acqStart m => Sys2Proof.Machine.execAcqStart m s
  | .acqRead m => Sys2Proof.Machine.execAcqRead m s
  | .acqFetch m => Sys2Proof.Machine.execAcqFetch m s
  | .balSet m => Sys2Proof.Machine.execBalSet m s
  | .balStop m => Sys2Proof.Machine.execBalStop m s
  | .balStat m => Sys2Proof.Machine.execBalStat m s
  | .balTest m => Sys2Proof.Machine.execBalTest m s
  | .balTestTimeout => Sys2Proof.Machine.execBalTestTimeout s
  | .gateOn m => Sys2Proof.Machine.execGateOn m s
  | .gateOff m => Sys2Proof.Machine.execGateOff m s
  | .gateRearm m => Sys2Proof.Machine.execGateRearm m s
  | .protStat m => Sys2Proof.Machine.execProtStat m s
  | .cmpTest m => Sys2Proof.Machine.execCmpTest m s
  | .chainEnum m => Sys2Proof.Machine.execChainEnum m s
  | .chainCal m => Sys2Proof.Machine.execChainCal m s
  | .chainStream m => Sys2Proof.Machine.execChainStream m s
  | .chainStat m => Sys2Proof.Machine.execChainStat m s
  | .chainCrumb m => Sys2Proof.Machine.execChainCrumb m s
  | .chainBreak m => Sys2Proof.Machine.execChainBreak m s
  | .chainBreakEnd => Sys2Proof.Machine.execChainBreakEnd s
  | .safeConfirm m => Sys2Proof.Machine.execSafeConfirm m s
  | .safeStat m => Sys2Proof.Machine.execSafeStat m s
  | .safeOpen m => Sys2Proof.Machine.execSafeOpen m s
  | .safeClose m => Sys2Proof.Machine.execSafeClose m s
  | .safeCycle m => Sys2Proof.Machine.execSafeCycle m s
  | .safeTen m => Sys2Proof.Machine.execSafeTen m s
  | .safeRdn m => Sys2Proof.Machine.execSafeRdn m s
  | .safeSto m => Sys2Proof.Machine.execSafeSto m s
  | .safeEnergy m => Sys2Proof.Machine.execSafeEnergy m s
  | .jrnRead m => Sys2Proof.Machine.execJrnRead m s
  | .jrnHead m => Sys2Proof.Machine.execJrnHead m s
  | .jrnRelease m => Sys2Proof.Machine.execJrnRelease m s
  | .jrnMark m => Sys2Proof.Machine.execJrnMark m s
  | .aplLoad m => Sys2Proof.Machine.execAplLoad m s
  | .aplCommit m => Sys2Proof.Machine.execAplCommit m s
  | .aplStart m => Sys2Proof.Machine.execAplStart m s
  | .aplStop m => Sys2Proof.Machine.execAplStop m s
  | .aplStat m => Sys2Proof.Machine.execAplStat m s
  | .aplMsg m => Sys2Proof.Machine.execAplMsg m s
  | .aplMsgTimeout => Sys2Proof.Machine.execAplMsgTimeout s
  | .aplErase m => Sys2Proof.Machine.execAplErase m s
  | .pwrSet m => Sys2Proof.Machine.execPwrSet m s
  | .pwrStat m => Sys2Proof.Machine.execPwrStat m s
  | .pwrWakeclr m => Sys2Proof.Machine.execPwrWakeclr m s
  | .pwrKeep m => Sys2Proof.Machine.execPwrKeep m s
  | .diagInfo m => Sys2Proof.Machine.execDiagInfo m s
  | .diagScan m => Sys2Proof.Machine.execDiagScan m s
  | .reset m => Sys2Proof.Machine.execReset m s
  | .resetVerbTimeout => Sys2Proof.Machine.execResetVerbTimeout s
  | .timeExpectationExpire => Sys2Proof.Machine.execTimeExpectationExpire s
  | .stopNLow => Sys2Proof.Machine.execStopNLow s
  | .energyDecision a b => Sys2Proof.Machine.execEnergyDecision a b s
  | .decisionTimerExpire => Sys2Proof.Machine.execDecisionTimerExpire s
  | .tenRise => Sys2Proof.Machine.execTenRise s
  | .tenReadbackCheck a b => Sys2Proof.Machine.execTenReadbackCheck a b s
  | .commaPulse chB => Sys2Proof.Machine.execCommaPulse chB s
  | .commaPulseEnd chB => Sys2Proof.Machine.execCommaPulseEnd chB s
  | .readbackFault chB => Sys2Proof.Machine.execReadbackFault chB s
  | .rundownCheck a b => Sys2Proof.Machine.execRundownCheck a b s
  | .rundownTimeLimit => Sys2Proof.Machine.execRundownTimeLimit s
  | .smRundownLimitBackup => Sys2Proof.Machine.execSmRundownLimitBackup s
  | .exceptionEntry => Sys2Proof.Machine.execExceptionEntry s
  | .fullStopTimerExpire => Sys2Proof.Machine.execFullStopTimerExpire s
  | .divideComplete => Sys2Proof.Machine.execDivideComplete s
  | .storeDrain busErr => Sys2Proof.Machine.execStoreDrain busErr s
  | .waitEnd => Sys2Proof.Machine.execWaitEnd s
  | .add rd ra rb flags => Sys2Proof.Machine.execAdd rd ra rb flags s
  | .sub rd ra rb flags => Sys2Proof.Machine.execSub rd ra rb flags s
  | .and rd ra rb flags => Sys2Proof.Machine.execAnd rd ra rb flags s
  | .or rd ra rb flags => Sys2Proof.Machine.execOr rd ra rb flags s
  | .xor rd ra rb flags => Sys2Proof.Machine.execXor rd ra rb flags s
  | .andn rd ra rb flags => Sys2Proof.Machine.execAndn rd ra rb flags s
  | .sll rd ra rb flags => Sys2Proof.Machine.execSll rd ra rb flags s
  | .srl rd ra rb flags => Sys2Proof.Machine.execSrl rd ra rb flags s
  | .sra rd ra rb flags => Sys2Proof.Machine.execSra rd ra rb flags s
  | .ror rd ra rb flags => Sys2Proof.Machine.execRor rd ra rb flags s
  | .mul rd ra rb flags => Sys2Proof.Machine.execMul rd ra rb flags s
  | .mulhs rd ra rb flags => Sys2Proof.Machine.execMulhs rd ra rb flags s
  | .mulhu rd ra rb flags => Sys2Proof.Machine.execMulhu rd ra rb flags s
  | .addt rd ra rb flags => Sys2Proof.Machine.execAddt rd ra rb flags s
  | .subt rd ra rb flags => Sys2Proof.Machine.execSubt rd ra rb flags s
  | .mult rd ra rb flags => Sys2Proof.Machine.execMult rd ra rb flags s
  | .divs rd ra rb => Sys2Proof.Machine.execDivs rd ra rb s
  | .divu rd ra rb => Sys2Proof.Machine.execDivu rd ra rb s
  | .rems rd ra rb => Sys2Proof.Machine.execRems rd ra rb s
  | .remu rd ra rb => Sys2Proof.Machine.execRemu rd ra rb s
  | .slt rd ra rb flags => Sys2Proof.Machine.execSlt rd ra rb flags s
  | .sltu rd ra rb flags => Sys2Proof.Machine.execSltu rd ra rb flags s
  | .addi rd ra imm => Sys2Proof.Machine.execAddi rd ra imm s
  | .andi rd ra imm => Sys2Proof.Machine.execAndi rd ra imm s
  | .ori rd ra imm => Sys2Proof.Machine.execOri rd ra imm s
  | .xori rd ra imm => Sys2Proof.Machine.execXori rd ra imm s
  | .cmpi ra imm => Sys2Proof.Machine.execCmpi ra imm s
  | .shiSll rd ra amount => Sys2Proof.Machine.execShiSll rd ra amount s
  | .shiSrl rd ra amount => Sys2Proof.Machine.execShiSrl rd ra amount s
  | .shiSra rd ra amount => Sys2Proof.Machine.execShiSra rd ra amount s
  | .shiRor rd ra amount => Sys2Proof.Machine.execShiRor rd ra amount s
  | .lui rd imm => Sys2Proof.Machine.execLui rd imm s
  | .ldw rd ra imm => Sys2Proof.Machine.execLdw rd ra imm s
  | .ldh rd ra imm => Sys2Proof.Machine.execLdh rd ra imm s
  | .ldhu rd ra imm => Sys2Proof.Machine.execLdhu rd ra imm s
  | .ldb rd ra imm => Sys2Proof.Machine.execLdb rd ra imm s
  | .ldbu rd ra imm => Sys2Proof.Machine.execLdbu rd ra imm s
  | .stw rs ra imm => Sys2Proof.Machine.execStw rs ra imm s
  | .sth rs ra imm => Sys2Proof.Machine.execSth rs ra imm s
  | .stb rs ra imm => Sys2Proof.Machine.execStb rs ra imm s
  | .bc cond off => Sys2Proof.Machine.execBc cond off s
  | .call off => Sys2Proof.Machine.execCall off s
  | .jmpr rd ra imm => Sys2Proof.Machine.execJmpr rd ra imm s
  | .bmov rd ra rb => Sys2Proof.Machine.execBmov rd ra rb s
  | .bfil rd ra rb => Sys2Proof.Machine.execBfil rd ra rb s
  | .mfc rd cr => Sys2Proof.Machine.execMfc rd cr s
  | .mtc cr rs => Sys2Proof.Machine.execMtc cr rs s
  | .sysCtlSwi => Sys2Proof.Machine.execSysCtlSwi s
  | .sysCtlEspl => Sys2Proof.Machine.execSysCtlEspl s
  | .setf ra => Sys2Proof.Machine.execSetf ra s
  | .getf rd => Sys2Proof.Machine.execGetf rd s
  | .sync => Sys2Proof.Machine.execSync s
  | .enter => Sys2Proof.Machine.execEnter s
  | .leave => Sys2Proof.Machine.execLeave s
  | .rfe => Sys2Proof.Machine.execRfe s
  | .fstop => Sys2Proof.Machine.execFstop s
  | .brk code => Sys2Proof.Machine.execBrk code s
  | .wait => Sys2Proof.Machine.execWait s
  | .svcVersion => Sys2Proof.Machine.execSvcVersion s
  | .svcTime => Sys2Proof.Machine.execSvcTime s
  | .svcWait => Sys2Proof.Machine.execSvcWait s
  | .svcWaitTimeout => Sys2Proof.Machine.execSvcWaitTimeout s
  | .svcSnapshot => Sys2Proof.Machine.execSvcSnapshot s
  | .svcNtcset => Sys2Proof.Machine.execSvcNtcset s
  | .svcBalSubmit => Sys2Proof.Machine.execSvcBalSubmit s
  | .svcBalCancel => Sys2Proof.Machine.execSvcBalCancel s
  | .svcBalStat => Sys2Proof.Machine.execSvcBalStat s
  | .svcMsgGet => Sys2Proof.Machine.execSvcMsgGet s
  | .svcMsgPut => Sys2Proof.Machine.execSvcMsgPut s
  | .svcNote => Sys2Proof.Machine.execSvcNote s
  | .svcPrecise => Sys2Proof.Machine.execSvcPrecise s
  | .svcExit => Sys2Proof.Machine.execSvcExit s
  | .budgetIntervalEnd => Sys2Proof.Machine.execBudgetIntervalEnd s
  | .dmaStart n => Sys2Proof.Machine.execDmaStart n s
  | .dmaAbort n => Sys2Proof.Machine.execDmaAbort n s
  | .dmaResume n => Sys2Proof.Machine.execDmaResume n s
  | .dmaTrigger trig => Sys2Proof.Machine.execDmaTrigger trig s
  | .dmaBurst => Sys2Proof.Machine.execDmaBurst s
  | .ceStart m => Sys2Proof.Machine.execCeStart m s
  | .ceAbort m => Sys2Proof.Machine.execCeAbort m s
  | .ceBurst => Sys2Proof.Machine.execCeBurst s
  | .romScanStart => Sys2Proof.Machine.execRomScanStart s
  | .configScanStart => Sys2Proof.Machine.execConfigScanStart s
  | .journalWrite => Sys2Proof.Machine.execJournalWrite s
  | .sleepLossExpire => Sys2Proof.Machine.execSleepLossExpire s
  | .lowerStateEntry => Sys2Proof.Machine.execLowerStateEntry s
  | .patrolCheck r => Sys2Proof.Machine.execPatrolCheck r s
  | .activeEntry => Sys2Proof.Machine.execActiveEntry s
  | .firstBeatAfterWake => Sys2Proof.Machine.execFirstBeatAfterWake s
  | .watchdogServe => Sys2Proof.Machine.execWatchdogServe s
  | .watchdogEarlyWarning => Sys2Proof.Machine.execWatchdogEarlyWarning s
  | .watchdogExpire => Sys2Proof.Machine.execWatchdogExpire s
  | .supervisionFail code => Sys2Proof.Machine.execSupervisionFail code s
  | .hostFltLiveAgeOut bit => Sys2Proof.Machine.execHostFltLiveAgeOut bit s
  | .illegalOpcode w => Sys2Proof.Machine.execIllegalOpcode w s
  | .instructionFetchFault busErr => Sys2Proof.Machine.execInstructionFetchFault busErr s

end Sys2Proof.Machine
end

