-- ==== Sys2Proof/Machine/Tick.lean ====
section
/-! DEFINITION. What one ct of time does (05; log 1). -/

namespace Sys2Proof.Machine

open Sys2Proof

/-- A calibration that has not ended 5 s after its take ends then: what is left is reported in `FAILMAP` (14 R512; log 21). One that
has ended is answered once its result has left (R540). -/
def tickCal (s : State) : State :=
  let s := calReply s
  match s.chn.cal with
  | none => s
  | some c => if c.start + 5000 * ctPerMs ≤ s.now then calFinish s c else s

/-- `CYCLE` counts the core's clock, half the system clock, so 125 cycles in 256 ct, while the clock runs (05 Table 5-1; 18 Table
18-1; 19 R750). -/
def tickCycle (s : State) : State :=
  if s.core.waiting then s
  else
    let n := s.core.cycleFrac + 125
    { s with core.cycle := if n < 256 then s.core.cycle else s.core.cycle + 1, core.cycleFrac := n % 256 }

/-- The 1 ms system tick (18 Table 18-6). -/
def tickMs (s : State) : State := if (s.now - s.rst.releaseAt) % ctPerMs = 0 then irqRaise s 39 else s

/-- What the firmware does by itself: its steps in the full stop (18 R704), the `FSTOP` with which it answers a fault of its own (20
R789), the status of an unknown service (18 Table 18-10), and in STANDBY the `WAIT` when no work waits (23 R843). -/
def tickFw (s : State) : State :=
  if s.core.fstop then (if s.clk.coreDead then s else fstopSteps s)
  else if !fwOn s then s
  else
    match s.core.owed with
    | some c => fwStop { s with core.owed := none } c
    | none =>
      if unknownSvc s then svcEnd s 1
      else if s.pw.state == .standby && !handlerRuns s && !workWaits s && pendBits s &&& enableBits s == 0 then
        { s with core.waiting := true }
      else s

/-- One period of the strobe distributor passes (log 1). -/
def tick (s : State) : State :=
  let s := { s with now := s.now + 1 }
  let s := if running s then tickBreak s else s
  if active s then
    tickFw <| tickReset <| tickCal <| tickApl <| tickStart <| tickXc <| tickOw <| tickBal <| tickPhase <| tickClk <| tickMs <| tickCycle
      { s with tim.cnt := s.tim.cnt + 1 }
  else s

end Sys2Proof.Machine
end

