-- ==== Sys2Proof/Machine/Pins.lean ====
section
/-! DEFINITION. The output pins, as the state drives them (02 Tables 2-2 and 2-3; 04 Table 4-3). -/

namespace Sys2Proof.Machine

open Sys2Proof

/-- What an output pin does. `data` is a port's own stream of bits. -/
inductive PinDrive where
  | z | low | high | data
deriving DecidableEq, Repr

/-- What `GATE` does (02 Table 2-3; 09 Table 9-5): the passive pull-down, the clamp, the ramp, the on level, or sinking. -/
inductive GateDrive where
  | pulldown | clamp | rising | on | sinking
deriving DecidableEq, Repr

/-- What a port does on its pair (04 Table 4-3; 02 Table 2-2): termination off, energy detection only, detection and alarm bursts,
receiving frames only, or running. -/
inductive PortDrive where
  | off | wake | wakeAlarm | receive | run
deriving DecidableEq, Repr

/-- Reset is held because `TEST` is high: no output is driven (02 R45). -/
def testHeld (s : State) : Bool := s.rst.held && s.rst.test

/-- The outputs have left the columns before reset release (04 Table 4-3, R113). -/
def outRun (s : State) : Bool := s.sup.por && !s.rst.held

/-- A `VIO`-domain output: high-impedance without `VIO` and until reset release (02 R44; 04 R109, Table 4-3). -/
def vioPin (s : State) (d : PinDrive) : PinDrive := if outRun s && s.sup.vio then d else .z

/-- `FAULT_N`, open drain on `VAON`. -/
def pinFaultN (s : State) : PinDrive := if faultLow s then .low else .z

/-- `TEN_A` or `TEN_B`: low in PATROL and SLEEP, high-impedance in SHUTDOWN; a comma pulse takes its own output low (16 R606). -/
def pinTen (s : State) (pulse : Bool) : PinDrive :=
  vioPin s (if s.pw.state = .shutdown then .z else if awake s && isAnchor s && s.tq.ten && !pulse then .high else .low)

/-- `TEN_A`. -/
def pinTenA (s : State) : PinDrive := pinTen s s.tq.pulseA

/-- `TEN_B`. -/
def pinTenB (s : State) : PinDrive := pinTen s s.tq.pulseB

/-- `RDN_N`: high in PATROL and SLEEP and on a device that is not the anchor (R40), high-impedance in SHUTDOWN. -/
def pinRdnN (s : State) : PinDrive :=
  vioPin s (if s.pw.state = .shutdown then .z else if awake s && isAnchor s && s.tq.rdnLow then .low else .high)

/-- `HSDO`: driven while `HCS_N` selects the device in ACTIVE or STANDBY. -/
def pinHsdo (s : State) : PinDrive := vioPin s (if awake s && !s.sup.hcsN then .data else .z)

/-- `HTX`: idle high, but for the frames of the UART port in ACTIVE and STANDBY; high-impedance in SHUTDOWN. -/
def pinHtx (s : State) : PinDrive :=
  vioPin s (if s.pw.state = .shutdown then .z else if awake s && decide (s.now < s.host.htxEnd) then .data else .high)

/-- `HIRQ_N`, open drain: released in the lower states. -/
def pinHirqN (s : State) : PinDrive := vioPin s (if awake s && hirq s then .low else .z)

/-- `HWAKE_N`, open drain on `VAON`: it works without `VIO`, and is released in SLEEP and SHUTDOWN. -/
def pinHwakeN (s : State) : PinDrive :=
  if outRun s && (awake s || s.pw.state = .patrol) && s.host.hwake then .low else .z

/-- `GPIO0` to `GPIO3`: inputs until the host configures them, for which the spec gives no means; what they keep in PATROL is that
(02 Table 2-3; log 111). -/
def pinGpio (_ : State) : PinDrive := .z

/-- `TSA` and `TSB`: not driven below the power-on reset, low until release and where a state does not drive them. -/
def pinTs (s : State) (driven : Bool) : PinDrive :=
  if !s.sup.por || testHeld s then .z else if outRun s && driven then .high else .low

/-- A balancing switch or driver conducts, granted or held closed by a switch test (08 R275). -/
def pinBal (s : State) (w : Well) : Bool := outRun s && awake s && hasW (s.bal.closed ||| s.bal.testOn) w

/-- `GATE`. -/
def pinGate (s : State) : GateDrive :=
  if !s.sup.por || testHeld s || (s.pw.state = .shutdown ∧ s.gate.state ≠ .turnoff) then .pulldown
  else match s.gate.state with
    | .ramp => .rising
    | .on => .on
    | .turnoff => .sinking
    | _ => .clamp

/-- The charge pump runs. -/
def pinCp (s : State) : Bool := outRun s && s.gate.cp && (awake s || s.pw.state = .patrol)

/-- The crystal amplifier runs: `CLK_CFG.XTAL_EN` in ACTIVE and STANDBY (05 Table 5-2). -/
def pinXout (s : State) : Bool := outRun s && awake s && bitOf s.cfg.clkCfg 1

/-- A port on its pair. A disabled one is off (10 R340), an enabled one without `VPORT` keeps its energy detector only (R343). -/
def pinPort (s : State) (p : Port) : PortDrive :=
  if !s.sup.por || testHeld s then .off
  else if !outRun s then .wake
  else if !portEnabled s p then .off
  else if !s.sup.vport then .wake
  else if awake s then (if sendLive s p then .run else .receive)
  else if s.pw.state = .patrol then .wakeAlarm
  else .wake

end Sys2Proof.Machine
end

