-- ==== Sys2Proof/WellFormed.lean ====
section
/-! DEFINITION. Which commands are well formed: the sizes and codes that the spec lets an event carry. The meanings are total
and do not rest on these checks. -/

namespace Sys2Proof

/-- A message carries at most 240 bytes (13 Table 13-1). -/
def Msg.wellFormed (m : Msg) : Bool := decide (m.payload.length ≤ 240)

/-- A frame of one of these types with at most 256 bytes (11 R380, Table 11-2). -/
def Frame.wellFormed (f : Frame) (types : List (BitVec 4)) : Bool := types.contains f.type && decide (f.payload.length ≤ 256)

/-- Header, payload and check are at most 266 bytes (11 Table 11-1), with delimiters 2680 symbols of EL2 or 4266 half bits of EL1. -/
def LineFrame.wellFormed (r : LineFrame) : Bool :=
  decide (r.levels.length ≤ (match r.gen with | .el1 => 4266 | .el2 => 2680))

/-- The readings of one patrol check (23 R856): 18 cells, 4 die sensors, 8 thermistors in each phase. -/
def PatrolReading.wellFormed (r : PatrolReading) : Bool :=
  decide (r.cells.length ≤ 18) && r.die.length == 4 && r.ntcA.length == 8 && r.ntcB.length == 8

/-- Three registers are distinct. -/
def distinct3 (a b c : Fin 16) : Bool := a != b && a != c && b != c

/-- By how many ct 8 ms on the clock of the safety monitor differ from 1,572,864 ct: within 5 %, which takes in the ±2 % of the safety
RC oscillator and the ±1 % of the main RC oscillator with its steering (05 Table 5-1). -/
def driftOk (d : Nat) : Bool := decide (d ≤ 78643)

/-- The command is one that the spec gives. -/
def Instr.wellFormed : Instr → Bool
  | .resultReady r => decide (r.length ≤ 19)
  | .uartRequest r => decide (r.gaps ≤ (r.bytes.length + 1) * 196608)
  | .openWireDone ref test => decide (ref.length ≤ 18) && decide (test.length ≤ 18)
  | .xc1Xc2Run xc1 _ => decide (xc1.length ≤ 18)
  | .switchTestDone r => decide (r.length ≤ 18)
  | .frameEndReceived _ r => r.wellFormed
  | .verbFrameReceived _ f => f.wellFormed [1]
  | .replyFrameReceived _ f => f.wellFormed [2]
  | .recordFrameReceived _ f => f.wellFormed [3, 0xB, 0xC]
  | .faultFrameReceived _ f => f.wellFormed [4]
  | .tickReceived _ f _ => f.wellFormed [5]
  | .beatReceived _ f _ => f.wellFormed [6]
  | .cancelReceived _ f => f.wellFormed [7]
  | .enumReceived _ f => f.wellFormed [8]
  | .calReceived _ f _ _ _ => f.wellFormed [9]
  | .ackReceived _ f => f.wellFormed [0xA]
  | .idRead m | .idFactory m | .cfgRead m | .cfgWrite m | .cfgLogin m | .cfgLogout m | .cfgPasswd m | .cfgFactory m
  | .acqStart m | .acqRead m | .acqFetch m | .balSet m | .balStop m | .balStat m | .balTest m
  | .gateOn m | .gateOff m | .gateRearm m | .protStat m | .cmpTest m
  | .chainEnum m | .chainCal m | .chainStream m | .chainStat m | .chainCrumb m | .chainBreak m
  | .safeConfirm m | .safeStat m | .safeOpen m | .safeClose m | .safeCycle m | .safeTen m | .safeRdn m | .safeSto m
  | .safeEnergy m | .jrnRead m | .jrnHead m | .jrnRelease m | .jrnMark m
  | .aplLoad m | .aplCommit m | .aplStart m | .aplStop m | .aplStat m | .aplMsg m | .aplErase m
  | .pwrSet m | .pwrStat m | .pwrWakeclr m | .pwrKeep m | .diagInfo m | .diagScan m | .reset m => m.wellFormed
  | .bc cond _ => cond != 15
  | .mfc _ cr => decide (cr.toNat ≤ 12)
  | .mtc cr _ => decide (cr.toNat ≤ 12)
  | .bmov rd ra rb => distinct3 rd ra rb && rd != 0 && ra != 0 && rb != 0
  | .bfil rd ra rb => distinct3 rd ra rb && rd != 0 && rb != 0
  | .dmaTrigger trig => decide (1 ≤ trig.toNat) && decide (trig.toNat ≤ 6)
  | .supervisionFail code =>
    [0xD100, 0xD200, 0xD300, 0xD301, 0xD500, 0xD600, 0xD601, 0xD700, 0xD800, 0xD900].contains code.toNat
      || (decide (0xD401 ≤ code.toNat) && decide (code.toNat ≤ 0xD412))
  | .energyDecision _ d => driftOk d
  | .rundownCheck _ d => driftOk d
  | .patrolCheck r => r.first.wellFormed && r.again.wellFormed
  | _ => true

end Sys2Proof
end

