-- ==== Sys2Proof/Safety.lean ====
section
/-! DEFINITION. The terms in which claims are stated: what a command does, what an answer is, what stays as it was, and the
invariants of a safe device. -/

namespace Sys2Proof.Machine

open Sys2Proof

/-! ## Commands -/

/-- The command answers a next state, and `P` holds of it. -/
def Does (c : Instr) (s : State) (P : State → Prop) : Prop := ∃ t, exec c s = .next t ∧ P t

/-- The command answers the state it found. -/
def Idle (c : Instr) (s : State) : Prop := exec c s = .next s

/-- Only the journal's queue has changed, by one entry at its end. -/
def JournalGains (s t : State) (inc : Bool) (type : Byte) (data : List Byte) : Prop :=
  t.jrn = { s.jrn with queue := s.jrn.queue ++ [mkEntry s inc type data] }

/-- The journal's queue has a place, so that an entry displaces none (22 R831). -/
def jrnRoom (s : State) : Bool := decide (s.jrn.queue.length < jrnCap)

/-! ## Replies -/

/-- No duplicate of the message waits for its reply (13 R497). -/
def noWaiters (s : State) (verb : BitVec 16) (m : Msg) : Bool := !s.mbx.dups.any (isDup verb m)

/-- The message came by the host port, and `MB_OUTi` of its pair holds this reply with its trailer, full (13 R474, R479). -/
def HostReply (s t : State) (verb : BitVec 16) (m : Msg) (err env : Bool) (payload : List Byte) : Prop :=
  t.mbx.lastReply = withTrailer (replyBody s verb m err env payload) ∧
    (m.src = none → t.mbx.pairs[m.mbx].outb = withTrailer (replyBody s verb m err env payload) ∧
      t.mbx.pairs[m.mbx].full = true ∧ t.mbx.pairs[m.mbx].flight = false)

/-! ## Frames: what may have changed; everything else is as before -/

/-- The parts of the state. -/
inductive Part where
  | now | freeCtr | rst | sup | clk | tim | ph | sch | acq | aux | bal | prot | gate | sp | np | chn | host
  | mbx | cfg | store | safe | tq | en | core | mem | ecc | mpu | dma | ce | apl | jrn | pw | pending
deriving DecidableEq, Repr

/-- The part is the same in both states. -/
def Same (p : Part) (s t : State) : Prop :=
  match p with
  | .now => t.now = s.now
  | .freeCtr => t.freeCtr = s.freeCtr
  | .rst => t.rst = s.rst
  | .sup => t.sup = s.sup
  | .clk => t.clk = s.clk
  | .tim => t.tim = s.tim
  | .ph => t.ph = s.ph
  | .sch => t.sch = s.sch
  | .acq => t.acq = s.acq
  | .aux => t.aux = s.aux
  | .bal => t.bal = s.bal
  | .prot => t.prot = s.prot
  | .gate => t.gate = s.gate
  | .sp => t.sp = s.sp
  | .np => t.np = s.np
  | .chn => t.chn = s.chn
  | .host => t.host = s.host
  | .mbx => t.mbx = s.mbx
  | .cfg => t.cfg = s.cfg
  | .store => t.store = s.store
  | .safe => t.safe = s.safe
  | .tq => t.tq = s.tq
  | .en => t.en = s.en
  | .core => t.core = s.core
  | .mem => t.mem = s.mem
  | .ecc => t.ecc = s.ecc
  | .mpu => t.mpu = s.mpu
  | .dma => t.dma = s.dma
  | .ce => t.ce = s.ce
  | .apl => t.apl = s.apl
  | .jrn => t.jrn = s.jrn
  | .pw => t.pw = s.pw
  | .pending => t.pending = s.pending

/-- Of the whole state at most these parts have changed. -/
structure Only (l : List Part) (s t : State) : Prop where
  /-- every part outside the list is the same -/
  same : ∀ p, p ∉ l → Same p s t

/-- A reply touches the mailboxes, the host interrupts, and, for a message that came by a frame, the chain and its ports. -/
def replyParts : List Part := [.mbx, .host, .chn, .sp, .np]

/-- Queuing a journal entry touches the journal, and what a reply touches, since a discarded `JRN_MARK` is answered. -/
def journalParts : List Part := .jrn :: replyParts

/-- A message passes check 7's steps before the verb's own: place, broadcast, session, no envelope, length (14 R513). -/
def verbFits (s : State) (v : VerbRow) (m : Msg) : Bool :=
  fwRuns s && placeOk s v.place m && (!m.bcast || v.bc) && !m.env && lenOk v m && v.priv != .safe &&
    (v.priv != .pw || s.safe.sess[m.mbx].isSome) && noWaiters s v.code m

/-- The state in which a verb's own part runs: the take is host activity (23 R850), and a `pw` verb has restarted the 300 s of its
session (17 R665). -/
def entered (s : State) (v : VerbRow) (m : Msg) : State :=
  let s := hostActivity s
  if v.priv = .pw then { s with safe.sess := s.safe.sess.set m.mbx (some s.now) } else s

/-- A normal reply of a verb to a message without envelope. -/
def Replies (s t : State) (v : VerbRow) (m : Msg) (payload : List Byte) : Prop := HostReply s t v.code m false false payload

/-- An error reply with its code and detail; beyond it only the communication-loss timers have restarted (13 R483, R484; 23 R850).
-/
def Refuses (s t : State) (v : VerbRow) (m : Msg) (code detail : Nat) : Prop :=
  HostReply s t v.code m true false (leBytes 2 code ++ leBytes 2 detail) ∧ Only replyParts (hostActivity s) t

/-- The verbs of 14 Table 14-1 that pass the steps of R513 from the first on: every one but `SAFE_STO`, which has its own
(R509). -/
def verbs : List (VerbRow × (Msg → Instr)) :=
  [(rowIdRead, .idRead), (rowIdFactory, .idFactory), (rowCfgRead, .cfgRead), (rowCfgWrite, .cfgWrite), (rowCfgLogin, .cfgLogin),
   (rowCfgLogout, .cfgLogout), (rowCfgPasswd, .cfgPasswd), (rowCfgFactory, .cfgFactory), (rowAcqStart, .acqStart),
   (rowAcqRead, .acqRead), (rowAcqFetch, .acqFetch), (rowBalSet, .balSet), (rowBalStop, .balStop), (rowBalStat, .balStat),
   (rowBalTest, .balTest), (rowGateOn, .gateOn), (rowGateOff, .gateOff), (rowGateRearm, .gateRearm), (rowProtStat, .protStat),
   (rowCmpTest, .cmpTest), (rowChainEnum, .chainEnum), (rowChainCal, .chainCal), (rowChainStream, .chainStream)] ++
  [(rowChainStat, .chainStat), (rowChainCrumb, .chainCrumb), (rowChainBreak, .chainBreak), (rowSafeConfirm, .safeConfirm),
   (rowSafeStat, .safeStat), (rowSafeOpen, .safeOpen), (rowSafeClose, .safeClose), (rowSafeCycle, .safeCycle),
   (rowSafeTen, .safeTen), (rowSafeRdn, .safeRdn), (rowSafeEnergy, .safeEnergy), (rowJrnRead, .jrnRead), (rowJrnHead, .jrnHead),
   (rowJrnRelease, .jrnRelease), (rowJrnMark, .jrnMark), (rowAplLoad, .aplLoad), (rowAplCommit, .aplCommit),
   (rowAplStart, .aplStart), (rowAplStop, .aplStop), (rowAplStat, .aplStat), (rowAplMsg, .aplMsg), (rowAplErase, .aplErase),
   (rowPwrSet, .pwrSet), (rowPwrStat, .pwrStat), (rowPwrWakeclr, .pwrWakeclr), (rowPwrKeep, .pwrKeep),
   (rowDiagInfo, .diagInfo), (rowDiagScan, .diagScan), (rowReset, .reset)]

/-- The store `p` with its password record written with its check (17 R662); the other open bytes of its area are those of `t` (log
8). -/
def pwWritten (t : State) (p : StoreUnit) : StoreUnit :=
  { p with pwCrc := crc32c (pwBytes p), areaNo := t.store.areaNo, written := t.store.written }

/-! ## Cross-checks -/

/-- One run of cross-check `i` + 1, 2 to 5, has been counted (07 R246, R247): its failing bit follows the run; while the firmware
runs a second failure in a row raises its fault, and the third pass in a row clears it; else its fault stays. -/
def CheckRan (s t : State) (i : Fin 5) (pass : Bool) : Prop :=
  t.aux.xcRan.getLsbD i.val = true ∧ t.aux.xcFail.getLsbD i.val = !pass ∧
    (pass = false → t.aux.xcEver = true ∧ t.aux.xcGood[i] = 0 ∧
      t.aux.xcFault.getLsbD i.val = (s.aux.xcFault.getLsbD i.val || (s.aux.xcFail.getLsbD i.val && fwOn s))) ∧
    (pass = true → t.aux.xcFault.getLsbD i.val =
      (s.aux.xcFault.getLsbD i.val && !(fwOn s && decide (3 ≤ s.aux.xcGood[i] + 1))))

/-! ## Resets -/

/-- A full reset from source `code` has been made: the device is held in reset, names the source, and the units that 24 Table 24-2
does not keep stand at their reset values; the persistent store, the supplies and the waiting commands are as before. -/
def ResetFrom (s t : State) (code : BitVec 4) : Prop :=
  t.rst.held = true ∧ t.rst.latch = code ∧ t.core = CoreUnit.reset ∧ t.mpu = MpuUnit.reset ∧ t.dma = DmaUnit.reset ∧
    t.ce = CeUnit.reset ∧ t.cfg = CfgRegs.reset ∧ t.acq = AcqUnit.reset ∧ t.bal = BalUnit.reset ∧ t.prot = ProtUnit.reset ∧
    t.tq = TqUnit.reset ∧ t.safe = SafeUnit.reset ∧ t.chn = ChnUnit.reset ∧ t.host = HostUnit.reset ∧ t.mbx = MbxUnit.reset ∧
    t.apl = AplUnit.reset ∧ t.jrn.queue = [] ∧ t.store = s.store ∧ t.pending = s.pending

/-! ## The core -/

/-- An instruction issues at this boundary and nothing keeps it waiting: no event is due, its fetch does not fault, and no
divide is in progress. -/
def issues (s : State) : Bool := coreReady s && (fetchFault s).isNone && s.core.div.isNone

/-- The register holds the value (g0 stays 0), every other register as it is seen, and the other mode's g15, are as before. -/
def Wrote (s t : State) (rd : Fin 16) (v : Word) : Prop :=
  getG t rd = (if rd = 0 then 0 else v) ∧ (∀ i, i ≠ rd → getG t i = getG s i) ∧
    (if inApplet s then t.core.g[15] = s.core.g[15] else t.core.asp = s.core.asp)

/-- The four flags of `SW` have these values and every other bit is as before (18 Table 18-2). -/
def FlagsAre (s t : State) (z n c v : Bool) : Prop :=
  t.core.sw.getLsbD 0 = z ∧ t.core.sw.getLsbD 1 = n ∧ t.core.sw.getLsbD 2 = c ∧ t.core.sw.getLsbD 3 = v ∧
    ∀ i, 4 ≤ i → t.core.sw.getLsbD i = s.core.sw.getLsbD i

/-- Of the whole machine only the general registers and the pc have changed; a late bus error that waits is older than this
instruction (18 R695). -/
def RegsOnly (s t : State) : Prop :=
  t = { s with core := { (staleLate s).core with g := t.core.g, asp := t.core.asp, pc := t.core.pc } }

/-- Of the whole machine only the general registers, the pc and `SW` have changed, and a late bus error that waits is older. -/
def RegsAndSw (s t : State) : Prop :=
  t = { s with core := { (staleLate s).core with g := t.core.g, asp := t.core.asp, pc := t.core.pc, sw := t.core.sw } }

/-- A register operation is done: its result, the next pc, and with S = 1 its flags; the rest of the machine is as before
(19 R721, R722, Table 19-4). -/
def AluDone (s t : State) (rd : Fin 16) (sb : Bool) (r : Word) (c v : Bool) : Prop :=
  Wrote s t rd r ∧ t.core.pc = s.core.pc + 4 ∧ RegsAndSw s t ∧
    (if sb then FlagsAre s t (r == 0) (r.getLsbD 31) c v else t.core.sw = s.core.sw)

/-- An operation of a register and an immediate is done; it leaves the flags (19 R725). -/
def ImmDone (s t : State) (rd : Fin 16) (r : Word) : Prop :=
  Wrote s t rd r ∧ t.core.pc = s.core.pc + 4 ∧ RegsOnly s t

/-- A signed number lies in the 32-bit range. -/
def Fits32 (x : Int) : Prop := -2 ^ 31 ≤ x ∧ x < 2 ^ 31

/-- The protection unit is off for the firmware partition, nothing is buffered, and the core is in firmware mode. -/
def plainMode (s : State) : Bool := !s.mpu.fen && s.core.sbuf.isEmpty && !inApplet s

/-! ## Invariants -/

/-- The memory is in its canonical form (log 7). -/
def MemOk (s : State) : Prop := Memory.wf s.mem = true

/-- `TEN_A` and `TEN_B` are high, or carry a pulse, only while torque is enabled or being enabled (16 R600, R603). -/
def TorqueOk (s : State) : Prop :=
  (s.tq.ten = true → torqueOn s = true ∨ s.tq.enabling ≠ []) ∧ ((s.tq.pulseA || s.tq.pulseB) = true → s.tq.ten = true)

/-- A fault bit that stands in `HOST_FLT.LIVE` is set in `SEEN` (12 R470). -/
def FltOk (s : State) : Prop := s.host.live &&& ~~~ s.host.seen = 0

/-- A balancing switch conducts only in a well whose grant of the frame has not run out (08 R899). -/
def SwitchOk (s : State) : Prop := s.bal.closed &&& ~~~ s.bal.grant = 0

/-- The factory data of two states are the same (17 Table 17-1; 14 Table 14-2). -/
def SameFactory (s t : State) : Prop :=
  t.store.uid = s.store.uid ∧ t.store.grade = s.store.grade ∧ t.store.lot = s.store.lot ∧ t.store.year = s.store.year ∧
    t.store.week = s.store.week ∧ t.store.fchk = s.store.fchk

end Sys2Proof.Machine
end

