-- ==== Sys2Proof/Certificates/Slice0/Obligations.lean ====
section
/-! DEFINITION. The statements for the provers: what the commands do, what every step keeps, and what the state holds at
reset. -/

open Sys2Proof Sys2Proof.Machine

/-! ## The block as a whole -/

/-- O1. One step takes the command at the front of the queue; on an empty queue one ct passes. The form of a step, and a
tick on the empty queue, are the model's (log 1). -/
def Obligations.StepRunsFrontCommand : Prop :=
  (∀ s c rest, s.pending = c :: rest → step s = exec c { s with pending := rest }) ∧
    (∀ s, s.pending = [] → step s = .next (tick s))

/-- O2. Every command has a meaning: it answers a next state from every state, and leaves the queue alone. That
a command whose event cannot occur changes nothing is the model's choice (log 10). -/
def Obligations.EveryCommandAnswersNext : Prop := ∀ c s, Does c s fun t => t.pending = s.pending

/-- O3. The invariants hold right after reset. -/
def Obligations.InvariantsAtReset : Prop :=
  MemOk State.reset ∧ TorqueOk State.reset ∧ FltOk State.reset ∧ SwitchOk State.reset

/-- O4. Every step keeps the memory's canonical form. The list form of the memory is the model's (log 7). -/
def Obligations.StepKeepsMemoryForm : Prop := ∀ s t, MemOk s → step s = .next t → MemOk t

/-- O5. In every step torque outputs are high only while torque is enabled or being enabled (16 R600, R603). -/
def Obligations.StepKeepsTorqueInvariant : Prop := ∀ s t, TorqueOk s → step s = .next t → TorqueOk t

/-- O6. Every step keeps: a bit of LIVE is set in SEEN (12 R470), and a switch conducts only under a grant (08 R899).
-/
def Obligations.StepKeepsLiveSeenAndGrants : Prop :=
  (∀ s t, FltOk s → step s = .next t → FltOk t) ∧ (∀ s t, SwitchOk s → step s = .next t → SwitchOk t)

/-- O7. No step changes the factory data: the UID, the grade, the lot, the date code and their check. -/
def Obligations.StepKeepsFactoryData : Prop := ∀ s t, step s = .next t → SameFactory s t

/-- O8. A period of the strobe distributor: the clock advances, the chain-time counter only where the device runs; in ACTIVE and
STANDBY, while no break waits to be relayed, no calibration is at its end, no `RESET` waits for its broadcast and the firmware owes no
action, the tick is only time: the output of the PLL moves by no more than its slew (05 R128, R131), conduction takes a request's time
(08 R261), switches open at most, and the counts of core cycles and of the applet's charge go on. That a tick is
a step on the empty queue is the model's choice (log 1). -/
def Obligations.TickAdvancesTime : Prop :=
  (∀ s, (tick s).now = s.now + 1) ∧
    (∀ s, running s = false → tick s = { s with now := s.now + 1 }) ∧
    (∀ s, active s = false → s.sp.brkDue = false → s.np.brkDue = false → Only [.now, .np] s (tick s)) ∧
    (∀ s, active s = true → s.sp.brkDue = false → s.np.brkDue = false → s.chn.cal = none → s.chn.calDone = [] →
      s.pw.resetVerb = [] → s.core.fstop = false → s.core.owed = none → unknownSvc s = false →
      (tick s).tim = { s.tim with cnt := s.tim.cnt + 1 } ∧
      (tick s).apl = { s.apl with charge := (tick s).apl.charge } ∧ s.apl.charge ≤ (tick s).apl.charge ∧
      (tick s).core = { s.core with cycle := (tick s).core.cycle, cycleFrac := (tick s).core.cycleFrac,
                                    ipend := (tick s).core.ipend, waiting := (tick s).core.waiting } ∧
      (s.core.waiting = false → (tick s).core.cycleFrac = (s.core.cycleFrac + 125) % 256 ∧
        (tick s).core.cycle = (if s.core.cycleFrac + 125 < 256 then s.core.cycle else s.core.cycle + 1)) ∧
      Only [.now, .tim, .clk, .freeCtr, .ph, .sch, .acq, .bal, .apl, .core, .np] s (tick s) ∧
      (tick s).clk.freq = slew s.clk.freq s.clk.goal s.clk.rate ∧
      (tick s).bal.closed &&& ~~~ s.bal.closed = 0 ∧ (tick s).bal.grant = s.bal.grant ∧
      (∀ w : Well, (tick s).bal.wells[w].left = (if hasW s.bal.closed w then s.bal.wells[w].left - 1 else s.bal.wells[w].left))) ∧
    (∀ f g r, (slew f g r - f).natAbs ≤ r)

/-- O9. What the spec says of the machine at reset (18 R700, Table 18-1; 09 Table 9-3; 16 R600; 24 Table 24-2). -/
def Obligations.ResetValues : Prop :=
  let s := State.reset
  s.core.pc = 0x200 ∧ s.core.sw = 0x4030 ∧ s.gate.state = .off ∧ s.tq.rd = .off ∧ s.tq.ten = false ∧
    s.tq.rdnLow = false ∧ s.pw.state = .active ∧ s.chn.addr = 0x7F ∧ s.chn.lseq = 0 ∧ s.safe.conn = none ∧
    s.host.irq = 0 ∧ s.host.irqen = 0 ∧ s.host.ready = false ∧ s.mbx = MbxUnit.reset ∧ s.prot.unclean = true ∧
    ownFault s = true ∧ s.jrn.queue = [] ∧ s.cfg.cmpCfg = 0x09A90A3F ∧ s.cfg.roleCfg = 0x2814 ∧ s.cfg.wellCfg = 18 ∧
    s.ph.tbase = .internal ∧ s.pending = []

/-! ## Power and reset (04, 24) -/

/-- O10. What a full reset leaves (04 R113; 24 R871 to R875): everything at its reset value but what 24 Table 24-2 keeps; a gate that
conducts runs through its turn-off, without a latch (R113). What a byte of SRAM reads as after it is the model's
choice (log 7). -/
def Obligations.FullResetLeaves : Prop :=
  ∀ s code, s.rst.held = false →
    let t := fullReset s code
    ResetFrom s t code ∧
      t.gate.state = (if s.gate.state = .ramp ∨ s.gate.state = .on ∨ s.gate.state = .turnoff then .turnoff else .off) ∧
      t.gate.disc = false ∧ t.jrn.rNum = s.jrn.rNum ∧ t.jrn.iNum = s.jrn.iNum ∧
      t.sup = s.sup ∧ t.pw.wake = (if code = 11 then s.pw.wake else 0) ∧
      (∀ a, memGet t.mem a = if inStore a then memGet s.mem a else 0)

/-- O11. Each source of 24 Table 24-1 makes its full reset (24 R871, R874): power-on always, the internal rail, `RESET_N`, the end of a
break and of its relay, the event after an accepted `RESET`, the watchdog and the full-stop timer where reset is not held; while it is
held they are not recorded. Brown-out (04 R97, R118, R119): torque and balancing outputs fall, one incident entry is written first,
and the device is in reset with source 2. How many waiting entries hold-up still writes is free (log 17). -/
def Obligations.ResetSourcesAndBrownOut : Prop :=
  ((∀ s, Does .powerOnReset s fun t => ResetFrom s t 1 ∧ t.sup.por = true ∧ t.sup.vstack3 = true ∧ t.sup.brown = false) ∧
  (∀ s, s.rst.held = false → Does .internalRailFail s fun t => ResetFrom s t 3) ∧
  (∀ s, s.rst.held = false → Does .resetNAssert s fun t => ResetFrom s t 4 ∧ t.rst.resetN = false) ∧
  (∀ s p, s.rst.held = false → (portOf s p).brkRelay = true → (portOf s (otherPort p)).brkIn = false →
    Does (.breakRelayEnd p) s fun t => ResetFrom s t 5) ∧
  (∀ s p, (portOf s p).brkRelay = false ∨ (portOf s (otherPort p)).brkIn = true → Idle (.breakRelayEnd p) s) ∧
  (∀ s p, s.rst.held = false → (portOf s p).brkIn = true → (portOf s (otherPort p)).brkRelay = false →
    (portOf s (otherPort p)).brkDue = false → Does (.breakEnd p) s fun t => ResetFrom s t 5) ∧
  (∀ s p, (portOf s p).brkIn = true → ((portOf s (otherPort p)).brkRelay = true ∨ (portOf s (otherPort p)).brkDue = true) →
    Does (.breakEnd p) s fun t => t = setPort s p { portOf s p with brkIn := false }) ∧
  (∀ s p, (portOf s p).brkIn = false → Idle (.breakEnd p) s) ∧
  (∀ s x, running s = true → x ∈ s.pw.resetVerb → bcastWaits s x.1 = false → Does .resetVerbTimeout s fun t => ResetFrom s t 6) ∧
  (∀ s, running s = true → (∀ x ∈ s.pw.resetVerb, bcastWaits s x.1 = true) → Does .resetVerbTimeout s fun t =>
    t = { s with pw := { s.pw with resetVerb := s.pw.resetVerb.map fun x => (x.1, true) } }) ∧
  (∀ s, active s = true → s.rst.wdRun = true → Does .watchdogExpire s fun t => ResetFrom s t 7) ∧
  (∀ s, (active s = false ∨ s.rst.wdRun = false) → Idle .watchdogExpire s) ∧
  (∀ s, s.rst.held = false → s.rst.fstopTimer = true → Does .fullStopTimerExpire s fun t => ResetFrom s t 10) ∧
  (∀ s, s.rst.fstopTimer = false → Idle .fullStopTimerExpire s) ∧
  (∀ s, s.rst.held = true → Idle .internalRailFail s ∧
    Does .resetNAssert s fun t => t = { s with rst := { s.rst with resetN := false } })) ∧
  ((∀ s, s.rst.held = false → Does .brownOut s fun t =>
    t.sup.brown = true ∧ t.rst.held = true ∧ t.rst.latch = 2 ∧ t.tq.ten = false ∧ t.tq.rdnLow = false ∧ t.bal.closed = 0 ∧
      t.store = s.store ∧ t.jrn.queue = [] ∧ (1 ≤ incFree s → s.jrn.iNum < t.jrn.iNum) ∧
      t.sp.bursts = s.sp.bursts + b2n (s.sup.vport && bitOf s.cfg.linkCfg 0)) ∧
    (∀ s, s.rst.held = true → Does .brownOut s fun t => t = { s with sup := { s.sup with brown := true } }))

/-- O12. Reset release (04 R98; 18 R705; 20 R767; 22 R834; 24 R875 to R877): the device leaves reset, counts it, names its
source, the core and the protection unit are set up, the heads of the journal are found, and the first thermistor cycle starts under
the reset values (07 R238); with `TEST` high it stays in reset and drives no output (02 R45). The seal check (04 R100, R101; 17 R651):
the record is loaded when its seal checks, the safety monitor takes its copies, else the
factory-safe values stay in force and an incident record is queued; what is no anchor holds its torque pins (02 R40). -/
def Obligations.ResetReleaseAndSealCheck : Prop :=
  ((∀ s, s.rst.startDue = true → s.sup.por = true → Does (.resetRelease false) s fun t =>
    running t = true ∧ t.rst.wdRun = true ∧ t.rst.releaseAt = s.now ∧ t.tim.cnt = 0 ∧ t.store.resets = s.store.resets + 1 ∧
      t.core = { s.core with esp := 0x20020000, espl := true } ∧ t.mpu = { s.mpu with fw := fwRegions, fen := true, flock := true } ∧
      t.apl.state = (if s.store.imgValid then .valid else .none) ∧ t.gate.disc = (s.gate.disc || s.store.disc.isSome) ∧
      (s.rst.latch ≠ 1 → t.rst.lastRst = s.rst.latch.setWidth 8) ∧ t.mem = s.mem ∧ t.cfg = s.cfg ∧ t.pw.lossAt = s.now ∧
      t.jrn.rNum = (findHead s false).jrn.rNum ∧ t.jrn.iNum = (findHead s true).jrn.iNum ∧
      t.aux.ntcRun = true ∧ t.aux.ntcCfg = s.cfg.ntcCfg ∧ t.prot.heldEvents = []) ∧
    (∀ s, s.rst.startDue = true → s.sup.por = true →
      Does (.resetRelease true) s fun t => t = { s with rst := { s.rst with test := true, held := true } }) ∧
    (∀ s, testHeld s = true → pinFaultN s = .z ∧ pinTenA s = .z ∧ pinTenB s = .z ∧ pinRdnN s = .z ∧ pinHsdo s = .z ∧
      pinHtx s = .z ∧ pinHirqN s = .z ∧ pinHwakeN s = .z ∧ (∀ w, pinBal s w = false) ∧ pinCp s = false ∧ pinXout s = false)) ∧
  ((∀ s, running s = true → sealChecks s = true → Does .sealCheck s fun t =>
    t.cfg = s.store.record.regs ∧ t.prot.loaded = true ∧ t.bal.rbUse = s.store.record.regs.balRb ∧
      t.tq.smRole = s.store.record.regs.roleCfg ∧ t.tq.smRoleN = ~~~ s.store.record.regs.roleCfg ∧
      (isAnchor t = true → t.tq = { s.tq with smRole := s.store.record.regs.roleCfg, smRoleN := ~~~ s.store.record.regs.roleCfg }) ∧
      (isAnchor t = false → t.tq.ten = false ∧ t.tq.rdnLow = false ∧ t.tq.enabling = []) ∧ t.store = s.store ∧ t.core = s.core ∧ t.mem = s.mem) ∧
    (∀ s, running s = true → sealChecks s = false → jrnRoom s = true → Does .sealCheck s fun t =>
      t.cfg = s.cfg ∧ t.prot.loaded = false ∧
        JournalGains s t true 0x02 (leBytes 4 s.store.record.sealV.toNat) ∧ t.store = s.store ∧ t.core = s.core ∧ t.mem = s.mem))

/-- O13. Supplies (04 R109, R110, R122 to R125; 10 R343, R344, R376): a UART reply on its way is lost with `VIO`; a break relay that the
loss of `VPORT` ends resets the
device. Without `VIO` its outputs are high-impedance; with it `TEN_A` and `TEN_B` are high only on an anchor that drives them (02
R44, R40; 16 R600). -/
def Obligations.SuppliesComeAndGo : Prop :=
  (∀ s, Does (.vstackFaultDriveThreshold true) s fun t => t = { s with sup := { s.sup with vstack3 := true } }) ∧
  (∀ s, Does (.vstackFaultDriveThreshold false) s fun t =>
    t.sup.vstack3 = false ∧ t.sup.por = false ∧ t.rst.held = true ∧ faultLow t = false ∧ t.store = s.store) ∧
  (∀ s, (isAnchor s = false ∨ (torqueOn s = false ∧ s.tq.enabling = [])) → Does .vioLoss s fun t =>
    t = { s with sup := { s.sup with vio := false },
                 host := { s.host with htxEnd := min s.now s.host.htxEnd, uartAt := min s.now s.host.uartAt } }) ∧
  (∀ s, isAnchor s = true → (torqueOn s = true ∨ s.tq.enabling ≠ []) → Does .vioLoss s fun t =>
    t.sup.vio = false ∧ t.tq.ten = false ∧ t.tq.rd = .removed ∧ t.host.htxEnd ≤ s.now ∧ Only (.sup :: .tq :: journalParts) s t) ∧
  (∀ s, s.sup.vio = false → pinTenA s = .z ∧ pinTenB s = .z ∧ pinRdnN s = .z ∧ pinHsdo s = .z ∧ pinHtx s = .z ∧ pinHirqN s = .z) ∧
  (∀ s, (pinTenA s = .high ∨ pinTenB s = .high) →
    s.sup.vio = true ∧ s.rst.held = false ∧ isAnchor s = true ∧ s.tq.ten = true ∧ (s.pw.state = .active ∨ s.pw.state = .standby)) ∧
  (∀ s, Does .vioReturn s fun t => t = { s with sup := { s.sup with vio := true } }) ∧
  (∀ s, s.rst.held = false → (s.sp.brkRelay || s.np.brkRelay) = true → Does .vportLoss s fun t =>
    t.sup.vport = false ∧ t.rst.held = true ∧ t.rst.latch = 5) ∧
  (∀ s, (s.sp.brkRelay || s.np.brkRelay) = false → (s.sp.brkDue || s.np.brkDue) = false → Does .vportLoss s fun t =>
    t.sup.vport = false ∧ t.sp.up = false ∧ t.np.up = false ∧ t.sp.txNow = none ∧
    t.np.txNow = none ∧ t.sp.rx = s.sp.rx ∧ t.np.rx = s.np.rx ∧ Only [.sup, .sp, .np] s t) ∧
  (∀ s, Does .vportReturn s fun t => t = { s with sup := { s.sup with vport := true } }) ∧
  (∀ s p, s.sup.vport = true → portEnabled s p = true →
    Does (.portOperational p) s fun t => t = setPort s p { portOf s p with up := true })

/-- O14. The start-up acquisition and its evaluation (04 R102 to R105; 05 R127; 07 R238, R239; 09 R902; 21 R814): once the PLL is
locked, the quiet time has passed and the window ends no earlier than the thermistor cycle, a
strobe opens a span of source 2; a repeat starts its own scan and thermistor cycle and strobes as soon as it may; a clean evaluation
releases `FAULT_N`, any other leaves the device as it was but for the acquisition's completion. -/
def Obligations.StartupReleasesFaultLine : Prop :=
  (∀ s, active s = true → s.clk.pllLock = true → s.acq.startRun = false → s.prot.everRel = false → startReady s = true →
    Does .startupAcquisition s fun t =>
    t.acq.startRun = true ∧ t.acq.seqN = s.acq.seqN + 1 ∧ t.bal.closed = 0 ∧ t.bal.testRun = 0 ∧
      (∃ sp, t.acq.spans = s.acq.spans ++ [sp] ∧ sp.source = 2 ∧ sp.seq = s.acq.seqN + 1 ∧ sp.start = s.now) ∧
      Only [.acq, .bal] s t) ∧
  (∀ s, startReady s = true → s.bal.closed = 0 ∧ s.aux.ntcAt + ntcCt s.aux.ntcCfg ≤ s.now + winCt (takeWin s).acq.win) ∧
  (∀ s, (s.clk.pllLock = false ∨ s.prot.everRel = true) → Idle .startupAcquisition s ∧ Idle .startupAcqRepeat s) ∧
  (∀ s, startReady s = false → Idle .startupAcquisition s) ∧
  (∀ s, fwOn s = true → s.clk.pllLock = true → s.acq.startRun = false → s.prot.everRel = false → Does .startupAcqRepeat s fun t =>
    (t.acq.startRun = true ∨ t.acq.startDue = true) ∧ t.ce.ch[0].state = .busy ∧ t.aux.ntcRun = true ∧
      t.acq.startSet = s.aux.ntcCount ∧ t.prot = { s.prot with oweOv := s.prot.oweOv ||| s.prot.againOv,
                                                               oweUv := s.prot.oweUv ||| s.prot.againUv } ∧
      Only [.acq, .bal, .ce, .aux, .prot] s t) ∧
  (∀ s words, fwOn s = true → s.acq.startDone = some words →
    let freed := { s with acq.startDone := none, prot.unclean := false, prot.everRel := true }
    (s.prot.everRel = false ∧ startClean { s with acq.startDone := none } words = true ∧ s.prot.loaded = true ∧
        s.prot.romOk = true ∧ ownFault freed = false → Does .startupEvaluation s fun t =>
      t.prot.everRel = true ∧ t.prot.unclean = false ∧ ownFault t = false ∧ t.acq = { s.acq with startDone := none }) ∧
    (¬ (s.prot.everRel = false ∧ startClean { s with acq.startDone := none } words = true ∧ s.prot.loaded = true ∧
        s.prot.romOk = true ∧ ownFault freed = false) → Does .startupEvaluation s fun t =>
      t = { s with acq := { s.acq with startDone := none } }))

/-! ## Clocks, phase and ticks (05) -/

/-- O15. Oscillators and chain-time timeouts (05 R127, R129 to R131, R143, R145; 11 R413): the PLL is locked to the main RC, a good
crystal becomes its reference, and a change of reference leaves the frequency, which then slews. The clock check (05 R137 to R140;
24 R887): one disagreement is only remembered; a pair that disagrees twice in a row removes torque and ends in the full stop,
or, where the core cannot run, is left to the watchdog; which of the two is a free bit, the model's choice (log
110). -/
def Obligations.ClocksTimeoutsAndClockCheck : Prop :=
  ((∀ s, active s = true → s.clk.pllLock = false → Does .pllLock s fun t =>
    t.clk = { s.clk with pllLock := true, refSel := false, goal := t.clk.goal, rate := t.clk.rate } ∧ 1 ≤ t.clk.rate ∧
      t.clk.rate ≤ 100 ∧ Only [.clk, .freeCtr, .core] s t) ∧
  (∀ s, (active s = false ∨ s.clk.pllLock = true) → Idle .pllLock s) ∧
  (∀ s, active s = true → bitOf s.cfg.clkCfg 1 = true → Does .crystalGood s fun t =>
    t.clk.xtalOk = true ∧ t.clk.refSel = (s.clk.pllLock && bitOf s.cfg.clkCfg 0) ∧ t.clk.freq = s.clk.freq ∧
      t.clk.pllLock = s.clk.pllLock ∧ Only [.clk, .freeCtr, .core] s t) ∧
  (∀ s, active s = true → s.clk.xtalOk = true → jrnRoom s = true → Does .crystalFail s fun t =>
    t.clk.xtalOk = false ∧ t.clk.refSel = false ∧ t.clk.freq = s.clk.freq ∧ t.clk.pllLock = s.clk.pllLock ∧
      Only [.clk, .freeCtr, .jrn, .core] s t ∧
      ∃ b, t.jrn.queue = s.jrn.queue ++ [mkEntry s false 0x42 [b]] ∧ b.getLsbD 1 = false ∧ b.getLsbD 0 = false) ∧
  (∀ s, active s = true → isAnchor s = false → Does .alignTimeout s fun t =>
    t = { s with tim := { s.tim with aligned := false, stepDue := true, goodBeats := 0 } }) ∧
  (∀ s, active s = true → (isAnchor s = false ∨ s.tq.conflict = true) → Does .orphanTimeout s fun t =>
    t = { s with tim := { s.tim with orphaned := true, aligned := false, stepDue := true, goodBeats := 0 },
                 chn := { s.chn with freeFrom := 0, freeTo := 0 } })) ∧
  ((∀ s a b c, active s = true → BitVec.ofNat 3 (b2n a + 2 * b2n b + 4 * b2n c) &&& s.clk.disagree = 0 →
    Does (.clockSupervisionCheck a b c) s fun t =>
      t = { s with clk := { s.clk with disagree := BitVec.ofNat 3 (b2n a + 2 * b2n b + 4 * b2n c) } }) ∧
  (∀ s a b c, active s = true → BitVec.ofNat 3 (b2n a + 2 * b2n b + 4 * b2n c) &&& s.clk.disagree ≠ 0 →
    let coreRuns := (Config.freeWord s.freeCtr).getLsbD 0 && !s.clk.coreDead
    Does (.clockSupervisionCheck a b c) s fun t =>
      (coreRuns = true → ((t.core.fstop = true ∧ t.core.pc = 0x100 ∧ t.rst.fstopTimer = true ∧ t.clk.fault = true ∧ ownFault t = true) ∨
          (t.rst.held = true ∧ t.rst.latch = 9)) ∧ (isAnchor s = true → torqueOn s = true → t.tq.ten = false) ∧
        t.store.record = s.store.record) ∧
      (coreRuns = false → t.clk.fault = true ∧ t.clk.coreDead = true ∧ ownFault t = true ∧ t.rst = s.rst ∧ t.jrn = s.jrn ∧
        (isAnchor s = true → torqueOn s = true ∨ s.tq.ten = true ∨ s.tq.enabling ≠ [] →
          t.tq.ten = false ∧ t.tq.rd = .removed ∧ t.tq.enabling = []) ∧
        Only [.clk, .tq, .freeCtr, .core, .prot, .chn, .host] s t)))

/-- O16. Encoder edges (05 R148, R149, R170): every edge is stamped in chain time; a step of one phase that the mode counts moves
count and position by one in its direction; both phases at once is a quadrature error, which raises the era and begins SETTLING.
Index edges, zero-crosses and stalls (05 R150 to R153, R170, Table 5-12): either edge of `PHZ` is stamped, a rising one is the index. A
fall of `PHZ` comes with an encoder edge by the model's choice (log 135).
-/
def Obligations.PhaseTracker : Prop :=
  ((∀ s a b, (stampEdge s a b).ph.a = a ∧ (stampEdge s a b).ph.b = b ∧
      (stampEdge s a b).ph.stampA = (if a ≠ s.ph.a then s.tim.cnt else s.ph.stampA) ∧
      (stampEdge s a b).ph.stampB = (if b ≠ s.ph.b then s.tim.cnt else s.ph.stampB) ∧ Only [.ph, .tq] s (stampEdge s a b)) ∧
  (∀ s f, stampFall s f = if f = true ∧ s.ph.z = true then { s with ph := { s.ph with stampZ := s.tim.cnt, z := false } } else s) ∧
  (∀ s a b f rev, active s = true → isAnchor s = true → encMode s.cfg = true → ¬ (a ≠ s.ph.a ∧ b ≠ s.ph.b) →
    edgeDir (phMode s.cfg) s.ph.a s.ph.b a b = some rev → (rev != bitOf s.cfg.phCfg 4) = s.ph.rev →
    s.ph.tbase = .tracking → Does (.encoderEdge (a, b) f) s fun t =>
      t.ph.count = (if s.ph.rev then s.ph.count - 1 else s.ph.count + 1) ∧
        (s.ph.pos < phCycle s → t.ph.pos = (if s.ph.rev then (s.ph.pos + phCycle s - 1) % phCycle s else (s.ph.pos + 1) % phCycle s)) ∧
        t.ph.a = a ∧ t.ph.b = b ∧ t.ph.rev = s.ph.rev ∧ t.ph.tbase = .tracking ∧ t.sch.ticks = s.sch.ticks ∧
        Only [.ph, .sch, .tq] s t) ∧
  (∀ s a b f, active s = true → isAnchor s = true → encMode s.cfg = true → a ≠ s.ph.a → b ≠ s.ph.b →
    Does (.encoderEdge (a, b) f) s fun t =>
      t.ph.epoch = raiseEra s.ph.epoch ∧ t.ph.tbase = .settling ∧ t.ph.count = s.ph.count ∧ t.ph.pos = s.ph.pos ∧
        (∀ k ∈ t.sch.ticks, k.late = true) ∧ t.tim = s.tim ∧ t.mem = s.mem) ∧
  (∀ s a b f, active s = true → isAnchor s = true → ¬ (a ≠ s.ph.a ∧ b ≠ s.ph.b) →
    (encMode s.cfg = false ∨ edgeDir (phMode s.cfg) s.ph.a s.ph.b a b = none) →
    Does (.encoderEdge (a, b) f) s fun t => t = stampFall (stampEdge s a b) f) ∧
  (∀ s ab f, (active s = false ∨ isAnchor s = false) → Idle (.encoderEdge ab f) s)) ∧
  ((∀ s, active s = true → isAnchor s = true → encMode s.cfg = true → bitOf s.cfg.phCfg 3 = true →
    Does .indexEdge s fun t =>
    t.ph.pos = s.cfg.phZofs.toNat % phCycle s ∧ t.ph.firstIndex = false ∧ t.ph.z = true ∧ t.ph.stampZ = s.tim.cnt ∧
      (s.ph.firstIndex = true → fld t.ph.epoch 31 24 = (fld s.ph.epoch 31 24 + 1) % 256 ∧ t.ph.tbase = .settling) ∧
      (s.ph.firstIndex = false → posDist s s.cfg.phZofs.toNat ≤ s.cfg.phZtol.toNat →
        fld t.ph.epoch 31 24 = fld s.ph.epoch 31 24 ∧ t.ph.tbase = s.ph.tbase ∧ t.sch.ticks = s.sch.ticks ∧ Only [.ph, .sch] s t)) ∧
  (∀ s, active s = true → isAnchor s = true → (encMode s.cfg = false ∨ bitOf s.cfg.phCfg 3 = false) →
    Does .indexEdge s fun t => t = { s with ph := { s.ph with stampZ := s.tim.cnt, z := true } }) ∧
  (∀ s, (active s = false ∨ isAnchor s = false) → Idle .indexEdge s) ∧
  (∀ s, active s = true → isAnchor s = true → phMode s.cfg = 4 → s.ph.tbase ≠ .holdover →
    (∀ z, s.ph.zcAt = some z → 5 * ctPerMs ≤ s.now - z) → Does .zeroCross s fun t =>
      t.ph.zcAt = some s.now ∧ t.ph.pos = s.cfg.phZofs.toNat % phCycle s ∧ t.ph.stampA = s.tim.cnt ∧
        (s.ph.zcAt = none → t.ph.tbase = (if s.ph.tbase = .settling then (if s.ph.settle + 1 ≥ 2 then .tracking else .settling)
          else s.ph.tbase))) ∧
  (∀ s z, active s = true → isAnchor s = true → s.ph.zcAt = some z → s.now - z < 5 * ctPerMs → Does .zeroCross s fun t =>
    t = stampEdge { s with ph := { s.ph with a := false } } true s.ph.b) ∧
  (∀ s, active s = true → isAnchor s = true → phMode s.cfg ≠ 0 → (s.ph.tbase = .tracking ∨ s.ph.tbase = .settling) →
    Does .phaseStall s fun t =>
      t.ph = { s.ph with tbase := .holdover, acc := 0 } ∧ (∀ k ∈ t.sch.ticks, k.late = true) ∧ t.tim = s.tim ∧ t.mem = s.mem))

/-- O17. The scheduler (05 R158 to R163, R170 to R172): an enabled point of the present direction, found outside SETTLING within the
lead and 25 µs at the first evaluation of a pass, is fixed at the end of the queue of ticks, numbered next, at the first modulator
edge at or after its prediction; less than 256 mp after the last instant, or reached in SETTLING, it is skipped and counted; one whose
frame cannot keep the lead is skipped by the model's choice (log 99). A strobe fires its tick when the counter reaches the instant (05
R162, R164; 06 R173): the tick leaves the queue, a span of source 0 opens, and on the anchor the phase is sampled into the report.
-/
def Obligations.SchedulerFixesAndStrobes : Prop :=
  ((∀ s n num den, active s = true → isAnchor s = true → s.tq.conflict = false → bitOf s.cfg.phPoint[n] 31 = true →
    dirOk s s.cfg.phPoint[n] = true → s.sch.passed.getLsbD n.val = false → s.ph.tbase ≠ .settling →
    predictAt s (fld s.cfg.phPoint[n] 23 0) = some (num, den) → num * 125 ≤ (lead125 s + 25 * 24576) * den →
    let mp := instantMp s num den
    leadHolds s ((mp : Int) * 24 - s.tim.cnt) = true →
    (∀ l, s.sch.lastFix = some l → l + 256 ≤ mp) → Does (.instantFix n) s fun t =>
      t.sch.ticks = s.sch.ticks ++ [{ tseq := s.sch.tseq, instant := BitVec.ofNat 32 mp, point := BitVec.ofNat 4 n.val,
                                      hold := s.ph.tbase == .holdover, sent := false, late := false }] ∧
        t.sch.tseq = s.sch.tseq + 1 ∧ t.sch.lastFix = some mp ∧ t.sch.passed.getLsbD n.val = true ∧ t.bal.closed = 0 ∧
        t.bal.testRun = 0 ∧ Only [.sch, .acq, .bal, .core] s t) ∧
  (∀ s n, active s = true → isAnchor s = true → s.tq.conflict = false → bitOf s.cfg.phPoint[n] 31 = true →
    dirOk s s.cfg.phPoint[n] = true → s.sch.passed.getLsbD n.val = false → s.ph.tbase = .settling →
    Does (.instantFix n) s fun t => t = (if pointReached s (fld s.cfg.phPoint[n] 23 0) then skipPoint s n else s)) ∧
  (∀ s n num den, active s = true → isAnchor s = true → s.tq.conflict = false → bitOf s.cfg.phPoint[n] 31 = true →
    dirOk s s.cfg.phPoint[n] = true → s.sch.passed.getLsbD n.val = false → s.ph.tbase ≠ .settling →
    predictAt s (fld s.cfg.phPoint[n] 23 0) = some (num, den) → num * 125 ≤ (lead125 s + 25 * 24576) * den →
    ((∃ l, s.sch.lastFix = some l ∧ instantMp s num den < l + 256) ∨
      leadHolds s ((instantMp s num den : Int) * 24 - s.tim.cnt) = false) →
    Does (.instantFix n) s fun t => t = skipPoint s n) ∧
  (∀ s n, (skipPoint s n).ph = { s.ph with skips := satInc s.ph.skips } ∧ (skipPoint s n).sch.passed.getLsbD n.val = true ∧
    (skipPoint s n).sch.ticks = s.sch.ticks ∧ Only [.ph, .sch] s (skipPoint s n)) ∧
  (∀ s n num den, predictAt s (fld s.cfg.phPoint[n] 23 0) = some (num, den) → (lead125 s + 25 * 24576) * den < num * 125 →
    s.ph.tbase ≠ .settling → Idle (.instantFix n) s) ∧
  (∀ s n, (isAnchor s = false ∨ bitOf s.cfg.phPoint[n] 31 = false ∨ dirOk s s.cfg.phPoint[n] = false ∨
    s.sch.passed.getLsbD n.val = true) → Idle (.instantFix n) s) ∧
  (∀ s, (leadRaised s = true ↔ s.cfg.phLead.toNat * 24576 < lead125 s) ∧ s.cfg.phLead.toNat * 24576 ≤ lead125 s ∧
    (s.sch.tdel ≠ 0 → s.sch.tdel.toNat * 125 + 20 * 24576 ≤ lead125 s))) ∧
  ((∀ s n k, active s = true → (s.sch.ticks.find? fun t => t.tseq == n) = some k → ctAhead s k.instant ≤ 0 →
    Does (.strobeFire n) s fun t =>
      t.sch.ticks = s.sch.ticks.filter (fun u => u.tseq != n) ∧
        (∃ sp, t.acq.spans = s.acq.spans ++ [sp] ∧ sp.source = 0 ∧ sp.seq = n ∧ sp.point = k.point ∧ sp.instant = k.instant ∧
          sp.unsched = k.late ∧ sp.start = s.now ∧ sp.hold = (k.hold || !alignedNow s) ∧ sp.bal = balAtStrobe s) ∧
        t.bal.closed = 0 ∧ t.bal.testRun = 0 ∧
        (isAnchor s = true → t.sch.report = some { tseq := n, point := k.point, rev := s.ph.rev, pos := s.ph.pos,
                                                   count := s.ph.count, epoch := s.ph.epoch }) ∧
        (isAnchor s = false → t.sch.report = s.sch.report) ∧ Only [.sch, .acq, .bal, .core] s t) ∧
  (∀ s n k, (s.sch.ticks.find? fun t => t.tseq == n) = some k → 0 < ctAhead s k.instant → Idle (.strobeFire n) s) ∧
  (∀ s n, (s.sch.ticks.find? fun t => t.tseq == n) = none → Idle (.strobeFire n) s))

/-- O18. The anchor's time frames (05 R141, R160, R167; 11 R407, R409, R410, R415, R424; 14 R541; 23 R870): a beat that is due, the
earliest unsent tick's frame, while its lead can be kept, or the oldest untold cancellation leaves; a tick frame's copies start
together, or wait together while a line is busy; a report goes with one time frame only; the M-th tick of the settings that apply to
it announces a window where one may be announced. -/
def Obligations.AnchorSendsTimeFrames : Prop :=
  (∀ s, mayTime s = true → beatDue s = true → Does .beatSend s fun t =>
    t.sch.report = none ∧ t.sch.ticks = s.sch.ticks ∧ t.chn.lseq = s.chn.lseq + 1 ∧
      (portBusy (latchGen (latchGen s .south) .north) .south = false → portBusy (latchGen (latchGen s .south) .north) .north = false →
        t.sch.frameAt = s.now) ∧
      (s.sp.genDue = none → s.np.genDue = none → t.tim = s.tim) ∧
      Only [.freeCtr, .tim, .sch, .acq, .apl, .core, .chn, .sp, .np] s t) ∧
  (∀ s, mayTime s = false → Idle .beatSend s ∧ Idle .tickFrameSend s ∧ Idle .cancelFrameSend s) ∧
  (∀ s, beatDue s = false → Idle .beatSend s) ∧
  (∀ s k, mayTime s = true → unsentTick s.sch.ticks = some k → leadKept s k.instant = true → Does .tickFrameSend s fun t =>
    t.sch.ticks = markSent s.sch.ticks k.tseq ∧ t.sch.report = none ∧ t.chn.lseq = s.chn.lseq + 1 ∧
      (portBusy (latchGen (latchGen s .south) .north) .south = false → portBusy (latchGen (latchGen s .south) .north) .north = false →
        t.sch.frameAt = s.now) ∧
      (s.chn.setq = [] → (s.chn.m = 0 ∨ windowFree s = false) →
        t.chn.win = s.chn.win ∧ t.chn.ticksSince = s.chn.ticksSince + 1) ∧
      (s.chn.setq = [] → s.chn.m ≠ 0 → windowFree s = true → s.chn.m.toNat ≤ s.chn.ticksSince + 1 →
        portBusy (latchGen (latchGen s .south) .north) .south = false → portBusy (latchGen (latchGen s .south) .north) .north = false →
        t.chn.ticksSince = 0 ∧ t.chn.winAt = some s.now ∧
          ∃ w, t.chn.win = some w ∧ w.kind = s.chn.kind ∧ w.count = s.chn.top ∧ w.done = false) ∧
      (s.sp.genDue = none → s.np.genDue = none → t.tim = s.tim) ∧
      Only [.freeCtr, .tim, .sch, .acq, .apl, .core, .chn, .sp, .np] s t) ∧
  (∀ s, unsentTick s.sch.ticks = none → Idle .tickFrameSend s) ∧
  (∀ s k, unsentTick s.sch.ticks = some k → leadKept s k.instant = false → Idle .tickFrameSend s) ∧
  (∀ s n r q, mayTime s = true → s.sch.cancelQ = (n, r) :: q → Does .cancelFrameSend s fun t =>
    t.sch = { s.sch with cancelQ := q } ∧ t.chn.lseq = s.chn.lseq + 1 ∧
      (s.sp.genDue = none → s.np.genDue = none → t.tim = s.tim) ∧ Only [.tim, .sch, .chn, .sp, .np] s t) ∧
  (∀ s, s.sch.cancelQ = [] → Idle .cancelFrameSend s) ∧
  (∀ s, s.pw.firstBeat = true → 8 * ctPerMs ≤ s.now - s.pw.wokeAt →
    mayTime { s with pw := { s.pw with firstBeat := false } } = true → Does .firstBeatAfterWake s fun t =>
      t.pw = { s.pw with firstBeat := false } ∧ t.chn.lseq = s.chn.lseq + 1 ∧ t.sch.report = none ∧
        (s.sp.genDue = none → s.np.genDue = none → t.tim = s.tim) ∧
        Only [.pw, .freeCtr, .tim, .sch, .acq, .apl, .core, .chn, .sp, .np] s t) ∧
  (∀ s, (s.pw.firstBeat = false ∨ s.now - s.pw.wokeAt < 8 * ctPerMs) → Idle .firstBeatAfterWake s)

/-! ## Acquisition and cross-checks (06, 07) -/

/-- O19. The oldest span's result (06 R178, R179, R191 to R195, R199): it is kept newest first, with its words; a scheduled one waits
for a frame that left the anchor after its instant, and is released at once by one that has come already (05 R169); another is
released at once; a release ends the running applet's budget interval (20 R791) and an applet's wait. Release without a frame, and
on-request acquisitions, which wait for the quiet time (05 R169; 14 R528; 08 R268). -/
def Obligations.ResultsKeptReleasedAndRequested : Prop :=
  ((∀ s r sp rest, active s = true → s.acq.spans = sp :: rest →
    Does (.resultReady r) s fun t =>
      let k : Snapshot := { seq := sp.seq, point := sp.point, source := sp.source, win := sp.win, hold := sp.hold,
                            unsched := sp.unsched, instant := sp.instant,
                            words := (List.finRange 19).map (chanWord s sp r), start := sp.start }
      t.acq.spans = rest ∧ t.acq.kept = (k :: s.acq.kept).take 8 ∧
        (sp.source ≠ 0 → t.acq.held = s.acq.held ∧ t.acq.rel = s.acq.rel ∧
          (s.apl.state = .running → t.apl.ivAt = s.now ∧ t.apl.charge = 0)) ∧
        (sp.source = 0 → s.sch.ttx = none → t.acq.held = s.acq.held ++ [k] ∧ t.acq.rel = s.acq.rel ∧ t.apl = s.apl) ∧
        (∀ x, sp.source = 0 → s.sch.ttx = some x →
          t.acq.held = (s.acq.held ++ [k]).filter (fun q => !ctAfter x q.instant) ∧
            t.acq.rel = s.acq.rel ++ (s.acq.held ++ [k]).filter (fun q => ctAfter x q.instant)) ∧
        (sp.source = 2 → t.acq.startRun = false ∧ t.acq.startDone = some k.words) ∧
        (isAnchor s = false → t.en = s.en) ∧
        (s.apl.suspended = false → t.core = s.core ∧ (s.apl.state ≠ .running → t.apl = s.apl)) ∧
        Only [.acq, .bal, .en, .apl, .core, .sch] s t) ∧
  (∀ s sp r (k : Fin 19), chanOff s.cfg k = true → chanWord s sp r k = 0x80000000#32) ∧
  (∀ s r, s.acq.spans = [] → Idle (.resultReady r) s)) ∧
  ((∀ s k q, active s = true → s.apl.suspended = false → s.acq.held = k :: q → Does .resultReleaseTimeout s fun t =>
    t.acq.held = q ∧ t.acq.rel = s.acq.rel ++ [{ k with unsched := true }] ∧
      (s.apl.state = .running → t.apl.ivAt = s.now ∧ t.apl.charge = 0) ∧ Only [.acq, .apl] s t) ∧
  (∀ s k q, active s = true → s.apl.suspended = true → s.acq.held = k :: q → Does .resultReleaseTimeout s fun t =>
    t.apl.suspended = false ∧ t.core.g[1] = 0 ∧ t.acq.held = q) ∧
  (∀ s n, active s = true → quietOk s = true → s.acq.req = some n → Does .onrequestAcquisition s fun t =>
    t.acq.req = none ∧ t.bal.closed = 0 ∧ t.bal.testRun = 0 ∧
      (∃ sp, t.acq.spans = s.acq.spans ++ [sp] ∧ sp.source = 1 ∧ sp.seq = n ∧ sp.start = s.now ∧ sp.instant = chainMp s) ∧
      Only [.acq, .bal] s t) ∧
  (∀ s, (s.acq.req = none ∨ quietOk s = false) → Idle .onrequestAcquisition s))

/-- O20. Open-wire checks (06 R201, R202, R204, R205, R207): a check starts only where it may, after a start-up acquisition, periodic or
forced, opens every switch, and its sinks are on in no step but one of each phase; its end, after the last step, fails exactly the
wells whose verdict is so and is followed by XC1 and XC2. XC1, XC2 and XC4 (07 R243, R244, R246, R247, Table 7-11): they complete
where they may, each failing bit follows the run, a second failure in a row raises the fault of XC2 and XC4, and a third pass in a row
clears it. -/
def Obligations.OpenWireAndCrossChecks : Prop :=
  ((∀ s, active s = true → s.acq.ow = .idle → (s.acq.startDone = none ∨ s.acq.startOw = true) →
    (∀ x, s.acq.owDone = some x → x + fld s.cfg.acqCfg 15 8 * 100 * ctPerMs ≤ s.now) → noSpan s = true → s.sch.ticks = [] →
    s.bal.testRun = 0 →
    Does .openWireStart s fun t => t.acq.ow = .check ∧ t.acq.owForced = false ∧ t.acq.owEven = false ∧ t.acq.owAt = s.now ∧
      (t.acq.owStep = .reference ∨ t.acq.owStep = .quiet) ∧ t.bal.closed = 0 ∧ t.bal.testOn = 0 ∧ Only [.acq, .bal] s t) ∧
  (∀ s, active s = true → s.acq.ow = .idle → s.acq.startDone ≠ none → s.acq.startOw = false → Does .openWireStart s fun t =>
    t.acq.ow = .check ∧ t.acq.owForced = true ∧ t.acq.owEven = false ∧ t.acq.owAt = s.now ∧
      (t.acq.owStep = .reference ∨ t.acq.owStep = .quiet) ∧ t.bal.closed = 0 ∧ t.bal.testOn = 0 ∧ t.bal.testRun = 0 ∧
      Only [.acq, .bal] s t) ∧
  (∀ s, s.acq.startDone = none → (noSpan s = false ∨ s.sch.ticks ≠ [] ∨ s.bal.testRun ≠ 0) → Idle .openWireStart s) ∧
  (∀ s x, s.acq.startDone = none → s.acq.owDone = some x → s.now < x + fld s.cfg.acqCfg 15 8 * 100 * ctPerMs →
    Idle .openWireStart s) ∧
  (∀ s, active s = true → s.acq.ow = .idle →
    s.acq.owDone.getD s.rst.releaseAt + 10 * (fld s.cfg.acqCfg 15 8 * 100 * ctPerMs) ≤ s.now → Does .openWireForced s fun t =>
      t.acq.ow = .check ∧ t.acq.owForced = true ∧ t.acq.owEven = false ∧ t.acq.owAt = s.now ∧
      (t.acq.owStep = .reference ∨ t.acq.owStep = .quiet) ∧ t.bal.closed = 0 ∧ t.bal.testOn = 0 ∧ Only [.acq, .bal] s t) ∧
  (∀ s, s.now < s.acq.owDone.getD s.rst.releaseAt + 10 * (fld s.cfg.acqCfg 15 8 * 100 * ctPerMs) → Idle .openWireForced s) ∧
  (∀ s, s.acq.ow = .check → s.acq.owStep = .reference → (owNext s).acq.owStep = .sinks ∧
    owSinks s = 0 ∧ owSinks (owNext s) = usedMask s.cfg &&& (if s.acq.owEven then ~~~ oddWells else oddWells) ∧
    (∀ sp ∈ s.acq.spans, spanOpen s sp = true → ∀ w : Well, hasW (usedMask s.cfg) w = true →
      ∃ q ∈ (owNext s).acq.spans, q.seq = sp.seq ∧ q.stale.getLsbD (w.val + 1) = true)) ∧
  (∀ s, owSinks s ≠ 0 → s.acq.ow = .check ∧ s.acq.owStep = .sinks) ∧
  (∀ s ref test, active s = true → s.acq.ow = .check → s.acq.owStep = .over → Does (.openWireDone ref test) s fun t =>
    t.acq.ow = .xc ∧ t.acq.owStep = .over ∧ t.acq.xcDue = true ∧ t.acq.owDone = some s.now ∧
      t.acq.startOw = (s.acq.startOw || s.acq.owBoot) ∧ t.acq.owStat = owStatOf (popOf s.cfg) t.acq.owFail ∧
      (∀ w : Well, hasW t.acq.owFail w = (hasW (usedMask s.cfg) w && owVerdict s ref test w)) ∧ Only (.acq :: journalParts) s t) ∧
  (∀ s ref test, (s.acq.ow ≠ .check ∨ s.acq.owStep ≠ .over) → Idle (.openWireDone ref test) s)) ∧
  ((∀ s v1 v2, active s = true → s.acq.xcDue = true → s.acq.ow = .xc → s.acq.owStep = .over → Does (.xc1Xc2Run v1 v2) s fun t =>
    t.acq.ow = .idle ∧ t.acq.owForced = false ∧ t.acq.xcDue = false ∧ t.acq.xcDone = some s.now ∧
      t.aux.xcRan.getLsbD 0 = true ∧
      t.aux.xcFail.getLsbD 0 = ((wellList (cellMask s.cfg)).any fun w => !isBusbarRange s.cfg w &&
        !(decide (1194000 ≤ v1.getD w.val 0) && decide (v1.getD w.val 0 ≤ 1206000))) ∧
      CheckRan s t 1 (decide (99600 ≤ v2) && decide (v2 ≤ 100400)) ∧
      Only (.acq :: .aux :: .bal :: .prot :: .core :: journalParts) s t) ∧
  (∀ s v1 v2, (s.acq.xcDue = false ∨ s.acq.ow ≠ .xc ∨ s.acq.owStep ≠ .over) → Idle (.xc1Xc2Run v1 v2) s) ∧
  (∀ s v, active s = true → Does (.xc4Run v) s fun t =>
    CheckRan s t 3 (decide (2485000 ≤ v) && decide (v ≤ 2515000)) ∧
      (∀ i, i ≠ 3 → t.aux.xcFail.getLsbD i = s.aux.xcFail.getLsbD i ∧ t.aux.xcFault.getLsbD i = s.aux.xcFault.getLsbD i) ∧
      t.acq = s.acq ∧ Only (.aux :: .bal :: .prot :: .core :: journalParts) s t) ∧
  (∀ s v, active s = false → Idle (.xc4Run v) s))

/-- O21. The thermistor cycle (07 R226 to R236): phase A, then phase B, nine conversions each, in slots that the die conversions open;
the complete set is published once, with the next cycle number. A die sensor (07 R228, R241 to R243; 09 R305): the frames convert the
sensors in turn, the reading is stored, `DIE_TMAX` is the highest of the converted ones, 135 °C raises the over-temperature, which only
125 °C ends, and at 125 °C no internal switch conducts (08 R272; 03 R91). -/
def Obligations.ThermistorAndDieConversions : Prop :=
  ((∀ s, active s = true → s.aux.ntcRun = false → Does .ntcCycleStart s fun t =>
    t.aux.ntcRun = true ∧ t.aux.ntcB = false ∧ t.aux.ntcIdx = 0 ∧ t.aux.ntcCfg = s.cfg.ntcCfg ∧ t.aux.ntcMp = chainMp s ∧
      t.aux.ntcAt = s.now ∧ t.aux.ntcFrame = s.aux.frame ∧ t.aux.tsa = true ∧ t.aux.tsb = false ∧ Only [.aux] s t) ∧
  (∀ s, active s = true → s.aux.ntcRun = true → s.aux.ntcB = false → s.aux.ntcIdx = 9 → Does .ntcPhaseStart s fun t =>
    t.aux = { s.aux with ntcB := true, ntcIdx := 0, ntcFrame := s.aux.frame, tsa := false, tsb := true } ∧ Only [.aux] s t) ∧
  (∀ s code (h : s.aux.ntcIdx < 8), active s = true → s.aux.ntcRun = true → slotFree s = true → s.aux.ntcB = false →
    Does (.ntcConversion code) s fun t =>
    t.aux.ntcIdx = s.aux.ntcIdx + 1 ∧ t.aux.codeA[s.aux.ntcIdx] = BitVec.ofNat 16 (clampI 0 65535 code).toNat ∧
      t.aux.codeB = s.aux.codeB ∧ t.aux.slots = s.aux.slots - 1 ∧ Only [.aux] s t) ∧
  (∀ s code (h : s.aux.ntcIdx < 8), active s = true → s.aux.ntcRun = true → slotFree s = true → s.aux.ntcB = true →
    Does (.ntcConversion code) s fun t =>
    t.aux.ntcIdx = s.aux.ntcIdx + 1 ∧ t.aux.codeB[s.aux.ntcIdx] = BitVec.ofNat 16 (clampI 0 65535 code).toNat ∧
      t.aux.codeA = s.aux.codeA ∧ t.aux.slots = s.aux.slots - 1 ∧ Only [.aux] s t) ∧
  (∀ s code, active s = true → s.aux.ntcRun = true → slotFree s = true → s.aux.ntcB = false → s.aux.ntcIdx = 8 →
    Does (.ntcConversion code) s fun t =>
    t.aux.ntcIdx = 9 ∧ t.aux.ntcRun = true ∧ t.aux.xc3A = (decide (47490 ≤ code) && decide (code ≤ 52013)) ∧
      t.aux.xcFail.getLsbD 2 = !t.aux.xc3A) ∧
  (∀ s code, active s = true → s.aux.ntcRun = true → slotFree s = true → s.aux.ntcB = true → s.aux.ntcIdx = 8 →
    Does (.ntcConversion code) s fun t =>
    t.aux.ntcIdx = 9 ∧ t.aux.ntcRun = false ∧ t.aux.ntcDone = true ∧ t.aux.tsb = false ∧
      t.aux.xc3B = (decide (47490 ≤ code) && decide (code ≤ 52013)) ∧ t.aux.xcFail.getLsbD 2 = !t.aux.xc3B) ∧
  (∀ s code, slotFree s = false → Idle (.ntcConversion code) s) ∧
  (∀ s, fwOn s = true → s.aux.ntcDone = true → Does .ntcSetPublish s fun t =>
    t.aux.ntcDone = false ∧ t.aux.ntcCount = s.aux.ntcCount + 1 ∧ t.aux.ntcPub = true ∧
      (∀ n : Fin 8, t.aux.ntcWord[n] = ntcWordAt s n) ∧ (∃ b, t.acq.ntcRel = s.acq.ntcRel ++ [b] ∧ b.length = 40) ∧
      t.mem = s.mem ∧ t.core = s.core)) ∧
  (∀ s n v, active s = true → s.aux.frame % 4 = n.val → Does (.dieConversion n v) s fun t =>
    t.aux.die = s.aux.die.set n v ∧ t.aux.dieSeen.getLsbD n.val = true ∧ t.aux.frame = s.aux.frame + 1 ∧ t.aux.slots = 3 ∧
      (∀ i : Fin 4, t.aux.dieSeen.getLsbD i.val = true → t.aux.die[i].toInt ≤ t.aux.tmax.toInt) ∧
      (fwOn s = true → 8640 ≤ t.aux.tmax.toInt → t.aux.ot = true) ∧ (fwOn s = true → t.aux.tmax.toInt ≤ 8000 → t.aux.ot = false) ∧
      (8000 < t.aux.tmax.toInt → t.aux.tmax.toInt < 8640 → t.aux.ot = s.aux.ot) ∧
      (8000 ≤ t.aux.tmax.toInt → extFet s = false → t.bal.closed = 0 ∧ t.bal.testOn = 0 ∧ t.bal.grant = 0) ∧
      t.core = { s.core with ipend := t.core.ipend } ∧ t.mem = s.mem) ∧
  (∀ s n v, s.aux.frame % 4 ≠ n.val → Idle (.dieConversion n v) s)

/-! ## Balancing (08) -/

/-- O22. Frames, grants and ends (08 R261, R262, R264, R271, R273, R899): a frame grants only wells whose request runs
and is tested, for at most the frame, never two neighbours, and closes switches only where the firmware runs and nothing holds them
open; a grant's end opens its switch, and time elapsed ends the request. -/
def Obligations.BalancingFramesAndEnds : Prop :=
  (∀ s, running s = true → Does .balFrame s fun t =>
    t.bal.frame = s.bal.frame + 1 ∧
      (∀ w : Well, hasW t.bal.grant w = true →
        t.bal.wells[w].req = true ∧ t.bal.wells[w].pause = 0 ∧ tested t w = true) ∧
      (extFet s = false → t.bal.grantCt ≤ frameCt ∧
        ∀ i, i < 17 → ¬ (t.bal.grant.getLsbD i = true ∧ t.bal.grant.getLsbD (i + 1) = true)) ∧
      (extFet s = false → 8000 ≤ s.aux.tmax.toInt → t.bal.grant = 0) ∧ (fwOn s = false → t.bal.grant = 0) ∧
      (t.bal.closed = 0 ∨ (t.bal.closed = t.bal.grant ∧ noSpan s = true ∧ s.sch.ticks = [] ∧ s.acq.req = none ∧ s.acq.ow = .idle ∧
        s.bal.testRun = 0 ∧ fwOn s = true)) ∧
      Only [.bal] s t) ∧
  (∀ s w, Does (.balGrantExpire w) s fun t =>
    t.bal.grant = putW s.bal.grant w false ∧ hasW t.bal.closed w = false ∧
      (∀ i : Well, i ≠ w → hasW t.bal.closed i = hasW s.bal.closed i) ∧ t.bal.wells = s.bal.wells ∧ Only [.bal] s t) ∧
  (∀ s w, active s = true → s.bal.wells[w].req = true → Does (.balTimeElapsed w) s fun t =>
    t.bal.wells[w] = endWell s.bal.wells[w] 1 ∧ (∀ i, i ≠ w → t.bal.wells[i] = s.bal.wells[i]) ∧
      hasW t.bal.closed w = false ∧ hasW t.bal.grant w = false ∧
      (∀ i : Well, i ≠ w → hasW t.bal.closed i = hasW s.bal.closed i ∧ hasW t.bal.grant i = hasW s.bal.grant i) ∧
      Only [.bal] s t) ∧
  (∀ s w, s.bal.wells[w].req = false → Idle (.balTimeElapsed w) s) ∧
  (∀ s, active s = true → s.pw.balGone = false → Does .balLossExpire s fun t =>
    t.pw = { s.pw with balGone := true } ∧ (∀ w : Well, t.bal.wells[w].req = false) ∧
      (∀ w : Well, s.bal.wells[w].req = true → t.bal.wells[w] = endWell s.bal.wells[w] 4 ∧ hasW t.bal.closed w = false) ∧
      (reqMask s = 0 → t.jrn = s.jrn) ∧ (reqMask s ≠ 0 → jrnRoom s = true → JournalGains s t false 0x45 [4, 0]) ∧
      Only (.pw :: .bal :: journalParts) s t) ∧
  (∀ s, s.pw.balGone = true → Idle .balLossExpire s)

/-- O23. Switch tests (08 R271 to R281; 14 R536): a test starts only with no span open, no acquisition and no tick pending, and not at
125 °C (03 R91), and a periodic one that
falls due pauses its wells at once; once its steps are over its verdict stamps the pass, or marks the well and ends the request; a
switch that stays open or closed ends every request and is latched. -/
def Obligations.SwitchTests : Prop :=
  (∀ s, fwOn s = true → noSpan s = true → s.sch.ticks = [] → s.acq.req = none → s.acq.ow = .idle → s.bal.testRun = 0 →
    dieHot s = false → testWanted s ≠ 0 → Does .switchTestStart s fun t =>
      t.bal.testRun = testWanted s ∧ t.bal.due = 0 ∧ t.bal.closed = 0 ∧ t.bal.testOn = 0 ∧ t.bal.testAt = s.now ∧
        t.bal.wells = s.bal.wells ∧ t.bal.testEven = (testWanted s &&& oddWells == 0) ∧ Only [.bal] s t) ∧
  (∀ s, (noSpan s = false ∨ s.sch.ticks ≠ [] ∨ s.acq.req ≠ none ∨ dieHot s = true ∨ testWanted s = 0) → Idle .switchTestStart s) ∧
  (∀ s, active s = true → Does .switchTestPeriodic s fun t =>
    t.bal.due = s.bal.due ||| reqMask s ||| (if dieHot s then s.bal.testRun else 0) ∧
      (∀ w : Well, s.bal.wells[w].req = true → hasW (cellMask s.cfg) w = true →
        t.bal.wells[w].req = true ∧ t.bal.wells[w].pause.getLsbD 3 = true ∧ hasW t.bal.closed w = false) ∧ Only [.bal] s t) ∧
  (∀ s r, fwOn s = true → s.bal.testRun ≠ 0 → testOver s = true → Does (.switchTestDone r) s fun t =>
    t.bal.testRun = 0 ∧
      (∀ w : Well, hasW (s.bal.testRun &&& usedMask s.cfg) w = true →
        let v := switchVerdict s w (r.getD w.val { vc := 0, vo := 0, vd := 0, clipped := false })
        (∀ ron, v = .pass ron → t.bal.wells[w].passAt = some s.now ∧ hasW t.bal.testFail w = false ∧
          ∀ n, ron = some n → t.bal.wells[w].ron = n) ∧
        (v = .closedFail → hasW t.bal.testFail w = true ∧ t.bal.wells[w].req = false) ∧
        (v = .openFail → hasW t.bal.testFail w = true ∧ hasW t.bal.stuck w = true ∧ ∀ i : Well, t.bal.wells[i].req = false)) ∧
      Only (.bal :: .prot :: journalParts) s t) ∧
  (∀ s r, (s.bal.testRun = 0 ∨ testOver s = false) → Idle (.switchTestDone r) s) ∧
  (∀ s x l, active s = true → s.bal.btest = x :: l → noWaiters s x.w.verb x.w.msg = true → Does .balTestTimeout s fun t =>
    t.bal = { s.bal with btest := l } ∧
      HostReply s t x.w.verb x.w.msg false false
        (leBytes 4 x.pass.toNat ++ leBytes 4 x.other.toNat ++ leBytes 4 x.todo.toNat) ∧ Only (.bal :: replyParts) s t)

/-! ## Protection and gate (09) -/

/-- O24. The short-circuit comparator (07 R212, R219 to R223; 09 R320, R329, R905): an armed trip in an enabled direction
latches cause 1 in RAMP (or a turn-off from it), 2 in ON, and turns off; while reset is held the latch stands without a record, by the
model's choice (log 110); the self-test fails with cause 8; ramp start. -/
def Obligations.ShortCircuitComparator : Prop :=
  (∀ s hi, running s = true → scArmed s = true → scDir s hi = true → s.gate.disc = false → Does (.scTrip hi) s fun t =>
    t.gate.disc = true ∧ t.gate.state = .turnoff ∧ ownFault t = true ∧
      t.gate.cause = (if s.gate.state = .on ∨ (s.gate.state = .turnoff ∧ s.gate.fromOn = true) then 2 else 1) ∧
      t.store = { s.store with disc := some t.gate.cause, discAt := s.now } ∧
      t.acq = { s.acq with spans := s.acq.spans.map (fun sp => if spanOpen s sp then { sp with scTrip := true } else sp),
                           scAt := some s.now } ∧
      (isAnchor s = true → torqueOn s = true → s.tq.enabling = [] → t.tq.ten = false ∧ t.tq.rd = .removed) ∧
      Only (.acq :: .core :: .gate :: .store :: .prot :: .tq :: .pw :: journalParts) s t) ∧
  (∀ s hi, running s = false → scArmed s = true → scDir s hi = true → s.gate.disc = false → Does (.scTrip hi) s fun t =>
    t.gate.disc = true ∧ t.gate.state = s.gate.state ∧ t.store = { s.store with disc := some t.gate.cause, discAt := s.now } ∧
      t.jrn = s.jrn ∧ Only [.acq, .gate, .store, .prot, .chn, .host] s t) ∧
  (∀ s hi, (scArmed s = false ∨ scDir s hi = false) → Idle (.scTrip hi) s) ∧
  (∀ s a b, active s = true → s.gate.state = .test → (scDir s true = true → a = true) → (scDir s false = true → b = true) →
    Does (.scSelfTestDone a b) s fun t => t.gate = { s.gate with testOk := true } ∧
      t.core = { s.core with ipend := t.core.ipend } ∧ Only [.gate, .core] s t) ∧
  (∀ s a b, active s = true → s.gate.state = .test → s.gate.disc = false →
    ((scDir s true = true ∧ a = false) ∨ (scDir s false = true ∧ b = false)) → Does (.scSelfTestDone a b) s fun t =>
      t.gate.disc = true ∧ t.gate.cause = 8 ∧ t.gate.state = .fault ∧ t.gate.cp = false ∧ ownFault t = true) ∧
  (∀ s, active s = true → s.gate.state = .test → s.gate.testOk = true → Does .gateRampStart s fun t =>
    t = { s with gate := { s.gate with state := .ramp, ck := 0, overs := 0,
                                       hold := fld s.cfg.gateCfg2 15 8 != 0 && s.prot.ovTrip != 0 } }) ∧
  (∀ s, (s.gate.state ≠ .test ∨ s.gate.testOk = false) → Idle .gateRampStart s)

/-- O25. The gate (09 R321 to R323, R325, R330, R904): a checkpoint passes or latches its own cause, the fourth ends in ON;
two samples in a row above `CK4` latch cause 7, the OV hold-off cause 9; a checkpoint missed at the moment of a latch joins its
causes; the turn-off ends clamped, in OFF or FAULT. -/
def Obligations.GateCheckpointsSamplesTurnoff : Prop :=
  (∀ s vds, running s = true → s.gate.state = .ramp → s.gate.ck < 3 → vds ≤ ckLimit s.cfg (s.gate.ck + 1) →
    Does (.gateCheckpoint vds false) s fun t => t = { s with gate := { s.gate with vds := vds, ck := s.gate.ck + 1 } }) ∧
  (∀ s vds, running s = true → s.gate.state = .ramp → s.gate.ck = 3 → vds ≤ ckLimit s.cfg 4 →
    Does (.gateCheckpoint vds false) s fun t =>
      t.gate.state = .on ∧ t.gate.vds = vds ∧ t.gate.disc = s.gate.disc ∧ t.core = { s.core with ipend := t.core.ipend } ∧
        Only (.gate :: .core :: replyParts) s t) ∧
  (∀ s vds, running s = true → s.gate.state = .ramp → s.gate.ck < 4 → s.gate.disc = false → ckLimit s.cfg (s.gate.ck + 1) < vds →
    Does (.gateCheckpoint vds false) s fun t =>
      t.gate.state = .turnoff ∧ t.gate.fromOn = false ∧ t.gate.disc = true ∧ t.gate.cause = BitVec.ofNat 4 (3 + s.gate.ck) ∧
        ownFault t = true ∧ t.store = { s.store with disc := some t.gate.cause, discAt := s.now }) ∧
  (∀ s vds, running s = true → latchedNow s = true → s.gate.fromOn = false → s.gate.ck < 4 → ckLimit s.cfg (s.gate.ck + 1) < vds →
    Does (.gateCheckpoint vds false) s fun t =>
      t.gate.state = .turnoff ∧ t.gate.disc = true ∧ t.gate.causes = s.gate.causes ||| (1#16 <<< (2 + s.gate.ck)) ∧
        Only [.gate, .store, .jrn] s t) ∧
  (∀ s vds, running s = true → s.gate.state = .ramp → s.gate.ck < 4 → s.gate.disc = false →
    Does (.gateCheckpoint vds true) s fun t => t.gate.state = .turnoff ∧ t.gate.disc = true ∧ t.gate.cause = 1) ∧
  (∀ s vds, active s = true → s.gate.state = .on → vds ≤ ckLimit s.cfg 4 → Does (.gateVdsSample vds) s fun t =>
    t = { s with gate := { s.gate with vds := vds, overs := 0 } }) ∧
  (∀ s vds, active s = true → s.gate.state = .on → ckLimit s.cfg 4 < vds → s.gate.overs = 0 → Does (.gateVdsSample vds) s fun t =>
    t = { s with gate := { s.gate with vds := vds, overs := 1 } }) ∧
  (∀ s vds, active s = true → s.gate.state = .on → ckLimit s.cfg 4 < vds → 1 ≤ s.gate.overs → s.gate.disc = false →
    Does (.gateVdsSample vds) s fun t =>
      t.gate.state = .turnoff ∧ t.gate.fromOn = true ∧ t.gate.disc = true ∧ t.gate.cause = 7 ∧ ownFault t = true) ∧
  (∀ s, s.gate.state = .turnoff → s.gate.stage2 = false → Does .gateTurnoffStageEnd s fun t =>
    t = { s with gate := { s.gate with stage2 := true } }) ∧
  (∀ s, s.gate.state = .turnoff → s.gate.stage2 = true → Does .gateTurnoffStageEnd s fun t =>
    t.gate.state = (if s.gate.disc then .fault else .off) ∧ t.gate.stage2 = false ∧ t.gate.disc = s.gate.disc ∧
      Only (.gate :: .core :: replyParts) s t) ∧
  (∀ s, s.gate.hold = true → s.gate.state = .on → s.gate.disc = false → Does .ovHoldoffExpire s fun t =>
    t.gate.state = .turnoff ∧ t.gate.disc = true ∧ t.gate.cause = 9 ∧ ownFault t = true) ∧
  (∀ s, s.gate.hold = false → latchedNow s = false → Idle .ovHoldoffExpire s)

/-- O26. OV and UV comparators (09 R289 to R292, R297, R298; 08 Table 8-7; 04 R117): a crossing runs the deglitch of its own
comparator only; a trip, which only a deglitch that runs makes, is latched for that comparator only, holds `FAULT_N`, marks open
spans, is an incident record, and a UV trip ends the well's balancing; a release clears it; what happens while reset is held is
kept for the release. -/
def Obligations.ComparatorsTripAndRelease : Prop :=
  (∀ s w uv b, cmpOn s w = true → underTest s w uv = false → cmpTripped s w uv = false →
    Does (.comparatorCrossing w uv b) s fun t =>
      cmpDeg t w uv = b ∧ (∀ w' uv', (w' ≠ w ∨ uv' ≠ uv) → cmpDeg t w' uv' = cmpDeg s w' uv') ∧
        (∀ w' uv', cmpTripped t w' uv' = cmpTripped s w' uv') ∧ Only [.prot] s t) ∧
  (∀ s w uv b, (cmpOn s w = false ∨ cmpTripped s w uv = true) → Idle (.comparatorCrossing w uv b) s) ∧
  (∀ s w uv b x, cmpOn s w = true → cmpTripped s w uv = false → underTest s w uv = true → s.prot.test = some x →
    Does (.comparatorCrossing w uv b) s fun t => t = { s with prot := { s.prot with test := some { x with cross := b } } }) ∧
  (∀ s w uv, underTest s w uv = false → cmpDeg s w uv = false → Idle (.comparatorTrip w uv) s) ∧
  (∀ s w uv, cmpOn s w = true → underTest s w uv = false → cmpTripped s w uv = false → cmpDeg s w uv = true →
    Does (.comparatorTrip w uv) s fun t =>
    cmpTripped t w uv = true ∧ cmpDeg t w uv = false ∧ ownFault t = true ∧
      (∀ w' uv', (w' ≠ w ∨ uv' ≠ uv) → cmpTripped t w' uv' = cmpTripped s w' uv' ∧ cmpDeg t w' uv' = cmpDeg s w' uv') ∧
      t.acq = { s.acq with
        spans := s.acq.spans.map fun sp => if spanOpen s sp then { sp with trip := putW sp.trip w true } else sp } ∧
      (running s = false → t.prot.heldEvents = s.prot.heldEvents ++ [(w, uv, true)]) ∧
      (running s = true → mkEntry s true 0x03 ([BitVec.ofNat 8 (w.val + 1), BitVec.ofNat 8 (b2n uv)] ++
        leBytes 2 (if uv then fld s.cfg.cmpCfg 25 16 else fld s.cfg.cmpCfg 9 0)) ∈ t.jrn.queue) ∧
      (running s = true → uv = true → t.bal.wells[w].req = false) ∧ (uv = false → t.bal = s.bal ∧ t.tq = s.tq) ∧
      Only (.prot :: .gate :: .acq :: .bal :: .tq :: .core :: .pw :: journalParts) s t) ∧
  (∀ s w uv x, cmpOn s w = true → underTest s w uv = true → s.prot.test = some x → Does (.comparatorTrip w uv) s fun t =>
    t = { s with prot := { s.prot with test := some { x with tripped := true } } }) ∧
  (∀ s w uv, cmpTripped s w uv = true → Does (.comparatorRelease w uv) s fun t =>
    cmpTripped t w uv = false ∧ (∀ w' uv', (w' ≠ w ∨ uv' ≠ uv) → cmpTripped t w' uv' = cmpTripped s w' uv') ∧
      (running s = true → jrnRoom s = true → JournalGains s t false 0x41 [1, BitVec.ofNat 8 (w.val + 1)]) ∧
      (running s = false → t.prot.heldEvents = s.prot.heldEvents ++ [(w, uv, false)]) ∧
      Only (.prot :: .gate :: .core :: journalParts) s t) ∧
  (∀ s w uv, cmpTripped s w uv = false → Idle (.comparatorRelease w uv) s)

/-- O27. Comparator self-tests (09 R294 to R302, R900 to R903): a test runs where nothing skips it; a skipped one
changes no fault, and a start-up test skipped for a trip or a deglitch is owed again; a pass under `CMP_TEST` clears the fault, a
failure raises it, and one made before the first result is only repeated; a crossing in the window starts its deglitch; the test of a
well that has left the used CELL-role wells judges nothing. -/
def Obligations.ComparatorSelfTests : Prop :=
  (∀ s w uv, active s = true → s.prot.test = none → hasW (cellMask s.cfg) w = true → cmpTripped s w uv = false →
    cmpDeg s w uv = false → skipByResult s w uv = false →
    (∀ o, testOrigin s w uv = some o → Does (.cmpSelfTestStart w uv) s fun t =>
      t = { s with prot := { s.prot with
        test := some { w := w, uv := uv, origin := o, tripped := false, blind := (lastCode s w).isNone, cross := false } } }) ∧
    (testOrigin s w uv = none → Idle (.cmpSelfTestStart w uv) s)) ∧
  (∀ s w uv, active s = true → s.prot.test = none → hasW (cellMask s.cfg) w = true → testOrigin s w uv = some .startup →
    (cmpTripped s w uv = true ∨ cmpDeg s w uv = true) → Does (.cmpSelfTestStart w uv) s fun t =>
      owed t w uv = false ∧ hasW (if uv then t.prot.againUv else t.prot.againOv) w = true) ∧
  (∀ s w uv, active s = true → s.prot.test = none →
    (hasW (cellMask s.cfg) w = false ∨ cmpTripped s w uv = true ∨ cmpDeg s w uv = true ∨ skipByResult s w uv = true) →
    Does (.cmpSelfTestStart w uv) s fun t =>
      t.prot.test = none ∧ (∀ w' uv', cmpFaulty t w' uv' = cmpFaulty s w' uv' ∧ cmpTripped t w' uv' = cmpTripped s w' uv') ∧
        Only (.prot :: replyParts) s t) ∧
  (∀ s x, active s = true → s.prot.test = some x → hasW (cellMask s.cfg) x.w = true → x.tripped = true →
    Does .cmpTestWindowEnd s fun t =>
    t.prot.test = none ∧ toRedo t x.w x.uv = false ∧
      cmpFaulty t x.w x.uv = (if x.origin = .verb then false else cmpFaulty s x.w x.uv) ∧
      cmpDeg t x.w x.uv = (x.cross && cmpOn s x.w) ∧ Only (.prot :: .core :: replyParts) s t) ∧
  (∀ s x, active s = true → s.prot.test = some x → hasW (cellMask s.cfg) x.w = true → x.tripped = false → x.blind = false →
    Does .cmpTestWindowEnd s fun t =>
      t.prot.test = none ∧ cmpFaulty t x.w x.uv = true ∧ ownFault t = true ∧
        (cmpFaulty s x.w x.uv = false →
          mkEntry s true 0x04 [BitVec.ofNat 8 (x.w.val + 1), BitVec.ofNat 8 (b2n x.uv)] ∈ t.jrn.queue) ∧
        Only (.prot :: .core :: journalParts) s t) ∧
  (∀ s x, active s = true → s.prot.test = some x → hasW (cellMask s.cfg) x.w = true → x.tripped = false → x.blind = true →
    Does .cmpTestWindowEnd s fun t =>
      t.prot.test = none ∧ toRedo t x.w x.uv = true ∧ cmpFaulty t x.w x.uv = cmpFaulty s x.w x.uv) ∧
  (∀ s x, active s = true → s.prot.test = some x → hasW (cellMask s.cfg) x.w = false → Does .cmpTestWindowEnd s fun t =>
    t.prot.test = none ∧ cmpDeg t x.w x.uv = false ∧ (∀ w' uv', cmpFaulty t w' uv' = cmpFaulty s w' uv') ∧
      Only (.prot :: replyParts) s t) ∧
  (∀ s, s.prot.test = none → Idle .cmpTestWindowEnd s)

/-- O28. FAULT frames and the head's LIVE bits (09 R312; 11 R416, R433; 12 R470): the timer sends `PROT_STAT` south
(and north from an orphan of a ring), then at most four repeats; a bit that no frame has carried for 10 ms leaves
LIVE. -/
def Obligations.FaultFramesAndLiveBits : Prop :=
  (∀ s, active s = true → s.chn.fltTimer = true → s.chn.addr ≠ 0x7F → Does .faultFrameTimer s fun t =>
    t.chn.fltTimer = false ∧ t.chn.fltRep = 4 ∧
      (∃ f, t.sp.txq = s.sp.txq ++ [f] ∧ f.type = 4 ∧ f.dst = 0 ∧ f.src = s.chn.addr ∧ f.lseq = s.chn.lseq ∧
        f.payload = leBytes 4 (protStat s).toNat) ∧
      ((s.tim.orphaned && s.chn.ring) = true →
        ∃ f, t.np.txq = s.np.txq ++ [f] ∧ f.type = 4 ∧ f.payload = leBytes 4 (protStat s).toNat) ∧
      ((s.tim.orphaned && s.chn.ring) = false → t.np = s.np ∧ t.chn.lseq = s.chn.lseq + 1) ∧ Only [.chn, .sp, .np] s t) ∧
  (∀ s, (s.chn.fltTimer = false ∨ s.chn.addr = 0x7F) → Idle .faultFrameTimer s) ∧
  (∀ s, active s = true → s.chn.fltRep ≠ 0 → s.chn.addr ≠ 0x7F → Does .faultFrameRepeat s fun t =>
    t.chn.fltRep = s.chn.fltRep - 1 ∧
      (∃ f, t.sp.txq = s.sp.txq ++ [f] ∧ f.type = 4 ∧ f.payload = leBytes 4 (protStat s).toNat) ∧ Only [.chn, .sp, .np] s t) ∧
  (∀ s, (s.chn.fltRep = 0 ∨ s.chn.addr = 0x7F) → Idle .faultFrameRepeat s) ∧
  (∀ s b, running s = true → isHead s = true → Does (.hostFltLiveAgeOut b) s fun t =>
    t.host.live.getLsbD b.val = (ownFlt s).getLsbD b.val ∧
      (∀ i, i ≠ b.val → t.host.live.getLsbD i = (liveFlt s).getLsbD i) ∧ Only [.chn, .host] s t)

/-! ## The link (10, 11) -/

/-- O29. Frames on the line (10 R349, R352, R354, R355, R372; 11 R387 to R391, R396, R407, R412): cut-through or store and
forward, a crust only for a validated copy, own frames as they leave, both copies of a time frame together and with the time at which
they leave, and a collision's release. A frame whose outgoing port is taken is counted and not relayed; one that comes while that
port receives is dropped too by the model's choice (log 19). -/
def Obligations.FramesOnTheLine : Prop :=
  (∀ s p g, portLive s p = true → transmitting s (portOf s p) = false →
    ((relays s && portLive s (otherPort p)) = false ∨ (portOf s (otherPort p)).genDue = none ∧
      transmitting s (portOf s (otherPort p)) = false ∧ (g = .el1 ∨ txGen (portOf s (otherPort p)) = .el1)) →
    Does (.frameRelayStart p g) s fun t =>
      t = setPort s p { portOf s p with rxBusy := true, cut := false, noRelay := false, hurt := false }) ∧
  (∀ s p, portLive s p = true → transmitting s (portOf s p) = false → relays s = true → portLive s (otherPort p) = true →
    (portOf s (otherPort p)).genDue = none → txGen (portOf s (otherPort p)) = .el2 →
    transmitting s (portOf s (otherPort p)) = false → (portOf s (otherPort p)).rxBusy = false →
    (portOf s (otherPort p)).brkIn = false → (portOf s (otherPort p)).rxBurst ≤ s.now →
    (portOf s (otherPort p)).freeAt ≤ s.now + nsCt cutNs → Does (.frameRelayStart p .el2) s fun t =>
      portOf t p = { portOf s p with rxBusy := true, cut := true, noRelay := false, hurt := false } ∧
        portOf t (otherPort p) = { portOf s (otherPort p) with relaying := true, txAs := .el2, alarmTx := false, burstTx := false,
                                                               txRel := false } ∧
        Only [.sp, .np] s t) ∧
  (∀ s p g, portLive s p = true → transmitting s (portOf s p) = false → relays s = true → portLive s (otherPort p) = true →
    (portOf s (otherPort p)).genDue = none →
    (transmitting s (portOf s (otherPort p)) = true ∨ g = .el2 ∧ txGen (portOf s (otherPort p)) = .el2 ∧
      ((portOf s (otherPort p)).rxBusy || (portOf s (otherPort p)).brkIn || decide (s.now < (portOf s (otherPort p)).rxBurst) ||
        decide (s.now + nsCt cutNs < (portOf s (otherPort p)).freeAt)) = true) →
    Does (.frameRelayStart p g) s fun t =>
      t.chn = { s.chn with drops := satInc s.chn.drops } ∧
        portOf t p = { portOf s p with rxBusy := true, cut := false, noRelay := true, hurt := false } ∧
        portOf t (otherPort p) = portOf s (otherPort p) ∧ Only [.chn, .sp, .np] s t) ∧
  (∀ s p g, (portLive s p = false ∨ transmitting s (portOf s p) = true) → Idle (.frameRelayStart p g) s) ∧
  (∀ s p r, portLive s p = true → (portOf s p).rxBusy = true →
    let x := { readLine r with codeErr := (readLine r).codeErr || (portOf s p).hurt }
    Does (.frameEndReceived p r) s fun t =>
      ((portOf s p).hurt = true → validate x = none) ∧
      (portOf t p).rxBusy = false ∧ (portOf t p).cut = false ∧ (portOf t p).freeAt = s.now + nsCt (turnNs x.gen) ∧
        t.chn.burnt = (if x.crust = .burnt then satInc s.chn.burnt else s.chn.burnt) ∧
        (portOf t p).cerr = (if x.codeErr then satInc (portOf s p).cerr else (portOf s p).cerr) ∧
        (portOf t p).rx = (if x.crust = .valid then some x.gen else (portOf s p).rx) ∧
        ((portOf s p).cut = false → ((portOf s p).noRelay = true ∨ validate x = none ∨
          (relays s && portLive s (otherPort p)) = false) → portOf t (otherPort p) = portOf s (otherPort p)) ∧
        (∀ f, (portOf s p).cut = false → (portOf s p).noRelay = false → validate x = some f → relays s = true →
          portLive s (otherPort p) = true → portOf t (otherPort p) = { portOf s (otherPort p) with
            fwd := (portOf s (otherPort p)).fwd ++ [{ frame := f, gen := x.gen, endAt := s.now }] }) ∧
        ((portOf s p).cut = true → (portOf t (otherPort p)).relaying = false ∧
          (portOf t (otherPort p)).endOut = some (match validate x with
            | none => .burnt
            | some f => if spoils s p f then .burnt else .valid) ∧
          (∀ f, validate x = some f → spoils s p f = false → (portOf t (otherPort p)).txNow = some (orFlt s (otherPort p) f))) ∧
        Only [.chn, .sp, .np, .tim, .core, .en] s t) ∧
  (∀ s p r, (portLive s p = false ∨ (portOf s p).rxBusy = false) → Idle (.frameEndReceived p r) s) ∧
  (∀ s p w l, portLive s p = true → lineFree s p = true → alarmOnAir s = false → (portOf s p).fwd = w :: l →
    (portOf s p).genDue = none → Does (.storeForwardSend p) s fun t =>
      (portOf t p).fwd = l ∧ (portOf t p).txNow = some (formCopy s p w (txGen (portOf s p))) ∧
        (portOf t p).endOut = some (if spoils s (otherPort p) w.frame then .burnt else .valid) ∧
        portOf t (otherPort p) = portOf s (otherPort p) ∧ Only [.chn, .sp, .np] s t) ∧
  (∀ s p f l, portLive s p = true → lineFree s p = true → takeStart s p (portOf s p).txq = some (f, l) → f.type ≠ 5 → f.type ≠ 6 →
    (portOf s p).genDue = none → (∀ x ∈ s.sp.txq ++ s.np.txq, tickLate s x = false) → Does (.frameTransmit p) s fun t =>
      let g := txGen (portOf s p)
      (portOf t p).txq = l ∧ (portOf t p).txNow = some (formOwn s g f (preambleNs g)) ∧ (portOf t p).endOut = some .valid ∧
        (portOf t p).txEnd = s.now + frameCt' g (formOwn s g f (preambleNs g)) .valid (preambleNs g) ∧
        portOf t (otherPort p) = portOf s (otherPort p) ∧ Only [.chn, .sp, .np, .core] s t) ∧
  (∀ s p f l, sendLive s p = true → lineFree s p = true → takeStart s p (portOf s p).txq = some (f, l) → (f.type = 5 ∨ f.type = 6) →
    (portOf s p).genDue = none → (portOf s (otherPort p)).genDue = none → (∀ x ∈ s.sp.txq ++ s.np.txq, tickLate s x = false) →
    Does (.frameTransmit p) s fun t =>
      (portOf t p).txq = l ∧ (portOf t p).endOut = some .valid ∧ t.sch.frameAt = s.now ∧
        (∃ x, (portOf t p).txNow = some x ∧ x.type = f.type ∧ x.lseq = f.lseq ∧ x.flt = anchorFlt s ∧
          leAt x.payload 0 4 = (s.tim.cnt + nsCt (leadNs s)) / 24 % 2 ^ 32 ∧
          (sendLive s (otherPort p) = true → (portOf s (otherPort p)).txq.contains f = true →
            (portOf t (otherPort p)).txq = (portOf s (otherPort p)).txq.erase f ∧
              ∃ y, (portOf t (otherPort p)).txNow = some y ∧ y.payload = x.payload ∧ y.lseq = f.lseq)) ∧
        Only [.freeCtr, .sch, .acq, .apl, .chn, .sp, .np, .core] s t) ∧
  (∀ s f, tickLate s f = true → f ∉ (dropLate s).sp.txq ∧ f ∉ (dropLate s).np.txq) ∧
  (∀ s p f, s.chn.addr ≠ 0x7F → isTime f.type = false → f.type ≠ 3 → f.type ≠ 0xB → f.type ≠ 0xC → (f.type = 4 → f.payload ≠ []) →
    mayStart s p f = (inFree s p f || s.tim.orphaned)) ∧
  (∀ s p, lineFree s p = false → Idle (.frameTransmit p) s ∧ Idle (.storeForwardSend p) s) ∧
  (∀ s p, (portOf s p).genDue = none → (∀ x ∈ s.sp.txq ++ s.np.txq, tickLate s x = false) →
    takeStart s p (portOf s p).txq = none → Idle (.frameTransmit p) s) ∧
  (∀ s p, ((portOf s p).fwd = [] ∨ alarmOnAir s = true) → Idle (.storeForwardSend p) s) ∧
  (∀ s p, active s = true → (portOf s p).burstTx = false → (portOf s p).brkOut = false → transmitting s (portOf s p) = true →
    Does (.collisionDetect p) s fun t =>
      let g := (portOf s p).txAs
      portOf t p = { portOf s p with relaying := false, txEnd := s.now, endOut := some .burnt, cerr := satInc (portOf s p).cerr,
                                     freeAt := s.now + nsCt (crustNs g .burnt + turnNs g) } ∧
        portOf t (otherPort p) = (if (portOf s p).relaying then { portOf s (otherPort p) with cut := false, noRelay := true }
                                  else portOf s (otherPort p)) ∧ Only [.sp, .np] s t) ∧
  (∀ s p, ((portOf s p).burstTx = true ∨ (portOf s p).brkOut = true ∨ transmitting s (portOf s p) = false) →
    Idle (.collisionDetect p) s)

/-- O30. Retransmission, reply limits and window slots (11 R417 to R421, R426; 12 R469; 13 R487): at most three copies
with `RTX`, then a link failure and `LINKFAIL` in the mailbox; a slot, at its time, carries the oldest released record of its kind,
which the head queues as well; without one only the top sends, an empty FAULT frame. -/
def Obligations.RetransmissionAndSlots : Prop :=
  (∀ s n u, active s = true → (s.chn.unacked.find? fun v => v.frame.lseq == n) = some u → u.tries < 3 →
    Does (.retransmitTimeout n) s fun t =>
      t.chn.rtxs = satInc s.chn.rtxs ∧ (portOf t u.port).txq = (portOf s u.port).txq ++ [{ u.frame with rtx := true }] ∧
        portOf t (otherPort u.port) = portOf s (otherPort u.port) ∧ t.chn.lfail = s.chn.lfail ∧ Only [.chn, .sp, .np] s t) ∧
  (∀ s n u, active s = true → (s.chn.unacked.find? fun v => v.frame.lseq == n) = some u → 3 ≤ u.tries → u.pair = none →
    Does (.retransmitTimeout n) s fun t =>
      t = { s with chn := { s.chn with unacked := dropUnacked s.chn.unacked n, lfail := satInc s.chn.lfail } }) ∧
  (∀ s n u i f, active s = true → (s.chn.unacked.find? fun v => v.frame.lseq == n) = some u → 3 ≤ u.tries → u.pair = some i →
    (s.chn.fwd.find? fun x => x.pair == i) = some f → Does (.retransmitTimeout n) s fun t =>
      t.chn.lfail = satInc s.chn.lfail ∧ t.chn.unacked = dropUnacked s.chn.unacked n ∧
        t.mbx.pairs[i].outb = withTrailer (replyBody s f.verb (hostMsg i f.tag []) true false (leBytes 2 0xB ++ leBytes 2 0)) ∧
        t.mbx.pairs[i].full = true ∧ t.host.irq.getLsbD 9 = true ∧ Only [.chn, .mbx, .host] s t) ∧
  (∀ s n, (s.chn.unacked.find? fun v => v.frame.lseq == n) = none → Idle (.retransmitTimeout n) s) ∧
  (∀ s i f, active s = true → (s.chn.fwd.any fun x => x.pair == i && x.acked) = true →
    (s.chn.fwd.find? fun x => x.pair == i) = some f → Does (.replyTimeout i) s fun t =>
      t.mbx.pairs[i].outb = withTrailer (replyBody s f.verb (hostMsg i f.tag []) true false (leBytes 2 0xB ++ leBytes 2 1)) ∧
        t.mbx.pairs[i].full = true ∧ t.host.irq.getLsbD 9 = true ∧ Only [.chn, .mbx, .host] s t) ∧
  (∀ s i, (s.chn.fwd.any fun x => x.pair == i && x.acked) = false → Idle (.replyTimeout i) s) ∧
  (∀ s w k q, active s = true → myWindow s = some w → w.done = false → slotAt s w ≤ s.now → w.kind ≠ 2 → s.acq.rel = k :: q →
    Does .windowSlotSend s fun t =>
      let b := if w.kind = 0 then cellsetBytes s k else summaryBytes s k
      t.acq = { s.acq with rel := q } ∧ t.chn.win = some { w with done := true } ∧ t.chn.lseq = s.chn.lseq + 1 ∧
        (portLive s .south = true → lineFree s .south = true → s.sp.genDue = none → ∃ f, t.sp.txNow = some f ∧
          f.type = kindType w.kind ∧ f.flt = ownFlt s ∧ f.payload = b) ∧
        (portLive s .south = true → lineFree s .south = false → ∃ f, t.sp.txq = f :: s.sp.txq ∧ f.type = kindType w.kind ∧
          f.payload = b) ∧
        (isHead s = false → t.chn.recs = s.chn.recs) ∧
        (∀ i, isHead s = true → recKind (kindType w.kind) = some i → s.chn.recs[i].recs.length < 128 →
          t.chn.recs[i].recs = s.chn.recs[i].recs ++ [(s.chn.addr, b)]) ∧
        (s.sp.genDue = none → t.tim = s.tim) ∧ Only [.acq, .tim, .chn, .sp, .np] s t) ∧
  (∀ s w b q, active s = true → myWindow s = some w → w.done = false → slotAt s w ≤ s.now → w.kind = 2 → s.acq.ntcRel = b :: q →
    Does .windowSlotSend s fun t =>
      t.acq = { s.acq with ntcRel := q } ∧ t.chn.win = some { w with done := true } ∧ t.chn.lseq = s.chn.lseq + 1 ∧
        (portLive s .south = true → lineFree s .south = true → s.sp.genDue = none → ∃ f, t.sp.txNow = some f ∧
          f.type = 0xC ∧ f.payload = b) ∧ (s.sp.genDue = none → t.tim = s.tim) ∧ Only [.acq, .tim, .chn, .sp, .np] s t) ∧
  (∀ s w, active s = true → myWindow s = some w → w.done = false → slotAt s w ≤ s.now → takeRecord s w.kind = none →
    Does .windowSlotSend s fun t =>
      t.chn.win = some { w with done := true } ∧ t.acq = s.acq ∧
        (s.chn.addr.toNat ≠ w.count.toNat → t.chn.lseq = s.chn.lseq ∧ t.sp = s.sp) ∧
        (s.chn.addr.toNat = w.count.toNat → portLive s .south = true → lineFree s .south = true → s.sp.genDue = none →
          ∃ f, t.sp.txNow = some f ∧ f.type = 4 ∧ f.payload = [] ∧ f.flt = ownFlt s) ∧
        (s.sp.genDue = none → t.tim = s.tim) ∧ Only [.tim, .chn, .sp, .np] s t) ∧
  (∀ s, myWindow s = none → Idle .windowSlotSend s ∧ Idle .sweepSend s) ∧
  (∀ s w, myWindow s = some w → (w.done = true ∨ s.now < slotAt s w) → Idle .windowSlotSend s) ∧
  (∀ s w, myWindow s = some w → (w.mode ≠ 1 ∨ w.swept = true ∨ s.chn.addr.toNat ≠ w.count.toNat ∨
    s.now < timedAt s w (sweepSlots w) 0) → Idle .sweepSend s) ∧
  (∀ s w, active s = true → myWindow s = some w → w.mode = 1 → w.swept = false → s.chn.addr.toNat = w.count.toNat →
    timedAt s w (sweepSlots w) 0 ≤ s.now → Does .sweepSend s fun t =>
      t.chn.win = some { w with swept := true } ∧ t.chn.lseq = s.chn.lseq + 1 ∧
        (portLive s .south = true → lineFree s .south = true → s.sp.genDue = none → ∃ f, t.sp.txNow = some f ∧
          f.type = 4 ∧ f.payload = [] ∧ f.flt = ownFlt s) ∧
        (s.sp.genDue = none → t.tim = s.tim) ∧ Only [.tim, .chn, .sp, .np] s t)

/-- O31. VERB, REPLY and ACK frames at their destination (11 R385, R425, R428, R429; 12 R466; 13 R488): acknowledged,
taken once, a reply put into the mailbox pair that waits for it, an ACK ends the retransmission of the frame it names.
-/
def Obligations.MessageFramesReceived : Prop :=
  (∀ s p f x, fwRuns s = true → s.pw.decided = none → f.type = 1 → f.dst = s.chn.addr → f.dst ≠ 0 → f.rtx = true →
    (s.chn.seenV.find? fun y => y.1 == f.src && y.2.1 == f.lseq) = some x → Does (.verbFrameReceived p f) s fun t =>
      (∃ a, (portOf t p).txq = (portOf s p).txq ++ a :: (match x.2.2 with
          | some g => if frameGone s 2 g.lseq then [{ g with rtx := true }] else [] | none => []) ∧
        a.type = 0xA ∧ a.dst = f.src ∧ a.payload = [f.lseq, 0]) ∧ t.mbx = s.mbx ∧ Only [.core, .chn, .sp, .np] s t) ∧
  (∀ s p f, fwRuns s = true → s.pw.decided = none → f.type = 1 → (f.dst = s.chn.addr ∨ f.dst = 0) →
    (f.rtx = true → (s.chn.seenV.find? fun y => y.1 == f.src && y.2.1 == f.lseq) = none) → Does (.verbFrameReceived p f) s fun t =>
      let u := { irqRaise s (if p = .south then 30 else 31) with
        chn := { s.chn with seenV := ((f.src, f.lseq, none) :: s.chn.seenV).take 8 } }
      let v := takeRungs s.mbx.takeq.length (if f.dst = 0 then u else sendAck u p f)
      t = if fwRuns v then verbMessage v p f else v) ∧
  (∀ s p f, (fwRuns s = false ∨ s.pw.decided ≠ none ∨ f.type ≠ 1 ∨ (f.dst ≠ s.chn.addr ∧ f.dst ≠ 0)) → Idle (.verbFrameReceived p f) s) ∧
  (∀ s p f w, active s = true → isAnchor s = false → f.dst = s.chn.addr → forwardedOf s f = some w →
    ¬ (f.rtx = true ∧ s.chn.seenR.contains (f.src, f.lseq) = true) → Does (.replyFrameReceived p f) s fun t =>
      t.mbx.pairs[w.pair].outb = f.payload ∧ t.mbx.pairs[w.pair].full = true ∧ t.mbx.pairs[w.pair].flight = false ∧
        t.mbx.lastReply = f.payload ∧ t.chn.fwd = s.chn.fwd.filter (fun x => x.pair != w.pair) ∧
        t.host.irq.getLsbD w.pair.val = true ∧
        t.chn.unacked = s.chn.unacked.filter (fun u => u.pair != some w.pair) ∧
        (∃ a, (portOf t p).txq = (portOf s p).txq ++ [a] ∧ a.type = 0xA ∧ a.dst = f.src ∧ a.payload = [f.lseq, 0]) ∧
        Only [.chn, .host, .sp, .np, .mbx, .en] s t) ∧
  (∀ s p f, active s = true → isAnchor s = false → f.dst ≠ s.chn.addr → Does (.replyFrameReceived p f) s fun t =>
    t.mbx = s.mbx ∧ t.chn.flts.head? = some (f.flt, s.now) ∧ Only [.chn, .host, .en] s t) ∧
  (∀ s p f, active s = true → f.dst = s.chn.addr → (∀ u, ackedFrame s f = some u → resetAcked s u = false) →
    Does (.ackReceived p f) s fun t =>
      (∀ u, ackedFrame s f = some u → t.chn.unacked = s.chn.unacked.filter (fun v => !(v == u))) ∧
        (ackedFrame s f = none → t.chn = s.chn) ∧ Only [.core, .chn] s t) ∧
  (∀ s p f u, active s = true → f.dst = s.chn.addr → ackedFrame s f = some u → resetAcked s u = true →
    Does (.ackReceived p f) s fun t => t.rst.held = true ∧ t.rst.latch = 6 ∧ t.store = s.store) ∧
  (∀ s p f, f.dst ≠ s.chn.addr → Idle (.ackReceived p f) s)

/-- O32. Time frames (05 R143 to R145, R165, R168; 11 R403, R404, R406, R408, R417; 16 R596): a device that is not the anchor
steps its counter once and then steers it, is aligned after four good beats in a row, takes the tick that lies ahead or counts it
missed, and takes the window; a second anchor's frame stops the anchor's torque. What the steering moves is free (log 15). -/
def Obligations.TimeFramesReceived : Prop :=
  (∀ s p f m, active s = true → isAnchor s = false → f.payload.length = 42 → Does (.beatReceived p f m) s fun t =>
    let off := timeOffset s f m
    let el2 := (portOf s p).rx == some .el2
    let alone := s.chn.calValid && s.chn.calEp == f.payload.getD 5 0 && !beatsBothPorts (noteBeat s p)
    let good := withinNs off (if el2 then 10 else 500)
    t = timeFrame s p f m ∧ t.tim.beatAt = some s.now ∧ t.tim.orphaned = false ∧
      t.sch.tseq = BitVec.ofNat 16 (leAt f.payload 6 2) ∧ t.chn.win = s.chn.win ∧ t.chn.flts.head? = some (f.flt, s.now) ∧
      t.chn.calValid = (s.chn.calValid && s.chn.calEp == f.payload.getD 5 0) ∧
      t.chn.freeFrom = frameBase t f m + usCt (leAt f.payload 20 2) ∧
      t.chn.freeTo = (if leAt f.payload 22 2 = 0 then t.chn.freeFrom
        else frameBase t f m + usCt (leAt f.payload 20 2 + leAt f.payload 22 2)) ∧
      (alone = false → t.tim.aligned = false ∧ t.tim.cnt = s.tim.cnt) ∧
      (alone = true → s.tim.stepDue = true → t.tim.stepDue = false ∧ t.tim.goodBeats = b2n good ∧ t.tim.aligned = s.tim.aligned ∧
        t.tim.cnt = (((s.tim.cnt : Int) + (off + 192) / 384 * 24) % (2 ^ 32 * 24)).toNat) ∧
      (alone = true → s.tim.stepDue = false → s.tim.aligned = true → withinNs off (if el2 then 20 else 800) = false →
        t.tim.aligned = false ∧ t.tim.stepDue = true ∧ t.tim.cnt = s.tim.cnt) ∧
      (alone = true → s.tim.stepDue = false → (s.tim.aligned = false ∨ withinNs off (if el2 then 20 else 800) = true) →
        t.tim.goodBeats = (if good then s.tim.goodBeats + 1 else 0) ∧ t.tim.stepDue = false ∧
          t.tim.aligned = (s.tim.aligned || decide (4 ≤ t.tim.goodBeats))) ∧
      Only [.freeCtr, .clk, .tim, .sch, .acq, .chn, .host, .core, .apl, .en] s t) ∧
  (∀ s p f m, active s = true → isAnchor s = false → f.payload.length = 42 → Does (.tickReceived p f m) s fun t =>
    let u := timeFrame s p f m
    let inst : Word := BitVec.ofNat 32 (leAt f.payload 8 4)
    let mode := byteAt f.payload 12 / 16 % 4
    let kind := byteAt f.payload 12 / 64
    t.sch.tseq = BitVec.ofNat 16 (leAt f.payload 6 2) + 1 ∧ t.tim = u.tim ∧ t.clk = u.clk ∧
      (inTime u inst = true → t.sch.missed = s.sch.missed ∧ t.bal.closed = 0 ∧ t.bal.testRun = 0 ∧
        t.sch.ticks = (u.sch.ticks.filter fun k => k.tseq != BitVec.ofNat 16 (leAt f.payload 6 2)) ++
          [{ tseq := BitVec.ofNat 16 (leAt f.payload 6 2), instant := inst, point := BitVec.ofNat 4 (byteAt f.payload 12),
             hold := byteAt f.payload 4 / 32 % 2 == 1, sent := true, late := false }]) ∧
      (inTime u inst = false → t.sch.missed = satInc s.sch.missed ∧ t.bal = s.bal ∧ t.sch.ticks = u.sch.ticks) ∧
      (mode ≠ 0 → mode ≠ 3 → kind ≠ 3 → ∃ w, t.chn.win = some w ∧ w.count = f.payload.getD 13 0 ∧ w.done = false ∧
        w.swept = false ∧ w.mode = BitVec.ofNat 2 mode ∧ w.kind = BitVec.ofNat 2 kind ∧
        w.slot = BitVec.ofNat 16 (leAt f.payload 18 2) ∧ w.start = frameBase u f m + nsCt (40 * leAt f.payload 16 2)) ∧
      (mode = 0 ∨ mode = 3 ∨ kind = 3 → t.chn = u.chn) ∧
      Only [.freeCtr, .clk, .tim, .sch, .acq, .bal, .chn, .host, .core, .apl, .en] s t) ∧
  (∀ s p f, active s = true → isAnchor s = false → f.payload.length = 4 → Does (.cancelReceived p f) s fun t =>
    let n : BitVec 16 := BitVec.ofNat 16 (leAt f.payload 0 2)
    (∀ k ∈ t.sch.ticks, k.tseq = n → k.late = true ∧ inTime s k.instant = false) ∧
      (∀ k ∈ s.sch.ticks, k.tseq ≠ n → k ∈ t.sch.ticks) ∧
      (∀ k ∈ t.acq.kept ++ t.acq.held, k.source = 0 → k.seq = n → k.unsched = true) ∧
      (∀ k ∈ t.acq.spans, k.source = 0 → k.seq = n → k.unsched = true) ∧ t.tim = s.tim ∧ t.bal = s.bal ∧
      Only [.chn, .host, .core, .sch, .acq, .en] s t) ∧
  (∀ s p f m, f.payload.length ≠ 42 → Idle (.tickReceived p f m) s ∧ Idle (.beatReceived p f m) s) ∧
  (∀ s p f, f.payload.length ≠ 4 → Idle (.cancelReceived p f) s) ∧
  (∀ s p f m, active s = false → Idle (.tickReceived p f m) s ∧ Idle (.beatReceived p f m) s ∧ Idle (.cancelReceived p f) s) ∧
  (∀ s p f m c, active s = true → isAnchor s = true → s.tq.conflict = false →
    (f.payload.length = 42 ∧ (c = .tickReceived p f m ∨ c = .beatReceived p f m) ∨ f.payload.length = 4 ∧ c = .cancelReceived p f) →
    Does c s fun t =>
      t.tq.conflict = true ∧ ownFault t = true ∧ t.tim = s.tim ∧ t.sch = s.sch ∧
        ((torqueOn s = true ∨ s.tq.enabling ≠ []) → t.tq.ten = false ∧ t.tq.rd = .removed) ∧
        mkEntry s true 0x15 [BitVec.ofNat 8 f.type.toNat, if p = .south then 0 else 1] ∈ t.jrn.queue ∧
        Only (.tq :: .prot :: .en :: journalParts) s t)

/-- O33. Enumeration and calibration, records and FAULT frames (11 R395 to R402, R416; 14 R531; 16 R617): an
unassigned device takes the address it is asked to take and answers, an assigned one answers for its own; the head asks on; a
calibration request is answered, and brings the mean, by the model's choice in its byte 8 (log 127); the broadcast result takes it into
force; the head queues the records that come in a window. -/
def Obligations.EnumCalAndRecords : Prop :=
  (∀ s f, active s = true → f.payload.length = 2 → s.chn.addr = 0x7F → 1 ≤ byteAt f.payload 0 → byteAt f.payload 0 ≤ 0x40 →
    Does (.enumReceived .south f) s fun t =>
      t.chn.addr = BitVec.ofNat 7 (byteAt f.payload 0) ∧ t.chn.enumDone = true ∧
        (∃ g, t.sp.txq = s.sp.txq ++ [g] ∧ g.type = 8 ∧ g.dst = 0 ∧ g.src = t.chn.addr ∧ g.payload.length = 16 ∧
          g.payload.getD 0 0 = BitVec.ofNat 8 (byteAt f.payload 0) ∧ leAt g.payload 8 8 = s.store.uid.toNat) ∧
        Only [.chn, .sp, .np, .host, .en] s t) ∧
  (∀ s f, active s = true → f.payload.length = 2 → s.chn.addr ≠ 0x7F → byteAt f.payload 0 ≠ s.chn.addr.toNat →
    Idle (.enumReceived .south f) s) ∧
  (∀ s f, active s = true → f.payload.length = 2 → s.chn.addr ≠ 0x7F → byteAt f.payload 0 = s.chn.addr.toNat →
    Does (.enumReceived .south f) s fun t =>
      t.chn.addr = s.chn.addr ∧ (∃ g, t.sp.txq = s.sp.txq ++ [g] ∧ g.type = 8 ∧ g.payload = enumReply s s.chn.addr.toNat) ∧
        Only [.chn, .sp] s t) ∧
  (∀ s f e, active s = true → f.payload.length = 16 → s.chn.enum = some e → e.next ≤ 0x40 → byteAt f.payload 0 % 128 = e.next →
    Does (.enumReceived .north f) s fun t =>
      (∃ e', t.chn.enum = some e' ∧ e'.next = e.next + 1 ∧ e'.tries = 1 ∧ e'.w = e.w) ∧
        (∃ g, t.np.txq = s.np.txq ++ [g] ∧ g.type = 8 ∧
          g.payload = [BitVec.ofNat 8 (e.next + 1), BitVec.ofNat 8 (b2n s.chn.ring)]) ∧ Only [.chn, .np] s t) ∧
  (∀ s f, f.payload.length = 2 → Idle (.enumReceived .north f) s) ∧
  (∀ s e, active s = true → s.chn.enum = some e → e.tries < 3 → Does .enumReplyTimeout s fun t =>
    t.chn.enum = some { e with tries := e.tries + 1 } ∧
      (∃ g, t.np.txq = s.np.txq ++ [g] ∧ g.type = 8 ∧ g.payload = [BitVec.ofNat 8 e.next, BitVec.ofNat 8 (b2n s.chn.ring)]) ∧
      Only [.chn, .sp, .np] s t) ∧
  (∀ s e, active s = true → s.chn.enum = some e → 3 ≤ e.tries → noWaiters s e.w.verb e.w.msg = true →
    Does .enumReplyTimeout s fun t =>
      t.chn.enum = none ∧ t.chn.enumDone = true ∧ t.chn.top = BitVec.ofNat 8 (e.next - 1) ∧
        HostReply s t e.w.verb e.w.msg false false [BitVec.ofNat 8 (e.next - 1), BitVec.ofNat 8 (e.next - 1), e.anchor,
          BitVec.ofNat 8 (b2n e.twoAnchors + 2 * b2n false)] ∧ Only replyParts s t) ∧
  (∀ s, s.chn.enum = none → Idle .enumReplyTimeout s) ∧
  (∀ s p f a d l, active s = true → f.payload.length = 12 → byteAt f.payload 0 = 0 → f.dst = s.chn.addr →
    Does (.calReceived p f a d l) s fun t =>
      (∃ g, (portOf t p).txq = (portOf s p).txq ++ [g] ∧ g.type = 9 ∧ g.dst = f.src ∧ g.payload = calBytes 1
        (f.payload.getD 1 0) (BitVec.ofNat 16 (leAt f.payload 2 2)) ((d - a) % 2 ^ 32) (b2n l) (leAt f.payload 9 3)) ∧
        t.chn.daNew = (if byteAt f.payload 8 = 1 then some (BitVec.ofNat 32 (leAt f.payload 4 4)) else s.chn.daNew) ∧
        t.chn.calValid = s.chn.calValid ∧ t.chn.da = s.chn.da ∧ Only [.chn, .sp, .np] s t) ∧
  (∀ s p f a d l, active s = true → f.payload.length = 12 → byteAt f.payload 0 = 2 → f.dst = 0 → s.chn.addr ≠ 0 → isAnchor s = false →
    (∀ x, s.chn.daNew = some x → Does (.calReceived p f a d l) s fun t =>
      t.chn = { s.chn with daNew := none, da := x, calEp := f.payload.getD 1 0, calValid := true,
                           anchor := BitVec.ofNat 8 (byteAt f.payload 8),
                           dh := delayHead s.chn.addr.toNat (byteAt f.payload 8) x (BitVec.ofNat 32 (leAt f.payload 4 4)) } ∧
        t.tim.aligned = false ∧ Only [.chn, .tim] s t) ∧
    (s.chn.daNew = none → Idle (.calReceived p f a d l) s)) ∧
  (∀ s p f a d l, f.payload.length ≠ 12 → Idle (.calReceived p f a d l) s) ∧
  (∀ s p f k, active s = true → isAnchor s = false → recKind f.type = some k → Does (.recordFrameReceived p f) s fun t =>
    (isHead s = true → inWindow s = true → s.chn.recs[k].recs.length < 128 →
      t.chn.recs[k].recs = s.chn.recs[k].recs ++ [(f.src, f.payload)] ∧ t.chn.recs[k].lost = s.chn.recs[k].lost) ∧
      (isHead s = true → inWindow s = true → 128 ≤ s.chn.recs[k].recs.length →
        t.chn.recs[k].recs = s.chn.recs[k].recs.drop 1 ++ [(f.src, f.payload)] ∧ t.chn.recs[k].lost = satInc s.chn.recs[k].lost) ∧
      ((isHead s = false ∨ inWindow s = false) → t.chn.recs = s.chn.recs) ∧ Only [.chn, .host, .core, .en] s t) ∧
  (∀ s p f, active s = true → isAnchor s = false → f.type = 4 → Does (.faultFrameReceived p f) s fun t =>
    t.chn.flts.head? = some (f.flt, s.now) ∧ t.host.live = liveFlt { s with chn := t.chn } ∧ Only [.chn, .host, .core, .en] s t) ∧
  (∀ s p f, active s = true → isAnchor s = true → f.type = 4 → f.flt.getLsbD 1 = true → torqueOn s = true →
    s.tq.enabling = [] → Does (.faultFrameReceived p f) s fun t => t.tq.ten = false ∧ t.tq.rd = .removed)

/-- O34. Bursts, breaks and host wake (10 R364 to R370, R373 to R378; 14 R542; 23 R862 to R866; 12 R463): detection
latches the port's cause, queues the relay and damages what arrives; alarm bursts are counted down, hold back what is relayed, and
wait for its end; a break is relayed at once or as soon as it may be, and the end of the incoming break leaves a relay on the line;
the break of a `CHAIN_BREAK` ends in its reply; `HWAKE_N` is low for at least 100 µs. Bursts in
every power state, the 202 µs for which a burst holds the pair, and what a break or an alarm burst waits for, are the model's choice
(logs 103, 104, 124). -/
def Obligations.BurstsBreaksAndWake : Prop :=
  (∀ s p, running s = true → portEnabled s p = true → transmitting s (portOf s p) = false → Does (.burstDetect p) s fun t =>
    t.pw.wake = s.pw.wake ||| (if p = .south then 2 else 4) ∧
      portOf t (otherPort p) = { portOf s (otherPort p) with
        burst := (portOf s (otherPort p)).burst || (portEnabled s (otherPort p) && s.sup.vport) } ∧
      portOf t p = { portOf s p with rxBurst := s.now + usCt 202, hurt := (portOf s p).hurt || (portOf s p).rxBusy } ∧
      t.pw.wakeDue = (s.pw.wakeDue || !awake s || s.pw.decided.isSome) ∧ Only [.sp, .np, .pw, .host] s t) ∧
  (∀ s p, (running s = false ∨ portEnabled s p = false ∨ transmitting s (portOf s p) = true) → Idle (.burstDetect p) s) ∧
  (∀ s p, (portOf s p).burst = true → canBurst s p = true → alarmOnAir s = false → Does (.burstRelay p) s fun t =>
    portOf t p = { portOf s p with burst := false, txEnd := s.now + usCt 200, alarmTx := false, burstTx := true, txRel := true,
                                   bursts := (portOf s p).bursts + 1 } ∧
      portOf t (otherPort p) = portOf s (otherPort p) ∧ Only [.sp, .np] s t) ∧
  (∀ s p, ((portOf s p).burst = false ∨ canBurst s p = false ∨ alarmOnAir s = true) → Idle (.burstRelay p) s) ∧
  (∀ s, Does .alarmBurstSend s fun t =>
    let first (p : Port) : Bool := (portOf s p).alarm == 8 && (portOf s p).alarmOn && canBurst s p && !relayOnAir s
    (∀ p, portOf t p = if first p then { portOf s p with alarm := 7, txEnd := s.now + usCt 200, alarmTx := true, burstTx := true,
                                                         txRel := false, bursts := (portOf s p).bursts + 1 } else portOf s p) ∧
      t.pw = { s.pw with wake := if first .south || first .north then s.pw.wake ||| 0x800 else s.pw.wake } ∧
      Only [.sp, .np, .pw] s t) ∧
  (∀ s p, (portOf s p).alarmOn = true → (portOf s p).alarm ≠ 0 → (portOf s p).alarm < 8 → canBurst s p = true →
    relayOnAir s = false → Does (.alarmBurstRepeat p) s fun t =>
      portOf t p = { portOf s p with alarm := (portOf s p).alarm - 1, alarmOn := (portOf s p).alarm != 1,
                                     txEnd := s.now + usCt 200, alarmTx := true, burstTx := true, txRel := false,
                                     bursts := (portOf s p).bursts + 1 } ∧
        portOf t (otherPort p) = portOf s (otherPort p) ∧ t.pw = { s.pw with wake := s.pw.wake ||| 0x800 } ∧
        Only [.sp, .np, .pw] s t) ∧
  (∀ s p, ((portOf s p).alarmOn = false ∨ (portOf s p).alarm = 0 ∨ 8 ≤ (portOf s p).alarm ∨ canBurst s p = false ∨
    relayOnAir s = true) →
    Idle (.alarmBurstRepeat p) s) ∧
  (∀ s, s.pw.wakeBurst = true → canBurst s .north = true → alarmOnAir s = false → Does .wakeBurstSend s fun t =>
    t = { s with pw := { s.pw with wakeBurst := false },
                 np := { s.np with txEnd := s.now + usCt 200, alarmTx := false, burstTx := true, txRel := false,
                                   bursts := s.np.bursts + 1 } }) ∧
  (∀ s, (s.pw.wakeBurst = false ∨ canBurst s .north = false ∨ alarmOnAir s = true) → Idle .wakeBurstSend s) ∧
  (∀ s p, s.rst.held = false → portEnabled s p = true → (portOf s p).brkIn = false → Does (.breakRecognise p) s fun t =>
    let u := portOf s (otherPort p)
    let can := portEnabled s (otherPort p) && s.sup.vport && !u.brkIn
    let waits := alarmOnAir s || !breakFree s (otherPort p)
    portOf t p = { portOf s p with brkIn := true, rxBusy := false, cut := false } ∧
      ((portOf s p).cut = false → can = false → portOf t (otherPort p) = { u with brkDue := false }) ∧
      ((portOf s p).cut = false → can = true → waits = true → portOf t (otherPort p) = { u with brkDue := true }) ∧
      ((portOf s p).cut = false → can = true → waits = false → portOf t (otherPort p) = { u with
        brkOut := true, brkRelay := true, brkDue := false, relaying := false, txEnd := s.now,
        endOut := if transmitting s u && !u.brkOut then some .missing else u.endOut }) ∧ Only [.sp, .np] s t) ∧
  (∀ s p, (s.rst.held = true ∨ portEnabled s p = false ∨ (portOf s p).brkIn = true) → Idle (.breakRecognise p) s) ∧
  (∀ s q, (portOf s q).brkDue = true → alarmOnAir s = false → breakFree s q = true → portEnabled s q = true → s.sup.vport = true →
    (portOf s q).brkIn = false → (portOf s (otherPort q)).brkDue = false → (portOf (tickBreak s) q).brkRelay = true ∧ (portOf (tickBreak s) q).brkDue = false) ∧
  (∀ s p, (portOf s p).brkIn = true → (portOf s (otherPort p)).brkRelay = true → Does (.breakEnd p) s fun t =>
    t = setPort s p { portOf s p with brkIn := false }) ∧
  (∀ s p, (portOf s p).brkIn = false → Idle (.breakEnd p) s) ∧
  (∀ s p, ((portOf s p).brkRelay = false ∨ (portOf s (otherPort p)).brkIn = true) → Idle (.breakRelayEnd p) s) ∧
  (∀ s w l, active s = true → s.chn.brk = w :: l → (s.np.brkOut = true ∨ breakPort s .north = false) →
    noWaiters s w.verb w.msg = true → Does .chainBreakEnd s fun t =>
    t.chn.brk = l ∧ t.chn.addr = s.chn.addr ∧ t.rst = s.rst ∧ HostReply s t w.verb w.msg false false [] ∧
      (s.np.brkRelay = true → t.np.brkOut = true) ∧ (s.np.brkRelay = false → l = [] → t.np.brkOut = false) ∧ Only replyParts s t) ∧
  (∀ s, (s.chn.brk = [] ∨ (breakPort s .north = true ∧ s.np.brkOut = false)) → Idle .chainBreakEnd s) ∧
  (∀ s, running s = true → s.sup.vio = true → (awake s = false ∨ s.pw.decided ≠ none) → Does .hcsWake s fun t =>
    t = { s with pw := { s.pw with wakeBurst := true, wakeDue := true, wake := s.pw.wake ||| 1 } }) ∧
  (∀ s, (running s = false ∨ s.sup.vio = false ∨ awake s = true ∧ s.pw.decided = none) → Idle .hcsWake s) ∧
  (∀ s, s.host.hwake = true → s.host.irq.getLsbD 11 = false → usCt 100 ≤ s.now - s.host.hwakeAt → Does .hwakeRelease s fun t =>
    t = { s with host := { s.host with hwake := false } }) ∧
  (∀ s, (s.host.irq.getLsbD 11 = true ∨ s.now - s.host.hwakeAt < usCt 100) → Idle .hwakeRelease s)

/-! ## Host ports and mailboxes (12, 13) -/

/-- O35. The registers of the host window (12 Table 12-1, R437, R441, R451, R462, R470) and a register write over the core's bus
(20 R756, R766): what each write does and nothing else; a write before READY, or to a register that takes none, changes nothing but
the error count, and one that the core's protection refuses raises entry 7. -/
def Obligations.HostWindowRegisters : Prop :=
  (∀ s h v, hostOn s = true → s.host.ready = true → Does (.hostMbselWrite h v) s fun t =>
    bankOf t h = (v.setWidth 3, fld v 15 8) ∧ (∀ g, g ≠ h → bankOf t g = bankOf s g) ∧ t.mbx = s.mbx ∧ Only [.host] s t) ∧
  (∀ s h v, hostOn s = true → s.host.ready = true → Does (.hostIrqClear h v) s fun t =>
    t = { s with host := { s.host with irq := s.host.irq &&& ~~~ (v.setWidth 13) } }) ∧
  (∀ s h v, hostOn s = true → s.host.ready = true → Does (.hostIrqenWrite h v) s fun t =>
    t = { s with host := { s.host with irqen := v.setWidth 13 } }) ∧
  (∀ s h v, hostOn s = true → s.host.ready = true → Does (.hostFltClear h v) s fun t =>
    t = { s with host := { s.host with seen := (s.host.seen &&& ~~~ ((v >>> 4).setWidth 4)) ||| s.host.live } }) ∧
  (∀ s h v, hostOn s = true → s.host.ready = true →
    Does (.hostUcfgWrite h v) s (· = { s with host := { s.host with baudReg := bitOf v 0, baud := bitOf v 0 } }) ∧
      Does (.registerWrite (.host h) 36 v) s (· = { s with host := { s.host with baudReg := bitOf v 0, baud := bitOf v 0 } })) ∧
  (∀ s h v, hostOn s = true → s.host.ready = false →
    Does (.hostMbselWrite h v) s (· = portError s h) ∧ Does (.hostIrqClear h v) s (· = portError s h) ∧
      Does (.hostIrqenWrite h v) s (· = portError s h) ∧ Does (.hostFltClear h v) s (· = portError s h)) ∧
  (∀ s, (portError s .spi).host.errSpi = satInc s.host.errSpi ∧ (portError s .uart).host.errUart = satInc s.host.errUart ∧
    (∀ h, Only [.host] s (portError s h)) ∧
    (portError s .spi).host.irq = (if s.host.errSpi = 255 then s.host.irq else s.host.irq ||| 0x1000) ∧
    (portError s .uart).host.irq = (if s.host.errUart = 255 then s.host.irq else s.host.irq ||| 0x1000)) ∧
  (∀ s h, hostOn s = true → s.host.ready = true → Does (.hostErrRead h) s fun t =>
    t.host.errSpi = 0 ∧ t.host.errUart = 0 ∧ t.host.errClaim = 0 ∧
      (if h = .spi then t.host.hsdo else t.host.htx) =
        leBytes 4 (s.host.errSpi.toNat + 256 * s.host.errUart.toNat + 65536 * s.host.errClaim.toNat) ∧ Only [.host] s t) ∧
  (∀ s, active s = true → s.host.ready = false → Does .hostReady s fun t =>
    t = { s with host := { s.host with ready := true, irq := s.host.irq ||| 0x400 } }) ∧
  (∀ s, s.host.ready = true → Idle .hostReady s) ∧
  (∀ s, hostOn s = true → Does .uartByteTimeout s fun t =>
    t = { portError s .uart with
          host := { (portError s .uart).host with uartAt := max s.host.uartAt (s.now + ctPerMs) } }) ∧
  (∀ s h a v, hostOn s = true → a.toNat % 128 / 4 ≠ 6 → a.toNat % 128 / 4 ≠ 9 → Does (.registerWrite (.host h) a v) s fun t =>
    t = (hostRegWrite s h (a.toNat % 128 / 4) v).1) ∧
  (∀ s h v, hostOn s = true → Does (.registerWrite (.host h) 0 v) s fun t => t = portError s h) ∧
  (∀ s a v, coreOn s = true → impDue s = false → a.toNat % 4 = 0 → mpuCheck s (inApplet s) a.toNat 2 = .ok 0x40007200 →
    Does (.registerWrite .core a v) s fun t =>
      t = { s with mpu := { s.mpu with fen := if s.mpu.flock then s.mpu.fen else bitOf v 0,
                                       flock := s.mpu.flock || bitOf v 1 } }) ∧
  (∀ s a v e, coreOn s = true → impDue s = false → a.toNat % 4 = 0 → mpuCheck s (inApplet s) a.toNat 2 = .error e →
    Does (.registerWrite .core a v) s
      (· = raiseSync s { entry := 7, sub := e, size := 2, write := true, fetch := false, faddr := a })) ∧
  (∀ s h v, hostOn s = false → Idle (.hostMbselWrite h v) s ∧ Idle (.hostIrqClear h v) s ∧ Idle (.hostIrqenWrite h v) s ∧
    Idle (.hostFltClear h v) s ∧ Idle (.hostUcfgWrite h v) s ∧ Idle (.hostErrRead h) s ∧ Idle .uartByteTimeout s)

/-- O36. Mailbox pairs (12 R439, R459, R460; 13 R475 to R482, R495): a byte goes into the selected mailbox, one of `MB_INi` under the
writer's claim; a ring hands the message over, the last byte read frees the pair; a claim conflict changes nothing but the count. -/
def Obligations.MailboxPairsHandOver : Prop :=
  (∀ s h b sel ptr, hostOn s = true → s.host.ready = true → bankOf s h = (sel, ptr) → sel < 4 → ptr < 256 →
    claimedByOther s h (selPair sel) = false → s.mbx.pairs[selPair sel].busy = false → Does (.hostMbdataWrite h b) s fun t =>
      t.mbx = { s.mbx with
        pairs := s.mbx.pairs.set (selPair sel) { s.mbx.pairs[selPair sel] with inb := s.mbx.pairs[selPair sel].inb.set ptr b, claim := some h } } ∧
      bankOf t h = (sel, ptr + 1) ∧ Only [.mbx, .host] s t) ∧
  (∀ s h b sel ptr, hostOn s = true → s.host.ready = true → bankOf s h = (sel, ptr) → sel < 4 → ptr < 256 →
    claimedByOther s h (selPair sel) = false → s.mbx.pairs[selPair sel].busy = true →
    Does (.hostMbdataWrite h b) s (· = portError s h)) ∧
  (∀ s h b sel ptr, hostOn s = true → s.host.ready = true → bankOf s h = (sel, ptr) → 4 ≤ sel → ptr < 256 →
    claimedByOther s h (selPair sel) = false → Does (.hostMbdataWrite h b) s fun t =>
      t.mbx = { s.mbx with
        pairs := s.mbx.pairs.set (selPair sel)
          { s.mbx.pairs[selPair sel] with outb := (padTo 256 s.mbx.pairs[selPair sel].outb).set ptr b } } ∧
      bankOf t h = (sel, ptr + 1) ∧ Only [.mbx, .host] s t) ∧
  (∀ s h b sel ptr, hostOn s = true → s.host.ready = true → bankOf s h = (sel, ptr) → claimedByOther s h (selPair sel) = true →
    Does (.hostMbdataWrite h b) s (· = claimError s)) ∧
  (∀ s, (claimError s).host.errClaim = satInc s.host.errClaim ∧ Only [.host] s (claimError s)) ∧
  (∀ s h b sel ptr, hostOn s = true → s.host.ready = true → bankOf s h = (sel, ptr) → claimedByOther s h (selPair sel) = false →
    256 ≤ ptr → Does (.hostMbdataWrite h b) s (· = portError s h)) ∧
  (∀ s h sel ptr, hostOn s = true → s.host.ready = true → bankOf s h = (sel, ptr) → sel < 4 → ptr < 256 →
    claimedByOther s h (selPair sel) = false → Does (.hostMbdataRead h) s fun t =>
      t.mbx = s.mbx ∧ bankOf t h = (sel, ptr + 1) ∧
        (if h = .spi then t.host.hsdo else t.host.htx) = [s.mbx.pairs[selPair sel].inb.getD ptr 0] ∧ Only [.host] s t) ∧
  (∀ s h sel ptr, hostOn s = true → s.host.ready = true → bankOf s h = (sel, ptr) → 4 ≤ sel → ptr < 256 →
    s.mbx.pairs[selPair sel].full = true → s.mbx.pairs[selPair sel].claim = some h →
    ptr = 15 + leAt s.mbx.pairs[selPair sel].outb 4 2 → leAt s.mbx.pairs[selPair sel].outb 0 2 ≠ 0x0F01 →
    Does (.hostMbdataRead h) s fun t =>
      t.mbx = { s.mbx with
        pairs := s.mbx.pairs.set (selPair sel) { s.mbx.pairs[selPair sel] with outb := [], full := false, claim := none } } ∧
      (if h = .spi then t.host.hsdo else t.host.htx) = [s.mbx.pairs[selPair sel].outb.getD ptr 0] ∧ Only [.mbx, .host] s t) ∧
  (∀ s h sel ptr x, hostOn s = true → s.host.ready = true → bankOf s h = (sel, ptr) → 4 ≤ sel → ptr < 256 →
    s.mbx.pairs[selPair sel].full = true → s.mbx.pairs[selPair sel].claim = some h →
    ptr = 15 + leAt s.mbx.pairs[selPair sel].outb 4 2 → leAt s.mbx.pairs[selPair sel].outb 0 2 = 0x0F01 →
    x ∈ s.pw.resetVerb → x.1.src = none → x.1.bcast = false → x.1.mbx = selPair sel →
    leAt s.mbx.pairs[selPair sel].outb 2 2 = x.1.tag.toNat →
    Does (.hostMbdataRead h) s fun t => t.rst.held = true ∧ t.rst.latch = 6 ∧ t.store = s.store) ∧
  (∀ s h (i : Fin 4), hostOn s = true → s.host.ready = true → s.mbx.pairs[i].claim = some h → s.mbx.pairs[i].busy = false →
    s.mbx.pairs[i].flight = false → s.mbx.pairs[i].full = false → s.pw.decided = none →
    Does (.mailboxRing h (1#32 <<< i.val)) s fun t =>
      t.mbx = { s.mbx with pairs := s.mbx.pairs.set i { s.mbx.pairs[i] with busy := true, flight := true },
                           takeq := s.mbx.takeq ++ [i] } ∧ Only [.mbx] s t) ∧
  (∀ s h (i : Fin 4), hostOn s = true → s.host.ready = true → s.mbx.pairs[i].claim = some h →
    (s.mbx.pairs[i].flight = true ∨ s.mbx.pairs[i].full = true) →
    Does (.mailboxRing h (1#32 <<< i.val)) s (· = portError s h)) ∧
  (∀ s h (i : Fin 4), hostOn s = true → s.host.ready = true → claimedByOther s h i = true →
    Does (.mailboxRing h (1#32 <<< i.val)) s (· = claimError s)) ∧
  (∀ s (i : Fin 4), s.mbx.pairs[i].flight = false → s.mbx.pairs[i].full = false → Does (.claimLapse i) s fun t =>
    t = { s with mbx := { s.mbx with pairs := s.mbx.pairs.set i { s.mbx.pairs[i] with claim := none } } }) ∧
  (∀ s (i : Fin 4), (s.mbx.pairs[i].flight = true ∨ s.mbx.pairs[i].full = true) → Idle (.claimLapse i) s) ∧
  (∀ s i, Does (.historyExpire i) s fun t =>
    t = { s with mbx := { s.mbx with hist := s.mbx.hist.set i s.mbx.hist[i].dropLast } })

/-- O37. Whole transactions (12 R444 to R457): a register is written or read in one SPI transaction or one UART
request, a UART request is answered in one frame with its code; a spoiled one changes nothing but the error count, and so does one
that begins before the last has been answered. The port's interrupt becomes pending with each. When within 50 µs a reply starts is
free (log 112). -/
def Obligations.HostTransactions : Prop :=
  (∀ s l, hostOn s = true → 2 ≤ l.length → cmdOk (leAt l 0 2) = false → Does (.spiTransaction l 0) s fun t =>
    t.mbx = s.mbx ∧ t.host.irqen = s.host.irqen ∧ t.host.seen = s.host.seen ∧ t.host.errSpi = satInc s.host.errSpi ∧
      t.host.hsdo.length = l.length ∧ t.core = (irqRaise s 40).core ∧ Only [.host, .core] s t) ∧
  (∀ s l n u, hostOn s = true → n ≠ 0 → exec (.spiTransaction l 0) s = .next u → Does (.spiTransaction l n) s fun t =>
    t = portError u .spi) ∧
  (∀ s c0 c1 b0 b1 b2 b3, hostOn s = true → cmdOk (leAt [c0, c1] 0 2) = true → cmdW (leAt [c0, c1] 0 2) = true →
    cmdAddr (leAt [c0, c1] 0 2) % 4 = 0 → cmdAddr (leAt [c0, c1] 0 2) / 4 ≠ 6 →
    Does (.spiTransaction [c0, c1, b0, b1, b2, b3] 0) s fun t =>
      let r := (hostRegWrite (irqRaise s 40) .spi (cmdAddr (leAt [c0, c1] 0 2) / 4) (BitVec.ofNat 32 (leVal [b0, b1, b2, b3]))).1
      t = { r with host := { r.host with hsdo := leBytes 2 (hostStat s).toNat ++ [0, 0, 0, 0] } }) ∧
  (∀ s l g, hostOn s = true → (uartEarly s l g = true ∨ unstuff l = none ∨ ∃ c, unstuff l = some c ∧ uartOk c = false) →
    Does (.uartRequest { bytes := l, gaps := g }) s fun t =>
      let w := portError (irqRaise s 41) .uart
      t = { w with host := { w.host with uartAt := max s.host.uartAt (s.now + ctPerMs) } }) ∧
  (∀ s l g, 0 < s.host.uartAt →
    (uartEarly s l g = true ↔ s.now < s.host.uartAt + uartCt s.host.baud (l.length + 2) + g)) ∧
  (∀ s l g c, hostOn s = true → uartEarly s l g = false → unstuff l = some c → uartOk c = true → cmdW (leAt c 0 2) = true →
    byteAt c 2 = 4 → cmdAddr (leAt c 0 2) % 4 = 0 → cmdAddr (leAt c 0 2) / 4 ≠ 6 → Does (.uartRequest { bytes := l, gaps := g }) s fun t =>
      let r := hostRegWrite (irqRaise s 41) .uart (cmdAddr (leAt c 0 2) / 4) (BitVec.ofNat 32 (leVal ((c.drop 3).take 4)))
      t = { r.1 with
        freeCtr := t.freeCtr,
        host := { r.1.host with htx := uartReply r.1 r.2 [], htxEnd := t.host.htxEnd, uartAt := t.host.htxEnd, baud := r.1.host.baudReg } } ∧
        r.1.now + uartCt s.host.baud t.host.htx.length ≤ t.host.htxEnd ∧
        t.host.htxEnd ≤ r.1.now + usCt 50 + uartCt s.host.baud t.host.htx.length) ∧
  (∀ s l g c, hostOn s = true → uartEarly s l g = false → unstuff l = some c → uartOk c = true → cmdW (leAt c 0 2) = false →
    byteAt c 2 = 4 → cmdAddr (leAt c 0 2) % 4 = 0 → cmdAddr (leAt c 0 2) / 4 ≠ 6 → cmdAddr (leAt c 0 2) / 4 ≠ 10 →
    (s.host.ready = true ∨ cmdAddr (leAt c 0 2) < 8) → Does (.uartRequest { bytes := l, gaps := g }) s fun t =>
      let w := irqRaise s 41
      t = { w with
        freeCtr := t.freeCtr,
        host := { s.host with htx := uartReply s .done (leBytes 4 (hostReg s .uart (cmdAddr (leAt c 0 2) / 4)).toNat),
                              htxEnd := t.host.htxEnd, uartAt := t.host.htxEnd } } ∧
        s.now + uartCt s.host.baud t.host.htx.length ≤ t.host.htxEnd ∧
        t.host.htxEnd ≤ s.now + usCt 50 + uartCt s.host.baud t.host.htx.length) ∧
  (∀ s l n g, hostOn s = false → Idle (.spiTransaction l n) s ∧ Idle (.uartRequest { bytes := l, gaps := g }) s)

/-- O38. A rung message is taken (12 R465 to R467; 13 R477, R483, R484, R494 to R498): it completes for every content. A failed check
1 to 3 answers in the pair; a fresh message for this device, or for every device, runs its verb, an unknown one is refused; a
repeated once-verb gets its stored reply with `DUP`, or waits for it; another message under a live tag is refused; a message for
another device goes north from the head, and is refused elsewhere. -/
def Obligations.MessagesTakenAndChecked : Prop :=
  (∀ s (i : Fin 4) q, fwRuns s = true → s.mbx.takeq = i :: q →
    let u := irqSet { s with mbx := { s.mbx with takeq := q, pairs := s.mbx.pairs.set i { s.mbx.pairs[i] with busy := false } } }
      (1#13 <<< (4 + i.val))
    let r := readMsg s.mbx.pairs[i].inb
    let m := r.toMsg none 0 .south (r.target == 0)
    let here := formBad r (r.mbx.toNat == i.val) = none ∧
      (r.target = s.chn.addr.setWidth 8 ∨ r.target = 0x7F ∨ (r.target = 0 ∧ isHead s = false))
    (∀ c, formBad r (r.mbx.toNat == i.val) = some c → Does .mailboxTake s fun t =>
      t.mbx.pairs[i].outb =
        withTrailer (replyBody s r.verb (r.toMsg none 0 .south false) true false (leBytes 2 c ++ leBytes 2 0)) ∧
      t.mbx.pairs[i].full = true ∧ t.mbx.pairs[i].busy = false ∧ t.mbx.pairs[i].flight = false ∧ t.mbx.takeq = q ∧
        Only [.mbx, .host] s t) ∧
    (here → passesWindow u r = true → (verbRow r.verb.toNat).isSome = true →
      Does .mailboxTake s (· = runVerb r.verb.toNat m (enterHist (hostActivity u) r))) ∧
    (here → passesWindow u r = true → verbRow r.verb.toNat = none →
      Does .mailboxTake s (· = replyErr (enterHist (hostActivity u) r) r.verb m 6 0)) ∧
    (∀ e b, here → passesWindow u r = false → liveEntry u r.idx r.tag = some e → e.verb = r.verb → e.trailer = r.trailer →
      e.reply = some b → Does .mailboxTake s fun t =>
        t.mbx.pairs[i].outb = dupReply b ∧ t.mbx.pairs[i].full = true ∧ Only [.mbx, .host, .pw] s t) ∧
    (∀ e, here → passesWindow u r = false → liveEntry u r.idx r.tag = some e → e.verb = r.verb → e.trailer = r.trailer →
      e.reply = none → Does .mailboxTake s fun t =>
        t.mbx = { u.mbx with dups := s.mbx.dups ++ [{ pair := i, tag := r.tag, verb := r.verb, msg := m }] } ∧
          Only [.mbx, .host, .pw] s t) ∧
    (∀ e, here → liveEntry u r.idx r.tag = some e → (e.verb ≠ r.verb ∨ e.trailer ≠ r.trailer) → Does .mailboxTake s fun t =>
      t.mbx.pairs[i].outb = withTrailer (replyBody s r.verb m true false (leBytes 2 5 ++ leBytes 2 0)) ∧
        Only [.mbx, .host, .pw] s t) ∧
    (formBad r (r.mbx.toNat == i.val) = none → r.target = 0 → isHead s = true → Does .mailboxTake s fun t =>
      t = execMsg (hostActivity (if forwardsBcast r && passesWindow u r
        then sendFrame u .north 1 0 (s.mbx.pairs[i].inb.take (16 + r.len)) else u)) r m) ∧
    (formBad r (r.mbx.toNat == i.val) = none → r.target ≠ 0 → r.target ≠ 0x7F → r.target ≠ s.chn.addr.setWidth 8 →
      (isHead s = false → Does .mailboxTake s fun t =>
        t.mbx.pairs[i].outb = withTrailer (replyBody s r.verb m true false (leBytes 2 4 ++ leBytes 2 0)) ∧
          Only [.mbx, .host] s t) ∧
      (isHead s = true → r.target.getLsbD 7 = true → Does .mailboxTake s fun t =>
        t.mbx.pairs[i].outb = withTrailer (replyBody s r.verb m true false (leBytes 2 3 ++ leBytes 2 0)) ∧
          Only [.mbx, .host] s t) ∧
      (isHead s = true → r.target.getLsbD 7 = false → Does .mailboxTake s fun t =>
        t.chn.fwd = s.chn.fwd ++ [{ pair := i, verb := r.verb, tag := r.tag, target := r.target, acked := false }] ∧
          (∃ f, t.np.txq = s.np.txq ++ [f] ∧ f.type = 1 ∧ f.dst = r.target.setWidth 7 ∧
            f.payload = s.mbx.pairs[i].inb.take (16 + r.len)) ∧ Only [.mbx, .host, .chn, .np] s t))) ∧
  (∀ s, (s.mbx.takeq = [] ∨ fwRuns s = false) → Idle .mailboxTake s)

/-! ## Verbs (14) -/

/-- O39. The order of check 7 (14 R506, R509, R510, R511, R513, R514): place, broadcast, privilege, envelope and
length are tested in that order for every verb, and a refusal changes nothing else; a "safe" verb needs commissioning,
then an envelope. -/
def Obligations.VerbChecksInOrder : Prop :=
  ∀ v c, (v, c) ∈ verbs → ∀ s m, fwRuns s = true → noWaiters s v.code m = true →
    (v.code = 0x0203 → s.store.lockRun = false) →
    let u := entered s v m
    (placeOk s v.place m = false → Does (c m) s fun t => Refuses s t v m 8 1) ∧
    (placeOk s v.place m = true → m.bcast = true → v.bc = false → Does (c m) s fun t => Refuses s t v m 8 3) ∧
    (placeOk s v.place m = true → (m.bcast = true → v.bc = true) →
      (v.priv = .pw → s.safe.sess[m.mbx] = none → Does (c m) s fun t => Refuses s t v m 7 1) ∧
      (v.priv = .safe → commissioned s = false → Does (c m) s fun t => Refuses s t v m 7 2) ∧
      (v.priv = .safe → commissioned s = true → m.env = false → Does (c m) s fun t => Refuses s t v m 7 3) ∧
      (v.priv ≠ .safe → (v.priv = .pw → s.safe.sess[m.mbx].isSome = true) → (m.env = true ∨ lenOk v m = false) →
        Does (c m) s fun t => Refuses u t v m 9 (v.len.getD 0xFFFF)))

/-- O40. Identity and configuration (14 R516 to R526, R906, Table 14-2; 17 R649, R655): reads answer with the
registers; a write in which a record is refused changes nothing; an accepted one takes every record at once, with a
new seal. A write that disables a port which relays a break stores its record and ends in the full reset of the relay's end. -/
def Obligations.IdentityAndConfigurationVerbs : Prop :=
  (∀ s m, verbFits s rowIdRead m = true → Does (.idRead m) s fun t =>
    Replies s t rowIdRead m (idBytes s m.mbx) ∧ Only replyParts (hostActivity s) t) ∧
  (∀ s m, verbFits s rowIdFactory m = true → Does (.idFactory m) s fun t =>
    Replies s t rowIdFactory m (padTo 8 s.store.lot ++ [s.store.year, s.store.week, s.store.grade, 0] ++
      leBytes 4 s.store.fchk.toNat) ∧ Only replyParts (hostActivity s) t) ∧
  (∀ s m v, verbFits s rowCfgRead m = true → m.payload.length = 2 → regGet s (leAt m.payload 0 2) = some v →
    Does (.cfgRead m) s fun t => Replies s t rowCfgRead m (leBytes 4 v.toNat) ∧
      (leAt m.payload 0 2 = 0x61 → t.sp.cerr = 0 ∧ t.np.cerr = 0) ∧ Only replyParts (hostActivity s) t) ∧
  (∀ s m, verbFits s rowCfgRead m = true → m.payload.length = 2 → regGet s (leAt m.payload 0 2) = none →
    Does (.cfgRead m) s fun t => Refuses s t rowCfgRead m 10 0) ∧
  (∀ s m, verbFits s rowCfgWrite m = true → m.payload.length % 8 = 0 → m.payload ≠ [] → m.payload.length ≤ 128 →
    let recs := cfgRecs m.payload
    let new := applyRecs s.cfg recs
    let u := entered s rowCfgWrite m
    (∀ off, firstBad (recs.map (recBad s.cfg m.payload)) = some off → Does (.cfgWrite m) s fun t =>
      Refuses u t rowCfgWrite m 10 off) ∧
    (firstBad (recs.map (recBad s.cfg m.payload)) = none →
      (∀ off, crossBad new recs = some off → Does (.cfgWrite m) s fun t => Refuses u t rowCfgWrite m 10 off) ∧
      (∀ d, crossBad new recs = none → cfgState s new (m.src.map fun _ => m.port) = some d → Does (.cfgWrite m) s fun t =>
        Refuses u t rowCfgWrite m 8 d) ∧
      (crossBad new recs = none → cfgState s new (m.src.map fun _ => m.port) = none → endsRelay s new.linkCfg = true →
        Does (.cfgWrite m) s fun t => t.rst.held = true ∧ t.rst.latch = 5 ∧ t.store.record.regs = new) ∧
      (crossBad new recs = none → cfgState s new (m.src.map fun _ => m.port) = none → endsRelay s new.linkCfg = false →
        Does (.cfgWrite m) s fun t =>
        t.cfg = new ∧ t.store.record.regs = new ∧ t.store.record.sealV = sealOf s.store.uid new ∧
          t.store.record.crc = areaCrc t.store.record ∧ t.prot.loaded = true ∧
          Replies s t rowCfgWrite m [] ∧
          ((changes s.cfg new).any (fun c => isSafetyParam c.1) = true →
            t.store.record.confirmed = none ∧ t.store.record.schg = s.store.record.schg + 1 ∧ commissioned t = false) ∧
          ((changes s.cfg new).any (fun c => isSafetyParam c.1) = false → t.store.record.schg = s.store.record.schg) ∧
          t.tq.rd = s.tq.rd ∧ (isAnchor t = true → t.tq.ten = s.tq.ten) ∧
          (isAnchor t = false → t.tq.ten = false ∧ t.tq.rdnLow = false) ∧ t.mem = s.mem ∧ t.store.digest = s.store.digest ∧
          t.safe.sess = u.safe.sess))) ∧
  (∀ s m, verbFits s rowCfgFactory m = true → cfgState s CfgRegs.reset none = none → Does (.cfgFactory m) s fun t =>
    t.cfg = CfgRegs.reset ∧ t.store.record.regs = CfgRegs.reset ∧ t.store.record.confirmed = none ∧
      t.store.record.crc = areaCrc t.store.record ∧
      Replies s t rowCfgFactory m [] ∧ t.store.digest = s.store.digest ∧ t.mem = s.mem) ∧
  (∀ s m d, verbFits s rowCfgFactory m = true → cfgState s CfgRegs.reset none = some d → Does (.cfgFactory m) s fun t =>
    Refuses (entered s rowCfgFactory m) t rowCfgFactory m 8 d)

/-- O41. Passwords and sessions (14 R508, R527; 17 R659 to R669): the right password opens a session, a wrong one is
counted and the fifth starts a lockout, in which every login is refused; a lockout's end doubles the next up to 3,840
s. Each writes the password record with its check (17 R662). -/
def Obligations.PasswordSessionLockout : Prop :=
  (∀ s m, fwRuns s = true → s.store.lockRun = true → noWaiters s rowCfgLogin.code m = true → Does (.cfgLogin m) s fun t =>
    Refuses s t rowCfgLogin m 7 5) ∧
  (∀ s m, verbFits s rowCfgLogin m = true → s.store.lockRun = false → badDigit m.payload 0 = none →
    sha256 (s.store.salt ++ m.payload) = s.store.digest → Does (.cfgLogin m) s fun t =>
      t.safe = { s.safe with sess := s.safe.sess.set m.mbx (some s.now) } ∧
        t.store = pwWritten t { s.store with wrong := 0, lockDur := 60 } ∧ Replies s t rowCfgLogin m [] ∧
        Only (.safe :: .store :: replyParts) (hostActivity s) t) ∧
  (∀ s m, verbFits s rowCfgLogin m = true → s.store.lockRun = false → badDigit m.payload 0 = none →
    sha256 (s.store.salt ++ m.payload) ≠ s.store.digest → Does (.cfgLogin m) s fun t =>
      t.store = pwWritten t { s.store with wrong := s.store.wrong + 1, lockRun := decide (5 ≤ s.store.wrong + 1) } ∧
        HostReply s t rowCfgLogin.code m true false (leBytes 2 7 ++ leBytes 2 4) ∧ Only (.store :: journalParts) (hostActivity s) t) ∧
  (∀ s m off, verbFits s rowCfgLogin m = true → s.store.lockRun = false → badDigit m.payload 0 = some off →
    Does (.cfgLogin m) s fun t => Refuses s t rowCfgLogin m 10 off) ∧
  (∀ s m, verbFits s rowCfgLogout m = true → Does (.cfgLogout m) s fun t =>
    t.safe = { s.safe with sess := s.safe.sess.set m.mbx none } ∧ Replies s t rowCfgLogout m [] ∧
      Only (.safe :: replyParts) (hostActivity s) t) ∧
  (∀ s m, verbFits s rowCfgPasswd m = true → badDigit m.payload 0 = none → m.payload ≠ List.replicate 8 0x30#8 →
    Does (.cfgPasswd m) s fun t =>
      t.store = pwWritten t { s.store with pwFactory := false, salt := t.store.salt, digest := sha256 (t.store.salt ++ m.payload) } ∧
        t.store.salt.length = 16 ∧ t.safe = (entered s rowCfgPasswd m).safe ∧ Replies s t rowCfgPasswd m [] ∧
        Only (.freeCtr :: .safe :: .store :: journalParts) (hostActivity s) t) ∧
  (∀ s m, verbFits s rowCfgPasswd m = true → m.payload = List.replicate 8 0x30#8 → Does (.cfgPasswd m) s fun t =>
    Refuses (entered s rowCfgPasswd m) t rowCfgPasswd m 10 0) ∧
  (∀ s m off, verbFits s rowCfgPasswd m = true → badDigit m.payload 0 = some off → Does (.cfgPasswd m) s fun t =>
    Refuses (entered s rowCfgPasswd m) t rowCfgPasswd m 10 off) ∧
  (∀ s i, Does (.sessionLapse i) s fun t => t = { s with safe := { s.safe with sess := s.safe.sess.set i none } }) ∧
  (∀ s, running s = true → s.store.lockRun = true → Does .lockoutExpire s fun t =>
    t = { s with store := pwWritten t { s.store with lockRun := false, lockDur := min 3840 (2 * s.store.lockDur) } }) ∧
  (∀ s, (running s = false ∨ s.store.lockRun = false) → Idle .lockoutExpire s)

/-- O42. Acquisition and balancing verbs (08 R258 to R260, R278; 14 R528 to R536): an acquisition is queued and
numbered, and opens the switches, reads answer with the kept record, a balancing record is refused at its first bad field and otherwise
replaces a request. -/
def Obligations.AcquisitionAndBalancingVerbs : Prop :=
  (∀ s m, verbFits s rowAcqStart m = true → s.acq.req = none → Does (.acqStart m) s fun t =>
    t.acq = { s.acq with seqN := s.acq.seqN + 1, req := some (s.acq.seqN + 1) } ∧ t.bal.closed = 0 ∧ t.bal.wells = s.bal.wells ∧
      Replies s t rowAcqStart m (leBytes 2 (s.acq.seqN + 1).toNat ++ [0, 0]) ∧ Only (.acq :: .bal :: replyParts) (hostActivity s) t) ∧
  (∀ s m, verbFits s rowAcqStart m = true → s.acq.req ≠ none → Does (.acqStart m) s fun t => Refuses s t rowAcqStart m 8 0x10) ∧
  (∀ s m k q, verbFits s rowAcqRead m = true → m.payload = [0, 0, 0, 0] → s.acq.kept = k :: q → Does (.acqRead m) s fun t =>
    Replies s t rowAcqRead m (snapBytes k) ∧ Only replyParts (hostActivity s) t) ∧
  (∀ s m, verbFits s rowAcqRead m = true → m.payload = [0, 0, 0, 0] → s.acq.kept = [] → Does (.acqRead m) s fun t =>
    Refuses s t rowAcqRead m 8 0x10) ∧
  (∀ s m, verbFits s rowAcqFetch m = true → byteAt m.payload 0 ≤ 2 → byteAt m.payload 1 ≤ 9 → (m.payload.drop 2) = [0, 0] →
    Does (.acqFetch m) s fun t =>
      let k := Fin.ofNat 3 (byteAt m.payload 0)
      let r := fetchRecords s.chn.recs[k].recs (if byteAt m.payload 1 = 0 then 236 else byteAt m.payload 1) 236
      t.chn.recs[k] = { recs := r.2.2, lost := 0 } ∧
        Replies s t rowAcqFetch m ([BitVec.ofNat 8 r.2.1, 0] ++ leBytes 2 s.chn.recs[k].lost.toNat ++ r.1) ∧
        Only replyParts (hostActivity s) t) ∧
  (∀ s m r, verbFits s rowBalSet m = true → m.payload.length = 8 → balRecs m.payload = [r] → balRecBad s r = none →
    s.prot.everRel = true → r.kind ≠ 0 → hasW s.bal.testFail r.w = false → Does (.balSet m) s fun t =>
      t.bal.wells[r.w].req = true ∧ t.bal.wells[r.w].applet = false ∧ t.bal.wells[r.w].left = r.time * 1000 * ctPerMs ∧
        t.bal.wells[r.w].target = (r.kind == 2) ∧ (∀ w, w ≠ r.w → t.bal.wells[w] = s.bal.wells[w]) ∧
        (tested s r.w = false → hasW t.bal.due r.w = true) ∧ Replies s t rowBalSet m [] ∧ Only (.bal :: replyParts) (hostActivity s) t) ∧
  (∀ s m r off, verbFits s rowBalSet m = true → m.payload.length = 8 → balRecs m.payload = [r] → balRecBad s r = some off →
    Does (.balSet m) s fun t => Refuses s t rowBalSet m 10 off) ∧
  (∀ s m, verbFits s rowBalStop m = true → reservedBits (word0 m.payload) 0x3FFFF = none → Does (.balStop m) s fun t =>
    (∀ w : Well, t.bal.wells[w] = if hasW (maskOf m.payload) w && s.bal.wells[w].req then endWell s.bal.wells[w] 3
      else s.bal.wells[w]) ∧ Replies s t rowBalStop m [] ∧
      Only (.bal :: replyParts) (hostActivity s) t) ∧
  (∀ s m, verbFits s rowBalStat m = true → Does (.balStat m) s fun t =>
    Replies s t rowBalStat m (balStatBytes s) ∧ Only replyParts (hostActivity s) t) ∧
  (∀ s m, verbFits s rowBalTest m = true → testMaskBad s m.payload = none → maskOf m.payload ≠ 0 → s.bal.btest = [] →
    Does (.balTest m) s fun t =>
      t = balPauseNow { hostActivity s with bal := { s.bal with btest := [newTest (waitOf rowBalTest m) (maskOf m.payload) 0] } } ∧
        (∀ w : Well, hasW (maskOf m.payload) w = true →
          hasW t.bal.closed w = (hasW s.bal.closed w && !s.bal.wells[w].req && !dieHot s) ∧
            (s.bal.wells[w].req = true → t.bal.wells[w].pause.getLsbD 3 = true)) ∧ Only [.bal] (hostActivity s) t) ∧
  (∀ s m off, verbFits s rowBalTest m = true → testMaskBad s m.payload = some off → Does (.balTest m) s fun t =>
    Refuses s t rowBalTest m 10 off)

/-- O43. Gate and protection verbs (09 R301, R319, R320, R326, R333, R334; 14 R535 to R538): `GATE_ON` tests its
conditions in order and begins TEST, `GATE_OFF` turns off from every state, `GATE_REARM` clears the latch no sooner
than 500 ms. -/
def Obligations.GateAndProtectionVerbs : Prop :=
  (∀ s m, verbFits s rowGateOn m = true → gateOnRefusal s = none → Does (.gateOn m) s fun t =>
    t.gate = { s.gate with state := .test, cp := true, testOk := false, waits := s.gate.waits ++ [waitOf rowGateOn m] } ∧
      t.mbx = s.mbx ∧ Only [.gate, .safe] (hostActivity s) t) ∧
  (∀ s m d, verbFits s rowGateOn m = true → gateOnRefusal s = some d → Does (.gateOn m) s fun t =>
    Refuses (entered s rowGateOn m) t rowGateOn m 8 d) ∧
  (∀ s, gateOnRefusal s = none ↔ (bitOf s.cfg.gateCfg2 16 = true ∧ s.gate.disc = false ∧ s.prot.everRel = true ∧
    s.pw.state = .active ∧ s.gate.state = .off)) ∧
  (∀ s m, verbFits s rowGateOff m = true → (s.gate.state = .ramp ∨ s.gate.state = .on) → s.gate.waits = [] →
    Does (.gateOff m) s fun t =>
      t = { hostActivity s with
        gate := { s.gate with state := .turnoff, fromOn := s.gate.state == .on, stage2 := false, cp := false, hold := false,
                              waits := [waitOf rowGateOff m] } }) ∧
  (∀ s m, verbFits s rowGateOff m = true → (s.gate.state = .off ∨ s.gate.state = .fault) → s.gate.waits = [] →
    Does (.gateOff m) s fun t =>
      t.gate = s.gate ∧ Replies s t rowGateOff m (gateReply s) ∧ Only replyParts (hostActivity s) t) ∧
  (∀ s m, verbFits s rowGateRearm m = true → s.gate.disc = true → 500 * ctPerMs ≤ s.now - s.gate.discAt →
    Does (.gateRearm m) s fun t =>
      t.gate = { s.gate with disc := false, cause := 0, causes := 0,
                             state := if s.gate.state == .fault then .off else s.gate.state } ∧
        t.store = { s.store with disc := none } ∧ Replies s t rowGateRearm m [] ∧
        Only (.gate :: .store :: .safe :: .prot :: journalParts) (hostActivity s) t) ∧
  (∀ s m, verbFits s rowGateRearm m = true → s.gate.disc = true → s.now - s.gate.discAt < 500 * ctPerMs →
    Does (.gateRearm m) s fun t => Refuses (entered s rowGateRearm m) t rowGateRearm m 8 0x14) ∧
  (∀ s m, verbFits s rowGateRearm m = true → s.gate.disc = false →
    Does (.gateRearm m) s fun t => Refuses (entered s rowGateRearm m) t rowGateRearm m 8 0x15) ∧
  (∀ s m, verbFits s rowProtStat m = true → Does (.protStat m) s fun t =>
    Replies s t rowProtStat m (leBytes 4 (protStat s).toNat ++ leBytes 4 s.prot.ovFault.toNat ++
      leBytes 4 s.prot.uvFault.toNat) ∧ Only replyParts (hostActivity s) t) ∧
  (∀ s m, verbFits s rowCmpTest m = true → testMaskBad s m.payload = none → maskOf m.payload ≠ 0 → s.prot.ctest = [] →
    Does (.cmpTest m) s fun t =>
      t = { hostActivity s with prot := { s.prot with
        ctest := [newTest (waitOf rowCmpTest m) (maskOf m.payload) (maskOf m.payload)] } }) ∧
  (∀ s m off, verbFits s rowCmpTest m = true → testMaskBad s m.payload = some off → Does (.cmpTest m) s fun t =>
    Refuses s t rowCmpTest m 10 off)

/-- O44. The chain verbs (11 R397, R400, R415, R435; 14 R539 to R542): enumeration makes this device the head and asks
for address 2, calibration asks for its first exchange, a stream setting waits for the next tick that is fixed, a break goes out of the
north port as soon as nothing holds it back. -/
def Obligations.ChainVerbs : Prop :=
  (∀ s m, verbFits s rowChainEnum m = true → m.payload = [0, 0, 0, 0] ∨ m.payload = [1, 0, 0, 0] → windowRecent s = false →
    s.chn.enum = none → Does (.chainEnum m) s fun t =>
      t.chn.addr = 1 ∧ t.chn.ring = (byteAt m.payload 0 == 1) ∧ t.mbx = s.mbx ∧
        (∃ e, t.chn.enum = some e ∧ e.next = 2 ∧ e.tries = 1 ∧ e.w = waitOf rowChainEnum m) ∧
        (∃ f, t.np.txq = s.np.txq ++ [f] ∧ f.type = 8 ∧ f.src = 1 ∧ f.payload = [2, m.payload.getD 0 0]) ∧
        Only [.safe, .chn, .sp, .np, .host, .en] (hostActivity s) t) ∧
  (∀ s m, verbFits s rowChainEnum m = true → m.payload = [0, 0, 0, 0] → windowRecent s = true → Does (.chainEnum m) s fun t =>
    Refuses (entered s rowChainEnum m) t rowChainEnum m 8 0x10) ∧
  (∀ s m, verbFits s rowChainCal m = true → streamM s = 0 → s.chn.enumDone = true → s.chn.cal = none → 2 ≤ s.chn.top.toNat →
    s.chn.addr = 1 → Does (.chainCal m) s fun t =>
      (∃ c, t.chn.cal = some c ∧ c.addr = 2 ∧ c.xchg = 1 ∧ c.n = 0 ∧ c.w = waitOf rowChainCal m) ∧
        (∃ f, t.np.txq = s.np.txq ++ [f] ∧ f.type = 9 ∧ f.dst = 2 ∧ f.payload = calBytes 0 s.chn.ep 1 0 0 0) ∧
        t.mbx = s.mbx ∧ Only [.safe, .chn, .sp, .np] (hostActivity s) t) ∧
  (∀ s m, verbFits s rowChainCal m = true → streamM s ≠ 0 → Does (.chainCal m) s fun t =>
    Refuses (entered s rowChainCal m) t rowChainCal m 8 0x10) ∧
  (∀ s m, verbFits s rowChainCal m = true → streamM s = 0 → s.chn.enumDone = false → Does (.chainCal m) s fun t =>
    Refuses (entered s rowChainCal m) t rowChainCal m 8 0x11) ∧
  (∀ s m, verbFits s rowChainStream m = true → byteAt m.payload 0 ≤ 2 → m.payload.drop 2 = [0, 0] →
    let kind : BitVec 2 := BitVec.ofNat 2 (byteAt m.payload 0)
    let wofs := (windowOfs (entered s rowChainStream m)).1
    let refusal := streamRefusal s kind (byteAt m.payload 1) (windowSlot s kind) wofs
    (∀ d, refusal = some d → Does (.chainStream m) s fun t => Refuses (entered s rowChainStream m) t rowChainStream m 8 d) ∧
    (refusal = none → Does (.chainStream m) s fun t =>
      t.chn.setq = s.chn.setq ++ [{ from_ := s.sch.tseq, m := m.payload.getD 1 0, kind := kind, wofs := wofs }] ∧
        t.chn.m = s.chn.m ∧
        Replies s t rowChainStream m (if byteAt m.payload 1 = 0 then List.replicate 8 0
          else [if chainEl1 s then 2 else 1, s.chn.top] ++ leBytes 2 (windowSlot s kind) ++ leBytes 2 wofs ++ [0, 0]) ∧
        Only (.freeCtr :: .safe :: replyParts) (hostActivity s) t)) ∧
  (∀ s kind slot wofs d, streamRefusal s kind 0 slot wofs = some d → d = 0x11 ∨ d = 0x12) ∧
  (∀ s m, verbFits s rowChainStat m = true → Does (.chainStat m) s fun t =>
    Replies s t rowChainStat m (chainStatBytes s) ∧ Only replyParts (hostActivity s) t) ∧
  (∀ s m c, verbFits s rowChainCrumb m = true → m.payload.drop 1 = [0, 0, 0] → 2 ≤ byteAt m.payload 0 →
    byteAt m.payload 0 ≤ 0x40 → (s.chn.cacc.find? fun x => x.1.toNat == byteAt m.payload 0) = some c →
    Does (.chainCrumb m) s fun t =>
      Replies s t rowChainCrumb m (padTo 32 c.2.1 ++ leBytes 4 (min 0xFFFFFFFF (msSince s c.2.2))) ∧ Only replyParts (hostActivity s) t) ∧
  (∀ s m, verbFits s rowChainBreak m = true → breakPort s .north = true → Does (.chainBreak m) s fun t =>
    t.chn = { s.chn with brk := s.chn.brk ++ [waitOf rowChainBreak m] } ∧
      (s.np.brkOut = false → breakFree s .north = true → t.np = { s.np with
        brkOut := true, relaying := false, txEnd := s.now,
        endOut := if transmitting s s.np then some .missing else s.np.endOut }) ∧
      ((s.np.brkOut = true ∨ breakFree s .north = false) → t.np = s.np) ∧ Only [.safe, .chn, .np] (hostActivity s) t) ∧
  (∀ s m, verbFits s rowChainBreak m = true → (portEnabled s .north = false ∨ s.sup.vport = false) →
    Does (.chainBreak m) s fun t => Refuses (entered s rowChainBreak m) t rowChainBreak m 8 0x10)

/-! ## Safety and torque (15, 16, 17) -/

/-- O45. Confirmation and connection (15 R564 to R569, R576, R581, R582; 17 R653, R654): `SAFE_CONFIRM` stores the
seal in force, `SAFE_OPEN` opens a connection for a fresh identity, `SAFE_CLOSE` and the time expectation end it. -/
def Obligations.ConfirmationAndConnection : Prop :=
  (∀ s m, verbFits s rowSafeConfirm m = true → word0 m.payload = sealNow s → s.prot.everRel = true →
    s.store.pwFactory = false → Does (.safeConfirm m) s fun t =>
      (s.prot.loaded = true → commissioned t = true) ∧ t.store.record.crc = areaCrc t.store.record ∧ Replies s t rowSafeConfirm m [] ∧ t.cfg = s.cfg ∧
        t.store.record.schg = s.store.record.schg ∧ t.safe.conn = s.safe.conn) ∧
  (∀ s m, verbFits s rowSafeConfirm m = true → word0 m.payload ≠ sealNow s → Does (.safeConfirm m) s fun t =>
    Refuses (entered s rowSafeConfirm m) t rowSafeConfirm m 10 0) ∧
  (∀ s m, verbFits s rowSafeConfirm m = true → word0 m.payload = sealNow s → s.prot.everRel = true →
    s.store.pwFactory = true → Does (.safeConfirm m) s fun t =>
      Refuses (entered s rowSafeConfirm m) t rowSafeConfirm m 8 0x11) ∧
  (∀ s m, verbFits s rowSafeStat m = true → Does (.safeStat m) s fun t =>
    Replies s t rowSafeStat m (safeStatBytes s) ∧ Only replyParts (hostActivity s) t) ∧
  (∀ s m, verbFits s rowSafeOpen m = true → word0 m.payload ≠ 0 → s.safe.lastConn ≠ some (word0 m.payload) →
    1 ≤ leAt m.payload 4 2 → leAt m.payload 4 2 ≤ 1000 → m.payload.drop 6 = [0, 0] → Does (.safeOpen m) s fun t =>
      t.safe.conn = some { id := word0 m.payload, texp := BitVec.ofNat 16 (leAt m.payload 4 2), sseq := 0, losts := 0,
                           reps := 0, restart := s.now } ∧
        t.safe.lastConn = some (word0 m.payload) ∧ Replies s t rowSafeOpen m (leBytes 8 s.store.uid.toNat) ∧
        Only (.safe :: replyParts) (hostActivity s) t) ∧
  (∀ s m, verbFits s rowSafeOpen m = true → (word0 m.payload = 0 ∨ s.safe.lastConn = some (word0 m.payload)) →
    Does (.safeOpen m) s fun t => Refuses (entered s rowSafeOpen m) t rowSafeOpen m 10 0) ∧
  (∀ s m, verbFits s rowSafeClose m = true → Does (.safeClose m) s fun t =>
    t.safe.conn = none ∧ Replies s t rowSafeClose m [] ∧ (isAnchor s = false → t.tq = s.tq) ∧
      (isAnchor s = true → s.tq.enabling = [] → s.tq.rd = .enabled → t.tq.rd = .decide ∧ t.tq.decideAt = s.now)) ∧
  (∀ s c, active s = true → s.safe.conn = some c → Does .timeExpectationExpire s fun t =>
    t.safe = { s.safe with conn := none } ∧ (isAnchor s = false → t.tq = s.tq) ∧
      (isAnchor s = true → s.tq.enabling = [] → s.tq.rd = .enabled → t.tq.rd = .decide ∧ t.tq.smTimer = true) ∧
      Only (.safe :: .tq :: .core :: journalParts) s t) ∧
  (∀ s, s.safe.conn = none → Idle .timeExpectationExpire s)

/-- O46. The envelope's checks (15 R570 to R575; 14 R509): on a commissioned device with an open connection a fresh
envelope is answered in an envelope and counted, a repeated one is only counted, a failed check closes the connection.
-/
def Obligations.EnvelopeChecks : Prop :=
  (∀ s m c q d, fwRuns s = true → m.env = true → m.bcast = false → commissioned s = true → s.safe.conn = some c →
    noWaiters s rowSafeCycle.code m = true → m.payload.length = 8 →
    envJudge s rowSafeCycle.code m.payload = .accepted q d → Does (.safeCycle m) s fun t =>
      (∃ c', t.safe.conn = some c' ∧ c'.id = c.id ∧ c'.sseq = q ∧ c'.restart = s.now ∧ c'.losts = satAdd8 c.losts (d - 1) ∧
        let s' := { s with safe := { s.safe with conn := some c' } }
        let e := leBytes 2 q.toNat ++ [BitVec.ofNat 8 (cycleData s').length, 1] ++ cycleData s'
        HostReply s t rowSafeCycle.code m false true (e ++ leBytes 4 (schk s c.id rowSafeCycle.code e).toNat)) ∧
        Only (.safe :: replyParts) (hostActivity s) t) ∧
  (∀ s m c, fwRuns s = true → m.env = true → m.bcast = false → commissioned s = true → s.safe.conn = some c →
    noWaiters s rowSafeCycle.code m = true → envJudge s rowSafeCycle.code m.payload = .repeated → Does (.safeCycle m) s fun t =>
      t.safe.conn = some { c with reps := satAdd8 c.reps 1 } ∧
        HostReply s t rowSafeCycle.code m true false (leBytes 2 7 ++ leBytes 2 3) ∧ Only (.safe :: replyParts) (hostActivity s) t) ∧
  (∀ s m n, fwRuns s = true → m.env = true → m.bcast = false → commissioned s = true →
    noWaiters s rowSafeCycle.code m = true → envJudge s rowSafeCycle.code m.payload = .failed n →
    Does (.safeCycle m) s fun t =>
      t.safe.conn = none ∧ HostReply s t rowSafeCycle.code m true false (leBytes 2 7 ++ leBytes 2 3) ∧
        Only (.safe :: .tq :: journalParts) (hostActivity s) t) ∧
  (∀ s v p c q d, s.safe.conn = some c → envJudge s v p = .accepted q d →
    (1 ≤ d ∧ d ≤ 8 ∧ d = (q - c.sseq).toNat ∧ leAt p (4 + envLen p) 4 = (schk s c.id v (p.take (4 + envLen p))).toNat))

/-- O47. Enabling torque (16 R601 to R608): `SAFE_TEN` begins the rise with `RDN_N` high, both read-backs high end it
in ENABLED, any other read-back removes torque; a comma pulse only while torque is on; pulses end at once. -/
def Obligations.TorqueEnabling : Prop :=
  (∀ s m c q d, fwRuns s = true → isAnchor s = true → m.env = true → m.bcast = false → commissioned s = true →
    s.safe.conn = some c → m.payload.length = 12 → envJudge s rowSafeTen.code m.payload = .accepted q d →
    byteAt m.payload 4 = 1 → (m.payload.drop 5).take 3 = [0, 0, 0] → s.sup.stopN = true → tenRefusal s false = none →
    Does (.safeTen m) s fun t =>
      t.tq = { s.tq with enabling := s.tq.enabling ++ [{ verb := rowSafeTen.code, msg := m, env := some (q, c.id) }],
                         rdnLow := false, rd := .off } ∧ Only [.safe, .tq] (hostActivity s) t) ∧
  (∀ s low, tenRefusal s low = none → torqueOn s = false ∧ s.sup.vio = true ∧ low = false ∧ s.prot.everRel = true ∧
    s.prot.uvTrip = 0 ∧ (anchorFlt s).getLsbD 1 = false ∧ (anchorFlt s).getLsbD 2 = false ∧ s.tq.tenFault = false ∧
    s.tq.conflict = false) ∧
  (∀ s, fwOn s = true → isAnchor s = true → s.tq.enabling ≠ [] → Does .tenRise s fun t => t = { s with tq := { s.tq with ten := true } }) ∧
  (∀ s, (s.tq.enabling = [] ∨ isAnchor s = false ∨ fwOn s = false) → Idle .tenRise s) ∧
  (∀ s, active s = true → isAnchor s = true → s.tq.ten = true → s.tq.enabling ≠ [] → Does (.tenReadbackCheck true true) s fun t =>
    t.tq = { s.tq with rd := .enabled, enabling := [], tfbHigh := some s.now } ∧ torqueOn t = true ∧
      Only (.sup :: .tq :: replyParts) s t) ∧
  (∀ s a b, active s = true → isAnchor s = true → s.tq.ten = true → s.tq.enabling ≠ [] → (a = false ∨ b = false) →
    Does (.tenReadbackCheck a b) s fun t =>
      t.tq.ten = false ∧ t.tq.rd = .removed ∧ t.tq.enabling = [] ∧ t.tq.tenFault = true ∧
        Only (.sup :: .tq :: journalParts) s t) ∧
  (∀ s a b, (s.tq.ten = false ∨ isAnchor s = false) → Idle (.tenReadbackCheck a b) s) ∧
  (∀ s, running s = true → s.tq.ten = true → torqueOn s = true →
    Does (.commaPulse false) s (fun t => t = { s with tq := { s.tq with pulseA := true } }) ∧
      Does (.commaPulse true) s (fun t => t = { s with tq := { s.tq with pulseB := true } })) ∧
  (∀ s b, (s.tq.ten = false ∨ torqueOn s = false) → Idle (.commaPulse b) s) ∧
  (∀ s, Does (.commaPulseEnd false) s (fun t => t = { s with tq := { s.tq with pulseA := false } }) ∧
    Does (.commaPulseEnd true) s (fun t => t = { s with tq := { s.tq with pulseB := false } })) ∧
  (∀ s b, active s = true → isAnchor s = true → (torqueOn s = true ∨ s.tq.enabling ≠ []) → Does (.readbackFault b) s fun t =>
    t.tq.ten = false ∧ t.tq.rd = .removed ∧ t.tq.enabling = [] ∧ t.tq.tenFault = true ∧ Only (.tq :: .core :: journalParts) s t) ∧
  (∀ s b, active s = true → isAnchor s = true → torqueOn s = false → s.tq.enabling = [] → Does (.readbackFault b) s fun t =>
    t = { s with sup := { s.sup with tfbA := s.sup.tfbA || !b, tfbB := s.sup.tfbB || b },
                 tq := { s.tq with tfbHigh := some s.now } } ∧ tfbRecent t = true) ∧
  (∀ s b, (active s = false ∨ isAnchor s = false) → Idle (.readbackFault b) s)

/-- O48. Stop, decision and run-down (16 R610 to R614, R625 to R637, R641; 14 R545): a stop request begins DECIDE, a
covered budget a run-down with `RDN_N` low, everything else removes torque; so do `SAFE_STO`, the envelope, standstill
and time. The firmware and the safety monitor check the run-down each on its own count; copies of the monitor's parameters that
disagree are its violation (log 129). -/
def Obligations.StopDecisionRundown : Prop :=
  (∀ s, active s = true → isAnchor s = true → s.tq.enabling = [] → s.tq.rd = .enabled → Does .stopNLow s fun t =>
    t.tq = { s.tq with rd := .decide, smTimer := true, decideAt := s.now } ∧ t.sup = { s.sup with stopN := false } ∧
      Only [.sup, .tq, .core] s t) ∧
  (∀ s, isAnchor s = false → Does .stopNLow s fun t => t = { s with sup := { s.sup with stopN := false } }) ∧
  (∀ s sl d, fwOn s = true → isAnchor s = true → s.tq.rd = .decide → eNeed s.cfg * 200000 ≤ eSum s s.tq.decideAt →
    Does (.energyDecision sl d) s fun t =>
      t.tq = { s.tq with rd := .rundown, rdnLow := true, smTimer := false, n0f := edges8 s.ph.phaAt fw8ms s.now,
                         n0s := edges8 s.tq.smEdges (smWindow sl d) s.now, runAt := s.now, checks := 0, smChecks := 0, zeros := 0,
                         rdnWaits := [] } ∧
        Only (.tq :: journalParts) s t) ∧
  (∀ s sl d, fwOn s = true → isAnchor s = true → s.tq.rd = .decide → eSum s s.tq.decideAt < eNeed s.cfg * 200000 →
    Does (.energyDecision sl d) s fun t =>
      t.tq.ten = false ∧ t.tq.rd = .removed ∧ t.tq.rdnWaits = [] ∧ Only (.tq :: journalParts) s t) ∧
  (∀ s sl d, (s.tq.rd ≠ .decide ∨ isAnchor s = false ∨ fwOn s = false) → Idle (.energyDecision sl d) s) ∧
  (∀ s, running s = true → isAnchor s = true → s.tq.smTimer = true → s.tq.enabling = [] →
    (s.tq.rd = .enabled ∨ s.tq.rd = .decide) → Does .decisionTimerExpire s fun t =>
      t.tq.ten = false ∧ t.tq.rd = .removed ∧ t.tq.smTimer = false ∧ Only (.tq :: journalParts) s t) ∧
  (∀ s, s.tq.smTimer = false → Idle .decisionTimerExpire s) ∧
  (∀ s d, fwOn s = true → isAnchor s = true → s.tq.rd = .rundown → bitOf s.cfg.roleCfg 1 = true → s.tq.enabling = [] →
    let j := s.tq.checks + 1
    let n := edges8 s.ph.phaAt fw8ms s.now
    let beyond := rdnEdgeLimit s.cfg.roleCfg s.tq.n0f j < n
    (beyond → Does (.rundownCheck .firmware d) s fun t => t.tq.ten = false ∧ t.tq.rd = .removed ∧ Only (.tq :: journalParts) s t) ∧
    (¬ beyond → (n ≠ 0 ∨ s.tq.zeros < 99) → Does (.rundownCheck .firmware d) s fun t =>
      t = { s with tq := { s.tq with checks := j, zeros := if n = 0 then s.tq.zeros + 1 else 0 } }) ∧
    (¬ beyond → n = 0 → 99 ≤ s.tq.zeros → Does (.rundownCheck .firmware d) s fun t =>
      t.tq.ten = false ∧ t.tq.rd = .stopped ∧ t.tq.rdnLow = s.tq.rdnLow ∧ Only (.tq :: journalParts) s t)) ∧
  (∀ s sl d, active s = true → isAnchor s = true → s.tq.rd = .rundown → bitOf s.tq.smRole 1 = true → s.tq.enabling = [] →
    let j := s.tq.smChecks + 1
    let beyond := s.tq.smRoleN ≠ ~~~s.tq.smRole ∨ rdnEdgeLimit s.tq.smRole s.tq.n0s j < edges8 s.tq.smEdges (smWindow sl d) s.now
    (beyond → Does (.rundownCheck (.safety sl) d) s fun t => t.tq.ten = false ∧ t.tq.rd = .removed ∧ Only (.tq :: journalParts) s t) ∧
    (¬ beyond → Does (.rundownCheck (.safety sl) d) s fun t => t = { s with tq := { s.tq with smChecks := j } })) ∧
  (∀ s m d, s.tq.rd ≠ .rundown → Idle (.rundownCheck m d) s) ∧
  (∀ s sl d, (fwOn s = false ∨ bitOf s.cfg.roleCfg 1 = false) → Idle (.rundownCheck .firmware d) s ∧
    (bitOf s.tq.smRole 1 = false → Idle (.rundownCheck (.safety sl) d) s)) ∧
  (∀ s, fwOn s = true → s.tq.rd = .rundown → Does .rundownTimeLimit s fun t =>
    t.tq.ten = false ∧ t.tq.rd = .stopped ∧ Only (.tq :: journalParts) s t) ∧
  (∀ s, running s = true → s.tq.rd = .rundown → Does .smRundownLimitBackup s fun t =>
    t.tq.ten = false ∧ t.tq.rd = .stopped ∧ Only (.tq :: journalParts) s t) ∧
  (∀ s, s.tq.rd ≠ .rundown → Idle .rundownTimeLimit s ∧ Idle .smRundownLimitBackup s) ∧
  (∀ s m, fwRuns s = true → (m.env = true ∨ m.payload = []) → noWaiters s rowSafeSto.code m = true →
    Does (.safeSto m) s fun t =>
      (isAnchor s = true → (torqueOn s = true ∨ s.tq.enabling ≠ []) → t.tq.ten = false ∧ t.tq.rd = .removed) ∧
        ((isAnchor s = false ∨ (torqueOn s = false ∧ s.tq.enabling = [])) → t.tq = s.tq) ∧
        Replies s t rowSafeSto m
          [BitVec.ofNat 8 (b2n (isAnchor s && (torqueOn s || !s.tq.enabling.isEmpty))), 0, 0, 0] ∧
        Only (.tq :: journalParts) (hostActivity s) t) ∧
  (∀ s m c q d, fwRuns s = true → isAnchor s = true → m.env = true → m.bcast = false → commissioned s = true →
    s.safe.conn = some c → m.payload.length = 12 → envJudge s rowSafeRdn.code m.payload = .accepted q d →
    byteAt m.payload 4 = 1 → (m.payload.drop 5).take 3 = [0, 0, 0] → s.tq.rd = .enabled → s.tq.enabling = [] →
    Does (.safeRdn m) s fun t =>
      t.tq = { s.tq with rd := .decide, smTimer := true, decideAt := s.now,
                         rdnWaits := s.tq.rdnWaits ++ [({ verb := rowSafeRdn.code, msg := m, env := some (q, c.id) }, false)] } ∧
        Only [.safe, .tq] (hostActivity s) t) ∧
  (∀ s m, verbFits s rowSafeEnergy m = true → Does (.safeEnergy m) s fun t =>
    Replies s t rowSafeEnergy m (energyReply s) ∧ Only replyParts (hostActivity s) t)

/-! ## Journal, power, diagnosis and applet verbs (14; 20, 22, 23) -/

/-- O49. Journal, power, diagnosis and reset verbs (14 R546 to R555; 22 R831, R837, R839, R908; 23 R844, R862): they
answer from the state, a mark waits for its record, `PWR_SET` decides the state, `RESET` waits for its reply. -/
def Obligations.JournalPowerResetVerbs : Prop :=
  (∀ s m n, verbFits s rowJrnRead m = true → byteAt m.payload 0 ≤ 1 → 1 ≤ byteAt m.payload 1 → byteAt m.payload 1 ≤ 7 →
    (m.payload.drop 2).take 2 = [0, 0] → heldRecord s (byteAt m.payload 0 == 1) (leAt m.payload 4 4) = some n →
    Does (.jrnRead m) s fun t =>
      let inc := byteAt m.payload 0 == 1
      let k := min (byteAt m.payload 1) ((jrnHead s inc).1 + 1 - n)
      Replies s t rowJrnRead m ([BitVec.ofNat 8 k, 0, 0, 0] ++ (List.range k).flatMap fun i => jrnRec s inc (n + i)) ∧
        Only replyParts (hostActivity s) t) ∧
  (∀ s m, verbFits s rowJrnHead m = true → Does (.jrnHead m) s fun t =>
    Replies s t rowJrnHead m (headBytes s false ++ headBytes s true) ∧ Only replyParts (hostActivity s) t) ∧
  (∀ s m, verbFits s rowJrnRelease m = true →
    let d := (s.jrn.iNum + 2 ^ 32 - leAt m.payload 0 4) % 2 ^ 32
    let u := entered s rowJrnRelease m
    (2 ^ 31 < d → Does (.jrnRelease m) s fun t => Refuses u t rowJrnRelease m 10 0) ∧
    (d ≤ 2 ^ 31 → releaseEnd u d = none → Does (.jrnRelease m) s fun t =>
      Replies s t rowJrnRelease m [0, 0, 0, 0] ∧ Only replyParts u t) ∧
    (∀ n, d ≤ 2 ^ 31 → releaseEnd u d = some n → Does (.jrnRelease m) s fun t =>
      t.jrn.iOld = n + 1 ∧ Replies s t rowJrnRelease m (leBytes 4 (n + 1 - s.jrn.iOld)) ∧
        Only (.safe :: .mem :: journalParts) (hostActivity s) t)) ∧
  (∀ s m, verbFits s rowJrnMark m = true → m.payload ≠ [] → m.payload.length ≤ 16 → jrnRoom s = true → Does (.jrnMark m) s fun t =>
    t = { entered s rowJrnMark m with jrn := { s.jrn with queue := s.jrn.queue ++
      [{ mkEntry s false 0x4B ([BitVec.ofNat 8 m.payload.length, 0, 0, 0] ++ padTo 16 m.payload) with
         mark := some (waitOf rowJrnMark m) }] } }) ∧
  (∀ s m, verbFits s rowJrnMark m = true → (m.payload = [] ∨ 16 < m.payload.length) → Does (.jrnMark m) s fun t =>
    Refuses (entered s rowJrnMark m) t rowJrnMark m 9 0xFFFF) ∧
  (∀ s m, verbFits s rowPwrSet m = true → byteAt m.payload 0 ≤ 4 → (m.payload.drop 1).take 3 = [0, 0, 0] →
    let target : PState := match byteAt m.payload 0 with | 0 => .active | 1 => .standby | 2 => .patrol | 3 => .sleep | _ => .shutdown
    (2 ≤ byteAt m.payload 0 → Does (.pwrSet m) s fun t =>
      t.pw = { (hostActivity s).pw with decided := some target, decTloss := false } ∧ Replies s t rowPwrSet m [] ∧
        Only (.pw :: .safe :: replyParts) (hostActivity s) t) ∧
    (byteAt m.payload 0 < 2 → s.pw.state = target → Does (.pwrSet m) s fun t =>
      Replies s t rowPwrSet m [] ∧ Only (.safe :: replyParts) (hostActivity s) t) ∧
    (byteAt m.payload 0 < 2 → s.pw.state ≠ target → Does (.pwrSet m) s fun t =>
      t.pw = { (hostActivity s).pw with state := target } ∧ t.ph = (wakeTracker s).ph ∧
        t.rst = { s.rst with wdServed := if target = .active then s.now else s.rst.wdServed } ∧ Replies s t rowPwrSet m [] ∧
        Only (.pw :: .rst :: .ph :: .sch :: .core :: .safe :: journalParts) (hostActivity s) t)) ∧
  (∀ s m, verbFits s rowPwrSet m = true → 4 < byteAt m.payload 0 → Does (.pwrSet m) s fun t =>
    Refuses (entered s rowPwrSet m) t rowPwrSet m 10 0) ∧
  (∀ s m, verbFits s rowPwrStat m = true → Does (.pwrStat m) s fun t =>
    Replies s t rowPwrStat m ([BitVec.ofNat 8 (pwCode s.pw.state), 0, 0, 0] ++ leBytes 4 s.pw.wake.toNat ++
      leBytes 2 (balLeft (hostActivity s)) ++ leBytes 2 (sleepLeft (hostActivity s))) ∧ Only replyParts (hostActivity s) t) ∧
  (∀ s m, verbFits s rowPwrWakeclr m = true → reservedBits (word0 m.payload) 0x00070FFF = none → Does (.pwrWakeclr m) s fun t =>
    t.pw = { (hostActivity s).pw with wake := s.pw.wake &&& ~~~ (word0 m.payload) } ∧ Replies s t rowPwrWakeclr m [] ∧
      Only (.pw :: replyParts) (hostActivity s) t) ∧
  (∀ s m, verbFits s rowPwrKeep m = true → Does (.pwrKeep m) s fun t => Replies s t rowPwrKeep m [] ∧ Only replyParts (hostActivity s) t) ∧
  (∀ s m, verbFits s rowDiagInfo m = true → Does (.diagInfo m) s fun t =>
    Replies s t rowDiagInfo m (leBytes 4 s.store.resets.toNat ++ leBytes 6 (uptimeUs s) ++ [s.rst.lastRst, 0] ++
      leBytes 4 s.store.fstops.toNat ++ leBytes 4 s.store.wdresets.toNat ++ [0, 0, 0, 0]) ∧ Only replyParts (hostActivity s) t) ∧
  (∀ s m, verbFits s rowDiagScan m = true → Does (.diagScan m) s fun t =>
    Replies s t rowDiagScan m (wordsLe [s.ce.ch[0].res, s.ce.ch[1].res, s.ce.scans, s.ce.mism]) ∧ Only replyParts (hostActivity s) t) ∧
  (∀ s m, verbFits s rowReset m = true → m.payload = [0x5A, 0xA5, 0x0F, 0x01] → Does (.reset m) s fun t =>
    t.pw = { (hostActivity s).pw with resetVerb := s.pw.resetVerb ++ [(m, false)] } ∧ t.rst = s.rst ∧ Replies s t rowReset m [] ∧
      Only (.pw :: .safe :: replyParts) (hostActivity s) t) ∧
  (∀ s m, verbFits s rowReset m = true → m.payload ≠ [0x5A, 0xA5, 0x0F, 0x01] → Does (.reset m) s fun t =>
    Refuses (entered s rowReset m) t rowReset m 10 0)

/-- O50. Applet verbs (14 R548 to R551, Tables 14-8, 14-9; 20 R768 to R772, R788): the image is written, checked,
erased and started only as its rules allow; a stop outside a service stops the applet; a message waits for its answer,
at most 50 ms. -/
def Obligations.AppletVerbs : Prop :=
  (∀ s m, MemOk s → verbFits s rowAplLoad m = true → 5 ≤ m.payload.length → m.payload.length ≤ 236 →
    leAt m.payload 0 4 + (m.payload.length - 4) ≤ 40960 → s.apl.state ≠ .running → Does (.aplLoad m) s fun t =>
      t.store = { s.store with imgValid := false } ∧ t.apl = { s.apl with state := .none } ∧ Replies s t rowAplLoad m [] ∧
        (∀ i, i < m.payload.length - 4 → memGet t.mem (0x30014000 + leAt m.payload 0 4 + i) = m.payload.getD (4 + i) 0) ∧
        (∀ a, (a < 0x30014000 + leAt m.payload 0 4 ∨ 0x30014000 + leAt m.payload 0 4 + (m.payload.length - 4) ≤ a) →
          memGet t.mem a = memGet s.mem a) ∧ Only (.mem :: .store :: .apl :: .safe :: replyParts) (hostActivity s) t) ∧
  (∀ s m, verbFits s rowAplLoad m = true → 5 ≤ m.payload.length → m.payload.length ≤ 236 →
    40960 < leAt m.payload 0 4 + (m.payload.length - 4) → Does (.aplLoad m) s fun t =>
      Refuses (entered s rowAplLoad m) t rowAplLoad m 10 0) ∧
  (∀ s m, verbFits s rowAplCommit m = true → 1 ≤ leAt m.payload 0 4 → leAt m.payload 0 4 ≤ 40960 →
    let ok := imgChecks s (leAt m.payload 0 4) (BitVec.ofNat 32 (leAt m.payload 4 4))
    (ok = true → Does (.aplCommit m) s fun t =>
      t.store = { s.store with imgValid := true, imgLen := BitVec.ofNat 32 (leAt m.payload 0 4),
                               imgChk := BitVec.ofNat 32 (leAt m.payload 4 4) } ∧
        t.apl.state = (if s.apl.state = .running then .running else .valid) ∧ Replies s t rowAplCommit m [] ∧
        Only (.store :: .apl :: .safe :: replyParts) (hostActivity s) t) ∧
    (ok = false → Does (.aplCommit m) s fun t => Refuses (entered s rowAplCommit m) t rowAplCommit m 10 4)) ∧
  (∀ s m b, MemOk s → verbFits s rowAplStart m = true → s.apl.state ≠ .running → imgBytes s s.store.imgLen.toNat = some b →
    s.store.imgValid = true → headerOk b s.store.imgLen.toNat = true → crc32c b = s.store.imgChk → Does (.aplStart m) s fun t =>
      t.apl.state = .running ∧ t.core.pc = BitVec.ofNat 32 (leAt b 4 4) ∧ t.core.sw = 0x4050 ∧ t.core.g[15] = s.core.g[15] ∧
        (∀ i : Fin 16, i ≠ 15 → t.core.g[i] = 0) ∧ t.apl.budget = leAt b 8 4 ∧ Replies s t rowAplStart m [] ∧
        (∀ i, i < b.length → b.length ≤ 65536 → memGet t.mem (0x20020000 + i) = b.getD i 0) ∧
        (∀ a, (a < 0x20020000 ∨ 0x20030000 ≤ a) → b.length ≤ 65536 → memGet t.mem a = memGet s.mem a)) ∧
  (∀ s m, verbFits s rowAplStart m = true → s.apl.state = .running → Does (.aplStart m) s fun t =>
    Refuses (entered s rowAplStart m) t rowAplStart m 8 0x10) ∧
  (∀ s m, verbFits s rowAplStop m = true → s.apl.state = .running → s.apl.inSvc = false → Does (.aplStop m) s fun t =>
    t.apl.state = (if s.store.imgValid then .valid else .none) ∧ t.dma.ch[6].state = .idle ∧ t.dma.ch[7].state = .idle ∧
      t.ce.ch[2].state = .idle ∧ t.ce.ch[3].state = .idle ∧ inApplet t = false ∧
      (∀ w : Well, s.bal.wells[w].applet = true → t.bal.wells[w].req = false ∨ s.bal.wells[w].req = false) ∧
      (∀ i : Fin 16, bitOf t.mpu.ap[i].va 0 = false) ∧ Replies s t rowAplStop m []) ∧
  (∀ s m, verbFits s rowAplStop m = true → s.apl.state ≠ .running → Does (.aplStop m) s fun t =>
    Replies s t rowAplStop m [] ∧ Only replyParts (hostActivity s) t) ∧
  (∀ s m, verbFits s rowAplStat m = true → Does (.aplStat m) s fun t =>
    Replies s t rowAplStat m ([BitVec.ofNat 8 (aplCode s.apl.state), s.apl.fvec, 0, 0] ++
      wordsLe [s.store.imgLen, s.store.imgChk, s.apl.faults]) ∧ Only replyParts (hostActivity s) t) ∧
  (∀ s m, verbFits s rowAplMsg m = true → m.payload.length ≤ 240 → s.apl.state = .running → Does (.aplMsg m) s fun t =>
    t = { hostActivity s with apl := { s.apl with msgs := s.apl.msgs ++ [waitOf rowAplMsg m] } }) ∧
  (∀ s m, verbFits s rowAplMsg m = true → m.payload.length ≤ 240 → s.apl.state ≠ .running → Does (.aplMsg m) s fun t =>
    Refuses s t rowAplMsg m 8 0x13) ∧
  (∀ s w l, active s = true → s.apl.msgs = w :: l → noWaiters s rowAplMsg.code w.msg = true → Does .aplMsgTimeout s fun t =>
    t.apl = { s.apl with msgs := l } ∧ HostReply s t rowAplMsg.code w.msg true false (leBytes 2 8 ++ leBytes 2 0x12) ∧
      Only (.apl :: replyParts) s t) ∧
  (∀ s m, verbFits s rowAplErase m = true → s.apl.state ≠ .running → Does (.aplErase m) s fun t =>
    t.store = { s.store with imgValid := false, imgLen := 0, imgChk := 0 } ∧ t.apl = { s.apl with state := .none } ∧
      (∀ a, memGet t.mem a = if 0x30014000 ≤ a ∧ a < 0x3001E000 then 0 else memGet s.mem a) ∧
      Replies s t rowAplErase m [] ∧ Only (.mem :: .store :: .apl :: .safe :: replyParts) (hostActivity s) t)

/-! ## The core (18, 19) -/

/-- O51. Arithmetic, logic, shifts and comparisons (19 Tables 19-3, 19-4, R721, R722, R725 to R728): each writes its
exact result, with S = 1 its flags, and nothing else; a write to g0 is discarded; immediates leave the flags. -/
def Obligations.ArithmeticAndLogic : Prop :=
  ∀ s rd ra rb sb, issues s = true →
    let a := getG s ra
    let b := getG s rb
    let n := b.toNat % 32
    Does (.add rd ra rb sb) s (AluDone s · rd sb (a + b) (decide (2 ^ 32 ≤ a.toNat + b.toNat)) (decide (a.toInt + b.toInt ≠ (a + b).toInt))) ∧
    Does (.sub rd ra rb sb) s (AluDone s · rd sb (a - b) (decide (a.toNat < b.toNat)) (decide (a.toInt - b.toInt ≠ (a - b).toInt))) ∧
    Does (.and rd ra rb sb) s (AluDone s · rd sb (a &&& b) false false) ∧
    Does (.or rd ra rb sb) s (AluDone s · rd sb (a ||| b) false false) ∧
    Does (.xor rd ra rb sb) s (AluDone s · rd sb (a ^^^ b) false false) ∧
    Does (.andn rd ra rb sb) s (AluDone s · rd sb (a &&& ~~~ b) false false) ∧
    Does (.mul rd ra rb sb) s (AluDone s · rd sb (BitVec.ofNat 32 (a.toNat * b.toNat)) false false) ∧
    Does (.mulhs rd ra rb sb) s (AluDone s · rd sb (BitVec.ofInt 32 (a.toInt * b.toInt / 2 ^ 32)) false false) ∧
    Does (.mulhu rd ra rb sb) s (AluDone s · rd sb (BitVec.ofNat 32 (a.toNat * b.toNat / 2 ^ 32)) false false) ∧
    Does (.slt rd ra rb sb) s (AluDone s · rd sb (if a.toInt < b.toInt then 1 else 0) false false) ∧
    Does (.sltu rd ra rb sb) s (AluDone s · rd sb (if a.toNat < b.toNat then 1 else 0) false false) ∧
    Does (.sll rd ra rb sb) s (AluDone s · rd sb (BitVec.ofNat 32 (a.toNat * 2 ^ n)) (n != 0 && a.getLsbD (32 - n)) false) ∧
    Does (.srl rd ra rb sb) s (AluDone s · rd sb (BitVec.ofNat 32 (a.toNat / 2 ^ n)) (n != 0 && a.getLsbD (n - 1)) false) ∧
    Does (.sra rd ra rb sb) s (AluDone s · rd sb (BitVec.ofInt 32 (a.toInt / 2 ^ n)) (n != 0 && a.getLsbD (n - 1)) false) ∧
    Does (.ror rd ra rb sb) s (AluDone s · rd sb (a.rotateRight n) (n != 0 && a.getLsbD (n - 1)) false) ∧
    (∀ imm : BitVec 18,
      Does (.addi rd ra imm) s (ImmDone s · rd (a + imm.signExtend 32)) ∧
      Does (.andi rd ra imm) s (ImmDone s · rd (a &&& imm.setWidth 32)) ∧
      Does (.ori rd ra imm) s (ImmDone s · rd (a ||| imm.setWidth 32)) ∧
      Does (.xori rd ra imm) s (ImmDone s · rd (a ^^^ imm.setWidth 32)) ∧
      Does (.cmpi ra imm) s fun t =>
        let i : Word := imm.signExtend 32
        FlagsAre s t (a == i) ((a - i).getLsbD 31) (decide (a.toNat < i.toNat)) (decide (a.toInt - i.toInt ≠ (a - i).toInt)) ∧
          t = { s with core := { (staleLate s).core with sw := t.core.sw, pc := s.core.pc + 4 } }) ∧
    (∀ k : BitVec 5,
      Does (.shiSll rd ra k) s (ImmDone s · rd (a <<< k.toNat)) ∧ Does (.shiSrl rd ra k) s (ImmDone s · rd (a >>> k.toNat)) ∧
      Does (.shiSra rd ra k) s (ImmDone s · rd (BitVec.ofInt 32 (a.toInt / 2 ^ k.toNat))) ∧
      Does (.shiRor rd ra k) s (ImmDone s · rd (a.rotateRight k.toNat))) ∧
    (∀ k : BitVec 16, Does (.lui rd k) s (ImmDone s · rd (k.setWidth 32 <<< 16)))

/-- O52. Trapping operations and divides (19 R723, R724, Table 19-3; 18 R696 to R698): a result that fits is written,
one that does not raises entry 6; with P = 1 a divide ends in its step, with P = 0 in the divide unit. -/
def Obligations.TrappingAndDivides : Prop :=
  (∀ s rd ra rb sb, issues s = true →
    let a := getG s ra
    let b := getG s rb
    (Fits32 (a.toInt + b.toInt) → Does (.addt rd ra rb sb) s (AluDone s · rd sb (a + b) (decide (2 ^ 32 ≤ a.toNat + b.toNat)) false)) ∧
    (¬ Fits32 (a.toInt + b.toInt) → Does (.addt rd ra rb sb) s (· = raiseSync (staleLate s) (plainFault 6 3))) ∧
    (Fits32 (a.toInt - b.toInt) → Does (.subt rd ra rb sb) s (AluDone s · rd sb (a - b) (decide (a.toNat < b.toNat)) false)) ∧
    (¬ Fits32 (a.toInt - b.toInt) → Does (.subt rd ra rb sb) s (· = raiseSync (staleLate s) (plainFault 6 3))) ∧
    (Fits32 (a.toInt * b.toInt) → Does (.mult rd ra rb sb) s (AluDone s · rd sb (a * b) false false)) ∧
    (¬ Fits32 (a.toInt * b.toInt) → Does (.mult rd ra rb sb) s (· = raiseSync (staleLate s) (plainFault 6 3)))) ∧
  (∀ s rd ra rb, issues s = true → s.core.sw.getLsbD 4 = true →
    let a := getG s ra
    let b := getG s rb
    (b ≠ 0 → Does (.divu rd ra rb) s (ImmDone s · rd (BitVec.ofNat 32 (a.toNat / b.toNat)))) ∧
    (b ≠ 0 → Does (.remu rd ra rb) s (ImmDone s · rd (BitVec.ofNat 32 (a.toNat % b.toNat)))) ∧
    (b ≠ 0 → Fits32 (a.toInt.tdiv b.toInt) → Does (.divs rd ra rb) s (ImmDone s · rd (BitVec.ofInt 32 (a.toInt.tdiv b.toInt)))) ∧
    (b ≠ 0 → Does (.rems rd ra rb) s (ImmDone s · rd (BitVec.ofInt 32 (a.toInt.tmod b.toInt)))) ∧
    (b = 0 → ∀ c ∈ [Instr.divs rd ra rb, .divu rd ra rb, .rems rd ra rb, .remu rd ra rb],
      Does c s (· = raiseSync (staleLate s) (plainFault 6 1))) ∧
    (¬ Fits32 (a.toInt.tdiv b.toInt) → Does (.divs rd ra rb) s (· = raiseSync (staleLate s) (plainFault 6 2)))) ∧
  (∀ s rd ra rb, issues s = true → s.core.sw.getLsbD 4 = false →
    ∀ p ∈ [(DivOp.divs, Instr.divs rd ra rb), (.divu, .divu rd ra rb), (.rems, .rems rd ra rb), (.remu, .remu rd ra rb)],
    Does p.2 s fun t => t.core.div = some { op := p.1, rd := rd, x := getG s ra, y := getG s rb, pc := s.core.pc, a := inApplet s, n := 0 } ∧
      t.core.pc = s.core.pc + 4 ∧ t.core.g = s.core.g ∧ t.core.sw = s.core.sw ∧ Only [.core] s t) ∧
  (∀ s d, running s = true → s.core.div = some d → d.y ≠ 0 → d.op = .divu → d.a = inApplet s → Does .divideComplete s fun t =>
    Wrote s t d.rd (BitVec.ofNat 32 (d.x.toNat / d.y.toNat)) ∧ t.core.div = none ∧ t.core.imp = s.core.imp ∧
      t.core.pc = s.core.pc ∧ Only [.core] s t) ∧
  (∀ s d, running s = true → s.core.div = some d → d.y = 0 → s.core.imp = none → Does .divideComplete s fun t =>
    t = { s with core := { s.core with div := none, imp := some (1, d.pc, d.a) } }) ∧
  (∀ s, s.core.div = none → Idle .divideComplete s)

/-- O53. Loads, stores and block moves (19 R729 to R732, R737 to R743; 18 R691; 20 R761, R763): an access that the
protection unit lets pass reads or writes SRAM through the store buffer, others raise entry 3 or 7 and leave no
effect. -/
def Obligations.LoadsStoresBlockMoves : Prop :=
  (∀ s rd ra imm p, issues s = true → mpuCheck s (inApplet s) (getG s ra + sext18 imm).toNat 1 = .ok p → inSram p = true →
    let a := (getG s ra + sext18 imm).toNat
    let v := fun n => leVal (overlay s.core.sbuf p (memGets s.mem p n))
    (a % 4 = 0 → Does (.ldw rd ra imm) s (ImmDone s · rd (BitVec.ofNat 32 (v 4)))) ∧
    (a % 2 = 0 → Does (.ldh rd ra imm) s (ImmDone s · rd ((BitVec.ofNat 16 (v 2)).signExtend 32))) ∧
    (a % 2 = 0 → Does (.ldhu rd ra imm) s (ImmDone s · rd (BitVec.ofNat 32 (v 2)))) ∧
    Does (.ldb rd ra imm) s (ImmDone s · rd ((BitVec.ofNat 8 (v 1)).signExtend 32)) ∧
    Does (.ldbu rd ra imm) s (ImmDone s · rd (BitVec.ofNat 32 (v 1)))) ∧
  (∀ s rs ra imm p, issues s = true → mpuCheck s (inApplet s) (getG s ra + sext18 imm).toNat 2 = .ok p → inSram p = true →
    s.core.sbuf.length < 4 →
    let a := getG s ra + sext18 imm
    let put := fun n sz => { s with core := { (staleLate s).core with
      sbuf := s.core.sbuf ++ [{ addr := p, issued := a, bytes := leBytes n (getG s rs).toNat, size := sz, a := inApplet s }],
      pc := s.core.pc + 4 } }
    (a.toNat % 4 = 0 → Does (.stw rs ra imm) s (· = put 4 2)) ∧ (a.toNat % 2 = 0 → Does (.sth rs ra imm) s (· = put 2 1)) ∧
      Does (.stb rs ra imm) s (· = put 1 0)) ∧
  (∀ s rs ra imm p b l, issues s = true → mpuCheck s (inApplet s) (getG s ra + sext18 imm).toNat 2 = .ok p → inSram p = true →
    (getG s ra + sext18 imm).toNat % 4 = 0 → s.core.sbuf = b :: l → 4 ≤ s.core.sbuf.length → Does (.stw rs ra imm) s fun t =>
      t.core.sbuf.length = s.core.sbuf.length ∧ t.core.pc = s.core.pc + 4 ∧ t.core.g = s.core.g ∧
        (∀ x, (x < b.addr ∨ b.addr + b.bytes.length ≤ x) → memGet t.mem x = memGet s.mem x) ∧ Only [.mem, .core] s t) ∧
  (∀ s rd ra imm, issues s = true → (getG s ra + sext18 imm).toNat % 4 ≠ 0 →
    let f := fun w => ({ entry := 3, sub := 0, size := 2, write := w, fetch := false, faddr := getG s ra + sext18 imm } : CoreFault)
    Does (.ldw rd ra imm) s (· = raiseSync (staleLate s) (f false)) ∧ Does (.stw rd ra imm) s (· = raiseSync (staleLate s) (f true))) ∧
  (∀ s rd ra imm e, issues s = true → (getG s ra + sext18 imm).toNat % 4 = 0 →
    mpuCheck s (inApplet s) (getG s ra + sext18 imm).toNat 1 = .error e → Does (.ldw rd ra imm) s fun t =>
      t = raiseSync (staleLate s) { entry := 7, sub := e, size := 2, write := false, fetch := false, faddr := getG s ra + sext18 imm }) ∧
  (∀ s b l, running s = true → s.core.sbuf = b :: l → Does (.storeDrain none) s fun t =>
    t = { s with mem := memPuts s.mem b.addr b.bytes, core := { s.core with sbuf := l } }) ∧
  (∀ s b l e, running s = true → s.core.sbuf = b :: l → s.core.late = none → Does (.storeDrain (some e)) s fun t =>
    t.core.sbuf = l ∧ (∃ x, t.core.late = some x ∧ x.addr = b.issued ∧ x.sub = e ∧ x.ovr = false) ∧ t.mem = s.mem ∧
      Only [.core] s t) ∧
  (∀ s rd ra rb, issues s = true → distinct3 rd ra rb = true → rd ≠ 0 → rb ≠ 0 → getG s rb = 0 →
    (ra ≠ 0 → Does (.bmov rd ra rb) s (fun t => t = { s with core := { (staleLate s).core with pc := s.core.pc + 4 } })) ∧
      Does (.bfil rd ra rb) s (fun t => t = { s with core := { (staleLate s).core with pc := s.core.pc + 4 } })) ∧
  (∀ s rd ra rb p q, issues s = true → distinct3 rd ra rb = true → rd ≠ 0 → ra ≠ 0 → rb ≠ 0 → s.core.sbuf = [] →
    8 ≤ (getG s rb).toNat → (getG s rd).toNat % 4 = 0 → (getG s ra).toNat % 4 = 0 →
    mpuCheck s (inApplet s) (getG s ra).toNat 1 = .ok q → mpuCheck s (inApplet s) (getG s rd).toNat 2 = .ok p →
    inSram q = true → inSram p = true →
    (Does (.bmov rd ra rb) s fun t =>
      getG t rd = getG s rd + 4 ∧ getG t ra = getG s ra + 4 ∧ getG t rb = getG s rb - 4 ∧ t.core.pc = s.core.pc ∧
        t.core.sw = s.core.sw ∧ t.mem = s.mem ∧ (∃ x, t.core.sbuf = [x] ∧ x.addr = p ∧ x.bytes = memGets s.mem q 4) ∧
        Only [.core] s t)) ∧
  (∀ s rd ra rb p, issues s = true → distinct3 rd ra rb = true → rd ≠ 0 → rb ≠ 0 → s.core.sbuf = [] →
    8 ≤ (getG s rb).toNat → (getG s rd).toNat % 4 = 0 → mpuCheck s (inApplet s) (getG s rd).toNat 2 = .ok p → inSram p = true →
    Does (.bfil rd ra rb) s fun t =>
      getG t rd = getG s rd + 4 ∧ getG t ra = getG s ra ∧ getG t rb = getG s rb - 4 ∧ t.core.pc = s.core.pc ∧
        t.core.sw = s.core.sw ∧ (∃ x, t.core.sbuf = [x] ∧ x.addr = p ∧ x.bytes = leBytes 4 (getG s ra).toNat) ∧
        Only [.core] s t) ∧
  (∀ s rd ra rb, issues s = true → (rd = rb ∨ rd = ra ∨ rb = ra ∨ rd = 0 ∨ rb = 0) →
    Does (.bmov rd ra rb) s (· = raiseSync (staleLate s) (plainFault 1 0)) ∧ Does (.bfil rd ra rb) s (· = raiseSync (staleLate s) (plainFault 1 0))) ∧
  (∀ s rd rb, issues s = true → Does (.bmov rd 0 rb) s (· = raiseSync (staleLate s) (plainFault 1 0)))

/-- O54. Control and system instructions (18 Table 18-1, R673, R706 to R708; 19 R733 to R736, R745 to R750): a
transfer goes to its target, `MTC` writes the register's bits and is privileged, `ENTER` and `LEAVE` change the mode,
`WAIT` waits. A late bus error that the drain of an instruction finds is taken after it (18 R695). -/
def Obligations.ControlAndSystemInstructions : Prop :=
  (∀ s cond off, issues s = true → cond ≠ 15 → Does (.bc cond off) s fun t =>
    t = { s with core := { (staleLate s).core with
      pc := if condHolds (flagsOf s.core.sw) cond then s.core.pc + (off.signExtend 32 <<< 2) else s.core.pc + 4 } }) ∧
  (∀ s off, issues s = true → Does (.bc 15 off) s (· = raiseSync (staleLate s) (plainFault 1 0))) ∧
  (∀ s off, issues s = true → Does (.call off) s fun t =>
    Wrote s t 14 (s.core.pc + 4) ∧ t.core.pc = s.core.pc + (off.signExtend 32 <<< 2) ∧ RegsOnly s t) ∧
  (∀ s rd ra imm, issues s = true → Does (.jmpr rd ra imm) s fun t =>
    Wrote s t rd (s.core.pc + 4) ∧ t.core.pc = getG s ra + sext18 imm ∧ RegsOnly s t) ∧
  (∀ s rd, issues s = true → Does (.getf rd) s (ImmDone s · rd (s.core.sw &&& 0x1F#32))) ∧
  (∀ s ra, issues s = true → Does (.setf ra) s fun t =>
    FlagsAre s t ((getG s ra).getLsbD 0) ((getG s ra).getLsbD 1) ((getG s ra).getLsbD 2) ((getG s ra).getLsbD 3) ∧
      t = { s with core := { (staleLate s).core with sw := t.core.sw, pc := s.core.pc + 4 } }) ∧
  (∀ s rd cr, issues s = true → inApplet s = false → cr.toNat < 12 → Does (.mfc rd cr) s (ImmDone s · rd (readCr s cr.toNat))) ∧
  (∀ s rd, issues s = true → Does (.mfc rd 12) s (ImmDone s · rd s.core.cycle)) ∧
  (∀ s rd cr, issues s = true → inApplet s = true → cr.toNat < 12 → Does (.mfc rd cr) s (· = raiseSync (staleLate s) (plainFault 2 0))) ∧
  (∀ s rs, issues s = true → inApplet s = false →
    Does (.mtc 0 rs) s (fun t => t = { s with core := { (staleLate s).core with sw := getG s rs &&& 0x7F3F#32, pc := s.core.pc + 4 } }) ∧
    Does (.mtc 1 rs) s (fun t => t = { s with core := { (staleLate s).core with vbase := getG s rs &&& 0xFFFFFF00#32, pc := s.core.pc + 4 } }) ∧
    Does (.mtc 2 rs) s (fun t => t = { s with core := { (staleLate s).core with
      esp := if s.core.espl then s.core.esp else getG s rs &&& 0xFFFFFFF8#32, pc := s.core.pc + 4 } }) ∧
    Does (.mtc 3 rs) s (fun t => t = { s with core := { (staleLate s).core with asp := getG s rs, pc := s.core.pc + 4 } }) ∧
    Does (.mtc 5 rs) s (fun t => t = { s with core := { (staleLate s).core with sysEntry := getG s rs &&& 0xFFFFFFFC#32, pc := s.core.pc + 4 } }) ∧
    Does (.mtc 6 rs) s (fun t => t = { s with core := { (staleLate s).core with sysSp := getG s rs &&& 0xFFFFFFF8#32, pc := s.core.pc + 4 } }) ∧
    Does (.mtc 7 rs) s (fun t => t = { s with core := { (staleLate s).core with sysRet := getG s rs, pc := s.core.pc + 4 } }) ∧
    Does (.mtc 9 rs) s (fun t => t = { s with core := { (staleLate s).core with ien1 := (getG s rs).setWidth 16, pc := s.core.pc + 4 } }) ∧
    Does (.mtc 8 rs) s (fun t => t = { s with core := { (staleLate s).core with ien0 := getG s rs, pc := s.core.pc + 4 } }) ∧
    Does (.mtc 11 rs) s (fun t => t = { s with core := { (staleLate s).core with pc := s.core.pc + 4 } }) ∧
    Does .sysCtlSwi s (fun t => t = { s with core := { (staleLate s).core with ipend := s.core.ipend ||| (1#48 <<< 47), pc := s.core.pc + 4 } }) ∧
    Does .sysCtlEspl s (fun t => t = { s with core := { (staleLate s).core with espl := true, pc := s.core.pc + 4 } })) ∧
  (∀ s cr rs, issues s = true → inApplet s = true → cr.toNat ≤ 12 →
    ∀ c ∈ [Instr.mtc cr rs, .sysCtlSwi, .sysCtlEspl, .leave, .rfe, .fstop, .wait], Does c s (· = raiseSync (staleLate s) (plainFault 2 0))) ∧
  (∀ s e, coreOn s = true → s.core.imp = none → s.core.fstop = false → fetchFault s = none → drainErr s = some e →
    Does .sync s fun t =>
      let u := completeDivide (drainAll s)
      t = takeLate u e (u.core.pc + 4)) ∧
  (∀ s, issues s = true → drainErr s = none → Does .sync s fun t =>
    t.core.sbuf = [] ∧ t.mem = (drainAll s).mem ∧ t.core.pc = s.core.pc + 4 ∧ t.core.g = s.core.g ∧ t.core.sw = s.core.sw ∧
      Only [.mem, .core] s t) ∧
  (∀ s, issues s = true → drainErr s = none → inApplet s = true → s.core.fe = true → Does .enter s fun t =>
    t.core.pc = s.core.sysEntry ∧ t.core.g[15] = s.core.sysSp ∧ inApplet t = false ∧ t.core.sw.getLsbD 4 = true ∧
      t.core.sysRet = ((s.core.pc + 4) &&& 0xFFFFFFFC#32) ||| 1#32 ||| (if s.core.sw.getLsbD 4 then 2#32 else 0#32) ∧
      t.core.sbuf = [] ∧ t.apl.inSvc = (s.apl.state == .running) ∧ Only [.mem, .core, .apl] s t) ∧
  (∀ s, issues s = true → inApplet s = true → s.core.fe = false → Does .enter s (· = raiseSync (staleLate s) (plainFault 8 0))) ∧
  (∀ s, issues s = true → inApplet s = false → Does .enter s (· = raiseSync (staleLate s) (plainFault 8 1))) ∧
  (∀ s, issues s = true → drainErr s = none → inApplet s = false → s.apl.inSvc = false → Does .leave s fun t =>
    t.core.pc = s.core.sysRet &&& 0xFFFFFFFC#32 ∧ inApplet t = bitOf s.core.sysRet 0 ∧ t.core.sw.getLsbD 4 = bitOf s.core.sysRet 1 ∧
      t.core.g = s.core.g ∧ Only [.mem, .core] s t) ∧
  (∀ s, issues s = true → inApplet s = false → s.core.sbuf = [] → Does .wait s fun t =>
    t = { s with core := { (staleLate s).core with pc := s.core.pc + 4, waiting := pendBits s &&& enableBits s == 0 } }) ∧
  (∀ s, s.core.waiting = true → (pendBits s &&& enableBits s ≠ 0 ∨ (s.pw.state = .standby ∧ workWaits s = true)) →
    Does .waitEnd s fun t => t = { s with core := { s.core with waiting := false } }) ∧
  (∀ s, (s.core.waiting = false ∨ (pendBits s &&& enableBits s = 0 ∧ (s.pw.state ≠ .standby ∨ workWaits s = false))) →
    Idle .waitEnd s)

/-- O55. Exceptions (18 R679, R683 to R690, R700 to R702; 19 R717, R749): entry pushes `PC_RET`, `SW`, `CAUSE`,
`FADDR` below g15, sets H and P, clears A and goes to the vector; `RFE` returns by the frame; `FSTOP` enters the full stop with its
frame below `ESP`, whose steps end in a full reset (R704), and a fault in it is one at once (R702). -/
def Obligations.ExceptionsAndReturn : Prop :=
  (∀ s v lvl pcRet cause faddr, plainMode s = true → s.core.div = none → s.core.g[15].toNat % 8 = 0 →
    inSram (s.core.g[15] - 16).toNat = true → inSram (s.core.g[15] - 16 + 12).toNat = true → MemOk s →
    inSram (s.core.vbase + BitVec.ofNat 32 (4 * v)).toNat = true →
    ((s.core.vbase + BitVec.ofNat 32 (4 * v)).toNat + 4 ≤ (s.core.g[15] - 16).toNat ∨
      (s.core.g[15] - 16).toNat + 16 ≤ (s.core.vbase + BitVec.ofNat 32 (4 * v)).toNat) →
    let w : Word := BitVec.ofNat 32 (leVal (memGets s.mem (s.core.vbase + BitVec.ofNat 32 (4 * v)).toNat 4))
    w.toNat % 4 = 0 →
    let t := takeEntry s v lvl pcRet cause faddr
    t.core.pc = w ∧ t.core.g = s.core.g.set 15 (s.core.g[15] - 16) ∧
      memGets t.mem (s.core.g[15] - 16).toNat 16 = wordsLe [pcRet, s.core.sw, cause, faddr] ∧
      t.core.sw.getLsbD 5 = true ∧ t.core.sw.getLsbD 4 = true ∧ inApplet t = false ∧
      (∀ i, i < 4 → t.core.sw.getLsbD i = s.core.sw.getLsbD i) ∧ (∀ l, l < 128 → lvl = some l → swLvl t.core.sw = l) ∧
      (lvl = none → swLvl t.core.sw = swLvl s.core.sw) ∧
      (∀ a, (a < (s.core.g[15] - 16).toNat ∨ (s.core.g[15] - 16).toNat + 16 ≤ a) → memGet t.mem a = memGet s.mem a) ∧
      Only [.mem, .core] s t) ∧
  (∀ s v, coreAwake s = true → fetchFault s = none → asyncEvent s = some (.irq v) → v ≠ 46 → v ≠ 63 →
    Does .exceptionEntry s fun t =>
      t = takeEntry s v (some v) s.core.pc (causeWord v (inApplet s) false 0 false false 0 false) 0) ∧
  (∀ s f, coreOn s = true → impDue s = false → asyncEvent s ≠ none → fetchFault s = some f →
    Does .exceptionEntry s (· = raiseSync s f)) ∧
  (∀ s, asyncEvent s = none → Idle .exceptionEntry s) ∧
  (∀ s v, asyncEvent s = some (.irq v) →
    (16 ≤ v ∧ v < swLvl s.core.sw ∧ s.core.sw.getLsbD 5 = false ∧ (pendBits s &&& enableBits s).getLsbD (v - 16) = true)) ∧
  (∀ s w, issues s = true → legalWord w = false → Does (.illegalOpcode w) s (· = raiseSync (staleLate s) (plainFault 1 0))) ∧
  (∀ s w, legalWord w = true → Idle (.illegalOpcode w) s) ∧
  (∀ s n, issues s = true → Does (.brk n) s (· = raiseSync (staleLate s) (plainFault 9 0))) ∧
  (∀ s b f, coreOn s = true → impDue s = false → fetchFault s = some f → Does (.instructionFetchFault b) s (· = raiseSync s f)) ∧
  (∀ s e, coreOn s = true → impDue s = false → fetchFault s = none → Does (.instructionFetchFault (some e)) s fun t =>
    t = raiseSync s { entry := 4, sub := e, size := 2, write := false, fetch := true, faddr := s.core.pc }) ∧
  (∀ s, fetchFault s = none → Idle (.instructionFetchFault none) s) ∧
  (∀ s, issues s = true → drainErr s = none → plainMode s = true → s.core.g[15].toNat % 4 = 0 → inSram s.core.g[15].toNat = true →
    inSram (s.core.g[15] + 12).toNat = true → Does .rfe s fun t =>
      t.core.pc = BitVec.ofNat 32 (leVal (memGets s.mem s.core.g[15].toNat 4)) ∧ t.core.g = s.core.g.set 15 (s.core.g[15] + 16) ∧
        t.core.sw = returnSw (BitVec.ofNat 32 (leVal (memGets s.mem (s.core.g[15].toNat + 4) 4)) &&& swMask) ∧
        t.mem = s.mem ∧ Only [.core, .dma, .ce] s t) ∧
  (∀ s, MemOk s → issues s = true → plainMode s = true → inSram (s.core.esp - 32).toNat = true →
    inSram ((s.core.esp - 32).toNat + 31) = true → Does .fstop s fun t =>
      t.core.pc = 0x100 ∧ t.core.sw = 0x30 ∧ t.core.fstop = true ∧ t.rst = { s.rst with fstopTimer := true } ∧
        memGets t.mem (s.core.esp - 32).toNat 32 = wordsLe [s.core.pc, s.core.sw, 0, 0, s.core.g[15], 3, s.core.g[1], 0] ∧
        Only [.mem, .core, .rst] s t) ∧
  (∀ s reason code ev, s.rst.held = false → (fullStop s reason code ev).core.fstop = true ∨ ResetFrom s (fullStop s reason code ev) 9) ∧
  (∀ s f, s.core.fstop = true → raiseSync s f = fullReset s 9) ∧
  (∀ s, fwOn s = false → s.core.fstop = true → s.clk.coreDead = false → tickFw s = fstopSteps s) ∧
  (∀ s, s.rst.held = false → (fstopSteps s).rst.held = true ∧ (fstopSteps s).rst.latch = 8 ∧
    (fstopSteps s).store = { s.store with fstops := s.store.fstops + 1 } ∧ (fstopSteps s).core = CoreUnit.reset ∧
    (fstopSteps s).tq.ten = false ∧ (fstopSteps s).bal.closed = 0)

/-- O56. Services (18 R709 to R712, Table 18-10; 08 R282, R283; 20 R791, R792): each answers its status in g1, its results in its
registers or by its buffer, and nothing else changes; a bad value has status 1, a bad address 2, a refusal 3, nothing there 4;
`SVC_WAIT` suspends the applet, `SVC_EXIT` stops it; the flags are free; an unknown service has status 1; a budget interval sets the
next. -/
def Obligations.AppletServices : Prop :=
  (∀ s n, svcEnd s n = { s with
      freeCtr := s.freeCtr + 1, apl := { s.apl with svcPend := false },
      core := { s.core with g := s.core.g.set 1 (BitVec.ofNat 32 n), sw := (svcEnd s n).core.sw } } ∧
    ∀ i, 4 ≤ i → (svcEnd s n).core.sw.getLsbD i = s.core.sw.getLsbD i) ∧
  (∀ s p b, inSram p = true → svcWrite s p b = { s with mem := memPuts s.mem p b }) ∧
  (∀ s, svcReady s 1 = true → Does .svcVersion s fun t =>
    t.core.g[1] = 0 ∧ t.core.g[2] = 0x402 ∧ t.core.g[3] = s.store.imgLen ∧ (∀ i : Fin 16, 4 ≤ i.val → t.core.g[i] = s.core.g[i]) ∧
      t.apl = { s.apl with svcPend := false } ∧ Only [.freeCtr, .core, .apl] s t) ∧
  (∀ s, svcReady s 2 = true → Does .svcTime s fun t =>
    t.core.g[1] = 0 ∧ t.core.g[2].toNat + 2 ^ 32 * t.core.g[3].toNat = uptimeUs s % 2 ^ 48 ∧ t.core.g[4] = chainMp s ∧
      (∀ i : Fin 16, 5 ≤ i.val → t.core.g[i] = s.core.g[i]) ∧ t.apl = { s.apl with svcPend := false } ∧ Only [.freeCtr, .core, .apl] s t) ∧
  (∀ s, svcReady s 3 = true → 1 ≤ s.core.g[2].toNat → s.core.g[2].toNat ≤ 10000 → Does .svcWait s fun t =>
    t.apl = { s.apl with suspended := true } ∧ t.core.g = s.core.g ∧ t.core.pc = s.core.pc ∧
      (∀ i, 4 ≤ i → t.core.sw.getLsbD i = s.core.sw.getLsbD i) ∧ Only [.freeCtr, .core, .apl] s t) ∧
  (∀ s, svcReady s 3 = true → (s.core.g[2] = 0 ∨ 10000 < s.core.g[2].toNat) → Does .svcWait s (· = svcEnd s 1)) ∧
  (∀ s, running s = true → s.apl.suspended = true → Does .svcWaitTimeout s fun t =>
    t = svcEnd { s with apl := { s.apl with suspended := false } } 5) ∧
  (∀ s, s.apl.suspended = false → Idle .svcWaitTimeout s) ∧
  (∀ s, svcReady s 4 = true →
    let g := s.core.g[3].toNat
    let k := if g = 0 then s.acq.kept.head? else s.acq.kept.find? fun k => k.seq.toNat + 0x10000 == g
    (g ≠ 0 → (g < 0x10000 ∨ 0x20000 ≤ g) → Does .svcSnapshot s (· = svcEnd s 1)) ∧
    ((g = 0 ∨ 0x10000 ≤ g ∧ g < 0x20000) →
      (svcRange s s.core.g[2] 84 2 = none → Does .svcSnapshot s (· = svcEnd s 2)) ∧
      (∀ p, svcRange s s.core.g[2] 84 2 = some p → k = none → Does .svcSnapshot s (· = svcEnd s 4)) ∧
      (∀ p x, svcRange s s.core.g[2] 84 2 = some p → k = some x → (snapBytes x).length = 84 →
        Does .svcSnapshot s (· = svcEnd (svcWrite s p (snapBytes x)) 0)))) ∧
  (∀ s, svcReady s 5 = true →
    (svcRange s s.core.g[2] 40 2 = none → Does .svcNtcset s (· = svcEnd s 2)) ∧
    (∀ p, svcRange s s.core.g[2] 40 2 = some p → s.acq.ntcKept = [] → Does .svcNtcset s (· = svcEnd s 4)) ∧
    (∀ p b q, svcRange s s.core.g[2] 40 2 = some p → s.acq.ntcKept = b :: q → b.length = 40 →
      Does .svcNtcset s (· = svcEnd (svcWrite s p b) 0))) ∧
  (∀ s, svcReady s 6 = true → (s.core.g[3] = 0 ∨ 18 < s.core.g[3].toNat) → Does .svcBalSubmit s (· = svcEnd s 1)) ∧
  (∀ s, svcReady s 6 = true → 1 ≤ s.core.g[3].toNat → s.core.g[3].toNat ≤ 18 →
    svcRange s s.core.g[2] (8 * s.core.g[3].toNat) 1 = none → Does .svcBalSubmit s (· = svcEnd s 2)) ∧
  (∀ s p, svcReady s 6 = true → 1 ≤ s.core.g[3].toNat → s.core.g[3].toNat ≤ 18 →
    svcRange s s.core.g[2] (8 * s.core.g[3].toNat) 1 = some p →
    let l := balRecs (svcRead s p (8 * s.core.g[3].toNat))
    (∀ off, balRecsBad s l 0 = some off → Does .svcBalSubmit s (· = svcRefuse s 10 off)) ∧
    (balRecsBad s l 0 = none → s.prot.everRel = false → Does .svcBalSubmit s (· = svcRefuse s 8 0x10)) ∧
    (balRecsBad s l 0 = none → s.prot.everRel = true → balTestFails s l = true → Does .svcBalSubmit s (· = svcRefuse s 8 0x11)) ∧
    (balRecsBad s l 0 = none → s.prot.everRel = true → balTestFails s l = false → Does .svcBalSubmit s fun t =>
      t = svcEnd (balApply true s l) 0)) ∧
  (∀ s, svcReady s 7 = true → 2 ^ 18 ≤ s.core.g[2].toNat → Does .svcBalCancel s (· = svcEnd s 1)) ∧
  (∀ s, svcReady s 7 = true → s.core.g[2].toNat < 2 ^ 18 → Does .svcBalCancel s fun t =>
    (∀ w : Well, t.bal.wells[w] = (if s.core.g[2].getLsbD w.val && s.bal.wells[w].req && s.bal.wells[w].applet
      then endWell s.bal.wells[w] 3 else s.bal.wells[w])) ∧ t.core.g[1] = 0 ∧ Only [.freeCtr, .bal, .core, .apl] s t) ∧
  (∀ s, svcReady s 8 = true →
    (svcRange s s.core.g[2] 72 2 = none → Does .svcBalStat s (· = svcEnd s 2)) ∧
    (∀ p, svcRange s s.core.g[2] 72 2 = some p → Does .svcBalStat s (· = svcEnd (svcWrite s p (balStatBytes s)) 0))) ∧
  (∀ s, svcReady s 9 = true →
    (svcRange s s.core.g[2] 240 2 = none → Does .svcMsgGet s (· = svcEnd s 2)) ∧
    (∀ p, svcRange s s.core.g[2] 240 2 = some p → s.apl.msgs = [] → Does .svcMsgGet s (· = svcEnd s 4)) ∧
    (∀ p w q, svcRange s s.core.g[2] 240 2 = some p → s.apl.msgs = w :: q → Does .svcMsgGet s fun t =>
      t = svcEnd (res (svcWrite s p w.msg.payload) 3 w.msg.payload.length) 0)) ∧
  (∀ s, svcReady s 10 = true →
    (240 < s.core.g[3].toNat → Does .svcMsgPut s (· = svcEnd s 1)) ∧
    (s.core.g[3] = 0 → s.core.g[2].toNat % 4 = 0 →
      (s.apl.msgs = [] → Does .svcMsgPut s (· = svcEnd s 4)) ∧
      (∀ w q, s.apl.msgs = w :: q → Does .svcMsgPut s fun t =>
        t = svcEnd (replyOk { s with apl := { s.apl with msgs := q } } w.verb w.msg []) 0)) ∧
    (1 ≤ s.core.g[3].toNat → s.core.g[3].toNat ≤ 240 →
      (svcRange s s.core.g[2] s.core.g[3].toNat 1 = none → Does .svcMsgPut s (· = svcEnd s 2)) ∧
      (∀ p, svcRange s s.core.g[2] s.core.g[3].toNat 1 = some p → s.apl.msgs = [] → Does .svcMsgPut s (· = svcEnd s 4)) ∧
      (∀ p w q, svcRange s s.core.g[2] s.core.g[3].toNat 1 = some p → s.apl.msgs = w :: q → Does .svcMsgPut s fun t =>
        t = svcEnd (replyOk { s with apl := { s.apl with msgs := q } } w.verb w.msg (svcRead s p s.core.g[3].toNat)) 0))) ∧
  (∀ s, svcReady s 11 = true → (s.core.g[3] = 0 ∨ 16 < s.core.g[3].toNat) → Does .svcNote s (· = svcEnd s 1)) ∧
  (∀ s, svcReady s 11 = true → 1 ≤ s.core.g[3].toNat → s.core.g[3].toNat ≤ 16 →
    let recent := s.apl.notes.filter fun x => decide (s.now - x < 1000 * ctPerMs)
    (svcRange s s.core.g[2] s.core.g[3].toNat 1 = none → Does .svcNote s (· = svcEnd s 2)) ∧
    (∀ p, svcRange s s.core.g[2] s.core.g[3].toNat 1 = some p → 10 ≤ recent.length → Does .svcNote s (· = svcEnd s 4)) ∧
    (∀ p, svcRange s s.core.g[2] s.core.g[3].toNat 1 = some p → recent.length < 10 → jrnRoom s = true → Does .svcNote s fun t =>
      JournalGains s t false 0x4A ([BitVec.ofNat 8 s.core.g[3].toNat, 0, 0, 0] ++ padTo 16 (svcRead s p s.core.g[3].toNat)) ∧
        t.apl.notes = s.now :: recent ∧ t.core.g[1] = 0 ∧ Only [.freeCtr, .jrn, .core, .apl] s t)) ∧
  (∀ s, svcReady s 12 = true → s.core.g[2] = 1 → Does .svcPrecise s fun t =>
    t.core.sysRet = s.core.sysRet ||| 2#32 ∧ t.core.g[1] = 0 ∧ Only [.freeCtr, .core, .apl] s t) ∧
  (∀ s, svcReady s 12 = true → s.core.g[2] = 0 → Does .svcPrecise s fun t =>
    t.core.sysRet = s.core.sysRet &&& ~~~ 2#32 ∧ t.core.g[1] = 0 ∧ Only [.freeCtr, .core, .apl] s t) ∧
  (∀ s, svcReady s 12 = true → 1 < s.core.g[2].toNat → Does .svcPrecise s (· = svcEnd s 1)) ∧
  (∀ s, svcReady s 13 = true → s.apl.stopDue = none → Does .svcExit s fun t =>
    t.apl.state = (if s.store.imgValid then .valid else .none) ∧ t.apl.inSvc = false ∧ t.apl.faults = s.apl.faults ∧
      (∀ w : Well, (s.bal.wells[w].req && s.bal.wells[w].applet) = true → t.bal.wells[w] = endWell s.bal.wells[w] 3) ∧
      t.jrn = s.jrn ∧ inApplet t = false) ∧
  (∀ s, (∀ n, svcReady s n = false) → ∀ c ∈ [Instr.svcVersion, .svcTime, .svcWait, .svcSnapshot, .svcNtcset, .svcBalSubmit,
    .svcBalCancel, .svcBalStat, .svcMsgGet, .svcMsgPut, .svcNote, .svcPrecise, .svcExit], Idle c s) ∧
  (∀ s, s.core.fstop = false → s.core.owed = none → unknownSvc s = true → tickFw s = svcEnd s 1) ∧
  (∀ s, running s = true → s.apl.state = .running → s.apl.ivAt + 100 * ctPerMs ≤ s.now → Does .budgetIntervalEnd s fun t =>
    t = { s with apl := { s.apl with budget := min s.apl.abud ((s.now - s.apl.ivAt) * 125 / 24576 / 4), charge := 0,
                                     ivAt := s.now } }) ∧
  (∀ s, (s.apl.state ≠ .running ∨ s.now < s.apl.ivAt + 100 * ctPerMs) → Idle .budgetIntervalEnd s)

/-! ## DMA and check engine (20, 21) -/

/-- O57. DMA channels (20 R757, R774, R775, R778, R779, R781 to R786): `START` loads a valid descriptor or stops in FAULT, a
burst moves its bytes and the last of a chain leaves the channel idle and done, a request of a trigger is taken only
by WAIT; an aborted channel that waited without a request runs no more burst; the engine waits while the check engine's turn at the SRAM port has come. -/
def Obligations.DmaChannels : Prop :=
  (∀ s (n : Fin 8) src dst ctl next u, active s = true → s.dma.ch[n].state = .idle → s.dma.ch[n].desc.toNat % 16 = 0 →
    readDesc (setCh s n { s.dma.ch[n] with held := [], req := false }) n 4 s.dma.ch[n].desc.toNat = .ok ([src, dst, ctl, next], u) →
    descBad n src dst ctl = false → Does (.dmaStart n) s fun t =>
      t.dma.ch[n].src = src ∧ t.dma.ch[n].dst = dst ∧ t.dma.ch[n].left = fld ctl 17 0 ∧ t.dma.ch[n].next = next ∧
        t.dma.ch[n].state = (if fld ctl 28 24 = 0 then .run else .wait)) ∧
  (∀ s (n : Fin 8), active s = true → s.dma.ch[n].state = .idle → s.dma.ch[n].desc.toNat % 16 ≠ 0 → Does (.dmaStart n) s fun t =>
    t.dma.ch[n].state = .fault ∧ t.dma.ch[n].fsub = 9 ∧ t.dma.ch[n].faddr = s.dma.ch[n].desc ∧
      t.dma.fnew = s.dma.fnew ||| (1#8 <<< n.val) ∧ Only [.dma] s t) ∧
  (∀ s (n : Fin 8), active s = true → s.dma.ch[n].state ≠ .idle → Idle (.dmaStart n) s) ∧
  (∀ s (n : Fin 8), active s = true → s.dma.ch[n].state = .run → Does (.dmaAbort n) s fun t =>
    t = setCh s n { s.dma.ch[n] with state := .aborting, req := true }) ∧
  (∀ s (n : Fin 8), active s = true → s.dma.ch[n].state = .wait → Does (.dmaAbort n) s fun t =>
    t = setCh s n { s.dma.ch[n] with state := .aborting }) ∧
  (∀ s (n : Fin 8), active s = true → portTaken s true = false → lowestCh s (fun c => c.state == .aborting) = some n →
    s.dma.ch[n].req = false → Does .dmaBurst s fun t =>
      t.dma.ch[n] = { s.dma.ch[n] with state := .idle, held := [] } ∧ t.mem = s.mem ∧ Only [.freeCtr, .dma] s t) ∧
  (∀ s (n : Fin 8), active s = true → s.dma.ch[n].state = .fault → Does (.dmaAbort n) s fun t =>
    t = setCh s n { s.dma.ch[n] with state := .idle, held := [] }) ∧
  (∀ s (n : Fin 8), active s = true → s.dma.ch[n].state = .fault → s.dma.ch[n].fsub ≠ 9 → s.dma.ch[n].fsub ≠ 10 →
    Does (.dmaResume n) s fun t =>
      t.dma.ch[n] = { s.dma.ch[n] with state := .run } ∧ t.dma.fnew = s.dma.fnew &&& ~~~ (1#8 <<< n.val) ∧ Only [.dma] s t) ∧
  (∀ s (n : Fin 8), s.dma.ch[n].state ≠ .fault → Idle (.dmaResume n) s) ∧
  (∀ s k, active s = true → k ≠ 0 → Does (.dmaTrigger k) s fun t =>
    (∀ n : Fin 8, t.dma.ch[n] = (if s.dma.ch[n].state = .wait ∧ fld s.dma.ch[n].ctl 28 24 = k.toNat
      then { s.dma.ch[n] with req := true } else s.dma.ch[n])) ∧ Only [.dma] s t) ∧
  (∀ s, portTaken s true = true → Idle .dmaBurst s) ∧
  (∀ s, dmaSram s = true → ceSram s = true → (portTaken (notePort s true) true = true ∧ portTaken (notePort s true) false = false)) ∧
  (∀ s (n : Fin 8), active s = true → portTaken s true = false → lowestCh s (fun c => c.state == .aborting) = none →
    lowestCh s dmaReadyCh = some n → n.val < 6 → s.mpu.fen = false → s.dma.ch[n].held = [] → s.dma.ch[n].left = dmaWidth s.dma.ch[n].ctl →
    bitOf s.dma.ch[n].ctl 23 = true → inSram s.dma.ch[n].src.toNat = true → inSram s.dma.ch[n].dst.toNat = true →
    Does .dmaBurst s fun t =>
      t.mem = memPuts s.mem s.dma.ch[n].dst.toNat (memGets s.mem s.dma.ch[n].src.toNat (dmaWidth s.dma.ch[n].ctl)) ∧
        t.dma.ch[n].state = .idle ∧ t.dma.ch[n].done = true ∧ t.dma.ch[n].left = 0 ∧ t.dma.irq = s.dma.irq ||| (1#8 <<< n.val) ∧
        t.dma.sramLast = some true ∧
        Only [.mem, .dma] s t) ∧
  (∀ s, lowestCh s (fun c => c.state == .aborting) = none → lowestCh s dmaReadyCh = none → Idle .dmaBurst s)

/-- O58. The check engine (20 R757; 21 R799 to R805, R808, R810 to R815): `START` begins a valid scan, an invalid one is a
fault; the end of the last burst gives `RES` and compares it; a matching ROM scan is noted, a second mismatch in
operation stops the device. -/
def Obligations.CheckEngineScans : Prop :=
  (∀ s (m : Fin 4), active s = true → s.ce.ch[m].state ≠ .busy → ceBad s.ce.ch[m] = false → s.ce.ch[m].len ≠ 0 →
    Does (.ceStart m) s fun t =>
      t = setCe s m { s.ce.ch[m] with r := if bitOf s.ce.ch[m].cfg 11 then s.ce.ch[m].raw else s.ce.ch[m].init, pos := 0,
                                      state := .busy, abort := false }) ∧
  (∀ s (m : Fin 4), active s = true → s.ce.ch[m].state ≠ .busy → ceBad s.ce.ch[m] = true → Does (.ceStart m) s fun t =>
    let u := setCe s m { s.ce.ch[m] with state := .fault, fsub := 9 }
    t = if m.val < 2 then scanEnded u m false else u) ∧
  (∀ s (m : Fin 4), s.ce.ch[m].state = .busy → Idle (.ceStart m) s) ∧
  (∀ s (m : Fin 4), active s = true → s.ce.ch[m].state = .busy → Does (.ceAbort m) s fun t =>
    t = setCe s m { s.ce.ch[m] with abort := true }) ∧
  (∀ s (m : Fin 4), active s = true → s.ce.ch[m].state = .fault → Does (.ceAbort m) s fun t =>
    t = setCe s m { s.ce.ch[m] with state := .idle }) ∧
  (∀ s, portTaken s false = true → Idle .ceBurst s) ∧
  (∀ s, dmaSram s = true → ceSram s = true → (portTaken (notePort s false) false = true ∧ portTaken (notePort s false) true = false)) ∧
  (∀ s (m : Fin 4) u, active s = true → portTaken s false = false → ceNext s = some m → 2 ≤ m.val → s.ce.ch[m].abort = false →
    ceWords 8 { notePort s false with ce := { s.ce with lastCh := m } } m = (u, true) → ceAll u.ce.ch[m] = true → Does .ceBurst s fun t =>
      t.ce.ch[m].state = .idle ∧ t.ce.ch[m].done = true ∧ t.ce.ch[m].res = ceRes u.ce.ch[m] u.ce.ch[m].r ∧
        t.ce.ch[m].mtch = (bitOf u.ce.ch[m].cfg 9 && ceRes u.ce.ch[m] u.ce.ch[m].r == u.ce.ch[m].exp) ∧
        Only [.freeCtr, .ce, .dma] s t) ∧
  (∀ s (m : Fin 4), active s = true → portTaken s false = false → ceNext s = some m → s.ce.ch[m].abort = true → Does .ceBurst s fun t =>
    t.ce.ch[m].state = .idle ∧ t.ce.ch[m].abort = false ∧ t.ce.ch[m].res = s.ce.ch[m].res ∧ Only [.freeCtr, .ce, .dma] s t) ∧
  (∀ s, ceNext s = none → Idle .ceBurst s) ∧
  (∀ s, s.ce.ch[0].mtch = true → (scanEnded s 0 true).prot.romOk = true ∧ (scanEnded s 0 true).ce.scans = s.ce.scans + 1 ∧
    (scanEnded s 0 true).ce.mism = s.ce.mism ∧ (scanEnded s 0 true).rst = s.rst) ∧
  (∀ s m, bitOf s.ce.ch[m].cfg 9 = false → (scanEnded s m true).ce.mism = s.ce.mism ∧
    (scanEnded s m true).ce.scans = s.ce.scans + 1 ∧ (scanEnded s m true).core = s.core) ∧
  (∀ s, s.rst.held = false → s.prot.romOk = true → s.ce.ch[0].mtch = false → bitOf s.ce.ch[0].cfg 9 = true → s.ce.rep.getLsbD 0 = true →
    ((scanEnded s 0 true).core.fstop = true ∧ (scanEnded s 0 true).core.g[1] = 0xC000) ∨
      ((scanEnded s 0 true).rst.held = true ∧ (scanEnded s 0 true).rst.latch = 9)) ∧
  (∀ s, fwRuns s = true → s.ce.ch[0].state ≠ .busy → Does .romScanStart s fun t =>
    t.ce.ch[0].state = .busy ∧ t.ce.ch[0].addr = 0 ∧ t.ce.ch[0].len = 0x3FFFC ∧ t.ce.ch[0].pos = 0 ∧
      t.ce.ch[0].r = 0xFFFFFFFF ∧ Only [.ce] s t) ∧
  (∀ s, s.ce.ch[0].state = .busy → Idle .romScanStart s) ∧
  (∀ s, fwRuns s = true → s.ce.ch[1].state ≠ .busy → Does .configScanStart s fun t =>
    t.ce.ch[1].state = .busy ∧ t.ce.cfgScan = true ∧ t.ce.ch[1].exp = s.store.record.crc ∧ t.freeCtr = s.freeCtr + 2 ∧
      Only [.freeCtr, .ce] s t) ∧
  (∀ s, s.ce.ch[1].state = .busy → Idle .configScanStart s)

/-! ## Journal writer, power states, watchdog (22, 23, 24) -/

/-- O59. The journal's writer and the power states (22 R820, R829, R830, R836; 23 R846 to R861, R866, R868, R869; 24 R883): one
entry is written per step, behind its area's head; entering a lower state ends what it must, a patrol check runs when it is due,
an alarm decided before the entry is sent after it (R848), and a wake returns to ACTIVE. -/
def Obligations.JournalWriterAndPowerStates : Prop :=
  (∀ s e, fwRuns s = true → causesOpen s = false → jrnNext s.jrn.queue = some e → e.inc = false → e.mark = none → s.jrn.discards = 0 → MemOk s →
    e.parts = 1 → Does .journalWrite s fun t =>
      t.jrn.rNum = s.jrn.rNum + 1 ∧ t.jrn.iNum = s.jrn.iNum ∧ t.jrn.queue = eraseFirst false s.jrn.queue ∧
        memGets t.mem (jrnAddr false (s.jrn.rNum + 1)) 24 = recBytes e false false (s.jrn.rNum + 1) 0 ∧
        (∀ a, (a < jrnAddr false (s.jrn.rNum + 1) ∨ jrnAddr false (s.jrn.rNum + 1) + 32 ≤ a) →
          memGet t.mem a = memGet s.mem a) ∧ t.core = { s.core with ipend := s.core.ipend ||| (1#48 <<< 27) } ∧
        Only [.mem, .core, .jrn] s t) ∧
  (∀ s e, fwRuns s = true → causesOpen s = false → jrnNext s.jrn.queue = some e → e.inc = true → e.mark = none → e.parts ≤ incFree s →
    Does .journalWrite s fun t => t.jrn.iNum = s.jrn.iNum + e.parts ∧ t.jrn.rNum = s.jrn.rNum) ∧
  (∀ s, (s.jrn.queue = [] ∨ causesOpen s = true ∨ fwRuns s = false) → Idle .journalWrite s) ∧
  (∀ s, active s = true → s.pw.decided = none → s.pw.sleepGone = false → fld s.cfg.tmrCfg 31 16 ≠ 0 → Does .sleepLossExpire s fun t =>
    t = { s with pw := { s.pw with sleepGone := true, decTloss := true,
                                   decided := some (if bitOf s.cfg.patCfg 12 then .patrol else .sleep) } }) ∧
  (∀ s, fld s.cfg.tmrCfg 31 16 = 0 → Idle .sleepLossExpire s) ∧
  (∀ s x, active s = true → s.pw.decided = some x → entryReady s = true → Does .lowerStateEntry s fun t =>
    t.pw.state = x ∧ t.pw.decided = none ∧ t.bal.closed = 0 ∧ (∀ w : Well, t.bal.wells[w].req = false) ∧ t.acq.spans = [] ∧
      t.safe.conn = none ∧ t.safe.sess = Vector.replicate 4 none ∧ t.host.ready = false ∧ t.rst.wdRun = false ∧ t.pw.lowAt = s.now ∧
      t.pw.patK = 0 ∧ t.clk.pllLock = false ∧ (s.pw.alarmDue = true → t.sp.alarm = 8 ∧ t.sp.alarmOn = true) ∧
      t.apl.state ≠ .running ∧ t.sp.txq = [] ∧ t.np.txq = [] ∧ (x = .patrol → t.gate.state = s.gate.state) ∧
      (x ≠ .patrol → t.gate.state ≠ .on ∧ t.gate.state ≠ .ramp ∧ t.gate.state ≠ .test)) ∧
  (∀ s, s.pw.decided = none → Idle .lowerStateEntry s) ∧
  (∀ s r again d, running s = true → s.pw.state = .patrol → s.pw.wakeDue = false → patrolDue s = true →
    Does (.patrolCheck { first := r, again := again, done := d }) s fun t =>
      let m := patFindings s r again 4
      t.pw.state = .patrol ∧ t.pw.patK = s.pw.patK + 1 ∧
        (m ≠ 0 → t.pw.wakeDue = true ∧ t.pw.wake = s.pw.wake ||| m ∧ t.sp.alarm = 8 ∧ t.sp.alarmOn = true) ∧
        (m = 0 → t.pw.wakeDue = false ∧ t.pw.wake = s.pw.wake ∧ t.sp = s.sp ∧ t.np = s.np) ∧
        (bitOf s.cfg.patCfg 13 = true → t.pw.patSet.isSome = true ∧ t.aux.ntcCount = s.aux.ntcCount + 1)) ∧
  (∀ s r again d, running s = true → s.pw.state = .patrol → s.pw.wakeDue = true → patrolDue s = true →
    Does (.patrolCheck { first := r, again := again, done := d }) s fun t =>
      let m := patFindings s r again d.val
      t.pw.patK = s.pw.patK + 1 ∧ t.pw.patSet = s.pw.patSet ∧ t.aux = s.aux ∧ t.pw.wakeDue = true ∧ t.pw.wake = s.pw.wake ||| m) ∧
  (∀ s p, patrolDue s = false → Idle (.patrolCheck p) s) ∧
  (∀ s m, (wakeAlarm s m).pw.wake = s.pw.wake ||| m ∧
    (awake s = true → (wakeAlarm s m).pw.alarmDue = true ∧ (wakeAlarm s m).sp = s.sp) ∧
    (awake s = false → (wakeAlarm s m).sp.alarm = 8 ∧ (wakeAlarm s m).pw.wakeDue = true)) ∧
  (∀ s p, s.pw.state ≠ .patrol → Idle (.patrolCheck p) s) ∧
  (∀ s, running s = true → (s.pw.state = .patrol ∨ s.pw.state = .sleep) → s.pw.wakeDue = true → Does .activeEntry s fun t =>
    t.pw.state = .active ∧ t.pw.wakeDue = false ∧ t.pw.lossAt = s.now ∧ t.pw.wokeAt = s.now ∧ t.rst.wdRun = true ∧
      t.rst.wdServed = s.now ∧ t.tim.aligned = false ∧
      fld t.pw.wake 17 16 = (if s.pw.state = .patrol then 1 else 2) ∧ t.pw.firstBeat = isAnchor s ∧ t.mem = s.mem) ∧
  (∀ s, running s = true → s.pw.state = .shutdown → s.pw.wakeDue = true → Does .activeEntry s fun t =>
    t.rst.held = true ∧ t.rst.latch = 11 ∧ bitOf t.pw.wake 10 = true ∧ fld t.pw.wake 17 16 = 3 ∧ t.store = s.store) ∧
  (∀ s, awake s = true → Idle .activeEntry s)

/-- O60. The watchdog and the supervisions (24 R881 to R887, Table 24-4): a service, at most one in a system tick, restarts the
count; the early warning and a missed supervision enter the full stop with their code, or where its frame cannot be written are a
full reset, and while H is 1 the warning only waits. That the tick falls on whole milliseconds after reset is the model's choice
(log 28). -/
def Obligations.WatchdogAndSupervision : Prop :=
  (∀ s, wdOn s = true → fwRuns s = true → s.rst.supFail = false → sysTicked s s.rst.wdServed = true → Does .watchdogServe s fun t =>
    t = { s with rst := { s.rst with wdServed := s.now } }) ∧
  (∀ s, (wdOn s = false ∨ fwRuns s = false ∨ s.rst.supFail = true ∨ sysTicked s s.rst.wdServed = false) → Idle .watchdogServe s) ∧
  (∀ s, wdOn s = true → fwOn s = true → s.core.sw.getLsbD 5 = false → 46 < swLvl s.core.sw → Does .watchdogEarlyWarning s fun t =>
    (t.core.fstop = true ∧ t.core.pc = 0x100 ∧ t.core.g[1] = 0xD000 ∧ t.rst.fstopTimer = true) ∨
      (t.rst.held = true ∧ t.rst.latch = 9)) ∧
  (∀ s, wdOn s = true → (fwOn s = false ∨ s.core.sw.getLsbD 5 = true ∨ swLvl s.core.sw ≤ 46) → Does .watchdogEarlyWarning s fun t =>
    t = { s with core := { s.core with ipend := s.core.ipend ||| (1#48 <<< 30) } }) ∧
  (∀ s, wdOn s = false → Idle .watchdogEarlyWarning s ∧ Idle .watchdogExpire s) ∧
  (∀ s c, fwOn s = true → supCode c = true → Does (.supervisionFail c) s fun t =>
    (t.core.fstop = true ∧ t.core.pc = 0x100 ∧ t.core.g[1] = c.setWidth 32 ∧ t.rst.fstopTimer = true ∧ t.rst.supFail = true) ∨
      (t.rst.held = true ∧ t.rst.latch = 9)) ∧
  (∀ s c, (fwOn s = false ∨ supCode c = false) → Idle (.supervisionFail c) s)
end

