-- ==== Sys2Proof/Laws/Memory.lean ====
section
/-! SUPPORT. The laws of the memory (log 7): every operation keeps the canonical form, a byte written is read back, and every
other byte stays. -/

namespace Sys2Proof.Machine

open Sys2Proof

/-- A higher bound is a weaker start. -/
theorem memWfFrom_mono {lo lo' : Nat} {m : Memory} (h : memWfFrom lo' m = true) (hl : lo ≤ lo') : memWfFrom lo m = true := by
  cases m with
  | nil => rfl
  | cons c t =>
    obtain ⟨k, v⟩ := c
    simp only [memWfFrom, Bool.and_eq_true, decide_eq_true_eq] at *
    exact ⟨⟨by omega, h.1.2⟩, h.2⟩

/-- Below the first address nothing is listed. -/
theorem memGet_below {lo a : Nat} {m : Memory} (h : memWfFrom lo m = true) (ha : a < lo) : memGet m a = 0 := by
  induction m generalizing lo with
  | nil => rfl
  | cons c t ih =>
    obtain ⟨k, v⟩ := c
    simp only [memWfFrom, Bool.and_eq_true, decide_eq_true_eq] at h
    rw [memGet, if_neg (by omega), ih h.2 (by omega)]

theorem memPut_wfFrom {lo a : Nat} {m : Memory} (b : Byte) (h : memWfFrom lo m = true) (ha : lo ≤ a) :
    memWfFrom lo (memPut m a b) = true := by
  induction m generalizing lo with
  | nil => unfold memPut; split <;> simp_all [memWfFrom]
  | cons c t ih =>
    obtain ⟨k, v⟩ := c
    have h' := h
    simp only [memWfFrom, Bool.and_eq_true, decide_eq_true_eq] at h
    unfold memPut
    split
    · split
      · exact h'
      · rename_i hb; simp only [memWfFrom, Bool.and_eq_true, decide_eq_true_eq]
        exact ⟨⟨ha, by simpa using hb⟩, ⟨by omega, h.1.2⟩, h.2⟩
    · split
      · split
        · exact memWfFrom_mono h.2 (by omega)
        · rename_i hk hb; subst hk; simp only [memWfFrom, Bool.and_eq_true, decide_eq_true_eq]
          exact ⟨⟨ha, by simpa using hb⟩, h.2⟩
      · simp only [memWfFrom, Bool.and_eq_true, decide_eq_true_eq]
        exact ⟨h.1, ih h.2 (by omega)⟩

/-- A write keeps the canonical form. -/
theorem memPut_wf {m : Memory} (a : Nat) (b : Byte) (h : m.wf = true) : (memPut m a b).wf = true :=
  memPut_wfFrom b h (Nat.zero_le a)

/-- Writes of consecutive bytes keep it. -/
theorem memPuts_wf {m : Memory} (a : Nat) (l : List Byte) (h : m.wf = true) : (memPuts m a l).wf = true := by
  induction l generalizing m a with
  | nil => exact h
  | cons b t ih => exact ih (a + 1) (memPut_wf a b h)

/-- A byte written is read back. -/
theorem memGet_memPut_same {m : Memory} (a : Nat) (b : Byte) (h : m.wf = true) : memGet (memPut m a b) a = b := by
  have go : ∀ lo (m : Memory), memWfFrom lo m = true → memGet (memPut m a b) a = b := by
    intro lo m
    induction m generalizing lo with
    | nil => intro _; unfold memPut; split <;> simp_all [memGet]
    | cons c t ih =>
      obtain ⟨k, v⟩ := c
      intro h
      have h' := h
      simp only [memWfFrom, Bool.and_eq_true, decide_eq_true_eq] at h
      unfold memPut
      split
      · split
        · rename_i hk hb; rw [hb, memGet, if_neg (by omega)]; exact memGet_below h.2 (by omega)
        · simp [memGet]
      · split
        · split
          · rename_i hb; rw [hb]; exact memGet_below h.2 (by omega)
          · simp [memGet]
        · rw [memGet, if_neg (by omega)]; exact ih _ h.2
  exact go 0 m h

/-- Every other byte stays. -/
theorem memGet_memPut_other (m : Memory) (a x : Nat) (b : Byte) (hx : x ≠ a) : memGet (memPut m a b) x = memGet m x := by
  induction m with
  | nil => unfold memPut; split <;> simp [memGet]; omega
  | cons c t ih =>
    obtain ⟨k, v⟩ := c
    unfold memPut
    split
    · split
      · rfl
      · rw [memGet, if_neg (by omega)]
    · split
      · split
        · rw [memGet, if_neg (by omega)]
        · rename_i hk _; subst hk; simp [memGet, Ne.symm hx]
      · simp only [memGet, ih]

/-- Bytes outside a run of writes stay. -/
theorem memGet_memPuts_other (m : Memory) (a x : Nat) (l : List Byte) (hx : x < a ∨ a + l.length ≤ x) :
    memGet (memPuts m a l) x = memGet m x := by
  induction l generalizing m a with
  | nil => rfl
  | cons b t ih =>
    simp only [List.length_cons] at hx
    rw [memPuts, ih _ _ (by omega), memGet_memPut_other _ _ _ _ (by omega)]

/-- Bytes of a run of writes are read back. -/
theorem memGet_memPuts_same {m : Memory} (a i : Nat) (l : List Byte) (h : m.wf = true) (hi : i < l.length) :
    memGet (memPuts m a l) (a + i) = l[i] := by
  induction l generalizing m a i with
  | nil => simp at hi
  | cons b t ih =>
    rw [memPuts]
    cases i with
    | zero => rw [memGet_memPuts_other _ _ _ _ (by omega)]; simpa using memGet_memPut_same a b h
    | succ i =>
      have := ih (a + 1) i (memPut_wf a b h) (by simpa using hi)
      rw [show a + (i + 1) = a + 1 + i by omega, this]; rfl

theorem keepStore_wfFrom {lo : Nat} {m : Memory} (h : memWfFrom lo m = true) : memWfFrom lo (keepStore m) = true := by
  induction m generalizing lo with
  | nil => rfl
  | cons c t ih =>
    obtain ⟨k, v⟩ := c
    simp only [memWfFrom, Bool.and_eq_true, decide_eq_true_eq] at h
    unfold keepStore
    split
    · simp only [memWfFrom, Bool.and_eq_true, decide_eq_true_eq]; exact ⟨h.1, ih h.2⟩
    · exact memWfFrom_mono (ih h.2) (by omega)

/-- What a full reset keeps is in canonical form. -/
theorem keepStore_wf {m : Memory} (h : m.wf = true) : (keepStore m).wf = true := keepStore_wfFrom h

/-- A full reset keeps the bytes of the persistent store and no other. -/
theorem memGet_keepStore (m : Memory) (a : Nat) : memGet (keepStore m) a = if inStore a then memGet m a else 0 := by
  induction m with
  | nil => simp [keepStore, memGet]
  | cons c t ih =>
    obtain ⟨k, v⟩ := c
    unfold keepStore
    split <;> rename_i hk
    · simp only [memGet, ih]; split <;> simp_all
    · rw [ih]; simp only [memGet]; split
      · rw [if_neg]; rintro rfl; simp_all
      · rfl

theorem memClear_wfFrom {lo : Nat} {m : Memory} (x y : Nat) (h : memWfFrom lo m = true) :
    memWfFrom lo (memClear m x y) = true := by
  induction m generalizing lo with
  | nil => rfl
  | cons c t ih =>
    obtain ⟨k, v⟩ := c
    simp only [memWfFrom, Bool.and_eq_true, decide_eq_true_eq] at h
    unfold memClear
    split
    · exact memWfFrom_mono (ih h.2) (by omega)
    · simp only [memWfFrom, Bool.and_eq_true, decide_eq_true_eq]; exact ⟨h.1, ih h.2⟩

/-- Clearing a range keeps the canonical form. -/
theorem memClear_wf {m : Memory} (x y : Nat) (h : m.wf = true) : (memClear m x y).wf = true := memClear_wfFrom x y h

/-- Clearing a range makes its bytes 0 and leaves every other byte. -/
theorem memGet_memClear (m : Memory) (x y a : Nat) : memGet (memClear m x y) a = if x ≤ a ∧ a < y then 0 else memGet m a := by
  induction m with
  | nil => simp [memClear, memGet]
  | cons c t ih =>
    obtain ⟨k, v⟩ := c
    unfold memClear
    split <;> rename_i hk
    · rw [ih]; simp only [memGet]; split
      · rfl
      · split <;> [(subst_vars; contradiction); rfl]
    · simp only [memGet, ih]; split
      · subst_vars; simp [hk]
      · rfl

end Sys2Proof.Machine
end

