-- ==== Sys2Proof/Laws/State.lean ====
section
/-! SUPPORT. What the small updates of the state leave alone: one lemma per field per update, and the reads of what they write. -/

namespace Sys2Proof.Machine

open Sys2Proof

@[simp] theorem irqSet_now (s : State) (m : BitVec 13) : (irqSet s m).now = s.now := rfl
@[simp] theorem irqSet_freeCtr (s : State) (m : BitVec 13) : (irqSet s m).freeCtr = s.freeCtr := rfl
@[simp] theorem irqSet_rst (s : State) (m : BitVec 13) : (irqSet s m).rst = s.rst := rfl
@[simp] theorem irqSet_sup (s : State) (m : BitVec 13) : (irqSet s m).sup = s.sup := rfl
@[simp] theorem irqSet_clk (s : State) (m : BitVec 13) : (irqSet s m).clk = s.clk := rfl
@[simp] theorem irqSet_tim (s : State) (m : BitVec 13) : (irqSet s m).tim = s.tim := rfl
@[simp] theorem irqSet_ph (s : State) (m : BitVec 13) : (irqSet s m).ph = s.ph := rfl
@[simp] theorem irqSet_sch (s : State) (m : BitVec 13) : (irqSet s m).sch = s.sch := rfl
@[simp] theorem irqSet_acq (s : State) (m : BitVec 13) : (irqSet s m).acq = s.acq := rfl
@[simp] theorem irqSet_aux (s : State) (m : BitVec 13) : (irqSet s m).aux = s.aux := rfl
@[simp] theorem irqSet_bal (s : State) (m : BitVec 13) : (irqSet s m).bal = s.bal := rfl
@[simp] theorem irqSet_prot (s : State) (m : BitVec 13) : (irqSet s m).prot = s.prot := rfl
@[simp] theorem irqSet_gate (s : State) (m : BitVec 13) : (irqSet s m).gate = s.gate := rfl
@[simp] theorem irqSet_sp (s : State) (m : BitVec 13) : (irqSet s m).sp = s.sp := rfl
@[simp] theorem irqSet_np (s : State) (m : BitVec 13) : (irqSet s m).np = s.np := rfl
@[simp] theorem irqSet_chn (s : State) (m : BitVec 13) : (irqSet s m).chn = s.chn := rfl
@[simp] theorem irqSet_mbx (s : State) (m : BitVec 13) : (irqSet s m).mbx = s.mbx := rfl
@[simp] theorem irqSet_cfg (s : State) (m : BitVec 13) : (irqSet s m).cfg = s.cfg := rfl
@[simp] theorem irqSet_store (s : State) (m : BitVec 13) : (irqSet s m).store = s.store := rfl
@[simp] theorem irqSet_safe (s : State) (m : BitVec 13) : (irqSet s m).safe = s.safe := rfl
@[simp] theorem irqSet_tq (s : State) (m : BitVec 13) : (irqSet s m).tq = s.tq := rfl
@[simp] theorem irqSet_en (s : State) (m : BitVec 13) : (irqSet s m).en = s.en := rfl
@[simp] theorem irqSet_core (s : State) (m : BitVec 13) : (irqSet s m).core = s.core := rfl
@[simp] theorem irqSet_mem (s : State) (m : BitVec 13) : (irqSet s m).mem = s.mem := rfl
@[simp] theorem irqSet_ecc (s : State) (m : BitVec 13) : (irqSet s m).ecc = s.ecc := rfl
@[simp] theorem irqSet_mpu (s : State) (m : BitVec 13) : (irqSet s m).mpu = s.mpu := rfl
@[simp] theorem irqSet_dma (s : State) (m : BitVec 13) : (irqSet s m).dma = s.dma := rfl
@[simp] theorem irqSet_ce (s : State) (m : BitVec 13) : (irqSet s m).ce = s.ce := rfl
@[simp] theorem irqSet_apl (s : State) (m : BitVec 13) : (irqSet s m).apl = s.apl := rfl
@[simp] theorem irqSet_jrn (s : State) (m : BitVec 13) : (irqSet s m).jrn = s.jrn := rfl
@[simp] theorem irqSet_pw (s : State) (m : BitVec 13) : (irqSet s m).pw = s.pw := rfl
@[simp] theorem irqSet_pending (s : State) (m : BitVec 13) : (irqSet s m).pending = s.pending := rfl

@[simp] theorem irqRaise_now (s : State) (v : Nat) : (irqRaise s v).now = s.now := rfl
@[simp] theorem irqRaise_freeCtr (s : State) (v : Nat) : (irqRaise s v).freeCtr = s.freeCtr := rfl
@[simp] theorem irqRaise_rst (s : State) (v : Nat) : (irqRaise s v).rst = s.rst := rfl
@[simp] theorem irqRaise_sup (s : State) (v : Nat) : (irqRaise s v).sup = s.sup := rfl
@[simp] theorem irqRaise_clk (s : State) (v : Nat) : (irqRaise s v).clk = s.clk := rfl
@[simp] theorem irqRaise_tim (s : State) (v : Nat) : (irqRaise s v).tim = s.tim := rfl
@[simp] theorem irqRaise_ph (s : State) (v : Nat) : (irqRaise s v).ph = s.ph := rfl
@[simp] theorem irqRaise_sch (s : State) (v : Nat) : (irqRaise s v).sch = s.sch := rfl
@[simp] theorem irqRaise_acq (s : State) (v : Nat) : (irqRaise s v).acq = s.acq := rfl
@[simp] theorem irqRaise_aux (s : State) (v : Nat) : (irqRaise s v).aux = s.aux := rfl
@[simp] theorem irqRaise_bal (s : State) (v : Nat) : (irqRaise s v).bal = s.bal := rfl
@[simp] theorem irqRaise_prot (s : State) (v : Nat) : (irqRaise s v).prot = s.prot := rfl
@[simp] theorem irqRaise_gate (s : State) (v : Nat) : (irqRaise s v).gate = s.gate := rfl
@[simp] theorem irqRaise_sp (s : State) (v : Nat) : (irqRaise s v).sp = s.sp := rfl
@[simp] theorem irqRaise_np (s : State) (v : Nat) : (irqRaise s v).np = s.np := rfl
@[simp] theorem irqRaise_chn (s : State) (v : Nat) : (irqRaise s v).chn = s.chn := rfl
@[simp] theorem irqRaise_host (s : State) (v : Nat) : (irqRaise s v).host = s.host := rfl
@[simp] theorem irqRaise_mbx (s : State) (v : Nat) : (irqRaise s v).mbx = s.mbx := rfl
@[simp] theorem irqRaise_cfg (s : State) (v : Nat) : (irqRaise s v).cfg = s.cfg := rfl
@[simp] theorem irqRaise_store (s : State) (v : Nat) : (irqRaise s v).store = s.store := rfl
@[simp] theorem irqRaise_safe (s : State) (v : Nat) : (irqRaise s v).safe = s.safe := rfl
@[simp] theorem irqRaise_tq (s : State) (v : Nat) : (irqRaise s v).tq = s.tq := rfl
@[simp] theorem irqRaise_en (s : State) (v : Nat) : (irqRaise s v).en = s.en := rfl
@[simp] theorem irqRaise_mem (s : State) (v : Nat) : (irqRaise s v).mem = s.mem := rfl
@[simp] theorem irqRaise_ecc (s : State) (v : Nat) : (irqRaise s v).ecc = s.ecc := rfl
@[simp] theorem irqRaise_mpu (s : State) (v : Nat) : (irqRaise s v).mpu = s.mpu := rfl
@[simp] theorem irqRaise_dma (s : State) (v : Nat) : (irqRaise s v).dma = s.dma := rfl
@[simp] theorem irqRaise_ce (s : State) (v : Nat) : (irqRaise s v).ce = s.ce := rfl
@[simp] theorem irqRaise_apl (s : State) (v : Nat) : (irqRaise s v).apl = s.apl := rfl
@[simp] theorem irqRaise_jrn (s : State) (v : Nat) : (irqRaise s v).jrn = s.jrn := rfl
@[simp] theorem irqRaise_pw (s : State) (v : Nat) : (irqRaise s v).pw = s.pw := rfl
@[simp] theorem irqRaise_pending (s : State) (v : Nat) : (irqRaise s v).pending = s.pending := rfl

@[simp] theorem advancePc_now (s : State) : (advancePc s).now = s.now := rfl
@[simp] theorem advancePc_freeCtr (s : State) : (advancePc s).freeCtr = s.freeCtr := rfl
@[simp] theorem advancePc_rst (s : State) : (advancePc s).rst = s.rst := rfl
@[simp] theorem advancePc_sup (s : State) : (advancePc s).sup = s.sup := rfl
@[simp] theorem advancePc_clk (s : State) : (advancePc s).clk = s.clk := rfl
@[simp] theorem advancePc_tim (s : State) : (advancePc s).tim = s.tim := rfl
@[simp] theorem advancePc_ph (s : State) : (advancePc s).ph = s.ph := rfl
@[simp] theorem advancePc_sch (s : State) : (advancePc s).sch = s.sch := rfl
@[simp] theorem advancePc_acq (s : State) : (advancePc s).acq = s.acq := rfl
@[simp] theorem advancePc_aux (s : State) : (advancePc s).aux = s.aux := rfl
@[simp] theorem advancePc_bal (s : State) : (advancePc s).bal = s.bal := rfl
@[simp] theorem advancePc_prot (s : State) : (advancePc s).prot = s.prot := rfl
@[simp] theorem advancePc_gate (s : State) : (advancePc s).gate = s.gate := rfl
@[simp] theorem advancePc_sp (s : State) : (advancePc s).sp = s.sp := rfl
@[simp] theorem advancePc_np (s : State) : (advancePc s).np = s.np := rfl
@[simp] theorem advancePc_chn (s : State) : (advancePc s).chn = s.chn := rfl
@[simp] theorem advancePc_host (s : State) : (advancePc s).host = s.host := rfl
@[simp] theorem advancePc_mbx (s : State) : (advancePc s).mbx = s.mbx := rfl
@[simp] theorem advancePc_cfg (s : State) : (advancePc s).cfg = s.cfg := rfl
@[simp] theorem advancePc_store (s : State) : (advancePc s).store = s.store := rfl
@[simp] theorem advancePc_safe (s : State) : (advancePc s).safe = s.safe := rfl
@[simp] theorem advancePc_tq (s : State) : (advancePc s).tq = s.tq := rfl
@[simp] theorem advancePc_en (s : State) : (advancePc s).en = s.en := rfl
@[simp] theorem advancePc_mem (s : State) : (advancePc s).mem = s.mem := rfl
@[simp] theorem advancePc_ecc (s : State) : (advancePc s).ecc = s.ecc := rfl
@[simp] theorem advancePc_mpu (s : State) : (advancePc s).mpu = s.mpu := rfl
@[simp] theorem advancePc_dma (s : State) : (advancePc s).dma = s.dma := rfl
@[simp] theorem advancePc_ce (s : State) : (advancePc s).ce = s.ce := rfl
@[simp] theorem advancePc_apl (s : State) : (advancePc s).apl = s.apl := rfl
@[simp] theorem advancePc_jrn (s : State) : (advancePc s).jrn = s.jrn := rfl
@[simp] theorem advancePc_pw (s : State) : (advancePc s).pw = s.pw := rfl
@[simp] theorem advancePc_pending (s : State) : (advancePc s).pending = s.pending := rfl

@[simp] theorem setFlags_now (s : State) (f : Flags) : (setFlags s f).now = s.now := rfl
@[simp] theorem setFlags_freeCtr (s : State) (f : Flags) : (setFlags s f).freeCtr = s.freeCtr := rfl
@[simp] theorem setFlags_rst (s : State) (f : Flags) : (setFlags s f).rst = s.rst := rfl
@[simp] theorem setFlags_sup (s : State) (f : Flags) : (setFlags s f).sup = s.sup := rfl
@[simp] theorem setFlags_clk (s : State) (f : Flags) : (setFlags s f).clk = s.clk := rfl
@[simp] theorem setFlags_tim (s : State) (f : Flags) : (setFlags s f).tim = s.tim := rfl
@[simp] theorem setFlags_ph (s : State) (f : Flags) : (setFlags s f).ph = s.ph := rfl
@[simp] theorem setFlags_sch (s : State) (f : Flags) : (setFlags s f).sch = s.sch := rfl
@[simp] theorem setFlags_acq (s : State) (f : Flags) : (setFlags s f).acq = s.acq := rfl
@[simp] theorem setFlags_aux (s : State) (f : Flags) : (setFlags s f).aux = s.aux := rfl
@[simp] theorem setFlags_bal (s : State) (f : Flags) : (setFlags s f).bal = s.bal := rfl
@[simp] theorem setFlags_prot (s : State) (f : Flags) : (setFlags s f).prot = s.prot := rfl
@[simp] theorem setFlags_gate (s : State) (f : Flags) : (setFlags s f).gate = s.gate := rfl
@[simp] theorem setFlags_sp (s : State) (f : Flags) : (setFlags s f).sp = s.sp := rfl
@[simp] theorem setFlags_np (s : State) (f : Flags) : (setFlags s f).np = s.np := rfl
@[simp] theorem setFlags_chn (s : State) (f : Flags) : (setFlags s f).chn = s.chn := rfl
@[simp] theorem setFlags_host (s : State) (f : Flags) : (setFlags s f).host = s.host := rfl
@[simp] theorem setFlags_mbx (s : State) (f : Flags) : (setFlags s f).mbx = s.mbx := rfl
@[simp] theorem setFlags_cfg (s : State) (f : Flags) : (setFlags s f).cfg = s.cfg := rfl
@[simp] theorem setFlags_store (s : State) (f : Flags) : (setFlags s f).store = s.store := rfl
@[simp] theorem setFlags_safe (s : State) (f : Flags) : (setFlags s f).safe = s.safe := rfl
@[simp] theorem setFlags_tq (s : State) (f : Flags) : (setFlags s f).tq = s.tq := rfl
@[simp] theorem setFlags_en (s : State) (f : Flags) : (setFlags s f).en = s.en := rfl
@[simp] theorem setFlags_mem (s : State) (f : Flags) : (setFlags s f).mem = s.mem := rfl
@[simp] theorem setFlags_ecc (s : State) (f : Flags) : (setFlags s f).ecc = s.ecc := rfl
@[simp] theorem setFlags_mpu (s : State) (f : Flags) : (setFlags s f).mpu = s.mpu := rfl
@[simp] theorem setFlags_dma (s : State) (f : Flags) : (setFlags s f).dma = s.dma := rfl
@[simp] theorem setFlags_ce (s : State) (f : Flags) : (setFlags s f).ce = s.ce := rfl
@[simp] theorem setFlags_apl (s : State) (f : Flags) : (setFlags s f).apl = s.apl := rfl
@[simp] theorem setFlags_jrn (s : State) (f : Flags) : (setFlags s f).jrn = s.jrn := rfl
@[simp] theorem setFlags_pw (s : State) (f : Flags) : (setFlags s f).pw = s.pw := rfl
@[simp] theorem setFlags_pending (s : State) (f : Flags) : (setFlags s f).pending = s.pending := rfl

@[simp] theorem takeFree_now (s : State) : (takeFree s).2.now = s.now := rfl
@[simp] theorem takeFree_rst (s : State) : (takeFree s).2.rst = s.rst := rfl
@[simp] theorem takeFree_sup (s : State) : (takeFree s).2.sup = s.sup := rfl
@[simp] theorem takeFree_clk (s : State) : (takeFree s).2.clk = s.clk := rfl
@[simp] theorem takeFree_tim (s : State) : (takeFree s).2.tim = s.tim := rfl
@[simp] theorem takeFree_ph (s : State) : (takeFree s).2.ph = s.ph := rfl
@[simp] theorem takeFree_sch (s : State) : (takeFree s).2.sch = s.sch := rfl
@[simp] theorem takeFree_acq (s : State) : (takeFree s).2.acq = s.acq := rfl
@[simp] theorem takeFree_aux (s : State) : (takeFree s).2.aux = s.aux := rfl
@[simp] theorem takeFree_bal (s : State) : (takeFree s).2.bal = s.bal := rfl
@[simp] theorem takeFree_prot (s : State) : (takeFree s).2.prot = s.prot := rfl
@[simp] theorem takeFree_gate (s : State) : (takeFree s).2.gate = s.gate := rfl
@[simp] theorem takeFree_sp (s : State) : (takeFree s).2.sp = s.sp := rfl
@[simp] theorem takeFree_np (s : State) : (takeFree s).2.np = s.np := rfl
@[simp] theorem takeFree_chn (s : State) : (takeFree s).2.chn = s.chn := rfl
@[simp] theorem takeFree_host (s : State) : (takeFree s).2.host = s.host := rfl
@[simp] theorem takeFree_mbx (s : State) : (takeFree s).2.mbx = s.mbx := rfl
@[simp] theorem takeFree_cfg (s : State) : (takeFree s).2.cfg = s.cfg := rfl
@[simp] theorem takeFree_store (s : State) : (takeFree s).2.store = s.store := rfl
@[simp] theorem takeFree_safe (s : State) : (takeFree s).2.safe = s.safe := rfl
@[simp] theorem takeFree_tq (s : State) : (takeFree s).2.tq = s.tq := rfl
@[simp] theorem takeFree_en (s : State) : (takeFree s).2.en = s.en := rfl
@[simp] theorem takeFree_core (s : State) : (takeFree s).2.core = s.core := rfl
@[simp] theorem takeFree_mem (s : State) : (takeFree s).2.mem = s.mem := rfl
@[simp] theorem takeFree_ecc (s : State) : (takeFree s).2.ecc = s.ecc := rfl
@[simp] theorem takeFree_mpu (s : State) : (takeFree s).2.mpu = s.mpu := rfl
@[simp] theorem takeFree_dma (s : State) : (takeFree s).2.dma = s.dma := rfl
@[simp] theorem takeFree_ce (s : State) : (takeFree s).2.ce = s.ce := rfl
@[simp] theorem takeFree_apl (s : State) : (takeFree s).2.apl = s.apl := rfl
@[simp] theorem takeFree_jrn (s : State) : (takeFree s).2.jrn = s.jrn := rfl
@[simp] theorem takeFree_pw (s : State) : (takeFree s).2.pw = s.pw := rfl
@[simp] theorem takeFree_pending (s : State) : (takeFree s).2.pending = s.pending := rfl
@[simp] theorem takeFree_freeCtr (s : State) : (takeFree s).2.freeCtr = s.freeCtr + 1 := rfl
@[simp] theorem takeFree_fst (s : State) : (takeFree s).1 = Config.freeWord s.freeCtr := rfl

@[simp] theorem setPort_now (s : State) (p : Port) (u : PortUnit) : (setPort s p u).now = s.now := by cases p <;> rfl
@[simp] theorem setPort_freeCtr (s : State) (p : Port) (u : PortUnit) : (setPort s p u).freeCtr = s.freeCtr := by cases p <;> rfl
@[simp] theorem setPort_rst (s : State) (p : Port) (u : PortUnit) : (setPort s p u).rst = s.rst := by cases p <;> rfl
@[simp] theorem setPort_sup (s : State) (p : Port) (u : PortUnit) : (setPort s p u).sup = s.sup := by cases p <;> rfl
@[simp] theorem setPort_clk (s : State) (p : Port) (u : PortUnit) : (setPort s p u).clk = s.clk := by cases p <;> rfl
@[simp] theorem setPort_tim (s : State) (p : Port) (u : PortUnit) : (setPort s p u).tim = s.tim := by cases p <;> rfl
@[simp] theorem setPort_ph (s : State) (p : Port) (u : PortUnit) : (setPort s p u).ph = s.ph := by cases p <;> rfl
@[simp] theorem setPort_sch (s : State) (p : Port) (u : PortUnit) : (setPort s p u).sch = s.sch := by cases p <;> rfl
@[simp] theorem setPort_acq (s : State) (p : Port) (u : PortUnit) : (setPort s p u).acq = s.acq := by cases p <;> rfl
@[simp] theorem setPort_aux (s : State) (p : Port) (u : PortUnit) : (setPort s p u).aux = s.aux := by cases p <;> rfl
@[simp] theorem setPort_bal (s : State) (p : Port) (u : PortUnit) : (setPort s p u).bal = s.bal := by cases p <;> rfl
@[simp] theorem setPort_prot (s : State) (p : Port) (u : PortUnit) : (setPort s p u).prot = s.prot := by cases p <;> rfl
@[simp] theorem setPort_gate (s : State) (p : Port) (u : PortUnit) : (setPort s p u).gate = s.gate := by cases p <;> rfl
@[simp] theorem setPort_chn (s : State) (p : Port) (u : PortUnit) : (setPort s p u).chn = s.chn := by cases p <;> rfl
@[simp] theorem setPort_host (s : State) (p : Port) (u : PortUnit) : (setPort s p u).host = s.host := by cases p <;> rfl
@[simp] theorem setPort_mbx (s : State) (p : Port) (u : PortUnit) : (setPort s p u).mbx = s.mbx := by cases p <;> rfl
@[simp] theorem setPort_cfg (s : State) (p : Port) (u : PortUnit) : (setPort s p u).cfg = s.cfg := by cases p <;> rfl
@[simp] theorem setPort_store (s : State) (p : Port) (u : PortUnit) : (setPort s p u).store = s.store := by cases p <;> rfl
@[simp] theorem setPort_safe (s : State) (p : Port) (u : PortUnit) : (setPort s p u).safe = s.safe := by cases p <;> rfl
@[simp] theorem setPort_tq (s : State) (p : Port) (u : PortUnit) : (setPort s p u).tq = s.tq := by cases p <;> rfl
@[simp] theorem setPort_en (s : State) (p : Port) (u : PortUnit) : (setPort s p u).en = s.en := by cases p <;> rfl
@[simp] theorem setPort_core (s : State) (p : Port) (u : PortUnit) : (setPort s p u).core = s.core := by cases p <;> rfl
@[simp] theorem setPort_mem (s : State) (p : Port) (u : PortUnit) : (setPort s p u).mem = s.mem := by cases p <;> rfl
@[simp] theorem setPort_ecc (s : State) (p : Port) (u : PortUnit) : (setPort s p u).ecc = s.ecc := by cases p <;> rfl
@[simp] theorem setPort_mpu (s : State) (p : Port) (u : PortUnit) : (setPort s p u).mpu = s.mpu := by cases p <;> rfl
@[simp] theorem setPort_dma (s : State) (p : Port) (u : PortUnit) : (setPort s p u).dma = s.dma := by cases p <;> rfl
@[simp] theorem setPort_ce (s : State) (p : Port) (u : PortUnit) : (setPort s p u).ce = s.ce := by cases p <;> rfl
@[simp] theorem setPort_apl (s : State) (p : Port) (u : PortUnit) : (setPort s p u).apl = s.apl := by cases p <;> rfl
@[simp] theorem setPort_jrn (s : State) (p : Port) (u : PortUnit) : (setPort s p u).jrn = s.jrn := by cases p <;> rfl
@[simp] theorem setPort_pw (s : State) (p : Port) (u : PortUnit) : (setPort s p u).pw = s.pw := by cases p <;> rfl
@[simp] theorem setPort_pending (s : State) (p : Port) (u : PortUnit) : (setPort s p u).pending = s.pending := by cases p <;> rfl

@[simp] theorem setGAs_now (s : State) (a : Bool) (i : Fin 16) (v : Word) : (setGAs s a i v).now = s.now := by
  unfold setGAs; split <;> [rfl; (split <;> rfl)]
@[simp] theorem setG_now (s : State) (i : Fin 16) (v : Word) : (setG s i v).now = s.now := setGAs_now ..
@[simp] theorem setGAs_freeCtr (s : State) (a : Bool) (i : Fin 16) (v : Word) : (setGAs s a i v).freeCtr = s.freeCtr := by
  unfold setGAs; split <;> [rfl; (split <;> rfl)]
@[simp] theorem setG_freeCtr (s : State) (i : Fin 16) (v : Word) : (setG s i v).freeCtr = s.freeCtr := setGAs_freeCtr ..
@[simp] theorem setGAs_rst (s : State) (a : Bool) (i : Fin 16) (v : Word) : (setGAs s a i v).rst = s.rst := by
  unfold setGAs; split <;> [rfl; (split <;> rfl)]
@[simp] theorem setG_rst (s : State) (i : Fin 16) (v : Word) : (setG s i v).rst = s.rst := setGAs_rst ..
@[simp] theorem setGAs_sup (s : State) (a : Bool) (i : Fin 16) (v : Word) : (setGAs s a i v).sup = s.sup := by
  unfold setGAs; split <;> [rfl; (split <;> rfl)]
@[simp] theorem setG_sup (s : State) (i : Fin 16) (v : Word) : (setG s i v).sup = s.sup := setGAs_sup ..
@[simp] theorem setGAs_clk (s : State) (a : Bool) (i : Fin 16) (v : Word) : (setGAs s a i v).clk = s.clk := by
  unfold setGAs; split <;> [rfl; (split <;> rfl)]
@[simp] theorem setG_clk (s : State) (i : Fin 16) (v : Word) : (setG s i v).clk = s.clk := setGAs_clk ..
@[simp] theorem setGAs_tim (s : State) (a : Bool) (i : Fin 16) (v : Word) : (setGAs s a i v).tim = s.tim := by
  unfold setGAs; split <;> [rfl; (split <;> rfl)]
@[simp] theorem setG_tim (s : State) (i : Fin 16) (v : Word) : (setG s i v).tim = s.tim := setGAs_tim ..
@[simp] theorem setGAs_ph (s : State) (a : Bool) (i : Fin 16) (v : Word) : (setGAs s a i v).ph = s.ph := by
  unfold setGAs; split <;> [rfl; (split <;> rfl)]
@[simp] theorem setG_ph (s : State) (i : Fin 16) (v : Word) : (setG s i v).ph = s.ph := setGAs_ph ..
@[simp] theorem setGAs_sch (s : State) (a : Bool) (i : Fin 16) (v : Word) : (setGAs s a i v).sch = s.sch := by
  unfold setGAs; split <;> [rfl; (split <;> rfl)]
@[simp] theorem setG_sch (s : State) (i : Fin 16) (v : Word) : (setG s i v).sch = s.sch := setGAs_sch ..
@[simp] theorem setGAs_acq (s : State) (a : Bool) (i : Fin 16) (v : Word) : (setGAs s a i v).acq = s.acq := by
  unfold setGAs; split <;> [rfl; (split <;> rfl)]
@[simp] theorem setG_acq (s : State) (i : Fin 16) (v : Word) : (setG s i v).acq = s.acq := setGAs_acq ..
@[simp] theorem setGAs_aux (s : State) (a : Bool) (i : Fin 16) (v : Word) : (setGAs s a i v).aux = s.aux := by
  unfold setGAs; split <;> [rfl; (split <;> rfl)]
@[simp] theorem setG_aux (s : State) (i : Fin 16) (v : Word) : (setG s i v).aux = s.aux := setGAs_aux ..
@[simp] theorem setGAs_bal (s : State) (a : Bool) (i : Fin 16) (v : Word) : (setGAs s a i v).bal = s.bal := by
  unfold setGAs; split <;> [rfl; (split <;> rfl)]
@[simp] theorem setG_bal (s : State) (i : Fin 16) (v : Word) : (setG s i v).bal = s.bal := setGAs_bal ..
@[simp] theorem setGAs_prot (s : State) (a : Bool) (i : Fin 16) (v : Word) : (setGAs s a i v).prot = s.prot := by
  unfold setGAs; split <;> [rfl; (split <;> rfl)]
@[simp] theorem setG_prot (s : State) (i : Fin 16) (v : Word) : (setG s i v).prot = s.prot := setGAs_prot ..
@[simp] theorem setGAs_gate (s : State) (a : Bool) (i : Fin 16) (v : Word) : (setGAs s a i v).gate = s.gate := by
  unfold setGAs; split <;> [rfl; (split <;> rfl)]
@[simp] theorem setG_gate (s : State) (i : Fin 16) (v : Word) : (setG s i v).gate = s.gate := setGAs_gate ..
@[simp] theorem setGAs_sp (s : State) (a : Bool) (i : Fin 16) (v : Word) : (setGAs s a i v).sp = s.sp := by
  unfold setGAs; split <;> [rfl; (split <;> rfl)]
@[simp] theorem setG_sp (s : State) (i : Fin 16) (v : Word) : (setG s i v).sp = s.sp := setGAs_sp ..
@[simp] theorem setGAs_np (s : State) (a : Bool) (i : Fin 16) (v : Word) : (setGAs s a i v).np = s.np := by
  unfold setGAs; split <;> [rfl; (split <;> rfl)]
@[simp] theorem setG_np (s : State) (i : Fin 16) (v : Word) : (setG s i v).np = s.np := setGAs_np ..
@[simp] theorem setGAs_chn (s : State) (a : Bool) (i : Fin 16) (v : Word) : (setGAs s a i v).chn = s.chn := by
  unfold setGAs; split <;> [rfl; (split <;> rfl)]
@[simp] theorem setG_chn (s : State) (i : Fin 16) (v : Word) : (setG s i v).chn = s.chn := setGAs_chn ..
@[simp] theorem setGAs_host (s : State) (a : Bool) (i : Fin 16) (v : Word) : (setGAs s a i v).host = s.host := by
  unfold setGAs; split <;> [rfl; (split <;> rfl)]
@[simp] theorem setG_host (s : State) (i : Fin 16) (v : Word) : (setG s i v).host = s.host := setGAs_host ..
@[simp] theorem setGAs_mbx (s : State) (a : Bool) (i : Fin 16) (v : Word) : (setGAs s a i v).mbx = s.mbx := by
  unfold setGAs; split <;> [rfl; (split <;> rfl)]
@[simp] theorem setG_mbx (s : State) (i : Fin 16) (v : Word) : (setG s i v).mbx = s.mbx := setGAs_mbx ..
@[simp] theorem setGAs_cfg (s : State) (a : Bool) (i : Fin 16) (v : Word) : (setGAs s a i v).cfg = s.cfg := by
  unfold setGAs; split <;> [rfl; (split <;> rfl)]
@[simp] theorem setG_cfg (s : State) (i : Fin 16) (v : Word) : (setG s i v).cfg = s.cfg := setGAs_cfg ..
@[simp] theorem setGAs_store (s : State) (a : Bool) (i : Fin 16) (v : Word) : (setGAs s a i v).store = s.store := by
  unfold setGAs; split <;> [rfl; (split <;> rfl)]
@[simp] theorem setG_store (s : State) (i : Fin 16) (v : Word) : (setG s i v).store = s.store := setGAs_store ..
@[simp] theorem setGAs_safe (s : State) (a : Bool) (i : Fin 16) (v : Word) : (setGAs s a i v).safe = s.safe := by
  unfold setGAs; split <;> [rfl; (split <;> rfl)]
@[simp] theorem setG_safe (s : State) (i : Fin 16) (v : Word) : (setG s i v).safe = s.safe := setGAs_safe ..
@[simp] theorem setGAs_tq (s : State) (a : Bool) (i : Fin 16) (v : Word) : (setGAs s a i v).tq = s.tq := by
  unfold setGAs; split <;> [rfl; (split <;> rfl)]
@[simp] theorem setG_tq (s : State) (i : Fin 16) (v : Word) : (setG s i v).tq = s.tq := setGAs_tq ..
@[simp] theorem setGAs_en (s : State) (a : Bool) (i : Fin 16) (v : Word) : (setGAs s a i v).en = s.en := by
  unfold setGAs; split <;> [rfl; (split <;> rfl)]
@[simp] theorem setG_en (s : State) (i : Fin 16) (v : Word) : (setG s i v).en = s.en := setGAs_en ..
@[simp] theorem setGAs_mem (s : State) (a : Bool) (i : Fin 16) (v : Word) : (setGAs s a i v).mem = s.mem := by
  unfold setGAs; split <;> [rfl; (split <;> rfl)]
@[simp] theorem setG_mem (s : State) (i : Fin 16) (v : Word) : (setG s i v).mem = s.mem := setGAs_mem ..
@[simp] theorem setGAs_ecc (s : State) (a : Bool) (i : Fin 16) (v : Word) : (setGAs s a i v).ecc = s.ecc := by
  unfold setGAs; split <;> [rfl; (split <;> rfl)]
@[simp] theorem setG_ecc (s : State) (i : Fin 16) (v : Word) : (setG s i v).ecc = s.ecc := setGAs_ecc ..
@[simp] theorem setGAs_mpu (s : State) (a : Bool) (i : Fin 16) (v : Word) : (setGAs s a i v).mpu = s.mpu := by
  unfold setGAs; split <;> [rfl; (split <;> rfl)]
@[simp] theorem setG_mpu (s : State) (i : Fin 16) (v : Word) : (setG s i v).mpu = s.mpu := setGAs_mpu ..
@[simp] theorem setGAs_dma (s : State) (a : Bool) (i : Fin 16) (v : Word) : (setGAs s a i v).dma = s.dma := by
  unfold setGAs; split <;> [rfl; (split <;> rfl)]
@[simp] theorem setG_dma (s : State) (i : Fin 16) (v : Word) : (setG s i v).dma = s.dma := setGAs_dma ..
@[simp] theorem setGAs_ce (s : State) (a : Bool) (i : Fin 16) (v : Word) : (setGAs s a i v).ce = s.ce := by
  unfold setGAs; split <;> [rfl; (split <;> rfl)]
@[simp] theorem setG_ce (s : State) (i : Fin 16) (v : Word) : (setG s i v).ce = s.ce := setGAs_ce ..
@[simp] theorem setGAs_apl (s : State) (a : Bool) (i : Fin 16) (v : Word) : (setGAs s a i v).apl = s.apl := by
  unfold setGAs; split <;> [rfl; (split <;> rfl)]
@[simp] theorem setG_apl (s : State) (i : Fin 16) (v : Word) : (setG s i v).apl = s.apl := setGAs_apl ..
@[simp] theorem setGAs_jrn (s : State) (a : Bool) (i : Fin 16) (v : Word) : (setGAs s a i v).jrn = s.jrn := by
  unfold setGAs; split <;> [rfl; (split <;> rfl)]
@[simp] theorem setG_jrn (s : State) (i : Fin 16) (v : Word) : (setG s i v).jrn = s.jrn := setGAs_jrn ..
@[simp] theorem setGAs_pw (s : State) (a : Bool) (i : Fin 16) (v : Word) : (setGAs s a i v).pw = s.pw := by
  unfold setGAs; split <;> [rfl; (split <;> rfl)]
@[simp] theorem setG_pw (s : State) (i : Fin 16) (v : Word) : (setG s i v).pw = s.pw := setGAs_pw ..
@[simp] theorem setGAs_pending (s : State) (a : Bool) (i : Fin 16) (v : Word) : (setGAs s a i v).pending = s.pending := by
  unfold setGAs; split <;> [rfl; (split <;> rfl)]
@[simp] theorem setG_pending (s : State) (i : Fin 16) (v : Word) : (setG s i v).pending = s.pending := setGAs_pending ..

@[simp] theorem setGAs_core_pc (s : State) (a : Bool) (i : Fin 16) (v : Word) : (setGAs s a i v).core.pc = s.core.pc := by
  unfold setGAs; split <;> [rfl; (split <;> rfl)]
@[simp] theorem setG_core_pc (s : State) (i : Fin 16) (v : Word) : (setG s i v).core.pc = s.core.pc := setGAs_core_pc ..
@[simp] theorem setGAs_core_sw (s : State) (a : Bool) (i : Fin 16) (v : Word) : (setGAs s a i v).core.sw = s.core.sw := by
  unfold setGAs; split <;> [rfl; (split <;> rfl)]
@[simp] theorem setG_core_sw (s : State) (i : Fin 16) (v : Word) : (setG s i v).core.sw = s.core.sw := setGAs_core_sw ..
@[simp] theorem setGAs_core_vbase (s : State) (a : Bool) (i : Fin 16) (v : Word) : (setGAs s a i v).core.vbase = s.core.vbase := by
  unfold setGAs; split <;> [rfl; (split <;> rfl)]
@[simp] theorem setG_core_vbase (s : State) (i : Fin 16) (v : Word) : (setG s i v).core.vbase = s.core.vbase := setGAs_core_vbase ..
@[simp] theorem setGAs_core_esp (s : State) (a : Bool) (i : Fin 16) (v : Word) : (setGAs s a i v).core.esp = s.core.esp := by
  unfold setGAs; split <;> [rfl; (split <;> rfl)]
@[simp] theorem setG_core_esp (s : State) (i : Fin 16) (v : Word) : (setG s i v).core.esp = s.core.esp := setGAs_core_esp ..
@[simp] theorem setGAs_core_fe (s : State) (a : Bool) (i : Fin 16) (v : Word) : (setGAs s a i v).core.fe = s.core.fe := by
  unfold setGAs; split <;> [rfl; (split <;> rfl)]
@[simp] theorem setG_core_fe (s : State) (i : Fin 16) (v : Word) : (setG s i v).core.fe = s.core.fe := setGAs_core_fe ..
@[simp] theorem setGAs_core_espl (s : State) (a : Bool) (i : Fin 16) (v : Word) : (setGAs s a i v).core.espl = s.core.espl := by
  unfold setGAs; split <;> [rfl; (split <;> rfl)]
@[simp] theorem setG_core_espl (s : State) (i : Fin 16) (v : Word) : (setG s i v).core.espl = s.core.espl := setGAs_core_espl ..
@[simp] theorem setGAs_core_sysEntry (s : State) (a : Bool) (i : Fin 16) (v : Word) : (setGAs s a i v).core.sysEntry = s.core.sysEntry := by
  unfold setGAs; split <;> [rfl; (split <;> rfl)]
@[simp] theorem setG_core_sysEntry (s : State) (i : Fin 16) (v : Word) : (setG s i v).core.sysEntry = s.core.sysEntry := setGAs_core_sysEntry ..
@[simp] theorem setGAs_core_sysSp (s : State) (a : Bool) (i : Fin 16) (v : Word) : (setGAs s a i v).core.sysSp = s.core.sysSp := by
  unfold setGAs; split <;> [rfl; (split <;> rfl)]
@[simp] theorem setG_core_sysSp (s : State) (i : Fin 16) (v : Word) : (setG s i v).core.sysSp = s.core.sysSp := setGAs_core_sysSp ..
@[simp] theorem setGAs_core_sysRet (s : State) (a : Bool) (i : Fin 16) (v : Word) : (setGAs s a i v).core.sysRet = s.core.sysRet := by
  unfold setGAs; split <;> [rfl; (split <;> rfl)]
@[simp] theorem setG_core_sysRet (s : State) (i : Fin 16) (v : Word) : (setG s i v).core.sysRet = s.core.sysRet := setGAs_core_sysRet ..
@[simp] theorem setGAs_core_ien0 (s : State) (a : Bool) (i : Fin 16) (v : Word) : (setGAs s a i v).core.ien0 = s.core.ien0 := by
  unfold setGAs; split <;> [rfl; (split <;> rfl)]
@[simp] theorem setG_core_ien0 (s : State) (i : Fin 16) (v : Word) : (setG s i v).core.ien0 = s.core.ien0 := setGAs_core_ien0 ..
@[simp] theorem setGAs_core_ien1 (s : State) (a : Bool) (i : Fin 16) (v : Word) : (setGAs s a i v).core.ien1 = s.core.ien1 := by
  unfold setGAs; split <;> [rfl; (split <;> rfl)]
@[simp] theorem setG_core_ien1 (s : State) (i : Fin 16) (v : Word) : (setG s i v).core.ien1 = s.core.ien1 := setGAs_core_ien1 ..
@[simp] theorem setGAs_core_ipend (s : State) (a : Bool) (i : Fin 16) (v : Word) : (setGAs s a i v).core.ipend = s.core.ipend := by
  unfold setGAs; split <;> [rfl; (split <;> rfl)]
@[simp] theorem setG_core_ipend (s : State) (i : Fin 16) (v : Word) : (setG s i v).core.ipend = s.core.ipend := setGAs_core_ipend ..
@[simp] theorem setGAs_core_sbuf (s : State) (a : Bool) (i : Fin 16) (v : Word) : (setGAs s a i v).core.sbuf = s.core.sbuf := by
  unfold setGAs; split <;> [rfl; (split <;> rfl)]
@[simp] theorem setG_core_sbuf (s : State) (i : Fin 16) (v : Word) : (setG s i v).core.sbuf = s.core.sbuf := setGAs_core_sbuf ..
@[simp] theorem setGAs_core_late (s : State) (a : Bool) (i : Fin 16) (v : Word) : (setGAs s a i v).core.late = s.core.late := by
  unfold setGAs; split <;> [rfl; (split <;> rfl)]
@[simp] theorem setG_core_late (s : State) (i : Fin 16) (v : Word) : (setG s i v).core.late = s.core.late := setGAs_core_late ..
@[simp] theorem setGAs_core_div (s : State) (a : Bool) (i : Fin 16) (v : Word) : (setGAs s a i v).core.div = s.core.div := by
  unfold setGAs; split <;> [rfl; (split <;> rfl)]
@[simp] theorem setG_core_div (s : State) (i : Fin 16) (v : Word) : (setG s i v).core.div = s.core.div := setGAs_core_div ..
@[simp] theorem setGAs_core_imp (s : State) (a : Bool) (i : Fin 16) (v : Word) : (setGAs s a i v).core.imp = s.core.imp := by
  unfold setGAs; split <;> [rfl; (split <;> rfl)]
@[simp] theorem setG_core_imp (s : State) (i : Fin 16) (v : Word) : (setG s i v).core.imp = s.core.imp := setGAs_core_imp ..
@[simp] theorem setGAs_core_waiting (s : State) (a : Bool) (i : Fin 16) (v : Word) : (setGAs s a i v).core.waiting = s.core.waiting := by
  unfold setGAs; split <;> [rfl; (split <;> rfl)]
@[simp] theorem setG_core_waiting (s : State) (i : Fin 16) (v : Word) : (setG s i v).core.waiting = s.core.waiting := setGAs_core_waiting ..
@[simp] theorem setGAs_core_fstop (s : State) (a : Bool) (i : Fin 16) (v : Word) : (setGAs s a i v).core.fstop = s.core.fstop := by
  unfold setGAs; split <;> [rfl; (split <;> rfl)]
@[simp] theorem setG_core_fstop (s : State) (i : Fin 16) (v : Word) : (setG s i v).core.fstop = s.core.fstop := setGAs_core_fstop ..
@[simp] theorem setGAs_core_owed (s : State) (a : Bool) (i : Fin 16) (v : Word) : (setGAs s a i v).core.owed = s.core.owed := by
  unfold setGAs; split <;> [rfl; (split <;> rfl)]
@[simp] theorem setG_core_owed (s : State) (i : Fin 16) (v : Word) : (setG s i v).core.owed = s.core.owed := setGAs_core_owed ..
@[simp] theorem setFlags_core_pc (s : State) (f : Flags) : (setFlags s f).core.pc = s.core.pc := rfl
@[simp] theorem advancePc_core_sw (s : State) : (advancePc s).core.sw = s.core.sw := rfl
@[simp] theorem advancePc_core_vbase (s : State) : (advancePc s).core.vbase = s.core.vbase := rfl
@[simp] theorem setFlags_core_vbase (s : State) (f : Flags) : (setFlags s f).core.vbase = s.core.vbase := rfl
@[simp] theorem advancePc_core_esp (s : State) : (advancePc s).core.esp = s.core.esp := rfl
@[simp] theorem setFlags_core_esp (s : State) (f : Flags) : (setFlags s f).core.esp = s.core.esp := rfl
@[simp] theorem advancePc_core_fe (s : State) : (advancePc s).core.fe = s.core.fe := rfl
@[simp] theorem setFlags_core_fe (s : State) (f : Flags) : (setFlags s f).core.fe = s.core.fe := rfl
@[simp] theorem advancePc_core_espl (s : State) : (advancePc s).core.espl = s.core.espl := rfl
@[simp] theorem setFlags_core_espl (s : State) (f : Flags) : (setFlags s f).core.espl = s.core.espl := rfl
@[simp] theorem advancePc_core_sysEntry (s : State) : (advancePc s).core.sysEntry = s.core.sysEntry := rfl
@[simp] theorem setFlags_core_sysEntry (s : State) (f : Flags) : (setFlags s f).core.sysEntry = s.core.sysEntry := rfl
@[simp] theorem advancePc_core_sysSp (s : State) : (advancePc s).core.sysSp = s.core.sysSp := rfl
@[simp] theorem setFlags_core_sysSp (s : State) (f : Flags) : (setFlags s f).core.sysSp = s.core.sysSp := rfl
@[simp] theorem advancePc_core_sysRet (s : State) : (advancePc s).core.sysRet = s.core.sysRet := rfl
@[simp] theorem setFlags_core_sysRet (s : State) (f : Flags) : (setFlags s f).core.sysRet = s.core.sysRet := rfl
@[simp] theorem advancePc_core_ien0 (s : State) : (advancePc s).core.ien0 = s.core.ien0 := rfl
@[simp] theorem setFlags_core_ien0 (s : State) (f : Flags) : (setFlags s f).core.ien0 = s.core.ien0 := rfl
@[simp] theorem advancePc_core_ien1 (s : State) : (advancePc s).core.ien1 = s.core.ien1 := rfl
@[simp] theorem setFlags_core_ien1 (s : State) (f : Flags) : (setFlags s f).core.ien1 = s.core.ien1 := rfl
@[simp] theorem advancePc_core_ipend (s : State) : (advancePc s).core.ipend = s.core.ipend := rfl
@[simp] theorem setFlags_core_ipend (s : State) (f : Flags) : (setFlags s f).core.ipend = s.core.ipend := rfl
@[simp] theorem advancePc_core_sbuf (s : State) : (advancePc s).core.sbuf = s.core.sbuf := rfl
@[simp] theorem setFlags_core_sbuf (s : State) (f : Flags) : (setFlags s f).core.sbuf = s.core.sbuf := rfl
@[simp] theorem advancePc_core_late (s : State) : (advancePc s).core.late = s.core.late := rfl
@[simp] theorem setFlags_core_late (s : State) (f : Flags) : (setFlags s f).core.late = s.core.late := rfl
@[simp] theorem advancePc_core_div (s : State) : (advancePc s).core.div = s.core.div := rfl
@[simp] theorem setFlags_core_div (s : State) (f : Flags) : (setFlags s f).core.div = s.core.div := rfl
@[simp] theorem advancePc_core_imp (s : State) : (advancePc s).core.imp = s.core.imp := rfl
@[simp] theorem setFlags_core_imp (s : State) (f : Flags) : (setFlags s f).core.imp = s.core.imp := rfl
@[simp] theorem advancePc_core_waiting (s : State) : (advancePc s).core.waiting = s.core.waiting := rfl
@[simp] theorem setFlags_core_waiting (s : State) (f : Flags) : (setFlags s f).core.waiting = s.core.waiting := rfl
@[simp] theorem advancePc_core_fstop (s : State) : (advancePc s).core.fstop = s.core.fstop := rfl
@[simp] theorem setFlags_core_fstop (s : State) (f : Flags) : (setFlags s f).core.fstop = s.core.fstop := rfl
@[simp] theorem advancePc_core_owed (s : State) : (advancePc s).core.owed = s.core.owed := rfl
@[simp] theorem setFlags_core_owed (s : State) (f : Flags) : (setFlags s f).core.owed = s.core.owed := rfl
@[simp] theorem advancePc_core_g (s : State) : (advancePc s).core.g = s.core.g := rfl
@[simp] theorem setFlags_core_g (s : State) (f : Flags) : (setFlags s f).core.g = s.core.g := rfl
@[simp] theorem advancePc_core_asp (s : State) : (advancePc s).core.asp = s.core.asp := rfl
@[simp] theorem setFlags_core_asp (s : State) (f : Flags) : (setFlags s f).core.asp = s.core.asp := rfl

@[simp] theorem advancePc_core_pc (s : State) : (advancePc s).core.pc = s.core.pc + 4 := rfl
@[simp] theorem setFlags_core_sw (s : State) (f : Flags) : (setFlags s f).core.sw = swFlags s.core.sw f := rfl

/-- A port reads back as it was set. -/
@[simp] theorem portOf_setPort_same (s : State) (p : Port) (u : PortUnit) : portOf (setPort s p u) p = u := by cases p <;> rfl

/-- Setting one port leaves the other. -/
@[simp] theorem portOf_setPort_other (s : State) (p : Port) (u : PortUnit) :
    portOf (setPort s p u) (otherPort p) = portOf s (otherPort p) := by cases p <;> rfl

/-- As `portOf_setPort_other`, seen from the other port. -/
@[simp] theorem portOf_setPort_other' (s : State) (p : Port) (u : PortUnit) :
    portOf (setPort s (otherPort p) u) p = portOf s p := by cases p <;> rfl

/-- Setting both ports to the units of a state gives back nothing new. -/
theorem setPort_eq (s : State) (p : Port) (u : PortUnit) :
    setPort s p u = { s with sp := (setPort s p u).sp, np := (setPort s p u).np } := by cases p <;> rfl

/-- g0 reads 0 (18 R671). -/
@[simp] theorem getG_zero (s : State) : getG s 0 = 0 := rfl

/-- The flags of `SW` are read back as they were written. -/
theorem flagsOf_swFlags (sw : Word) (f : Flags) : flagsOf (swFlags sw f) = f := by
  obtain ⟨z, n, c, v⟩ := f
  cases z <;> cases n <;> cases c <;> cases v <;> simp [flagsOf, swFlags, b2n]

/-- Writing the flags leaves every other bit of `SW` (18 Table 18-2). -/
theorem swFlags_rest (sw : Word) (f : Flags) (i : Nat) (h : 4 ≤ i) : (swFlags sw f).getLsbD i = sw.getLsbD i := by
  have hb : ∀ n : Nat, n < 16 → (BitVec.ofNat 32 n).getLsbD i = false := by
    intro n hn
    rw [BitVec.getLsbD_ofNat]
    have : n.testBit i = false := Nat.testBit_lt_two_pow (lt_of_lt_of_le hn (by
      calc 16 = 2 ^ 4 := rfl
        _ ≤ 2 ^ i := Nat.pow_le_pow_right (by decide) h))
    simp [this]
  obtain ⟨z, n, c, v⟩ := f
  by_cases hi : i < 32
  · have hm : (~~~ 0xF#32).getLsbD i = true := by
      rw [BitVec.getLsbD_not, hb 15 (by decide)]
      simp [hi]
    have hn : b2n z + 2 * b2n n + 4 * b2n c + 8 * b2n v < 16 := by
      cases z <;> cases n <;> cases c <;> cases v <;> decide
    simp only [swFlags, BitVec.getLsbD_or, BitVec.getLsbD_and, hm, hb _ hn, Bool.and_true, Bool.or_false]
  · rw [BitVec.getLsbD_of_ge _ _ (by omega), BitVec.getLsbD_of_ge _ _ (by omega)]

end Sys2Proof.Machine
end

