-- ==== Sys2Proof/Laws/Ops.lean ====
section
/-! SUPPORT. What each shared operation may touch, said once as a frame (`Only`, Safety.lean). -/

namespace Sys2Proof.Machine

open Sys2Proof

/-! ## Frames compose -/

theorem Same.trans {p : Part} {s t u : State} (a : Same p s t) (b : Same p t u) : Same p s u := by
  cases p <;> exact Eq.trans b a

theorem Only.refl (l : List Part) (s : State) : Only l s s := ⟨by intro p _; cases p <;> rfl⟩

theorem Only.trans {l : List Part} {s t u : State} (a : Only l s t) (b : Only l t u) : Only l s u :=
  ⟨fun p h => (a.same p h).trans (b.same p h)⟩

theorem Only.mono {l m : List Part} {s t : State} (a : Only l s t) (h : ∀ p, p ∈ l → p ∈ m) : Only m s t :=
  ⟨fun p hp => a.same p fun hl => hp (h p hl)⟩

/-- A fold of an operation that stays in a frame stays in it. -/
theorem Only.foldl {α : Type} {l : List Part} (f : State → α → State) (h : ∀ s a, Only l s (f s a)) (x : List α) (s : State) :
    Only l s (x.foldl f s) := by
  induction x generalizing s with
  | nil => exact Only.refl l s
  | cons a t ih => exact (h s a).trans (ih _)

/-- A state that differs in at most one part from another. -/
theorem Only.of {l : List Part} {s t : State} (h : ∀ p : Part, p ∈ l ∨ Same p s t) : Only l s t :=
  ⟨fun p hp => (h p).resolve_left hp⟩

theorem only_mbx {l : List Part} (h : .mbx ∈ l) (s : State) (x : MbxUnit) : Only l s { s with mbx := x } :=
  Only.of fun p => by cases p <;> first | exact .inr rfl | exact .inl h
theorem only_host {l : List Part} (h : .host ∈ l) (s : State) (x : HostUnit) : Only l s { s with host := x } :=
  Only.of fun p => by cases p <;> first | exact .inr rfl | exact .inl h
theorem only_chn {l : List Part} (h : .chn ∈ l) (s : State) (x : ChnUnit) : Only l s { s with chn := x } :=
  Only.of fun p => by cases p <;> first | exact .inr rfl | exact .inl h
theorem only_sp {l : List Part} (h : .sp ∈ l) (s : State) (x : PortUnit) : Only l s { s with sp := x } :=
  Only.of fun p => by cases p <;> first | exact .inr rfl | exact .inl h
theorem only_np {l : List Part} (h : .np ∈ l) (s : State) (x : PortUnit) : Only l s { s with np := x } :=
  Only.of fun p => by cases p <;> first | exact .inr rfl | exact .inl h
theorem only_jrn {l : List Part} (h : .jrn ∈ l) (s : State) (x : JrnUnit) : Only l s { s with jrn := x } :=
  Only.of fun p => by cases p <;> first | exact .inr rfl | exact .inl h
theorem only_mem {l : List Part} (h : .mem ∈ l) (s : State) (x : Memory) : Only l s { s with mem := x } :=
  Only.of fun p => by cases p <;> first | exact .inr rfl | exact .inl h
theorem only_tq {l : List Part} (h : .tq ∈ l) (s : State) (x : TqUnit) : Only l s { s with tq := x } :=
  Only.of fun p => by cases p <;> first | exact .inr rfl | exact .inl h
theorem only_gate {l : List Part} (h : .gate ∈ l) (s : State) (x : GateUnit) : Only l s { s with gate := x } :=
  Only.of fun p => by cases p <;> first | exact .inr rfl | exact .inl h
theorem only_store {l : List Part} (h : .store ∈ l) (s : State) (x : StoreUnit) : Only l s { s with store := x } :=
  Only.of fun p => by cases p <;> first | exact .inr rfl | exact .inl h
theorem only_prot {l : List Part} (h : .prot ∈ l) (s : State) (x : ProtUnit) : Only l s { s with prot := x } :=
  Only.of fun p => by cases p <;> first | exact .inr rfl | exact .inl h
theorem only_acq {l : List Part} (h : .acq ∈ l) (s : State) (x : AcqUnit) : Only l s { s with acq := x } :=
  Only.of fun p => by cases p <;> first | exact .inr rfl | exact .inl h
theorem only_bal {l : List Part} (h : .bal ∈ l) (s : State) (x : BalUnit) : Only l s { s with bal := x } :=
  Only.of fun p => by cases p <;> first | exact .inr rfl | exact .inl h
theorem only_pw {l : List Part} (h : .pw ∈ l) (s : State) (x : PwUnit) : Only l s { s with pw := x } :=
  Only.of fun p => by cases p <;> first | exact .inr rfl | exact .inl h
theorem only_core {l : List Part} (h : .core ∈ l) (s : State) (x : CoreUnit) : Only l s { s with core := x } :=
  Only.of fun p => by cases p <;> first | exact .inr rfl | exact .inl h

/-! ## Replies -/

theorem irqSet_only (s : State) (m : BitVec 13) : Only [.host] s (irqSet s m) := only_host (by decide) ..

theorem updateLive_only (s : State) : Only [.host] s (updateLive s) := by
  unfold updateLive; dsimp only; split
  · exact only_host (by decide) ..
  · exact (irqSet_only ..).trans (only_host (by decide) ..)

theorem noteConditions_only (s : State) : Only [.prot, .chn, .host] s (noteConditions s) := by
  unfold noteConditions; dsimp only
  refine Only.trans ?_ ((updateLive_only ..).mono (by decide))
  split <;> exact Only.of fun p => by cases p <;> first | exact .inr rfl | exact .inl (by decide)

theorem setPort_only (s : State) (p : Port) (u : PortUnit) : Only [.sp, .np] s (setPort s p u) := by
  cases p
  · exact only_sp (by decide) ..
  · exact only_np (by decide) ..

theorem enqueueTx_only (s : State) (p : Port) (f : Frame) : Only [.sp, .np] s (enqueueTx s p f) := setPort_only ..

theorem originate_only (s : State) (ty : BitVec 4) (d : BitVec 7) (b : List Byte) : Only [.chn] s ((originate s ty d b).1) := only_chn (by decide) ..

theorem placeOut_only (s : State) (i : Fin 4) (b : List Byte) : Only [.mbx, .host] s (placeOut s i b) := (only_mbx (by decide) ..).trans (only_host (by decide) ..)

theorem sendFrame_only (s : State) (p : Port) (ty : BitVec 4) (d : BitVec 7) (b : List Byte) : Only replyParts s (sendFrame s p ty d b) := by
  cases p <;> exact Only.of fun q => by cases q <;> first | exact .inr rfl | exact .inl (by decide)

theorem sendAcked_only (s : State) (p : Port) (ty : BitVec 4) (d : BitVec 7) (b : List Byte) (o : Option (Fin 4)) : Only replyParts s (sendAcked s p ty d b o) := by
  cases p <;> exact Only.of fun q => by cases q <;> first | exact .inr rfl | exact .inl (by decide)

theorem deliver_only (s : State) (m : Msg) (b : List Byte) : Only replyParts s (deliver s m b) := by
  have h := only_mbx (l := replyParts) (by decide) s { s.mbx with lastReply := b }
  unfold deliver; dsimp only; split
  · exact h.trans ((placeOut_only ..).mono (by decide))
  · split
    · exact h
    · exact h.trans ((sendAcked_only ..).trans (only_chn (by decide) ..))

theorem reply_only (s : State) (v : BitVec 16) (m : Msg) (e n : Bool) (b : List Byte) : Only replyParts s (reply s v m e n b) := by
  unfold reply; dsimp only
  exact (only_mbx (by decide) s _).trans ((deliver_only ..).trans (Only.foldl _ (fun s a => deliver_only ..) _ _))

theorem replyOk_only (s : State) (v : BitVec 16) (m : Msg) (b : List Byte) : Only replyParts s (replyOk s v m b) := reply_only ..

theorem replyErr_only (s : State) (v : BitVec 16) (m : Msg) (c d : Nat) : Only replyParts s (replyErr s v m c d) := reply_only ..

theorem replyEnv_only (s : State) (w : Waiting) (b : List Byte) : Only replyParts s (replyEnv s w b) := by
  unfold replyEnv; split <;> exact reply_only ..

theorem rdnAnswers_only (l : List (Waiting × Bool)) (o : Nat) (s : State) : Only replyParts s (rdnAnswers l o s) := by
  induction l generalizing s with
  | nil => exact Only.refl ..
  | cons a t ih => exact (replyEnv_only ..).trans (ih _)

/-! ## The journal -/

theorem noteDiscard_only (s : State) (e : JEntry) : Only journalParts s (noteDiscard s e) := by
  have h := only_jrn (l := journalParts) (by decide) s { s.jrn with discards := s.jrn.discards + 1 }
  unfold noteDiscard; dsimp only; split
  · exact h
  · exact h.trans ((replyErr_only ..).mono (by decide))

theorem jrnQueue_only (s : State) (e : JEntry) : Only journalParts s (jrnQueue s e) := by
  unfold jrnQueue; split
  · exact only_jrn (by decide) ..
  · split
    · exact (only_jrn (by decide) ..).trans (noteDiscard_only ..)
    · split
      · exact only_jrn (by decide) ..
      · exact noteDiscard_only ..

theorem jrnPut_only (s : State) (i : Bool) (t : Byte) (d : List Byte) : Only journalParts s (jrnPut s i t d) := jrnQueue_only ..

theorem jrnSuppressed_only (s : State) : Only journalParts s (jrnSuppressed s) := by
  unfold jrnSuppressed; split
  · exact only_jrn (by decide) ..
  · exact Only.refl ..

theorem writeParts_only (k : Nat) (s : State) (e : JEntry) (i v : Bool) (p : Nat) : Only [.mem, .jrn] s (writeParts k s e i v p) := by
  induction k generalizing s p with
  | zero => exact Only.refl ..
  | succ k ih =>
    unfold writeParts; dsimp only
    refine Only.trans ?_ (ih _ _)
    split <;> exact Only.of fun q => by cases q <;> first | exact .inr rfl | exact .inl (by decide)

theorem jrnCommit_only (s : State) (e : JEntry) : Only (.mem :: journalParts) s (jrnCommit s e) := by
  have h := fun i v => (writeParts_only e.parts s e i v 0).mono (m := .mem :: journalParts) (by decide)
  unfold jrnCommit; dsimp only; split
  · exact (h _ _).trans ((only_jrn (by decide) ..).trans ((jrnPut_only ..).mono (by decide)))
  · split
    · exact (h _ _).trans ((only_jrn (by decide) ..).trans ((jrnPut_only ..).mono (by decide)))
    · exact h _ _

theorem jrnWriteOne_only (s : State) : Only (.mem :: journalParts) s (jrnWriteOne s) := by
  have h := fun (q : JrnUnit) e => (only_jrn (l := .mem :: journalParts) (by decide) s q).trans (jrnCommit_only { s with jrn := q } e)
  unfold jrnWriteOne; split
  · exact Only.refl ..
  · refine Only.trans ?_ ((jrnSuppressed_only ..).mono (by decide))
    split
    · exact h _ _
    · exact (h _ _).trans ((replyOk_only ..).mono (by decide))

theorem jrnFlush_only (n : Nat) (s : State) : Only (.mem :: journalParts) s (jrnFlush n s) := by
  induction n generalizing s with
  | zero => exact Only.refl ..
  | succ n ih => exact (jrnWriteOne_only s).trans (ih _)

/-! ## Acquisition and balancing -/

theorem openSwitches_only (s : State) : Only [.acq, .bal] s (openSwitches s) := by
  unfold openSwitches; split
  · exact Only.refl ..
  · exact Only.of fun q => by cases q <;> first | exact .inr rfl | exact .inl (by decide)

theorem takeWin_only (s : State) : Only [.acq] s (takeWin s) := by
  unfold takeWin; dsimp only; split
  · exact Only.refl ..
  · exact only_acq (by decide) ..

theorem noteDist_only (s : State) (m : BitVec 19) : Only [.acq] s (noteDist s m) := only_acq (by decide) ..

theorem owEnd_only (s : State) : Only [.acq] s (owEnd s) := by
  unfold owEnd; dsimp only
  refine Only.trans ?_ (only_acq (by decide) ..)
  repeat' (first | exact Only.refl .. | exact noteDist_only .. | split)

theorem dropTest_only (s : State) : Only [.bal] s (dropTest s) := only_bal (by decide) ..

theorem openSpan_only (s : State) (a : BitVec 2) (q : BitVec 16) (pt : BitVec 4) (h u : Bool) (n : Word) :
    Only [.acq, .bal] s (openSpan s a q pt h u n) := by
  unfold openSpan; dsimp only
  exact ((takeWin_only ..).mono (by decide)).trans ((openSwitches_only ..).trans
    (((dropTest_only ..).mono (by decide)).trans (only_acq (by decide) ..)))

theorem mapOpen_only (s : State) (f : Span → Span) : Only [.acq] s (mapOpen s f) := only_acq (by decide) ..

theorem markSpans_only (s : State) (m : BitVec 19) : Only [.acq] s (markSpans s m) := mapOpen_only s _

theorem blankForTick_only (s : State) : Only [.acq, .bal] s (blankForTick s) := by
  unfold blankForTick; dsimp only
  refine (openSwitches_only s).trans (Only.trans ?_ ((dropTest_only ..).mono (by decide)))
  split
  · exact Only.refl ..
  · exact (owEnd_only ..).mono (by decide)

theorem balEnd_only (s : State) (m : Wells) (c : BitVec 4) : Only [.bal] s (balEnd s m c) := only_bal (by decide) ..

theorem openWells_only (s : State) (m : Wells) : Only [.bal] s (openWells s m) := only_bal (by decide) ..

theorem markPauses_only (s : State) : Only [.bal] s (markPauses s) := only_bal (by decide) ..

theorem dropHotTest_only (s : State) : Only [.bal] s (dropHotTest s) := by
  unfold dropHotTest; split
  · exact dropTest_only ..
  · exact Only.refl ..

theorem balPauseNow_only (s : State) : Only [.bal] s (balPauseNow s) := by
  unfold balPauseNow; dsimp only
  exact (markPauses_only s).trans ((dropHotTest_only _).trans ((openWells_only _ _).trans (only_bal (by decide) _ _)))

theorem reclose_only (s : State) : Only [.bal] s (reclose s) := by
  unfold reclose; split
  · exact only_bal (by decide) ..
  · exact Only.refl ..

/-! ## Torque and the gate -/

theorem tqRemove_only (s : State) (c : Nat) (d : RdState) : Only (.tq :: journalParts) s (tqRemove s c d) := 
  (only_tq (by decide) ..).trans (((jrnPut_only ..).mono (by decide)).trans ((rdnAnswers_only ..).mono (by decide)))

theorem endEnabling_only (s : State) (c : Nat) : Only (.tq :: journalParts) s (endEnabling s c) := 
  (only_tq (by decide) ..).trans ((tqRemove_only ..).trans (Only.foldl _ (fun s a => (replyErr_only ..).mono (by decide)) _ _))

theorem tqImmediate_only (s : State) (c : Nat) : Only (.tq :: journalParts) s (tqImmediate s c) := by
  unfold tqImmediate
  repeat' (first | exact Only.refl .. | exact endEnabling_only .. | exact tqRemove_only .. | split)

theorem tqDecision_only (s : State) (c : Nat) : Only (.tq :: journalParts) s (tqDecision s c) := by
  unfold tqDecision
  repeat' (first | exact Only.refl .. | exact endEnabling_only .. | exact only_tq (by decide) .. | split)

theorem gateAnswers_only (l : List Waiting) (s : State) : Only (.gate :: replyParts) s (gateAnswers l s) := by
  induction l generalizing s with
  | nil => exact Only.refl ..
  | cons a t ih =>
    unfold gateAnswers; split
    · exact ((replyOk_only ..).mono (by decide)).trans (ih _)
    · exact (only_gate (by decide) ..).trans (ih _)

theorem gateNotify_only (s : State) : Only (.gate :: replyParts) s (gateNotify s) := (only_gate (by decide) ..).trans (gateAnswers_only ..)

theorem gateTurnOff_only (s : State) : Only (.gate :: replyParts) s (gateTurnOff s) := by
  unfold gateTurnOff; split
  · exact (only_gate (by decide) ..).trans (gateNotify_only ..)
  · exact only_gate (by decide) ..
  · exact only_gate (by decide) ..
  · exact Only.refl ..

theorem latchDisc_only (s : State) (c : BitVec 4) : Only [.gate, .store] s (latchDisc s c) :=
  Only.of fun q => by cases q <;> first | exact .inr rfl | exact .inl (by decide)

theorem discLatch_only (s : State) (c : BitVec 4) :
    Only (.gate :: .store :: .prot :: .tq :: .core :: journalParts) s (discLatch s c) := by
  have j : ∀ i t d, Only (.gate :: .store :: .prot :: .tq :: .core :: journalParts) s
      (jrnPut (irqRaise (latchDisc s c) 19) i t d) := fun i t d =>
    ((latchDisc_only s c).mono (by decide)).trans ((only_core (by decide) ..).trans ((jrnPut_only ..).mono (by decide)))
  unfold discLatch; dsimp only; split
  · split
    · exact Only.of fun q => by cases q <;> first | exact .inr rfl | exact .inl (by decide)
    · exact Only.refl ..
  · refine Only.trans ?_ (((tqImmediate_only ..).mono (by decide)).trans ((noteConditions_only ..).mono (by decide)))
    split
    · exact (j ..).trans ((only_gate (by decide) ..).trans ((gateNotify_only ..).mono (by decide)))
    · exact (j ..).trans ((gateTurnOff_only ..).mono (by decide))

/-! ## Wakes -/

theorem latchWake_only (s : State) (m : Word) : Only [.pw, .host] s (latchWake s m) := by
  unfold latchWake; dsimp only; split
  · exact only_pw (by decide) ..
  · exact Only.of fun q => by cases q <;> first | exact .inr rfl | exact .inl (by decide)

theorem wakeFor_only (s : State) (m : Word) : Only [.pw, .host] s (wakeFor s m) := by
  unfold wakeFor; dsimp only; split
  · exact latchWake_only ..
  · exact (latchWake_only ..).trans (only_pw (by decide) ..)

theorem startAlarm_only (s : State) : Only [.sp, .np] s (startAlarm s) := by
  unfold startAlarm; dsimp only; split
  · exact Only.of fun q => by cases q <;> first | exact .inr rfl | exact .inl (by decide)
  · exact only_sp (by decide) ..

theorem wakeAlarm_only (s : State) (m : Word) : Only [.pw, .host, .sp, .np] s (wakeAlarm s m) := by
  unfold wakeAlarm; dsimp only; split
  · exact ((wakeFor_only ..).mono (by decide)).trans (only_pw (by decide) ..)
  · exact ((wakeFor_only ..).mono (by decide)).trans ((startAlarm_only ..).mono (by decide))

theorem hostActivity_only (s : State) : Only [.pw] s (hostActivity s) := only_pw (by decide) ..

/-! ## More of the journal -/

theorem jrnFlushInc_only (s : State) : Only (.mem :: journalParts) s (jrnFlushInc s) := jrnFlush_only ..

theorem jrnFlushClosed_only (n : Nat) (s : State) : Only (.mem :: journalParts) s (jrnFlushClosed n s) := by
  induction n generalizing s with
  | zero => exact Only.refl ..
  | succ n ih =>
    unfold jrnFlushClosed; split
    · exact Only.refl ..
    · exact (jrnWriteOne_only s).trans (ih _)

theorem jrnDrain_only (n : Nat) (s : State) : Only (.mem :: journalParts) s (jrnDrain n s) := by
  induction n generalizing s with
  | zero => exact Only.refl ..
  | succ n ih =>
    unfold jrnDrain; split
    · exact Only.refl ..
    · exact (jrnWriteOne_only s).trans (ih _)

/-! ## The store's records, the applet's intervals, the switch test -/

theorem areaWritten_only (s : State) : Only [.store] s (areaWritten s) := only_store (by decide) ..

theorem storeRecord_only (s : State) (r : CfgRecord) : Only [.store] s (storeRecord s r) := only_store (by decide) ..

theorem storePassword_only (s : State) : Only [.store] s (storePassword s) := only_store (by decide) ..

theorem abortCfgScan_only (s : State) : Only [.ce] s (abortCfgScan s) := by
  unfold abortCfgScan; split
  · exact Only.of fun q => by cases q <;> first | exact .inr rfl | exact .inl (by decide)
  · exact Only.refl ..

theorem endInterval_only (s : State) : Only [.apl] s (endInterval s) := by
  unfold endInterval; split
  · exact Only.of fun q => by cases q <;> first | exact .inr rfl | exact .inl (by decide)
  · exact Only.refl ..

theorem svcReleased_only (s : State) : Only [.apl, .core] s (svcReleased s) := by
  unfold svcReleased; dsimp only; split
  · exact ((endInterval_only s).mono (m := [.apl, .core]) (by decide)).trans
      (Only.of fun q => by cases q <;> first | exact .inr rfl | exact .inl (by decide))
  · exact (endInterval_only s).mono (m := [.apl, .core]) (by decide)

theorem leaveTest_only (s : State) (v : Wells) : Only [.bal] s (leaveTest s v) := only_bal (by decide) ..

theorem staleLate_only (s : State) : Only [.core] s (staleLate s) := only_core (by decide) ..

/-! ## Frames that leave -/

theorem loseAlign_only (s : State) : Only [.tim] s (loseAlign s) :=
  Only.of fun q => by cases q <;> first | exact .inr rfl | exact .inl (by decide)

theorem setPortGen_only (s : State) (p : Port) (u : PortUnit) : Only [.tim, .chn, .sp, .np] s (setPortGen s p u) := by
  have h := (setPort_only s p u).mono (m := [.tim, .chn, .sp, .np]) (by decide)
  unfold setPortGen; dsimp only; split
  · exact h
  · refine h.trans ?_
    split <;> exact Only.of fun q => by cases q <;> first | exact .inr rfl | exact .inl (by decide)

theorem latchGen_only (s : State) (p : Port) : Only [.tim, .chn, .sp, .np] s (latchGen s p) := by
  unfold latchGen; dsimp only; split
  · exact Only.refl ..
  · split
    · exact setPortGen_only ..
    · exact Only.refl ..

theorem putOnLine_only (s : State) (p : Port) (f : Frame) (c : Crust) (lead : Nat) :
    Only [.chn, .sp, .np] s (putOnLine s p f c lead) := by
  unfold putOnLine; dsimp only; split
  · exact ((setPort_only ..).mono (by decide)).trans (only_chn (by decide) ..)
  · exact (setPort_only ..).mono (by decide)

theorem startOwn_only (s : State) (p : Port) (f : Frame) : Only [.chn, .sp, .np] s (startOwn s p f) := putOnLine_only ..

theorem startTime_only (s : State) (p : Port) (f : Frame) (lead : Nat) : Only [.chn, .sp, .np] s (startTime s p f lead) := by
  unfold startTime; split
  · exact putOnLine_only ..
  · exact Only.refl ..

theorem waitTx_only (s : State) (p : Port) (f : Frame) : Only [.sp, .np] s (waitTx s p f) := by
  unfold waitTx; split
  · exact setPort_only ..
  · exact Only.refl ..

theorem startOrWait_only (s : State) (p : Port) (f : Frame) : Only [.tim, .chn, .sp, .np] s (startOrWait s p f) := by
  unfold startOrWait; split
  · exact Only.refl ..
  · split
    · exact (latchGen_only ..).trans ((startOwn_only ..).mono (by decide))
    · exact (waitTx_only ..).mono (by decide)

theorem sendBoth_only (s : State) (ty : BitVec 4) (b : List Byte) : Only [.tim, .chn, .sp, .np] s (sendBoth s ty b) :=
  ((originate_only s ty 0 b).mono (by decide)).trans ((startOrWait_only ..).trans (startOrWait_only ..))

theorem releaseHeld_only (s : State) (x : Nat) : Only [.sch, .acq, .apl, .core] s (releaseHeld s x) := by
  have h := (svcReleased_only s).mono (m := [.sch, .acq, .apl, .core]) (by decide)
  unfold releaseHeld; dsimp only; split
  · exact h.trans (Only.of fun q => by cases q <;> first | exact .inr rfl | exact .inl (by decide))
  · exact Only.of fun q => by cases q <;> first | exact .inr rfl | exact .inl (by decide)

/-! ## The pair's breaks and bursts -/

theorem sendBurst_only (s : State) (p : Port) (a r : Bool) : Only [.sp, .np] s (sendBurst s p a r) := setPort_only ..

theorem putBreak_only (s : State) (p : Port) : Only [.sp, .np] s (putBreak s p) := setPort_only ..

/-! ## What the most used of them leave alone, as rewriting rules -/

@[simp] theorem replyOk_now (s : State) (v : BitVec 16) (m : Msg) (b : List Byte) : (replyOk s v m b).now = s.now := (replyOk_only _ _ _ _).same .now (by decide)
@[simp] theorem replyOk_freeCtr (s : State) (v : BitVec 16) (m : Msg) (b : List Byte) : (replyOk s v m b).freeCtr = s.freeCtr := (replyOk_only _ _ _ _).same .freeCtr (by decide)
@[simp] theorem replyOk_rst (s : State) (v : BitVec 16) (m : Msg) (b : List Byte) : (replyOk s v m b).rst = s.rst := (replyOk_only _ _ _ _).same .rst (by decide)
@[simp] theorem replyOk_sup (s : State) (v : BitVec 16) (m : Msg) (b : List Byte) : (replyOk s v m b).sup = s.sup := (replyOk_only _ _ _ _).same .sup (by decide)
@[simp] theorem replyOk_clk (s : State) (v : BitVec 16) (m : Msg) (b : List Byte) : (replyOk s v m b).clk = s.clk := (replyOk_only _ _ _ _).same .clk (by decide)
@[simp] theorem replyOk_tim (s : State) (v : BitVec 16) (m : Msg) (b : List Byte) : (replyOk s v m b).tim = s.tim := (replyOk_only _ _ _ _).same .tim (by decide)
@[simp] theorem replyOk_ph (s : State) (v : BitVec 16) (m : Msg) (b : List Byte) : (replyOk s v m b).ph = s.ph := (replyOk_only _ _ _ _).same .ph (by decide)
@[simp] theorem replyOk_sch (s : State) (v : BitVec 16) (m : Msg) (b : List Byte) : (replyOk s v m b).sch = s.sch := (replyOk_only _ _ _ _).same .sch (by decide)
@[simp] theorem replyOk_acq (s : State) (v : BitVec 16) (m : Msg) (b : List Byte) : (replyOk s v m b).acq = s.acq := (replyOk_only _ _ _ _).same .acq (by decide)
@[simp] theorem replyOk_aux (s : State) (v : BitVec 16) (m : Msg) (b : List Byte) : (replyOk s v m b).aux = s.aux := (replyOk_only _ _ _ _).same .aux (by decide)
@[simp] theorem replyOk_bal (s : State) (v : BitVec 16) (m : Msg) (b : List Byte) : (replyOk s v m b).bal = s.bal := (replyOk_only _ _ _ _).same .bal (by decide)
@[simp] theorem replyOk_prot (s : State) (v : BitVec 16) (m : Msg) (b : List Byte) : (replyOk s v m b).prot = s.prot := (replyOk_only _ _ _ _).same .prot (by decide)
@[simp] theorem replyOk_gate (s : State) (v : BitVec 16) (m : Msg) (b : List Byte) : (replyOk s v m b).gate = s.gate := (replyOk_only _ _ _ _).same .gate (by decide)
@[simp] theorem replyOk_cfg (s : State) (v : BitVec 16) (m : Msg) (b : List Byte) : (replyOk s v m b).cfg = s.cfg := (replyOk_only _ _ _ _).same .cfg (by decide)
@[simp] theorem replyOk_store (s : State) (v : BitVec 16) (m : Msg) (b : List Byte) : (replyOk s v m b).store = s.store := (replyOk_only _ _ _ _).same .store (by decide)
@[simp] theorem replyOk_safe (s : State) (v : BitVec 16) (m : Msg) (b : List Byte) : (replyOk s v m b).safe = s.safe := (replyOk_only _ _ _ _).same .safe (by decide)
@[simp] theorem replyOk_tq (s : State) (v : BitVec 16) (m : Msg) (b : List Byte) : (replyOk s v m b).tq = s.tq := (replyOk_only _ _ _ _).same .tq (by decide)
@[simp] theorem replyOk_en (s : State) (v : BitVec 16) (m : Msg) (b : List Byte) : (replyOk s v m b).en = s.en := (replyOk_only _ _ _ _).same .en (by decide)
@[simp] theorem replyOk_core (s : State) (v : BitVec 16) (m : Msg) (b : List Byte) : (replyOk s v m b).core = s.core := (replyOk_only _ _ _ _).same .core (by decide)
@[simp] theorem replyOk_mem (s : State) (v : BitVec 16) (m : Msg) (b : List Byte) : (replyOk s v m b).mem = s.mem := (replyOk_only _ _ _ _).same .mem (by decide)
@[simp] theorem replyOk_ecc (s : State) (v : BitVec 16) (m : Msg) (b : List Byte) : (replyOk s v m b).ecc = s.ecc := (replyOk_only _ _ _ _).same .ecc (by decide)
@[simp] theorem replyOk_mpu (s : State) (v : BitVec 16) (m : Msg) (b : List Byte) : (replyOk s v m b).mpu = s.mpu := (replyOk_only _ _ _ _).same .mpu (by decide)
@[simp] theorem replyOk_dma (s : State) (v : BitVec 16) (m : Msg) (b : List Byte) : (replyOk s v m b).dma = s.dma := (replyOk_only _ _ _ _).same .dma (by decide)
@[simp] theorem replyOk_ce (s : State) (v : BitVec 16) (m : Msg) (b : List Byte) : (replyOk s v m b).ce = s.ce := (replyOk_only _ _ _ _).same .ce (by decide)
@[simp] theorem replyOk_apl (s : State) (v : BitVec 16) (m : Msg) (b : List Byte) : (replyOk s v m b).apl = s.apl := (replyOk_only _ _ _ _).same .apl (by decide)
@[simp] theorem replyOk_jrn (s : State) (v : BitVec 16) (m : Msg) (b : List Byte) : (replyOk s v m b).jrn = s.jrn := (replyOk_only _ _ _ _).same .jrn (by decide)
@[simp] theorem replyOk_pw (s : State) (v : BitVec 16) (m : Msg) (b : List Byte) : (replyOk s v m b).pw = s.pw := (replyOk_only _ _ _ _).same .pw (by decide)
@[simp] theorem replyOk_pending (s : State) (v : BitVec 16) (m : Msg) (b : List Byte) : (replyOk s v m b).pending = s.pending := (replyOk_only _ _ _ _).same .pending (by decide)

@[simp] theorem jrnPut_now (s : State) (i : Bool) (t : Byte) (d : List Byte) : (jrnPut s i t d).now = s.now := (jrnPut_only _ _ _ _).same .now (by decide)
@[simp] theorem jrnPut_freeCtr (s : State) (i : Bool) (t : Byte) (d : List Byte) : (jrnPut s i t d).freeCtr = s.freeCtr := (jrnPut_only _ _ _ _).same .freeCtr (by decide)
@[simp] theorem jrnPut_rst (s : State) (i : Bool) (t : Byte) (d : List Byte) : (jrnPut s i t d).rst = s.rst := (jrnPut_only _ _ _ _).same .rst (by decide)
@[simp] theorem jrnPut_sup (s : State) (i : Bool) (t : Byte) (d : List Byte) : (jrnPut s i t d).sup = s.sup := (jrnPut_only _ _ _ _).same .sup (by decide)
@[simp] theorem jrnPut_clk (s : State) (i : Bool) (t : Byte) (d : List Byte) : (jrnPut s i t d).clk = s.clk := (jrnPut_only _ _ _ _).same .clk (by decide)
@[simp] theorem jrnPut_tim (s : State) (i : Bool) (t : Byte) (d : List Byte) : (jrnPut s i t d).tim = s.tim := (jrnPut_only _ _ _ _).same .tim (by decide)
@[simp] theorem jrnPut_ph (s : State) (i : Bool) (t : Byte) (d : List Byte) : (jrnPut s i t d).ph = s.ph := (jrnPut_only _ _ _ _).same .ph (by decide)
@[simp] theorem jrnPut_sch (s : State) (i : Bool) (t : Byte) (d : List Byte) : (jrnPut s i t d).sch = s.sch := (jrnPut_only _ _ _ _).same .sch (by decide)
@[simp] theorem jrnPut_acq (s : State) (i : Bool) (t : Byte) (d : List Byte) : (jrnPut s i t d).acq = s.acq := (jrnPut_only _ _ _ _).same .acq (by decide)
@[simp] theorem jrnPut_aux (s : State) (i : Bool) (t : Byte) (d : List Byte) : (jrnPut s i t d).aux = s.aux := (jrnPut_only _ _ _ _).same .aux (by decide)
@[simp] theorem jrnPut_bal (s : State) (i : Bool) (t : Byte) (d : List Byte) : (jrnPut s i t d).bal = s.bal := (jrnPut_only _ _ _ _).same .bal (by decide)
@[simp] theorem jrnPut_prot (s : State) (i : Bool) (t : Byte) (d : List Byte) : (jrnPut s i t d).prot = s.prot := (jrnPut_only _ _ _ _).same .prot (by decide)
@[simp] theorem jrnPut_gate (s : State) (i : Bool) (t : Byte) (d : List Byte) : (jrnPut s i t d).gate = s.gate := (jrnPut_only _ _ _ _).same .gate (by decide)
@[simp] theorem jrnPut_cfg (s : State) (i : Bool) (t : Byte) (d : List Byte) : (jrnPut s i t d).cfg = s.cfg := (jrnPut_only _ _ _ _).same .cfg (by decide)
@[simp] theorem jrnPut_store (s : State) (i : Bool) (t : Byte) (d : List Byte) : (jrnPut s i t d).store = s.store := (jrnPut_only _ _ _ _).same .store (by decide)
@[simp] theorem jrnPut_safe (s : State) (i : Bool) (t : Byte) (d : List Byte) : (jrnPut s i t d).safe = s.safe := (jrnPut_only _ _ _ _).same .safe (by decide)
@[simp] theorem jrnPut_tq (s : State) (i : Bool) (t : Byte) (d : List Byte) : (jrnPut s i t d).tq = s.tq := (jrnPut_only _ _ _ _).same .tq (by decide)
@[simp] theorem jrnPut_en (s : State) (i : Bool) (t : Byte) (d : List Byte) : (jrnPut s i t d).en = s.en := (jrnPut_only _ _ _ _).same .en (by decide)
@[simp] theorem jrnPut_core (s : State) (i : Bool) (t : Byte) (d : List Byte) : (jrnPut s i t d).core = s.core := (jrnPut_only _ _ _ _).same .core (by decide)
@[simp] theorem jrnPut_mem (s : State) (i : Bool) (t : Byte) (d : List Byte) : (jrnPut s i t d).mem = s.mem := (jrnPut_only _ _ _ _).same .mem (by decide)
@[simp] theorem jrnPut_ecc (s : State) (i : Bool) (t : Byte) (d : List Byte) : (jrnPut s i t d).ecc = s.ecc := (jrnPut_only _ _ _ _).same .ecc (by decide)
@[simp] theorem jrnPut_mpu (s : State) (i : Bool) (t : Byte) (d : List Byte) : (jrnPut s i t d).mpu = s.mpu := (jrnPut_only _ _ _ _).same .mpu (by decide)
@[simp] theorem jrnPut_dma (s : State) (i : Bool) (t : Byte) (d : List Byte) : (jrnPut s i t d).dma = s.dma := (jrnPut_only _ _ _ _).same .dma (by decide)
@[simp] theorem jrnPut_ce (s : State) (i : Bool) (t : Byte) (d : List Byte) : (jrnPut s i t d).ce = s.ce := (jrnPut_only _ _ _ _).same .ce (by decide)
@[simp] theorem jrnPut_apl (s : State) (i : Bool) (t : Byte) (d : List Byte) : (jrnPut s i t d).apl = s.apl := (jrnPut_only _ _ _ _).same .apl (by decide)
@[simp] theorem jrnPut_pw (s : State) (i : Bool) (t : Byte) (d : List Byte) : (jrnPut s i t d).pw = s.pw := (jrnPut_only _ _ _ _).same .pw (by decide)
@[simp] theorem jrnPut_pending (s : State) (i : Bool) (t : Byte) (d : List Byte) : (jrnPut s i t d).pending = s.pending := (jrnPut_only _ _ _ _).same .pending (by decide)

@[simp] theorem noteConditions_now (s : State) : (noteConditions s).now = s.now := (noteConditions_only _).same .now (by decide)
@[simp] theorem noteConditions_freeCtr (s : State) : (noteConditions s).freeCtr = s.freeCtr := (noteConditions_only _).same .freeCtr (by decide)
@[simp] theorem noteConditions_rst (s : State) : (noteConditions s).rst = s.rst := (noteConditions_only _).same .rst (by decide)
@[simp] theorem noteConditions_sup (s : State) : (noteConditions s).sup = s.sup := (noteConditions_only _).same .sup (by decide)
@[simp] theorem noteConditions_clk (s : State) : (noteConditions s).clk = s.clk := (noteConditions_only _).same .clk (by decide)
@[simp] theorem noteConditions_tim (s : State) : (noteConditions s).tim = s.tim := (noteConditions_only _).same .tim (by decide)
@[simp] theorem noteConditions_ph (s : State) : (noteConditions s).ph = s.ph := (noteConditions_only _).same .ph (by decide)
@[simp] theorem noteConditions_sch (s : State) : (noteConditions s).sch = s.sch := (noteConditions_only _).same .sch (by decide)
@[simp] theorem noteConditions_acq (s : State) : (noteConditions s).acq = s.acq := (noteConditions_only _).same .acq (by decide)
@[simp] theorem noteConditions_aux (s : State) : (noteConditions s).aux = s.aux := (noteConditions_only _).same .aux (by decide)
@[simp] theorem noteConditions_bal (s : State) : (noteConditions s).bal = s.bal := (noteConditions_only _).same .bal (by decide)
@[simp] theorem noteConditions_gate (s : State) : (noteConditions s).gate = s.gate := (noteConditions_only _).same .gate (by decide)
@[simp] theorem noteConditions_sp (s : State) : (noteConditions s).sp = s.sp := (noteConditions_only _).same .sp (by decide)
@[simp] theorem noteConditions_np (s : State) : (noteConditions s).np = s.np := (noteConditions_only _).same .np (by decide)
@[simp] theorem noteConditions_mbx (s : State) : (noteConditions s).mbx = s.mbx := (noteConditions_only _).same .mbx (by decide)
@[simp] theorem noteConditions_cfg (s : State) : (noteConditions s).cfg = s.cfg := (noteConditions_only _).same .cfg (by decide)
@[simp] theorem noteConditions_store (s : State) : (noteConditions s).store = s.store := (noteConditions_only _).same .store (by decide)
@[simp] theorem noteConditions_safe (s : State) : (noteConditions s).safe = s.safe := (noteConditions_only _).same .safe (by decide)
@[simp] theorem noteConditions_tq (s : State) : (noteConditions s).tq = s.tq := (noteConditions_only _).same .tq (by decide)
@[simp] theorem noteConditions_en (s : State) : (noteConditions s).en = s.en := (noteConditions_only _).same .en (by decide)
@[simp] theorem noteConditions_core (s : State) : (noteConditions s).core = s.core := (noteConditions_only _).same .core (by decide)
@[simp] theorem noteConditions_mem (s : State) : (noteConditions s).mem = s.mem := (noteConditions_only _).same .mem (by decide)
@[simp] theorem noteConditions_ecc (s : State) : (noteConditions s).ecc = s.ecc := (noteConditions_only _).same .ecc (by decide)
@[simp] theorem noteConditions_mpu (s : State) : (noteConditions s).mpu = s.mpu := (noteConditions_only _).same .mpu (by decide)
@[simp] theorem noteConditions_dma (s : State) : (noteConditions s).dma = s.dma := (noteConditions_only _).same .dma (by decide)
@[simp] theorem noteConditions_ce (s : State) : (noteConditions s).ce = s.ce := (noteConditions_only _).same .ce (by decide)
@[simp] theorem noteConditions_apl (s : State) : (noteConditions s).apl = s.apl := (noteConditions_only _).same .apl (by decide)
@[simp] theorem noteConditions_jrn (s : State) : (noteConditions s).jrn = s.jrn := (noteConditions_only _).same .jrn (by decide)
@[simp] theorem noteConditions_pw (s : State) : (noteConditions s).pw = s.pw := (noteConditions_only _).same .pw (by decide)
@[simp] theorem noteConditions_pending (s : State) : (noteConditions s).pending = s.pending := (noteConditions_only _).same .pending (by decide)

@[simp] theorem tqImmediate_now (s : State) (c : Nat) : (tqImmediate s c).now = s.now := (tqImmediate_only _ _).same .now (by decide)
@[simp] theorem tqImmediate_freeCtr (s : State) (c : Nat) : (tqImmediate s c).freeCtr = s.freeCtr := (tqImmediate_only _ _).same .freeCtr (by decide)
@[simp] theorem tqImmediate_rst (s : State) (c : Nat) : (tqImmediate s c).rst = s.rst := (tqImmediate_only _ _).same .rst (by decide)
@[simp] theorem tqImmediate_sup (s : State) (c : Nat) : (tqImmediate s c).sup = s.sup := (tqImmediate_only _ _).same .sup (by decide)
@[simp] theorem tqImmediate_clk (s : State) (c : Nat) : (tqImmediate s c).clk = s.clk := (tqImmediate_only _ _).same .clk (by decide)
@[simp] theorem tqImmediate_tim (s : State) (c : Nat) : (tqImmediate s c).tim = s.tim := (tqImmediate_only _ _).same .tim (by decide)
@[simp] theorem tqImmediate_ph (s : State) (c : Nat) : (tqImmediate s c).ph = s.ph := (tqImmediate_only _ _).same .ph (by decide)
@[simp] theorem tqImmediate_sch (s : State) (c : Nat) : (tqImmediate s c).sch = s.sch := (tqImmediate_only _ _).same .sch (by decide)
@[simp] theorem tqImmediate_acq (s : State) (c : Nat) : (tqImmediate s c).acq = s.acq := (tqImmediate_only _ _).same .acq (by decide)
@[simp] theorem tqImmediate_aux (s : State) (c : Nat) : (tqImmediate s c).aux = s.aux := (tqImmediate_only _ _).same .aux (by decide)
@[simp] theorem tqImmediate_bal (s : State) (c : Nat) : (tqImmediate s c).bal = s.bal := (tqImmediate_only _ _).same .bal (by decide)
@[simp] theorem tqImmediate_prot (s : State) (c : Nat) : (tqImmediate s c).prot = s.prot := (tqImmediate_only _ _).same .prot (by decide)
@[simp] theorem tqImmediate_gate (s : State) (c : Nat) : (tqImmediate s c).gate = s.gate := (tqImmediate_only _ _).same .gate (by decide)
@[simp] theorem tqImmediate_cfg (s : State) (c : Nat) : (tqImmediate s c).cfg = s.cfg := (tqImmediate_only _ _).same .cfg (by decide)
@[simp] theorem tqImmediate_store (s : State) (c : Nat) : (tqImmediate s c).store = s.store := (tqImmediate_only _ _).same .store (by decide)
@[simp] theorem tqImmediate_safe (s : State) (c : Nat) : (tqImmediate s c).safe = s.safe := (tqImmediate_only _ _).same .safe (by decide)
@[simp] theorem tqImmediate_en (s : State) (c : Nat) : (tqImmediate s c).en = s.en := (tqImmediate_only _ _).same .en (by decide)
@[simp] theorem tqImmediate_core (s : State) (c : Nat) : (tqImmediate s c).core = s.core := (tqImmediate_only _ _).same .core (by decide)
@[simp] theorem tqImmediate_mem (s : State) (c : Nat) : (tqImmediate s c).mem = s.mem := (tqImmediate_only _ _).same .mem (by decide)
@[simp] theorem tqImmediate_ecc (s : State) (c : Nat) : (tqImmediate s c).ecc = s.ecc := (tqImmediate_only _ _).same .ecc (by decide)
@[simp] theorem tqImmediate_mpu (s : State) (c : Nat) : (tqImmediate s c).mpu = s.mpu := (tqImmediate_only _ _).same .mpu (by decide)
@[simp] theorem tqImmediate_dma (s : State) (c : Nat) : (tqImmediate s c).dma = s.dma := (tqImmediate_only _ _).same .dma (by decide)
@[simp] theorem tqImmediate_ce (s : State) (c : Nat) : (tqImmediate s c).ce = s.ce := (tqImmediate_only _ _).same .ce (by decide)
@[simp] theorem tqImmediate_apl (s : State) (c : Nat) : (tqImmediate s c).apl = s.apl := (tqImmediate_only _ _).same .apl (by decide)
@[simp] theorem tqImmediate_pw (s : State) (c : Nat) : (tqImmediate s c).pw = s.pw := (tqImmediate_only _ _).same .pw (by decide)
@[simp] theorem tqImmediate_pending (s : State) (c : Nat) : (tqImmediate s c).pending = s.pending := (tqImmediate_only _ _).same .pending (by decide)

@[simp] theorem balEnd_now (s : State) (m : Wells) (c : BitVec 4) : (balEnd s m c).now = s.now := (balEnd_only _ _ _).same .now (by decide)
@[simp] theorem balEnd_freeCtr (s : State) (m : Wells) (c : BitVec 4) : (balEnd s m c).freeCtr = s.freeCtr := (balEnd_only _ _ _).same .freeCtr (by decide)
@[simp] theorem balEnd_rst (s : State) (m : Wells) (c : BitVec 4) : (balEnd s m c).rst = s.rst := (balEnd_only _ _ _).same .rst (by decide)
@[simp] theorem balEnd_sup (s : State) (m : Wells) (c : BitVec 4) : (balEnd s m c).sup = s.sup := (balEnd_only _ _ _).same .sup (by decide)
@[simp] theorem balEnd_clk (s : State) (m : Wells) (c : BitVec 4) : (balEnd s m c).clk = s.clk := (balEnd_only _ _ _).same .clk (by decide)
@[simp] theorem balEnd_tim (s : State) (m : Wells) (c : BitVec 4) : (balEnd s m c).tim = s.tim := (balEnd_only _ _ _).same .tim (by decide)
@[simp] theorem balEnd_ph (s : State) (m : Wells) (c : BitVec 4) : (balEnd s m c).ph = s.ph := (balEnd_only _ _ _).same .ph (by decide)
@[simp] theorem balEnd_sch (s : State) (m : Wells) (c : BitVec 4) : (balEnd s m c).sch = s.sch := (balEnd_only _ _ _).same .sch (by decide)
@[simp] theorem balEnd_acq (s : State) (m : Wells) (c : BitVec 4) : (balEnd s m c).acq = s.acq := (balEnd_only _ _ _).same .acq (by decide)
@[simp] theorem balEnd_aux (s : State) (m : Wells) (c : BitVec 4) : (balEnd s m c).aux = s.aux := (balEnd_only _ _ _).same .aux (by decide)
@[simp] theorem balEnd_prot (s : State) (m : Wells) (c : BitVec 4) : (balEnd s m c).prot = s.prot := (balEnd_only _ _ _).same .prot (by decide)
@[simp] theorem balEnd_gate (s : State) (m : Wells) (c : BitVec 4) : (balEnd s m c).gate = s.gate := (balEnd_only _ _ _).same .gate (by decide)
@[simp] theorem balEnd_sp (s : State) (m : Wells) (c : BitVec 4) : (balEnd s m c).sp = s.sp := (balEnd_only _ _ _).same .sp (by decide)
@[simp] theorem balEnd_np (s : State) (m : Wells) (c : BitVec 4) : (balEnd s m c).np = s.np := (balEnd_only _ _ _).same .np (by decide)
@[simp] theorem balEnd_chn (s : State) (m : Wells) (c : BitVec 4) : (balEnd s m c).chn = s.chn := (balEnd_only _ _ _).same .chn (by decide)
@[simp] theorem balEnd_host (s : State) (m : Wells) (c : BitVec 4) : (balEnd s m c).host = s.host := (balEnd_only _ _ _).same .host (by decide)
@[simp] theorem balEnd_mbx (s : State) (m : Wells) (c : BitVec 4) : (balEnd s m c).mbx = s.mbx := (balEnd_only _ _ _).same .mbx (by decide)
@[simp] theorem balEnd_cfg (s : State) (m : Wells) (c : BitVec 4) : (balEnd s m c).cfg = s.cfg := (balEnd_only _ _ _).same .cfg (by decide)
@[simp] theorem balEnd_store (s : State) (m : Wells) (c : BitVec 4) : (balEnd s m c).store = s.store := (balEnd_only _ _ _).same .store (by decide)
@[simp] theorem balEnd_safe (s : State) (m : Wells) (c : BitVec 4) : (balEnd s m c).safe = s.safe := (balEnd_only _ _ _).same .safe (by decide)
@[simp] theorem balEnd_tq (s : State) (m : Wells) (c : BitVec 4) : (balEnd s m c).tq = s.tq := (balEnd_only _ _ _).same .tq (by decide)
@[simp] theorem balEnd_en (s : State) (m : Wells) (c : BitVec 4) : (balEnd s m c).en = s.en := (balEnd_only _ _ _).same .en (by decide)
@[simp] theorem balEnd_core (s : State) (m : Wells) (c : BitVec 4) : (balEnd s m c).core = s.core := (balEnd_only _ _ _).same .core (by decide)
@[simp] theorem balEnd_mem (s : State) (m : Wells) (c : BitVec 4) : (balEnd s m c).mem = s.mem := (balEnd_only _ _ _).same .mem (by decide)
@[simp] theorem balEnd_ecc (s : State) (m : Wells) (c : BitVec 4) : (balEnd s m c).ecc = s.ecc := (balEnd_only _ _ _).same .ecc (by decide)
@[simp] theorem balEnd_mpu (s : State) (m : Wells) (c : BitVec 4) : (balEnd s m c).mpu = s.mpu := (balEnd_only _ _ _).same .mpu (by decide)
@[simp] theorem balEnd_dma (s : State) (m : Wells) (c : BitVec 4) : (balEnd s m c).dma = s.dma := (balEnd_only _ _ _).same .dma (by decide)
@[simp] theorem balEnd_ce (s : State) (m : Wells) (c : BitVec 4) : (balEnd s m c).ce = s.ce := (balEnd_only _ _ _).same .ce (by decide)
@[simp] theorem balEnd_apl (s : State) (m : Wells) (c : BitVec 4) : (balEnd s m c).apl = s.apl := (balEnd_only _ _ _).same .apl (by decide)
@[simp] theorem balEnd_jrn (s : State) (m : Wells) (c : BitVec 4) : (balEnd s m c).jrn = s.jrn := (balEnd_only _ _ _).same .jrn (by decide)
@[simp] theorem balEnd_pw (s : State) (m : Wells) (c : BitVec 4) : (balEnd s m c).pw = s.pw := (balEnd_only _ _ _).same .pw (by decide)
@[simp] theorem balEnd_pending (s : State) (m : Wells) (c : BitVec 4) : (balEnd s m c).pending = s.pending := (balEnd_only _ _ _).same .pending (by decide)

@[simp] theorem gateNotify_now (s : State) : (gateNotify s).now = s.now := (gateNotify_only _).same .now (by decide)
@[simp] theorem gateNotify_freeCtr (s : State) : (gateNotify s).freeCtr = s.freeCtr := (gateNotify_only _).same .freeCtr (by decide)
@[simp] theorem gateNotify_rst (s : State) : (gateNotify s).rst = s.rst := (gateNotify_only _).same .rst (by decide)
@[simp] theorem gateNotify_sup (s : State) : (gateNotify s).sup = s.sup := (gateNotify_only _).same .sup (by decide)
@[simp] theorem gateNotify_clk (s : State) : (gateNotify s).clk = s.clk := (gateNotify_only _).same .clk (by decide)
@[simp] theorem gateNotify_tim (s : State) : (gateNotify s).tim = s.tim := (gateNotify_only _).same .tim (by decide)
@[simp] theorem gateNotify_ph (s : State) : (gateNotify s).ph = s.ph := (gateNotify_only _).same .ph (by decide)
@[simp] theorem gateNotify_sch (s : State) : (gateNotify s).sch = s.sch := (gateNotify_only _).same .sch (by decide)
@[simp] theorem gateNotify_acq (s : State) : (gateNotify s).acq = s.acq := (gateNotify_only _).same .acq (by decide)
@[simp] theorem gateNotify_aux (s : State) : (gateNotify s).aux = s.aux := (gateNotify_only _).same .aux (by decide)
@[simp] theorem gateNotify_bal (s : State) : (gateNotify s).bal = s.bal := (gateNotify_only _).same .bal (by decide)
@[simp] theorem gateNotify_prot (s : State) : (gateNotify s).prot = s.prot := (gateNotify_only _).same .prot (by decide)
@[simp] theorem gateNotify_cfg (s : State) : (gateNotify s).cfg = s.cfg := (gateNotify_only _).same .cfg (by decide)
@[simp] theorem gateNotify_store (s : State) : (gateNotify s).store = s.store := (gateNotify_only _).same .store (by decide)
@[simp] theorem gateNotify_safe (s : State) : (gateNotify s).safe = s.safe := (gateNotify_only _).same .safe (by decide)
@[simp] theorem gateNotify_tq (s : State) : (gateNotify s).tq = s.tq := (gateNotify_only _).same .tq (by decide)
@[simp] theorem gateNotify_en (s : State) : (gateNotify s).en = s.en := (gateNotify_only _).same .en (by decide)
@[simp] theorem gateNotify_core (s : State) : (gateNotify s).core = s.core := (gateNotify_only _).same .core (by decide)
@[simp] theorem gateNotify_mem (s : State) : (gateNotify s).mem = s.mem := (gateNotify_only _).same .mem (by decide)
@[simp] theorem gateNotify_ecc (s : State) : (gateNotify s).ecc = s.ecc := (gateNotify_only _).same .ecc (by decide)
@[simp] theorem gateNotify_mpu (s : State) : (gateNotify s).mpu = s.mpu := (gateNotify_only _).same .mpu (by decide)
@[simp] theorem gateNotify_dma (s : State) : (gateNotify s).dma = s.dma := (gateNotify_only _).same .dma (by decide)
@[simp] theorem gateNotify_ce (s : State) : (gateNotify s).ce = s.ce := (gateNotify_only _).same .ce (by decide)
@[simp] theorem gateNotify_apl (s : State) : (gateNotify s).apl = s.apl := (gateNotify_only _).same .apl (by decide)
@[simp] theorem gateNotify_jrn (s : State) : (gateNotify s).jrn = s.jrn := (gateNotify_only _).same .jrn (by decide)
@[simp] theorem gateNotify_pw (s : State) : (gateNotify s).pw = s.pw := (gateNotify_only _).same .pw (by decide)
@[simp] theorem gateNotify_pending (s : State) : (gateNotify s).pending = s.pending := (gateNotify_only _).same .pending (by decide)

end Sys2Proof.Machine
end

