-- ==== Sys2Proof/Tests/Slice0.lean ====
section
/-! SUPPORT. Tests: a refused ill-formed term for each check of WellFormed, witnesses that the hypotheses of every statement
can be met, and small examples, their results worked out by hand from the spec. -/

namespace Sys2Proof.Tests

open Sys2Proof Sys2Proof.Machine

set_option Elab.async false

/-! ## Helpers -/

/-- The device after reset release: it runs, in ACTIVE, in firmware mode, the protection unit off. -/
def base : State := { State.reset with rst.startDue := false }

/-- The anchor. -/
def asAnchor (s : State) : State := { s with cfg.roleCfg := 0x2815 }

/-- The anchor with torque enabled. -/
def withTorque : State := asAnchor { base with tq.rd := .enabled, tq.ten := true }

/-- A password session of mailbox 0. -/
def login (s : State) : State := { s with safe.sess := s.safe.sess.set 0 (some 0) }

/-- Both ports are operational. -/
def online (s : State) : State := { s with sup.vport := true, sp.up := true, np.up := true }

/-- An enumerated device. -/
def member (a : BitVec 7) (s : State) : State := { s with chn.addr := a, chn.enumDone := true }

/-- The host ports answer. -/
def hostUp (s : State) : State := { s with host.ready := true }

/-- A message of the own host port in mailbox 0. -/
def msg (p : List Byte) : Msg :=
  { mbx := 0, tag := 0, src := none, lseq := 0, port := .south, bcast := false, env := false, payload := p }

/-- A message that waits. -/
def wait (v : BitVec 16) : Waiting := { verb := v, msg := msg [], env := none }

/-- A frame. -/
def frame (type : BitVec 4) (dst : BitVec 7) (p : List Byte) : Frame :=
  { type := type, flt := 0, dst := dst, crumb := false, src := 1, lseq := 5, rtx := false, cv := false, payload := p }

/-- A commissioned device whose connection 7 is open. -/
def connected (s : State) : State :=
  { s with safe.conn := some { id := 7, texp := 100, sseq := 0, losts := 0, reps := 0, restart := 0 }, prot.loaded := true,
           store.record.confirmed := some (sealNow s) }

/-- An envelope with a sequence number and safety data, its check formed as 15 R563 says. -/
def envelope (s : State) (v q : BitVec 16) (d : List Byte) : List Byte :=
  let e := leBytes 2 q.toNat ++ [BitVec.ofNat 8 d.length, 0] ++ d
  e ++ leBytes 4 (schk s 7 v e).toNat

/-- A message in an envelope. -/
def envMsg (p : List Byte) : Msg := { msg p with env := true }

/-- The state that a command answers. -/
def after (c : Instr) (s : State) : State :=
  match exec c s with
  | .next t => t
  | _ => s

/-- A span. -/
def span (source : BitVec 2) : Span :=
  { seq := 3, point := 0, source := source, win := 0, hold := false, unsched := false, instant := 0, start := 0, stale := 0,
    bal := 0, trip := 0, range := 0, scTrip := false, acc := true }

/-- A snapshot. -/
def snap : Snapshot :=
  { seq := 3, point := 0, source := 0, win := 0, hold := false, unsched := false, instant := 0,
    words := List.replicate 19 0, start := 0 }

/-- A tick. -/
def aTick (n : BitVec 16) : Tick := { tseq := n, instant := 0, point := 0, hold := false, sent := false, late := false }

/-- A core register set. -/
def setR (i : Fin 16) (v : Word) (s : State) : State := { s with core.g := s.core.g.set i v }

/-! ## WellFormed: one ill-formed term for each check, which the check refuses -/

theorem ill_resultReady : (Instr.resultReady (List.replicate 20 { code := 0, overload := false })).wellFormed = false := by decide
theorem ill_openWireDone : (Instr.openWireDone (List.replicate 19 { code := 0, overload := false }) []).wellFormed = false := by decide
theorem ill_openWireDone2 : (Instr.openWireDone [] (List.replicate 19 { code := 0, overload := false })).wellFormed = false := by decide
theorem ill_xc1Xc2Run : (Instr.xc1Xc2Run (List.replicate 19 0) 0).wellFormed = false := by decide
theorem ill_switchTestDone :
    (Instr.switchTestDone (List.replicate 19 { vc := 0, vo := 0, vd := 0, clipped := false })).wellFormed = false := by decide
theorem ill_lineFrame : (Instr.frameEndReceived .south
    { gen := .el2, idle := true, levels := List.replicate 2681 true }).wellFormed = false := by decide +kernel
theorem ill_lineFrame1 : (Instr.frameEndReceived .south
    { gen := .el1, idle := true, levels := List.replicate 4267 true }).wellFormed = false := by decide +kernel
theorem ill_frameTypes :
    ([Instr.verbFrameReceived .south (frame 2 0 []), .replyFrameReceived .south (frame 1 0 []),
      .recordFrameReceived .south (frame 4 0 []), .faultFrameReceived .south (frame 3 0 []), .tickReceived .south (frame 6 0 []) 0,
      .beatReceived .south (frame 5 0 []) 0, .cancelReceived .south (frame 8 0 []), .enumReceived .south (frame 7 0 []),
      .calReceived .south (frame 10 0 []) 0 0 false, .ackReceived .south (frame 9 0 [])].map Instr.wellFormed) =
      List.replicate 10 false := by decide
theorem ill_frameLength : (Instr.verbFrameReceived .south (frame 1 0 (List.replicate 257 0))).wellFormed = false := by decide +kernel
theorem ill_msg : (Instr.idRead (msg (List.replicate 241 0))).wellFormed = false := by decide +kernel
theorem ill_bc : (Instr.bc 15 0).wellFormed = false := by decide
theorem ill_mfc : (Instr.mfc 0 13).wellFormed = false := by decide
theorem ill_mtc : (Instr.mtc 13 0).wellFormed = false := by decide
theorem ill_bmov : (Instr.bmov 1 2 1).wellFormed = false ∧ (Instr.bmov 1 0 2).wellFormed = false := by decide
theorem ill_bfil : (Instr.bfil 1 1 2).wellFormed = false ∧ (Instr.bfil 0 1 2).wellFormed = false := by decide
theorem ill_dmaTrigger : (Instr.dmaTrigger 0).wellFormed = false ∧ (Instr.dmaTrigger 7).wellFormed = false := by decide
theorem ill_supervisionFail : (Instr.supervisionFail 0xD413).wellFormed = false := by decide
/-- A patrol reading: every cell at a value in 10 µV, the rest normal. -/
def patrol (v : Int) : PatrolReading :=
  { cells := List.replicate 18 v, vrefc := 2500000, die := [1600, 1600, 1600, 1600],
    ntcA := List.replicate 8 30000, ntcB := List.replicate 8 30000, xc3A := 50000, xc3B := 50000 }

theorem ill_patrolCheck : (Instr.patrolCheck { first := { patrol 0 with die := List.replicate 5 0 }, again := patrol 0, done := 0 }).wellFormed = false ∧
    (Instr.patrolCheck { first := patrol 0, again := { patrol 0 with die := List.replicate 5 0 }, done := 0 }).wellFormed = false ∧
    (Instr.patrolCheck { first := patrol 0, again := patrol 0, done := 3 }).wellFormed = true := by decide
theorem ill_uartRequest : (Instr.uartRequest { bytes := [1], gaps := 393217 }).wellFormed = false ∧ (Instr.uartRequest { bytes := [1], gaps := 393216 }).wellFormed = true := by
  decide
theorem ill_drift : (Instr.energyDecision true 78644).wellFormed = false ∧ (Instr.energyDecision true 78643).wellFormed = true ∧
    (Instr.rundownCheck (.safety false) 78644).wellFormed = false ∧ (Instr.rundownCheck (.safety false) 78643).wellFormed = true ∧
    (Instr.rundownCheck .firmware 0).wellFormed = true := by decide
theorem well_formed_ones : (Instr.bc 14 0).wellFormed = true ∧ (Instr.bfil 1 0 2).wellFormed = true ∧
    (Instr.dmaTrigger 6).wellFormed = true ∧ (Instr.idRead (msg [])).wellFormed = true := by decide

/-! ## Witnesses: the hypotheses of each statement, clause by clause -/

theorem witness_StepRunsFrontCommand :
    ({ base with pending := [.sync] } : State).pending = .sync :: [] ∧ base.pending = [] := by decide

theorem witness_StepKeepsMemoryForm :
    MemOk { base with mem := [(0x20000000, 5)] } ∧ ∃ t, step { base with mem := [(0x20000000, 5)] } = .next t :=
  ⟨by unfold MemOk; decide, _, rfl⟩

theorem witness_StepKeepsTorqueInvariant :
    TorqueOk { withTorque with pending := [.commaPulse false] } ∧
      ∃ t, step { withTorque with pending := [.commaPulse false] } = .next t :=
  ⟨by unfold TorqueOk; decide, _, rfl⟩

theorem witness_StepKeepsLiveSeenAndGrants :
    FltOk { base with host.live := 8, host.seen := 12 } ∧ SwitchOk { base with bal.closed := 1, bal.grant := 5 } ∧
      (∃ t, step { base with host.live := 8, host.seen := 12 } = .next t) ∧
      ∃ t, step { base with bal.closed := 1, bal.grant := 5 } = .next t :=
  ⟨by unfold FltOk; decide, by unfold SwitchOk; decide, ⟨_, rfl⟩, _, rfl⟩

theorem witness_StepKeepsFactoryData : ∃ t, step base = .next t := ⟨_, rfl⟩

theorem witness_TickAdvancesTime :
    running State.reset = false ∧ active State.reset = false ∧ active base = true ∧ base.sp.brkDue = false ∧
      base.np.brkDue = false ∧ base.chn.cal = none ∧ base.chn.calDone = [] ∧ base.pw.resetVerb = [] ∧ base.core.fstop = false ∧
      base.core.owed = none ∧ unknownSvc base = false ∧ base.core.waiting = false := by decide

theorem witness_FullResetLeaves : base.rst.held = false := by decide

/-- A message of `RESET` whose event has been given, one that is a broadcast. -/
def resetting (b : Bool) : State := { base with pw.resetVerb := [({ msg [] with bcast := b }, false)] }

/-- The head still has a broadcast to send. -/
def broadcasting : State :=
  { member 1 (resetting true) with sup.vport := true, np.txq := [frame 1 0 (leBytes 2 0x0F01)] }

theorem witness_ResetSourcesAndBrownOut :
    (∀ p ∈ [Port.south, .north], let s := setPort base p { portOf base p with brkRelay := true }
     (portOf s p).brkRelay = true ∧ (portOf s (otherPort p)).brkIn = false) ∧
      (∀ p ∈ [Port.south, .north], let s := setPort base p { portOf base p with brkIn := true }
       (portOf s p).brkIn = true ∧ (portOf s (otherPort p)).brkRelay = false ∧ (portOf s (otherPort p)).brkDue = false) ∧
      (∀ p ∈ [Port.south, .north],
       let s := setPort (setPort base p { portOf base p with brkIn := true }) (otherPort p) { portOf base p with brkDue := true }
       (portOf s p).brkIn = true ∧ (portOf s (otherPort p)).brkDue = true) ∧ (portOf base .south).brkIn = false ∧
      running (resetting false) = true ∧ (msg [], false) ∈ (resetting false).pw.resetVerb ∧
      bcastWaits (resetting false) (msg []) = false ∧ running broadcasting = true ∧ broadcasting.pw.resetVerb ≠ [] ∧
      (∀ x ∈ broadcasting.pw.resetVerb, bcastWaits broadcasting x.1 = true) ∧
      active { base with rst.wdRun := true } = true ∧ ({ base with rst.wdRun := false } : State).rst.wdRun = false ∧
      ({ base with rst.fstopTimer := true } : State).rst.fstopTimer = true ∧
      ({ base with rst.held := true } : State).rst.held = true ∧ base.rst.held = false ∧ 1 ≤ incFree base := by decide

set_option maxRecDepth 100000 in
theorem witness_ResetReleaseAndSealCheck :
    State.reset.rst.startDue = true ∧ State.reset.sup.por = true ∧ running base = true ∧ sealChecks base = true ∧
      sealChecks { base with store.record.crc := 0 } = false ∧ jrnRoom { base with store.record.crc := 0 } = true ∧ State.reset.rst.latch = 1 ∧
      (let s : State := { State.reset with rst.latch := 4 }
       s.rst.startDue = true ∧ s.rst.latch ≠ 1) ∧ testHeld { State.reset with rst.test := true, rst.held := true } = true := by decide +kernel

theorem witness_SuppliesComeAndGo :
    isAnchor base = false ∧ isAnchor withTorque = true ∧ torqueOn withTorque = true ∧ (online base).sup.vport = true ∧
      portEnabled (online base) .south = true ∧ portEnabled (online base) .north = true ∧
      (base.sp.brkDue || base.np.brkDue) = false ∧ isAnchor (asAnchor base) = true ∧ torqueOn (asAnchor base) = false ∧ (asAnchor base).tq.enabling = [] ∧
      ({ asAnchor base with tq.enabling := [wait 0x0706] } : State).tq.enabling ≠ [] ∧
      (let s : State := { base with sp.brkRelay := true }
       s.rst.held = false ∧ (s.sp.brkRelay || s.np.brkRelay) = true) ∧ (base.sp.brkRelay || base.np.brkRelay) = false ∧
      ({ base with sup.vio := false } : State).sup.vio = false ∧
      (∀ b : Bool, let s : State := { withTorque with sup.vio := true, sup.por := true, tq.pulseA := b, tq.pulseB := !b }
       pinTenA s = .high ∨ pinTenB s = .high) := by decide

/-- A start-up acquisition that is clean. -/
def cleanStart : State :=
  { base with clk.pllLock := true, cfg.ntcCfg := 0, aux.xcRan := 0x1F, prot.loaded := true, prot.romOk := true, prot.oweOv := 0,
              prot.oweUv := 0, acq.startOw := true, acq.startDone := some (List.replicate 19 0) }

theorem witness_StartupReleasesFaultLine :
    active cleanStart = true ∧ fwOn cleanStart = true ∧ startReady cleanStart = true ∧
      startReady { base with aux.ntcCfg := 0xF00 } = false ∧
      cleanStart.clk.pllLock = true ∧ cleanStart.acq.startRun = false ∧ cleanStart.prot.everRel = false ∧
      base.clk.pllLock = false ∧ ({ cleanStart with prot.everRel := true } : State).prot.everRel = true ∧
      cleanStart.acq.startDone = some (List.replicate 19 0) ∧
      startClean { cleanStart with acq.startDone := none } (List.replicate 19 0) = true ∧ cleanStart.prot.loaded = true ∧
      cleanStart.prot.romOk = true ∧
      ownFault { cleanStart with acq.startDone := none, prot.unclean := false, prot.everRel := true } = false ∧
      startClean { base with acq.startDone := none } (List.replicate 19 0) = false ∧
      startClean { cleanStart with acq.startDone := none, acq.owFail := 1 } (List.replicate 19 0) = false := by decide

/-- An anchor with an encoder in mode ENC_X4. -/
def encoder : State :=
  { asAnchor base with cfg.phCfg := 0xB, ph.tbase := .tracking, ph.firstIndex := false }

theorem witness_ClocksTimeoutsAndClockCheck :
    active base = true ∧ base.clk.pllLock = false ∧ active State.reset = false ∧
      ({ base with clk.pllLock := true } : State).clk.pllLock = true ∧ bitOf base.cfg.clkCfg 1 = true ∧
      (({ base with clk.xtalOk := true } : State).clk.xtalOk) = true ∧
      jrnRoom { base with clk.xtalOk := true } = true ∧ isAnchor base = false ∧
      ({ asAnchor base with tq.conflict := true } : State).tq.conflict = true ∧
      BitVec.ofNat 3 (b2n true + 2 * b2n false + 4 * b2n false) &&& base.clk.disagree = 0 ∧
      BitVec.ofNat 3 (b2n true + 2 * b2n false + 4 * b2n false) &&& ({ base with clk.disagree := 1 } : State).clk.disagree ≠ 0 := by
  decide

theorem witness_PhaseTracker :
    active encoder = true ∧ isAnchor encoder = true ∧ encMode encoder.cfg = true ∧ bitOf encoder.cfg.phCfg 3 = true ∧
      ¬ (true ≠ encoder.ph.a ∧ false ≠ encoder.ph.b) ∧
      edgeDir (phMode encoder.cfg) encoder.ph.a encoder.ph.b true false = some false ∧
      (false != bitOf encoder.cfg.phCfg 4) = encoder.ph.rev ∧ encoder.ph.tbase = .tracking ∧ encoder.ph.pos < phCycle encoder ∧
      true ≠ encoder.ph.a ∧ true ≠ encoder.ph.b ∧
      edgeDir 2 false false false true = none ∧ encMode { encoder.cfg with phCfg := 2 } = true ∧
      (encMode (asAnchor base).cfg = false ∧ isAnchor base = false ∧ active State.reset = false) ∧
      encoder.ph.z = false ∧ encoder.ph.firstIndex = false ∧
      ({ encoder with ph.z := true } : State).ph.z = true ∧ posDist encoder encoder.cfg.phZofs.toNat ≤ encoder.cfg.phZtol.toNat ∧
      ({ encoder with ph.firstIndex := true } : State).ph.firstIndex = true ∧ bitOf { encoder.cfg with phCfg := 3 }.phCfg 3 = false ∧
      phMode { encoder.cfg with phCfg := 4 } = 4 ∧ encoder.ph.zcAt = none ∧ encoder.ph.tbase ≠ .holdover ∧
      5 * ctPerMs ≤ ({ encoder with now := 5 * ctPerMs + 1, ph.zcAt := some 1 } : State).now - 1 ∧
      ({ encoder with now := 5, ph.zcAt := some 1 } : State).now - 1 < 5 * ctPerMs ∧ phMode encoder.cfg ≠ 0 := by decide

/-- An anchor in MAINS mode, tracking, close to its point 0. -/
def mains : State :=
  { asAnchor base with cfg.phCfg := 4, ph.tbase := .tracking, ph.zcPeriod := 3932160, ph.pos := 64836,
                       cfg.phPoint := base.cfg.phPoint.set 0 0x82000000 }

theorem witness_SchedulerFixesAndStrobes :
    active mains = true ∧ isAnchor mains = true ∧ mains.tq.conflict = false ∧ bitOf mains.cfg.phPoint[(0 : Fin 16)] 31 = true ∧
      dirOk mains mains.cfg.phPoint[(0 : Fin 16)] = true ∧ mains.sch.passed.getLsbD 0 = false ∧ mains.ph.tbase ≠ .settling ∧
      predictAt mains (fld mains.cfg.phPoint[(0 : Fin 16)] 23 0) = some (2752512000, 65536) ∧
      2752512000 * 125 ≤ (lead125 mains + 25 * 24576) * 65536 ∧ instantMp mains 2752512000 65536 = 1750 ∧
      leadHolds mains ((1750 : Int) * 24 - mains.tim.cnt) = true ∧ mains.sch.lastFix = none ∧
      (∀ l ∈ [1494, 1495], ({ mains with sch.lastFix := some l } : State).sch.lastFix = some l) ∧ 1494 + 256 ≤ 1750 ∧
      1750 < 1495 + 256 ∧
      (let s : State := { mains with ph.pos := 65530 }
       predictAt s (fld s.cfg.phPoint[(0 : Fin 16)] 23 0) = some (23592960, 65536) ∧ instantMp s 23592960 65536 = 15 ∧
         leadHolds s ((15 : Int) * 24 - s.tim.cnt) = false) ∧
      (let s : State := { mains with ph.pos := 60000 }
       predictAt s (fld s.cfg.phPoint[(0 : Fin 16)] 23 0) = some (5536 * 3932160, 65536) ∧
         (lead125 s + 25 * 24576) * 65536 < 5536 * 3932160 * 125 ∧ s.ph.tbase ≠ .settling) ∧
      (let s : State := { mains with ph.tbase := .settling }
       s.ph.tbase = .settling ∧ pointReached s (fld s.cfg.phPoint[(0 : Fin 16)] 23 0) = false ∧
         pointReached { s with ph.pos := 0 } (fld s.cfg.phPoint[(0 : Fin 16)] 23 0) = true) ∧
      ({ mains with sch.tdel := 1 } : State).sch.tdel ≠ 0 ∧
      bitOf mains.cfg.phPoint[(1 : Fin 16)] 31 = false ∧ isAnchor base = false ∧
      ({ mains with sch.passed := 1 } : State).sch.passed.getLsbD 0 = true ∧
      dirOk mains 0x81000000 = false ∧
      (({ base with sch.ticks := [aTick 3] } : State).sch.ticks.find? fun t => t.tseq == 3) = some (aTick 3) ∧
      ctAhead { base with sch.ticks := [aTick 3] } (aTick 3).instant ≤ 0 ∧ 0 < ctAhead base { aTick 3 with instant := 1 }.instant ∧
      (base.sch.ticks.find? fun t => t.tseq == 3) = none := by decide +kernel

theorem witness_AnchorSendsTimeFrames :
    mayTime (asAnchor base) = true ∧ mayTime base = false ∧
      (let s : State := { asAnchor base with now := 5 * ctPerMs }
       mayTime s = true ∧ beatDue s = true ∧ portBusy (latchGen (latchGen s .south) .north) .south = false ∧
         portBusy (latchGen (latchGen s .south) .north) .north = false) ∧
      beatDue { asAnchor base with sp.txq := [frame 5 0 []] } = false ∧
      (∀ m ∈ [(0 : Byte), 1], let s : State := { asAnchor base with sch.ticks := [{ aTick 3 with instant := 2000 }], chn.m := m }
       mayTime s = true ∧ unsentTick s.sch.ticks = some { aTick 3 with instant := 2000 } ∧ leadKept s 2000 = true ∧
         s.chn.setq = [] ∧ windowFree s = true ∧ s.chn.m.toNat ≤ s.chn.ticksSince + 1) ∧
      (let s : State := { asAnchor base with chn.el1 := true, chn.winAt := some 0 }
       windowFree s = false) ∧ leadKept (asAnchor base) (aTick 3).instant = false ∧ unsentTick ({ asAnchor base with sch.ticks := [aTick 3] } : State).sch.ticks = some (aTick 3) ∧
      unsentTick base.sch.ticks = none ∧ mayTime { asAnchor base with sch.cancelQ := [(3, 1)] } = true ∧
      base.sch.cancelQ = [] ∧
      (let s : State := { asAnchor base with pw.firstBeat := true, now := 8 * ctPerMs }
       s.pw.firstBeat = true ∧ 8 * ctPerMs ≤ s.now - s.pw.wokeAt ∧ mayTime { s with pw.firstBeat := false } = true) ∧
      base.pw.firstBeat = false ∧ base.now - base.pw.wokeAt < 8 * ctPerMs := by decide +kernel

theorem witness_ResultsKeptReleasedAndRequested :
    (∀ src ∈ [(0 : BitVec 2), 1, 2], let s : State := { base with acq.spans := [span src] }
     active s = true ∧ s.acq.spans = span src :: [] ∧ (span src).source = src ∧ s.sch.ttx = none ∧ isAnchor s = false ∧
       s.apl.suspended = false) ∧ ({ base with apl.state := .running } : State).apl.state = .running ∧
      base.apl.state ≠ .running ∧ ({ base with sch.ttx := some 5 } : State).sch.ttx = some 5 ∧
      chanOff { base.cfg with curCfg := 0 } 0 = true ∧ base.acq.spans = [] ∧
      active { base with acq.held := [snap] } = true ∧ base.apl.suspended = false ∧
      ({ base with acq.held := [snap], apl.suspended := true } : State).apl.suspended = true ∧
      ({ base with acq.req := some 9 } : State).acq.req = some 9 ∧ active { base with acq.req := some 9 } = true ∧
      quietOk { base with acq.req := some 9 } = true ∧ quietOk { base with bal.closed := 1 } = false ∧ base.acq.req = none := by decide

theorem witness_OpenWireAndCrossChecks :
    (active base = true ∧ base.acq.ow = .idle ∧ base.acq.startDone = none ∧ base.acq.owDone = none ∧ noSpan base = true ∧
      base.sch.ticks = [] ∧ base.bal.testRun = 0) ∧
      (let s : State := { base with acq.startDone := some [], acq.startOw := true, acq.owDone := some 0, now := 196608000 }
       s.acq.startOw = true ∧ 0 + fld s.cfg.acqCfg 15 8 * 100 * ctPerMs ≤ s.now) ∧
      ({ base with bal.testRun := 1 } : State).bal.testRun ≠ 0 ∧
      (let s : State := { base with acq.startDone := some [] }
       s.acq.startDone ≠ none ∧ s.acq.startOw = false) ∧
      noSpan { base with acq.spans := [span 0] } = false ∧ ({ base with sch.ticks := [aTick 3] } : State).sch.ticks ≠ [] ∧
      (let s : State := { base with acq.owDone := some 5 }
       s.acq.owDone = some 5 ∧ s.now < 5 + fld s.cfg.acqCfg 15 8 * 100 * ctPerMs) ∧
      (let s : State := { base with now := 1966080000 }
       active s = true ∧ s.acq.ow = .idle ∧ s.acq.owDone.getD s.rst.releaseAt + 10 * (fld s.cfg.acqCfg 15 8 * 100 * ctPerMs) ≤ s.now) ∧
      base.now < base.acq.owDone.getD base.rst.releaseAt + 10 * (fld base.cfg.acqCfg 15 8 * 100 * ctPerMs) ∧
      (let s : State := { base with acq.ow := .check, acq.owStep := .reference, acq.spans := [span 0] }
       s.acq.ow = .check ∧ s.acq.owStep = .reference ∧ spanOpen s (span 0) = true ∧ hasW (usedMask s.cfg) 0 = true) ∧
      (let s : State := { base with acq.ow := .check, acq.owStep := .sinks, acq.owEven := true }
       owSinks s = 0x2AAAA) ∧
      (let s : State := { base with acq.ow := .check, acq.owStep := .over }
       active s = true ∧ s.acq.ow = .check ∧ s.acq.owStep = .over) ∧ base.acq.ow ≠ .check ∧ base.acq.owStep ≠ .over ∧
      (let s : State := { base with acq.ow := .xc, acq.owStep := .over, acq.xcDue := true }
       active s = true ∧ s.acq.xcDue = true ∧ s.acq.ow = .xc ∧ s.acq.owStep = .over) ∧ base.acq.xcDue = false ∧
      ¬ (99600 ≤ 99599 ∧ 99599 ≤ 100400) ∧ ({ base with aux.xcFail := 2 } : State).aux.xcFail.getLsbD 1 = true ∧
      active State.reset = false := by decide +kernel

theorem witness_ThermistorAndDieConversions :
    active base = true ∧ base.aux.ntcRun = false ∧ fwOn base = true ∧ base.aux.frame % 4 = (0 : Fin 4).val ∧
      base.aux.frame % 4 ≠ (3 : Fin 4).val ∧
      (let s : State := { base with aux.slots := 3, aux.frame := 2 }
       slotFree s = true ∧ slotFree base = false) ∧
      (let s : State := { base with aux.ntcRun := true, aux.ntcIdx := 9 }
       active s = true ∧ s.aux.ntcRun = true ∧ s.aux.ntcB = false ∧ s.aux.ntcIdx = 9) ∧
      (∀ b : Bool, ∀ i ∈ [0, 7], let s : State := { base with aux.ntcRun := true, aux.ntcIdx := i, aux.ntcB := b, aux.slots := 1, aux.frame := 16 }
       active s = true ∧ s.aux.ntcRun = true ∧ slotFree s = true ∧ s.aux.ntcIdx < 8 ∧ s.aux.ntcB = b) ∧
      (∀ b : Bool, let s : State := { base with aux.ntcRun := true, aux.ntcB := b, aux.ntcIdx := 8, aux.slots := 1, aux.frame := 16 }
       slotFree s = true ∧ s.aux.ntcRun = true ∧ s.aux.ntcB = b ∧ s.aux.ntcIdx = 8) ∧
      ({ base with aux.ntcDone := true } : State).aux.ntcDone = true ∧
      (after (.dieConversion 0 8000) base).aux.tmax.toInt = 8000 ∧ extFet base = false := by decide

/-! Balancing, protection, gate. -/

/-- A well's request. -/
def aWell : BalWell := { BalWell.reset with req := true, left := 1000 }

/-- Well 1 requests balancing, its switch conducts under a grant. -/
def bleeding : State :=
  { base with bal.wells := base.bal.wells.set 0 aWell, bal.closed := 1, bal.grant := 1 }

theorem witness_BalancingFramesAndEnds :
    running base = true ∧ extFet base = false ∧ fwOn base = true ∧ fwOn { base with clk.coreDead := true } = false ∧
      base.pw.balGone = false ∧ ({ base with pw.balGone := true } : State).pw.balGone = true ∧ active bleeding = true ∧ bleeding.bal.wells[(0 : Well)].req = true ∧
      base.bal.wells[(17 : Well)].req = false ∧ reqMask base = 0 ∧ reqMask bleeding ≠ 0 ∧ jrnRoom bleeding = true ∧
      8000 ≤ ({ base with aux.tmax := 8000 } : State).aux.tmax.toInt := by decide

/-- A `BAL_TEST` that waits. -/
def aTest : TestVerb :=
  { w := wait 0x0405, todo := 0, todoUv := 0, pass := 1, passUv := 0, other := 0, otherUv := 0 }

/-- Well 1's test run. -/
def testing : State := { bleeding with bal.closed := 0, bal.testRun := 1 }

theorem witness_SwitchTests :
    (let s : State := { bleeding with bal.due := 1 }
     fwOn s = true ∧ noSpan s = true ∧ s.sch.ticks = [] ∧ s.acq.req = none ∧ s.acq.ow = .idle ∧ s.bal.testRun = 0 ∧
       dieHot s = false ∧ testWanted s ≠ 0) ∧ ({ base with acq.req := some 0 } : State).acq.req ≠ none ∧
      dieHot { base with aux.tmax := 8000 } = true ∧
      noSpan { base with acq.spans := [span 0] } = false ∧ ({ base with sch.ticks := [aTick 3] } : State).sch.ticks ≠ [] ∧
      testWanted base = 0 ∧ (bleeding.bal.wells[(0 : Well)].req = true ∧ hasW (cellMask bleeding.cfg) 0 = true) ∧
      (let s : State := { testing with now := 23348, bal.testEven := true }
       fwOn s = true ∧ s.bal.testRun ≠ 0 ∧ testOver s = true) ∧ testOver testing = false ∧ active testing = true ∧ testing.bal.testRun ≠ 0 ∧ hasW (testing.bal.testRun &&& usedMask testing.cfg) 0 = true ∧
      (let s : State := { base with bal.btest := [aTest] }
       active s = true ∧ s.bal.btest = aTest :: [] ∧ noWaiters s aTest.w.verb aTest.w.msg = true) := by decide

/-- Each verdict that the statement names is reached (resistors of 15 ohm). -/
theorem witness_switchVerdicts :
    (let s : State := { testing with bal.rbUse := Vector.replicate 5 0x96969696 }
     switchVerdict s 0 { vc := 3050001, vo := 3000000, vd := 0, clipped := false } = .openFail ∧
       switchVerdict s 0 { vc := 3050000, vo := 3000000, vd := 0, clipped := false } = .closedFail ∧
       switchVerdict s 0 { vc := 3850000, vo := 3850000, vd := 100000, clipped := false } = .pass (some 1000000)) := by decide

/-- The gate in a state. -/
def gateIn (g : GState) : State := { base with gate.state := g }

theorem witness_ShortCircuitComparator :
    (∀ g ∈ [GState.ramp, .on], running (gateIn g) = true ∧ scArmed (gateIn g) = true ∧ scDir (gateIn g) true = true ∧
      (gateIn g).gate.disc = false) ∧ scArmed base = false ∧
      (let s : State := { gateIn .turnoff with rst.held := true }
       running s = false ∧ scArmed s = true ∧ scDir s true = true ∧ s.gate.disc = false) ∧ scDir { base with cfg.scCfg := 0 } true = false ∧
      (let s : State := { withTorque with gate.state := .on }
       scArmed s = true ∧ isAnchor s = true ∧ torqueOn s = true ∧ s.tq.enabling = []) ∧
      (active (gateIn .test) = true ∧ (gateIn .test).gate.state = .test ∧ (gateIn .test).gate.disc = false ∧
        ((scDir (gateIn .test) true = true → true = true) ∧ (scDir (gateIn .test) false = true → true = true)) ∧
        (scDir (gateIn .test) true = true ∧ false = false)) ∧
      ({ gateIn .test with gate.testOk := true } : State).gate.testOk = true ∧ (gateIn .off).gate.state ≠ .test ∧
      (gateIn .test).gate.testOk = false := by decide

theorem witness_GateCheckpointsSamplesTurnoff :
    (running (gateIn .ramp) = true ∧ (gateIn .ramp).gate.ck < 3 ∧ (gateIn .ramp).gate.disc = false ∧
      ckLimit base.cfg 1 ≤ ckLimit (gateIn .ramp).cfg ((gateIn .ramp).gate.ck + 1) ∧
      ckLimit (gateIn .ramp).cfg ((gateIn .ramp).gate.ck + 1) < ckLimit base.cfg 1 + 1) ∧
      (let s : State := { gateIn .ramp with gate.ck := 3 }
       running s = true ∧ s.gate.state = .ramp ∧ s.gate.ck = 3 ∧ s.gate.ck < 4 ∧ ckLimit s.cfg 4 ≤ ckLimit s.cfg 4 ∧
         ckLimit s.cfg (s.gate.ck + 1) < ckLimit s.cfg 4 + 1) ∧
      (∀ k ∈ [0, 3], let s : State := { gateIn .turnoff with gate.disc := true, gate.ck := k }
       running s = true ∧ latchedNow s = true ∧ s.gate.fromOn = false ∧ s.gate.ck < 4 ∧
         ckLimit s.cfg (s.gate.ck + 1) < ckLimit s.cfg (s.gate.ck + 1) + 1) ∧
      (let s : State := { gateIn .on with gate.overs := 1 }
       active s = true ∧ s.gate.state = .on ∧ 0 ≤ ckLimit s.cfg 4 ∧ ckLimit s.cfg 4 < ckLimit s.cfg 4 + 1 ∧ 1 ≤ s.gate.overs ∧
         s.gate.disc = false) ∧ (gateIn .on).gate.overs = 0 ∧
      (gateIn .turnoff).gate.state = .turnoff ∧ (gateIn .turnoff).gate.stage2 = false ∧
      (let s : State := { gateIn .turnoff with gate.stage2 := true }
       s.gate.state = .turnoff ∧ s.gate.stage2 = true) ∧
      (let s : State := { gateIn .on with gate.hold := true }
       s.gate.hold = true ∧ s.gate.state = .on ∧ s.gate.disc = false) ∧ base.gate.hold = false ∧ latchedNow base = false := by decide

theorem witness_ComparatorsTripAndRelease :
    (∀ w : Well, ∀ uv : Bool, cmpOn base w = true ∧ underTest base w uv = false ∧ cmpTripped base w uv = false ∧
      cmpDeg base w uv = false) ∧ cmpOn { base with cfg.wellCfg := 4 } 17 = false ∧
      (∀ uv : Bool, let s : State := { base with prot.ovDeg := 0x20001, prot.uvDeg := 0x20001 }
       cmpDeg s 0 uv = true ∧ cmpDeg s 17 uv = true ∧ cmpOn s 17 = true ∧ cmpTripped s 17 uv = false) ∧
      cmpTripped { base with prot.ovTrip := 1 } 0 false = true ∧ running base = true ∧ running State.reset = false ∧
      jrnRoom base = true ∧
      (let x : CmpTest := { w := 17, uv := true, origin := .verb, tripped := false, blind := false, cross := false }
       let s : State := { base with prot.test := some x }
       cmpOn s 17 = true ∧ underTest s 17 true = true ∧ s.prot.test = some x ∧ cmpTripped s 17 true = false) := by decide

theorem witness_ComparatorSelfTests :
    (active base = true ∧ base.prot.test = none ∧ hasW (cellMask base.cfg) 17 = true ∧ cmpTripped base 17 true = false ∧
      cmpDeg base 17 true = false ∧ skipByResult base 17 true = false ∧ testOrigin base 17 true = some .startup) ∧
      (let s : State := { base with prot.oweOv := 0, prot.oweUv := 0 }
       testOrigin s 0 false = some .periodic ∧ testOrigin s 17 true = none) ∧
      (∀ uv : Bool, let s : State := { base with prot.uvTrip := 1, prot.ovDeg := 1 }
       testOrigin s 0 uv = some .startup ∧ (cmpTripped s 0 uv = true ∨ cmpDeg s 0 uv = true)) ∧
      hasW (cellMask { base.cfg with wellCfg := 4 }) 17 = false ∧
      (∀ t : Bool, let x : CmpTest := { w := 17, uv := false, origin := .verb, tripped := t, blind := false, cross := true }
       let s : State := { base with prot.test := some x, cfg.wellCfg := 4 }
       s.prot.test = some x ∧ hasW (cellMask s.cfg) x.w = false) ∧
      skipByResult { base with acq.last := base.acq.last.set 1 { ChanMem.reset with seen := true, code := 99999 } } 0 false = true ∧
      (∀ o ∈ [TestOrigin.startup, .periodic, .verb], ∀ t : Bool, ∀ b : Bool,
        let x : CmpTest := { w := 0, uv := false, origin := o, tripped := t, blind := b, cross := true }
        active { base with prot.test := some x } = true ∧ cmpFaulty { base with prot.test := some x } 0 false = false) := by decide

theorem witness_FaultFramesAndLiveBits :
    (let s : State := { member 2 base with chn.fltTimer := true }
     active s = true ∧ s.chn.fltTimer = true ∧ (s.tim.orphaned && s.chn.ring) = false ∧ s.chn.addr ≠ 0x7F) ∧
      (let s : State := { member 2 base with chn.fltTimer := true, tim.orphaned := true, chn.ring := true }
       active s = true ∧ (s.tim.orphaned && s.chn.ring) = true) ∧ base.chn.fltTimer = false ∧ base.chn.fltRep = 0 ∧
      base.chn.addr = 0x7F ∧
      ({ member 2 base with chn.fltRep := 4 } : State).chn.fltRep ≠ 0 ∧ running (member 1 base) = true ∧
      isHead (member 1 base) = true := by
  decide

/-! The line. -/

/-- A frame as it comes in on a pair. -/
def line (gen : Gen) (bytes : List Byte) (c : Crust) : LineFrame :=
  { gen := gen, idle := true, levels := frameLevels gen true bytes c }

/-- A beat as it arrives: bytes and check. -/
def beatOn (gen : Gen) : LineFrame :=
  line gen (frameBody (frame 5 0 []) ++ frameCheck gen (frameBody (frame 5 0 []))) .valid

/-- Frames pass from port to port. -/
def relaying : State := online (member 5 base)

/-- Both ports run EL2. -/
def relaying2 : State := { relaying with sp.gen := 2, np.gen := 2 }

theorem witness_FramesOnTheLine :
    (∀ p ∈ [Port.south, .north], portLive relaying p = true ∧ transmitting relaying (portOf relaying p) = false ∧
        lineFree relaying p = true ∧ txGen (portOf relaying p) = .el1 ∧ (portOf relaying p).genDue = none ∧ sendLive relaying p = true ∧
        alarmOnAir relaying = false) ∧ (relays base && portLive base .north) = false ∧ portLive base .south = false ∧
      (∀ p ∈ [Port.south, .north], let s : State := relaying2
       portLive s p = true ∧ transmitting s (portOf s p) = false ∧ relays s = true ∧ (portOf s p).genDue = none ∧
         txGen (portOf s p) = .el2 ∧ (portOf s p).rxBusy = false ∧ (portOf s p).brkIn = false ∧ (portOf s p).rxBurst ≤ s.now ∧
         (portOf s p).freeAt ≤ s.now + nsCt cutNs) ∧
      (let s : State := { relaying2 with np.txEnd := 1 }
       portLive s .south = true ∧ transmitting s (portOf s .south) = false ∧ transmitting s (portOf s (otherPort .south)) = true ∧
         lineFree s .north = false) ∧
      (let s : State := { relaying2 with np.rxBusy := true }
       txGen (portOf s .north) = .el2 ∧
         ((portOf s (otherPort .south)).rxBusy || (portOf s (otherPort .south)).brkIn || decide (s.now < (portOf s (otherPort .south)).rxBurst)) = true) ∧
      (∀ c : Bool, ∀ n : Bool, ∀ h : Bool, let s : State := { relaying2 with sp.rxBusy := true, sp.cut := c, sp.noRelay := n, sp.hurt := h }
       portLive s .south = true ∧ (portOf s .south).rxBusy = true ∧ (portOf s .south).cut = c ∧ (portOf s .south).noRelay = n ∧
         (portOf s .south).hurt = h) ∧ (portOf relaying .south).rxBusy = false := by decide

theorem witness_framesSent :
    (let w : FwdFrame := { frame := frame 5 0 [], gen := .el1, endAt := 0 }
     let s : State := { relaying with np.fwd := [w] }
     lineFree s .north = true ∧ (portOf s .north).fwd = w :: []) ∧
      (let s : State := { relaying with sp.txq := [frame 4 0 []] }
       takeStart s .south (portOf s .south).txq = some (frame 4 0 [], []) ∧ lineFree s .south = true ∧ (frame 4 0 []).type ≠ 5 ∧
         (frame 4 0 []).type ≠ 6 ∧ (∀ x ∈ s.sp.txq ++ s.np.txq, tickLate s x = false)) ∧
      (∀ ty ∈ [(5 : BitVec 4), 6], let f := frame ty 0 (padTo 8 [] ++ [0, 0, 1, 0] ++ padTo 30 [])
       let s : State := { relaying with sp.txq := [f], np.txq := [f] }
       takeStart s .south (portOf s .south).txq = some (f, []) ∧ sendLive s .south = true ∧ lineFree s .south = true ∧
         (portOf s .north).genDue = none ∧ sendLive s (otherPort .south) = true ∧ (portOf s (otherPort .south)).txq.contains f = true ∧
         (∀ x ∈ s.sp.txq ++ s.np.txq, tickLate s x = false)) ∧ tickLate relaying (frame 5 0 (List.replicate 42 0)) = true ∧
      (relaying.chn.addr ≠ 0x7F ∧ isTime 1 = false ∧ (1 : BitVec 4) ≠ 3 ∧ (frame 4 0 [1]).payload ≠ []) ∧
      takeStart relaying .south [] = none ∧ (portOf relaying .south).fwd = [] ∧
      alarmOnAir { relaying with np.alarmTx := true, np.txEnd := 1 } = true ∧
      (let s : State := { base with sp.txEnd := 1 }
       active s = true ∧ (portOf s .south).burstTx = false ∧ (portOf s .south).brkOut = false ∧
         transmitting s (portOf s .south) = true) ∧ transmitting base (portOf base .south) = false := by decide

/-- A frame that validates, its copy spoiled by nobody. -/
theorem witness_validFrame :
    (∀ g ∈ [Gen.el1, .el2], (validate (readLine (beatOn g))).isSome = true ∧ (readLine (beatOn g)).codeErr = false ∧
      (readLine (beatOn g)).crust = .valid ∧ ((validate (readLine (beatOn g))).map (spoils relaying .south)) = some false) ∧
      ((validate (readLine (beatOn .el2))).map (spoils { relaying with np.hurt := true } .north)) = some false ∧
      validate (readLine (line .el2 [0] .valid)) = none ∧ (readLine (line .el1 [] .burnt)).crust = .burnt ∧
      (readLine { line .el2 [] .valid with levels := [true, true] }).codeErr = true := by decide +kernel

/-- An unacknowledged frame. -/
def aUnacked (tries : Nat) (pair : Option (Fin 4)) : Unacked :=
  { frame := frame 2 3 [], port := .north, tries := tries, pair := pair }

/-- A message forwarded from pair 2. -/
def aForwarded (acked : Bool) : Forwarded := { pair := 2, verb := 1, tag := 0, target := 3, acked := acked }

/-- A window in which the device has its slot. -/
def aWindow (kind : BitVec 2) (mode : BitVec 2) : Window :=
  { mode := mode, kind := kind, count := 5, ofs := 0, slot := 100, start := 0, done := false, swept := false }

/-- A device with a window. -/
def windowed (kind mode : BitVec 2) : State := { relaying with chn.win := some (aWindow kind mode), now := 196608 }

theorem witness_RetransmissionAndSlots :
    (∀ k : Fin 2, let s : State := { base with chn.unacked := [aUnacked (2 + k) none] }
     active s = true ∧ (s.chn.unacked.find? fun v => v.frame.lseq == 5) = some (aUnacked (2 + k) none)) ∧
      (aUnacked 2 none).tries < 3 ∧ 3 ≤ (aUnacked 3 none).tries ∧ (aUnacked 3 none).pair = none ∧
      (let s : State := { base with chn.unacked := [aUnacked 3 (some 2)], chn.fwd := [aForwarded true] }
       active s = true ∧ (s.chn.unacked.find? fun v => v.frame.lseq == 5) = some (aUnacked 3 (some 2)) ∧
         (aUnacked 3 (some 2)).pair = some 2 ∧ (s.chn.fwd.find? fun x => x.pair == 2) = some (aForwarded true) ∧
         (s.chn.fwd.any fun x => x.pair == 2 && x.acked) = true) ∧
      (base.chn.unacked.find? fun v => v.frame.lseq == 5) = none ∧ (base.chn.fwd.any fun x => x.pair == 2 && x.acked) = false := by
  decide

theorem witness_slots :
    (∀ k ∈ [(0 : BitVec 2), 1], ∀ m ∈ [(1 : BitVec 2), 2], let s : State := { windowed k m with acq.rel := [snap] }
       active s = true ∧ myWindow s = some (aWindow k m) ∧ (aWindow k m).done = false ∧ (aWindow k m).kind ≠ 2 ∧
         slotAt s (aWindow k m) ≤ s.now ∧ s.acq.rel = snap :: [] ∧ portLive s .south = true ∧ lineFree s .south = true ∧
         s.sp.genDue = none ∧ isHead s = false ∧ lineFree { s with sp.rxBusy := true } .south = false) ∧
      (let s : State := { windowed 0 1 with acq.rel := [snap], chn.addr := 1 }
       isHead s = true ∧ myWindow s = some (aWindow 0 1) ∧ recKind (kindType 0) = some 0 ∧ s.chn.recs[(0 : Fin 3)].recs.length < 128) ∧
      (let s : State := { windowed 2 1 with acq.ntcRel := [[0]] }
       active s = true ∧ myWindow s = some (aWindow 2 1) ∧ (aWindow 2 1).kind = 2 ∧ slotAt s (aWindow 2 1) ≤ s.now ∧
         s.acq.ntcRel = [0] :: []) ∧
      (takeRecord (windowed 0 1) 0 = none ∧ (windowed 0 1).chn.addr.toNat = (aWindow 0 1).count.toNat ∧
        slotAt (windowed 0 1) (aWindow 0 1) ≤ (windowed 0 1).now ∧
        (member 4 (windowed 0 1)).chn.addr.toNat ≠ (aWindow 0 1).count.toNat) ∧
      myWindow base = none ∧ (let w : Window := { aWindow 0 1 with done := true }
        w.done = true) ∧
      (let s : State := { windowed 0 1 with now := 0 }
       s.now < slotAt s (aWindow 0 1)) ∧
      (active (windowed 0 1) = true ∧ myWindow (windowed 0 1) = some (aWindow 0 1) ∧ (aWindow 0 1).mode = 1 ∧
        (aWindow 0 1).swept = false ∧ timedAt (windowed 0 1) (aWindow 0 1) (sweepSlots (aWindow 0 1)) 0 ≤ (windowed 0 1).now) ∧
      (aWindow 0 2).mode ≠ 1 := by decide +kernel
/-! Frames, bursts, the host ports and the mailboxes. -/

theorem witness_MessageFramesReceived :
    (let f : Frame := { frame 1 5 [] with rtx := true }
     let s : State := { member 5 base with chn.seenV := [(1, 5, none)] }
     fwRuns s = true ∧ s.pw.decided = none ∧ f.type = 1 ∧ f.dst = s.chn.addr ∧ f.dst ≠ 0 ∧ f.rtx = true ∧
       (s.chn.seenV.find? fun y => y.1 == f.src && y.2.1 == f.lseq) = some (1, 5, none)) ∧
      (∀ d ∈ [(5 : BitVec 7), 0], let f := frame 1 d []
       f.type = 1 ∧ (f.dst = (member 5 base).chn.addr ∨ f.dst = 0) ∧ f.rtx = false) ∧
      ((member 5 base).chn.seenV.find? fun y => y.1 == (frame 1 5 []).src && y.2.1 == (frame 1 5 []).lseq) = none ∧
      ({ base with pw.decided := some .sleep } : State).pw.decided ≠ none ∧ fwRuns { base with clk.coreDead := true } = false ∧
      fwRuns { base with core.sw := 0x1030 } = false ∧
      ((frame 1 6 []).dst ≠ (member 5 base).chn.addr ∧ (frame 1 6 []).dst ≠ 0) ∧
      (let f : Frame := { frame 2 1 (leBytes 2 1 ++ [0, 0, 0, 0, 0, 0, 2]) with src := 3 }
       let s : State := { member 1 base with chn.fwd := [aForwarded true] }
       active s = true ∧ isAnchor s = false ∧ f.dst = s.chn.addr ∧ forwardedOf s f = some (aForwarded true) ∧
         ¬ (f.rtx = true ∧ s.chn.seenR.contains (f.src, f.lseq) = true)) ∧
      (active base = true ∧ isAnchor base = false ∧ (frame 2 3 []).dst ≠ base.chn.addr) ∧
      (let f : Frame := { frame 0xA 1 [5, 0] with src := 3 }
       let s : State := { member 1 base with chn.unacked := [aUnacked 0 none] }
       active s = true ∧ f.dst = s.chn.addr ∧ ackedFrame s f = some (aUnacked 0 none) ∧ resetAcked s (aUnacked 0 none) = false ∧
         ackedFrame base f = none) ∧
      (let f : Frame := { frame 0xA 1 [5, 0] with src := 3 }
       let u : Unacked := { aUnacked 0 none with frame := frame 2 3 (leBytes 2 0x0F01) }
       let s : State := { member 1 base with chn.unacked := [u], pw.resetVerb := [({ msg [] with src := some 3 }, false)] }
       active s = true ∧ f.dst = s.chn.addr ∧ ackedFrame s f = some u ∧ resetAcked s u = true) ∧
      (frame 0xA 3 []).dst ≠ (member 1 base).chn.addr := by decide

theorem witness_TimeFramesReceived :
    active base = true ∧ isAnchor base = false ∧ (frame 6 0 (List.replicate 42 0)).payload.length = 42 ∧
      (frame 7 0 [3, 0, 1, 0]).payload.length = 4 ∧ (frame 5 0 []).payload.length ≠ 42 ∧ active State.reset = false ∧
      byteAt (List.replicate 42 (0x10 : Byte)) 12 / 16 % 4 ≠ 0 ∧ byteAt (List.replicate 42 (0x10 : Byte)) 12 / 64 ≠ 3 ∧
      byteAt (List.replicate 42 (0 : Byte)) 12 / 16 % 4 = 0 ∧
      (∀ rd ∈ [RdState.enabled, .off], let s : State := { withTorque with tq.rd := rd }
       active s = true ∧ isAnchor s = true ∧ s.tq.conflict = false) ∧ torqueOn withTorque = true ∧
      ({ asAnchor base with tq.enabling := [wait 0x0706] } : State).tq.enabling ≠ [] := by decide

/-- A calibrated device whose next validated beat steps its counter. -/
def calibrated : State := { base with chn.calValid := true, tim.stepDue := true, sp.rx := some .el2 }

/-- A beat of zeros at a device that keeps time, and its offset. -/
theorem witness_beatSteers :
    let f := frame 6 0 (List.replicate 42 0)
    (∀ d : Bool, ∀ a : Bool, let s : State := { calibrated with tim.stepDue := d, tim.aligned := a }
      (s.chn.calValid && s.chn.calEp == f.payload.getD 5 0 && !beatsBothPorts (noteBeat s .south)) = true ∧
        s.tim.stepDue = d ∧ s.tim.aligned = a ∧ withinNs (timeOffset s f 0) 10 = true ∧ withinNs (timeOffset s f 0) 20 = true) ∧
      withinNs (timeOffset calibrated f 1000) 20 = false ∧
      (base.chn.calValid && base.chn.calEp == f.payload.getD 5 0 && !beatsBothPorts (noteBeat base .south)) = false := by decide +kernel

/-- Both outcomes of a tick frame: one that lies ahead is taken, one that does not is missed. -/
theorem witness_tickTakenOrMissed :
    (after (.tickReceived .south (frame 5 0 (padTo 8 [] ++ [0, 0, 1, 0] ++ padTo 30 [])) 0) calibrated).sch.missed = 0 ∧
      (after (.tickReceived .south (frame 5 0 (padTo 8 [] ++ [0, 0, 0, 0x80] ++ padTo 30 [])) 0) calibrated).sch.missed = 0 ∧
      (after (.tickReceived .south (frame 5 0 (List.replicate 42 0)) 0) calibrated).sch.missed = 1 := by decide +kernel

/-- Enumeration in progress. -/
def enumRun (tries : Nat) : EnumRun :=
  { next := 2, tries := tries, anchor := 0, twoAnchors := false, beyond := false, el1 := false, ntx := 0, w := wait 0x0601 }

theorem witness_EnumCalAndRecords :
    (∀ a ∈ [(1 : Byte), 0x40], let f := frame 8 0x7F [a, 0]
     f.payload.length = 2 ∧ base.chn.addr = 0x7F ∧ 1 ≤ byteAt f.payload 0 ∧ byteAt f.payload 0 ≤ 0x40) ∧ active base = true ∧
      ((member 5 base).chn.addr ≠ 0x7F ∧ byteAt (frame 8 0x7F [6, 0]).payload 0 ≠ (member 5 base).chn.addr.toNat) ∧
      (∀ k ∈ [2, 3], ({ base with chn.enum := some (enumRun k) } : State).chn.enum = some (enumRun k)) ∧
      (enumRun 2).tries < 3 ∧ 3 ≤ (enumRun 3).tries ∧ noWaiters base (enumRun 3).w.verb (enumRun 3).w.msg = true ∧
      base.chn.enum = none ∧
      (let f := frame 8 0x7F [5, 0]
       f.payload.length = 2 ∧ active (member 5 base) = true ∧ byteAt f.payload 0 = (member 5 base).chn.addr.toNat) ∧
      (let f := frame 8 0 (2 :: List.replicate 15 0)
       let s : State := { base with chn.enum := some (enumRun 1) }
       active s = true ∧ f.payload.length = 16 ∧ (enumRun 1).next ≤ 0x40 ∧ byteAt f.payload 0 % 128 = (enumRun 1).next) := by decide

theorem witness_calAndRecords :
    (∀ k ∈ [(0 : Byte), 2], let f := frame 9 5 (k :: List.replicate 11 0)
       f.payload.length = 12 ∧ byteAt f.payload 0 = k.toNat ∧ f.dst = (member 5 base).chn.addr) ∧
      (frame 8 0 [1, 0]).payload.length = 2 ∧ base.chn.daNew = none ∧
      ({ base with chn.daNew := some 0 } : State).chn.daNew = some 0 ∧
      (let f := frame 9 0 (2 :: List.replicate 11 0)
       f.payload.length = 12 ∧ byteAt f.payload 0 = 2 ∧ f.dst = 0 ∧ (member 5 base).chn.addr ≠ 0 ∧ isAnchor (member 5 base) = false) ∧ (frame 9 5 []).payload.length ≠ 12 ∧ (frame 4 0 []).type = 4 ∧
      (isAnchor base = false ∧ recKind 3 = some 0 ∧ recKind 0xB = some 1 ∧ recKind 0xC = some 2) ∧
      (let w : Window := { mode := 1, kind := 0, count := 5, ofs := 0, slot := 100, start := 0, done := false, swept := false }
       inWindow (member 1 { base with chn.win := some w }) = true ∧ inWindow (member 1 base) = false) ∧
      (isHead (member 1 base) = true ∧ (member 1 base).chn.recs[(0 : Fin 3)].recs.length < 128 ∧ isHead base = false) ∧
      ((member 1 { base with chn.recs := base.chn.recs.set 0 { recs := List.replicate 128 (2, []), lost := 0 }
        }).chn.recs[(0 : Fin 3)].recs.length = 128) ∧
      (let f : Frame := { frame 4 0 [] with flt := 2 }
       active withTorque = true ∧ isAnchor withTorque = true ∧ f.type = 4 ∧ f.flt.getLsbD 1 = true ∧
         torqueOn withTorque = true ∧ withTorque.tq.enabling = []) := by decide +kernel

theorem witness_BurstsBreaksAndWake :
    (∀ p ∈ [Port.south, .north], running (online base) = true ∧ portEnabled (online base) p = true ∧
      transmitting (online base) (portOf (online base) p) = false ∧ (portEnabled (online base) (otherPort p) &&
      (online base).sup.vport) = true ∧ canBurst (online base) p = true ∧ (portOf (online base) p).brkIn = false) ∧
      ({ base with pw.decided := some .sleep } : State).pw.decided ≠ none ∧
      (portOf { online base with sp.burst := true } .south).burst = true ∧ alarmOnAir (online base) = false ∧
      (portOf base .south).burst = false ∧
      (let s : State := { online base with sp.alarm := 8, sp.alarmOn := true }
       s.sp.alarm = 8 ∧ s.sp.alarmOn = true ∧ canBurst s .south = true ∧ s.np.alarm ≠ 8 ∧ relayOnAir s = false) ∧
      relayOnAir { base with np.relaying := true } = true ∧ 8 ≤ ({ base with sp.alarm := 8 } : State).sp.alarm ∧
      (∀ n ∈ [1, 7], let s : State := { online base with sp.alarm := n, sp.alarmOn := true }
       (portOf s .south).alarmOn = true ∧ (portOf s .south).alarm ≠ 0 ∧ (portOf s .south).alarm < 8 ∧ canBurst s .south = true ∧
         relayOnAir s = false) ∧
      (let s : State := { online base with pw.wakeBurst := true }
       s.pw.wakeBurst = true ∧ canBurst s .north = true ∧ alarmOnAir s = false) ∧
      (let s : State := { base with chn.brk := [wait 0x0606] }
       active s = true ∧ s.chn.brk = wait 0x0606 :: [] ∧ noWaiters s (wait 0x0606).verb (wait 0x0606).msg = true ∧
         breakPort s .north = false ∧ ({ s with np.brkOut := true } : State).np.brkOut = true) ∧ base.chn.brk = [] ∧
      (breakPort (online base) .north = true ∧ (online base).np.brkOut = false) ∧
      (let s : State := { base with pw.state := .sleep }
       running s = true ∧ s.sup.vio = true ∧ awake s = false) ∧ awake base = true ∧ base.pw.decided = none ∧
      (let s : State := { base with host.hwake := true, host.hwakeAt := 5, now := 5 + usCt 100 }
       s.host.hwake = true ∧ s.host.irq.getLsbD 11 = false ∧ usCt 100 ≤ s.now - s.host.hwakeAt) ∧
      base.now - base.host.hwakeAt < usCt 100 ∧ ({ base with sup.vio := false } : State).sup.vio = false ∧
      ({ base with host.irq := 0x800 } : State).host.irq.getLsbD 11 = true := by decide

/-- The port whose break is relayed at the other port. -/
def breakAt (p : Port) (s : State) : State :=
  let s := setPort s p { portOf s p with brkIn := true }
  setPort s (otherPort p) { portOf s (otherPort p) with brkRelay := true, brkOut := true }

theorem witness_breaks :
    (∀ p ∈ [Port.south, .north], (portOf (breakAt p (online base)) p).brkIn = true ∧
      (portOf (breakAt p (online base)) (otherPort p)).brkRelay = true ∧ (portOf (online base) p).brkIn = false ∧
      (portOf (online base) p).brkRelay = false ∧ (portOf (breakAt (otherPort p) (online base)) (otherPort p)).brkIn = true) ∧
      (online base).rst.held = false ∧ ({ base with rst.held := true } : State).rst.held = true ∧
      (∀ q ∈ [Port.south, .north], let s := setPort (online base) q { portOf base q with brkDue := true }
       (portOf s q).brkDue = true ∧ alarmOnAir s = false ∧ breakFree s q = true ∧ portEnabled s q = true ∧ s.sup.vport = true ∧
         (portOf s q).brkIn = false ∧ (portOf s (otherPort q)).brkDue = false ∧
         breakFree (setPort s q { portOf s q with freeAt := 1 }) q = false) ∧
      alarmOnAir { online base with np.alarmTx := true, np.txEnd := 1 } = true ∧
      (∀ p ∈ [Port.south, .north], let s : State := { online base with np.alarmTx := true, np.txEnd := 1 }
       s.rst.held = false ∧ portEnabled s p = true ∧ (portOf s p).brkIn = false ∧ (portOf s p).cut = false ∧
         (alarmOnAir s || !breakFree s (otherPort p)) = true) ∧
      (∀ p ∈ [Port.south, .north], (alarmOnAir (online base) || !breakFree (online base) (otherPort p)) = false) ∧
      (∀ p ∈ [Port.south, .north], (portEnabled (online base) (otherPort p) && (online base).sup.vport &&
        !(portOf (online base) (otherPort p)).brkIn) = true) ∧
      ({ base with sp.alarm := 9 } : State).sp.alarm ≥ 8 ∧ running { base with rst.held := true } = false := by decide

/-- The core runs in applet mode without a region. -/
def applet0 : State := { base with core.sw := 0x4050 }

theorem witness_HostWindowRegisters :
    hostOn (hostUp base) = true ∧ (hostUp base).host.ready = true ∧ base.host.ready = false ∧ active base = true ∧
      (32#32).toNat % 128 / 4 ≠ 6 ∧ (32#32).toNat % 128 / 4 ≠ 9 ∧ impDue base = false ∧ (0x40007200#32).toNat % 4 = 0 ∧
      (mpuCheck applet0 (inApplet applet0) 0 2 = .error 1 ∧ coreOn applet0 = true ∧ impDue applet0 = false) ∧ coreOn base = true ∧ mpuCheck base (inApplet base) 0x40007200 2 = .ok 0x40007200 ∧
      (mpuCheck { base with mpu.fen := true } false 0x50000000 2).isOk = false ∧ hostOn { base with sup.vio := false } = false := by
  decide

/-- The SPI port's bank at a selection and position. -/
def bankAt (sel : BitVec 3) (ptr : Nat) : State := { hostUp base with host.spiSel := sel, host.spiPtr := ptr }

/-- A pair's mailbox is full, claimed by the SPI port, its last byte next. -/
def lastByte : State :=
  { bankAt 6 16 with mbx.pairs := base.mbx.pairs.set 2 { MbxPair.reset with
      outb := leBytes 2 1 ++ [0, 0, 1] ++ List.replicate 12 0, full := true, claim := some .spi } }

theorem witness_MailboxPairsHandOver :
    (∀ ptr ∈ [0, 255], let s := bankAt 3 ptr
     hostOn s = true ∧ s.host.ready = true ∧ bankOf s .spi = (3, ptr) ∧ claimedByOther s .spi (selPair 3) = false ∧
       s.mbx.pairs[selPair 3].busy = false) ∧ (3 : BitVec 3) < 4 ∧
      (let s : State := { bankAt 3 0 with mbx.pairs := base.mbx.pairs.set 3 { MbxPair.reset with busy := true } }
       bankOf s .spi = (3, 0) ∧ claimedByOther s .spi (selPair 3) = false ∧ s.mbx.pairs[selPair 3].busy = true) ∧
      (bankOf (bankAt 7 255) .spi = (7, 255) ∧ (4 : BitVec 3) ≤ 7 ∧ claimedByOther (bankAt 7 255) .spi (selPair 7) = false) ∧
      (let s : State := { bankAt 3 0 with mbx.pairs := base.mbx.pairs.set 3 { MbxPair.reset with claim := some .uart } }
       bankOf s .spi = (3, 0) ∧ claimedByOther s .spi (selPair 3) = true ∧ claimedByOther s .spi 3 = true) ∧
      (bankOf (bankAt 3 256) .spi = (3, 256) ∧ claimedByOther (bankAt 3 256) .spi (selPair 3) = false) ∧
      (bankOf lastByte .spi = (6, 16) ∧ lastByte.mbx.pairs[selPair 6].full = true ∧
        lastByte.mbx.pairs[selPair 6].claim = some .spi ∧ 16 = 15 + leAt lastByte.mbx.pairs[selPair 6].outb 4 2 ∧
        leAt lastByte.mbx.pairs[selPair 6].outb 0 2 ≠ 0x0F01) ∧
      (let out : List Byte := leBytes 2 0x0F01 ++ List.replicate 14 0
       let x : Msg × Bool := ({ msg [] with mbx := 2 }, false)
       let s : State := { bankAt 6 15 with pw.resetVerb := [x],
                                           mbx.pairs := base.mbx.pairs.set 2 { MbxPair.reset with outb := out, full := true, claim := some .spi } }
       bankOf s .spi = (6, 15) ∧ s.mbx.pairs[selPair 6].full = true ∧ s.mbx.pairs[selPair 6].claim = some .spi ∧
         15 = 15 + leAt s.mbx.pairs[selPair 6].outb 4 2 ∧ leAt s.mbx.pairs[selPair 6].outb 0 2 = 0x0F01 ∧ x ∈ s.pw.resetVerb ∧
         x.1.src = none ∧ x.1.bcast = false ∧ x.1.mbx = selPair 6 ∧
         leAt s.mbx.pairs[selPair 6].outb 2 2 = x.1.tag.toNat) ∧
      (∀ f : Bool, let s : State := { hostUp base with mbx.pairs := base.mbx.pairs.set 3 { MbxPair.reset with claim := some .spi, flight := f, full := !f } }
       s.mbx.pairs[(3 : Fin 4)].claim = some .spi ∧ (s.mbx.pairs[(3 : Fin 4)].flight = true ∨ s.mbx.pairs[(3 : Fin 4)].full = true)) ∧
      (let s : State := { hostUp base with mbx.pairs := base.mbx.pairs.set 3 { MbxPair.reset with claim := some .spi } }
       s.mbx.pairs[(3 : Fin 4)].claim = some .spi ∧ s.mbx.pairs[(3 : Fin 4)].busy = false ∧
         s.mbx.pairs[(3 : Fin 4)].flight = false ∧ s.mbx.pairs[(3 : Fin 4)].full = false ∧ s.pw.decided = none) := by decide

/-- A UART request, its CRC appended. -/
def uartReq (c : List Byte) : List Byte := c ++ leBytes 2 (crc16 c).toNat

theorem witness_HostTransactions :
    hostOn base = true ∧ cmdOk (leAt [0, 1] 0 2) = false ∧
      (cmdOk (leAt [4, 0x80] 0 2) = true ∧ cmdW (leAt [4, 0x80] 0 2) = true ∧ cmdAddr (leAt [4, 0x80] 0 2) % 4 = 0 ∧
        cmdAddr (leAt [4, 0x80] 0 2) / 4 ≠ 6) ∧
      unstuff [0x7D] = none ∧ (unstuff [1, 2] = some [1, 2] ∧ uartOk [1, 2] = false) ∧
      (let l := uartReq [4, 0x80, 4, 1, 2, 3, 4]
       unstuff l = some l ∧ uartOk l = true ∧ cmdW (leAt l 0 2) = true ∧ byteAt l 2 = 4 ∧ cmdAddr (leAt l 0 2) % 4 = 0 ∧
         cmdAddr (leAt l 0 2) / 4 ≠ 6) ∧
      (let l := uartReq [4, 0, 4]
       unstuff l = some l ∧ uartOk l = true ∧ cmdW (leAt l 0 2) = false ∧ byteAt l 2 = 4 ∧ cmdAddr (leAt l 0 2) % 4 = 0 ∧
         cmdAddr (leAt l 0 2) / 4 ≠ 6 ∧ cmdAddr (leAt l 0 2) / 4 ≠ 10 ∧ cmdAddr (leAt l 0 2) < 8 ∧ uartEarly base l 0 = false ∧
         uartEarly { base with host.uartAt := ctPerMs } l 9 = true) ∧ 2 ≤ ([0, 1] : List Byte).length ∧ 0 < ({ base with host.uartAt := ctPerMs } : State).host.uartAt ∧
      hostOn { base with sup.vio := false } = false := by decide +kernel

/-- A message as a host writes it into a mailbox. -/
def mail (verb : Nat) (target mbx : Byte) (p : List Byte) : List Byte :=
  let b := leBytes 2 verb ++ [7, 0] ++ leBytes 2 p.length ++ [target, 0, mbx, 0, 0, 0] ++ p
  padTo 256 (b ++ leBytes 4 (crc32 b).toNat)

/-- A device whose pair 2 has been rung with these bytes. -/
def rung (b : List Byte) (s : State) : State :=
  { s with mbx.pairs := s.mbx.pairs.set 2 { MbxPair.reset with inb := b, busy := true, flight := true }, mbx.takeq := [2] }

/-- The history entry of a message. -/
def entryOf (b : List Byte) (trailer : Word) (reply : Option (List Byte)) : HistEntry :=
  { tag := (readMsg b).tag, verb := (readMsg b).verb, trailer := trailer, taken := 0, reply := reply }

theorem witness_MessagesTakenAndChecked :
    (let b := mail 0x0101 0x7F 2 []
     let s := rung b base
     fwRuns s = true ∧ s.mbx.takeq = 2 :: [] ∧ formBad (readMsg s.mbx.pairs[(2 : Fin 4)].inb) ((readMsg b).mbx.toNat == 2) = none ∧
       (readMsg b).target = s.chn.addr.setWidth 8 ∧ (readMsg b).target ≠ 0 ∧ passesWindow s (readMsg b) = true ∧
       (verbRow (readMsg b).verb.toNat).isSome = true) ∧
      formBad (readMsg (mail 0x0101 0x7F 2 [])) false = some 3 ∧ formBad (readMsg (List.replicate 256 0)) true = some 2 ∧
      formBad (readMsg ((mail 0x0101 0x7F 2 []).set 4 241)) true = some 1 ∧ verbRow 0x0F02 = none ∧
      (let b := mail 0x0202 0x7F 2 []
       let e := entryOf b (readMsg b).trailer (some [1])
       let s : State := { rung b base with mbx.hist := base.mbx.hist.set 2 [e] }
       passesWindow s (readMsg b) = false ∧ liveEntry s (readMsg b).idx (readMsg b).tag = some e ∧ e.verb = (readMsg b).verb ∧
         e.trailer = (readMsg b).trailer ∧ e.reply = some [1]) ∧
      (let b := mail 0x0202 0x7F 2 []
       let e := entryOf b (readMsg b).trailer none
       let s : State := { rung b base with mbx.hist := base.mbx.hist.set 2 [e] }
       passesWindow s (readMsg b) = false ∧ liveEntry s (readMsg b).idx (readMsg b).tag = some e ∧ e.reply = none) ∧
      (let b := mail 0x0202 0 2 []
       (readMsg b).target = 0 ∧ isHead base = false ∧ isHead (member 1 base) = true ∧ formBad (readMsg b) ((readMsg b).mbx.toNat == 2) = none) ∧
      (readMsg (mail 0x0101 2 2 [])).target.getLsbD 7 = false ∧ (readMsg (mail 0x0101 0x82 2 [])).target.getLsbD 7 = true ∧
      (let b := mail 0x0202 0x7F 2 []
       let e := entryOf b 0 none
       let s : State := { rung b base with mbx.hist := base.mbx.hist.set 2 [e] }
       liveEntry s (readMsg b).idx (readMsg b).tag = some e ∧ e.trailer ≠ (readMsg b).trailer) ∧
      (let b := mail 0x0101 2 2 []
       formBad (readMsg b) ((readMsg b).mbx.toNat == 2) = none ∧ (readMsg b).target ≠ 0 ∧ (readMsg b).target ≠ 0x7F ∧
         (readMsg b).target ≠ base.chn.addr.setWidth 8 ∧ isHead base = false ∧ isHead (member 1 base) = true ∧
         2 ≤ (readMsg b).target.toNat ∧ (readMsg b).target.toNat < 0x7F) ∧
      base.mbx.takeq = [] ∧ fwRuns { base with clk.coreDead := true } = false := by decide +kernel

/-! Verbs. -/

/-- A device with a session of mailbox 0. -/
def ready : State := login base

/-- The anchor with a session. -/
def readyAnchor : State := login (asAnchor base)

theorem witness_VerbChecksInOrder :
    fwRuns base = true ∧ (rowIdRead, Instr.idRead).1 = rowIdRead ∧ verbs.length = 52 ∧
      (∀ v ∈ verbs.map (·.1), noWaiters base v.code (msg []) = true ∧ base.store.lockRun = false) ∧
      placeOk base rowSafeTen.place (msg []) = false ∧ placeOk base rowIdRead.place (msg []) = true ∧
      ({ msg [] with bcast := true } : Msg).bcast = true ∧ rowIdRead.bc = false ∧
      (rowCfgWrite.priv = .pw ∧ placeOk base rowCfgWrite.place (msg []) = true ∧ (msg []).bcast = false ∧
        base.safe.sess[(msg []).mbx] = none) ∧
      (rowSafeCycle.priv = .safe ∧ placeOk base rowSafeCycle.place (msg []) = true ∧ commissioned base = false ∧
        commissioned (connected base) = true ∧ (msg []).env = false) ∧
      (rowGateOn.priv = .pw ∧ ready.safe.sess[(0 : Fin 4)].isSome = true ∧ lenOk rowGateOn (msg [0]) = false ∧
        (envMsg []).env = true) := by decide +kernel

/-- A configuration record. -/
def cfgRec (id v : Nat) : List Byte := leBytes 2 id ++ [0, 0] ++ leBytes 4 v

theorem witness_IdentityAndConfigurationVerbs :
    verbFits base rowIdRead (msg []) = true ∧ verbFits base rowIdFactory (msg []) = true ∧
      (verbFits base rowCfgRead (msg [0x61, 0]) = true ∧ (regGet base (leAt [0x61, 0] 0 2)).isSome = true) ∧
      regGet base (leAt [0xFF, 0] 0 2) = none ∧
      (verbFits ready rowCfgWrite (msg (cfgRec 0x42 19)) = true ∧ (cfgRec 0x42 19).length % 8 = 0 ∧ cfgRec 0x42 19 ≠ [] ∧
        (cfgRec 0x42 19).length ≤ 128 ∧ firstBad ((cfgRecs (cfgRec 0x42 19)).map (recBad ready.cfg (cfgRec 0x42 19))) = some 4) ∧
      (let p := cfgRec 0x31 0x82000000
       firstBad ((cfgRecs p).map (recBad ready.cfg p)) = none ∧ crossBad (applyRecs ready.cfg (cfgRecs p)) (cfgRecs p) = some 4) ∧
      (∀ id ∈ [0x42, 0x23], let p := cfgRec id 17
       let new := applyRecs ready.cfg (cfgRecs p)
       verbFits ready rowCfgWrite (msg p) = true ∧ firstBad ((cfgRecs p).map (recBad ready.cfg p)) = none ∧
         crossBad new (cfgRecs p) = none ∧ cfgState ready new none = none ∧ endsRelay ready new.linkCfg = false ∧
         (changes ready.cfg new).any (fun c => isSafetyParam c.1) = (id == 0x42)) ∧
      (let p := cfgRec 0x42 17
       let s := login withTorque
       firstBad ((cfgRecs p).map (recBad s.cfg p)) = none ∧ crossBad (applyRecs s.cfg (cfgRecs p)) (cfgRecs p) = none ∧
         cfgState s (applyRecs s.cfg (cfgRecs p)) none = some 0x10) ∧
      (let p := cfgRec 0x60 8
       let s : State := { ready with sp.brkRelay := true }
       let new := applyRecs s.cfg (cfgRecs p)
       verbFits s rowCfgWrite (msg p) = true ∧ firstBad ((cfgRecs p).map (recBad s.cfg p)) = none ∧
         crossBad new (cfgRecs p) = none ∧ cfgState s new none = none ∧ endsRelay s new.linkCfg = true ∧
         endsRelay ready new.linkCfg = false) ∧
      verbFits ready rowCfgFactory (msg []) = true ∧ cfgState ready CfgRegs.reset none = none ∧
      cfgState (login withTorque) CfgRegs.reset none = some 0x10 := by decide +kernel

/-- The factory password. -/
def factoryPw : List Byte := List.replicate 8 0x30

theorem witness_PasswordSessionLockout :
    (let s : State := { base with store.lockRun := true }
     fwRuns s = true ∧ running s = true ∧ s.store.lockRun = true ∧ noWaiters s rowCfgLogin.code (msg []) = true) ∧
      verbFits base rowCfgLogin (msg factoryPw) = true ∧ base.store.lockRun = false ∧ badDigit factoryPw 0 = none ∧
      sha256 (base.store.salt ++ factoryPw) = base.store.digest ∧
      (let p := factoryPw.set 7 0x39
       badDigit p 0 = none ∧ sha256 (base.store.salt ++ p) ≠ base.store.digest ∧ verbFits ready rowCfgPasswd (msg p) = true ∧
         p ≠ List.replicate 8 0x30#8) ∧
      badDigit (factoryPw.set 7 0x3A) 0 = some 7 ∧ badDigit (factoryPw.set 0 0x2F) 0 = some 0 ∧
      verbFits ready rowCfgLogout (msg []) = true ∧ verbFits ready rowCfgPasswd (msg factoryPw) = true := by decide +kernel

/-- A balancing record. -/
def balRec (well kind time target : Nat) : List Byte :=
  [BitVec.ofNat 8 well, BitVec.ofNat 8 kind] ++ leBytes 2 time ++ leBytes 2 target ++ [0, 0]

/-- A device that may balance: 37.5 ohm at every pin, its first start-up clean. -/
def mayBalance : State :=
  { base with prot.everRel := true, cfg.balRb := Vector.replicate 5 0x96969696, bal.rbUse := Vector.replicate 5 0x96969696 }

theorem witness_AcquisitionAndBalancingVerbs :
    (verbFits base rowAcqStart (msg []) = true ∧ base.acq.req = none ∧ ({ base with acq.req := some 1 } : State).acq.req ≠ none) ∧
      (let s : State := { base with acq.kept := [snap] }
       verbFits s rowAcqRead (msg [0, 0, 0, 0]) = true ∧ s.acq.kept = snap :: [] ∧ base.acq.kept = []) ∧
      (∀ n ∈ [(0 : Byte), 9], verbFits (member 1 base) rowAcqFetch (msg [2, n, 0, 0]) = true ∧
        byteAt (msg [2, n, 0, 0]).payload 0 ≤ 2 ∧ byteAt (msg [2, n, 0, 0]).payload 1 ≤ 9) ∧
      (∀ w ∈ [1, 18], ∀ k ∈ [1, 2], let r := balRec w k 1 (if k = 2 then 65535 else 0)
       verbFits mayBalance rowBalSet (msg r) = true ∧ r.length = 8 ∧
         (balRecs r).map (balRecBad mayBalance) = [none] ∧ (balRecs r).map (fun x => decide (x.kind ≠ 0)) = [true] ∧
         (balRecs r).map (fun x => hasW mayBalance.bal.testFail x.w) = [false]) ∧ mayBalance.prot.everRel = true ∧
      ((balRecs (balRec 19 1 1 0)).map (balRecBad mayBalance) = [some 0]) ∧
      (verbFits base rowBalStop (msg [0xFF, 0xFF, 3, 0]) = true ∧ reservedBits (word0 [0xFF, 0xFF, 3, 0]) 0x3FFFF = none) ∧
      verbFits base rowBalStat (msg []) = true ∧
      (verbFits base rowBalTest (msg [1, 0, 0, 0]) = true ∧ testMaskBad base [1, 0, 0, 0] = none ∧ maskOf [1, 0, 0, 0] ≠ 0 ∧
        base.bal.btest = []) ∧ testMaskBad base [1, 0, 4, 0] = some 2 := by decide +kernel

/-- A device that may switch its gate on. -/
def mayGate : State := { ready with cfg.gateCfg2 := 0x10028, prot.everRel := true }

theorem witness_GateAndProtectionVerbs :
    (verbFits mayGate rowGateOn (msg []) = true ∧ gateOnRefusal mayGate = none) ∧
      (verbFits ready rowGateOn (msg []) = true ∧ gateOnRefusal ready = some 0x10) ∧
      (∀ g ∈ [GState.ramp, .on, .off, .fault], verbFits (gateIn g) rowGateOff (msg []) = true ∧ (gateIn g).gate.waits = [] ∧
        (gateIn g).gate.state = g) ∧
      (let s : State := { ready with gate.disc := true }
       verbFits s rowGateRearm (msg []) = true ∧ s.gate.disc = true ∧ s.now - s.gate.discAt < 500 * ctPerMs ∧
         500 * ctPerMs ≤ ({ s with now := 500 * ctPerMs } : State).now - s.gate.discAt) ∧ ready.gate.disc = false ∧
      verbFits ready rowGateRearm (msg []) = true ∧ verbFits base rowProtStat (msg []) = true ∧
      (verbFits base rowCmpTest (msg [1, 0, 0, 0]) = true ∧ testMaskBad base [1, 0, 0, 0] = none ∧ maskOf [1, 0, 0, 0] ≠ 0 ∧
        base.prot.ctest = []) ∧ testMaskBad base [0, 0, 4, 0] = some 2 := by decide +kernel

/-- A head that is the anchor, of a chain of two whose second device is calibrated. -/
def headAnchor : State :=
  { member 1 readyAnchor with chn.top := 2, np.gen := 2, np.rx := some .el2, chn.calValid := true, chn.calMap := 3, cfg.phPoint := Vector.replicate 16 0 }

theorem witness_ChainVerbs :
    (∀ r ∈ [(0 : Byte), 1], verbFits ready rowChainEnum (msg [r, 0, 0, 0]) = true) ∧ windowRecent ready = false ∧
      ready.chn.enum = none ∧ windowRecent { ready with chn.winAt := some 0 } = true ∧
      (verbFits headAnchor rowChainCal (msg []) = true ∧ streamM headAnchor = 0 ∧ headAnchor.chn.enumDone = true ∧
        headAnchor.chn.cal = none ∧ 2 ≤ headAnchor.chn.top.toNat ∧ headAnchor.chn.addr = 1) ∧
      (streamM { headAnchor with chn.m := 1 } ≠ 0 ∧
        streamM { headAnchor with chn.setq := [{ from_ := 0, m := 1, kind := 0, wofs := 0 }] } ≠ 0 ∧ readyAnchor.chn.enumDone = false ∧
        verbFits readyAnchor rowChainCal (msg []) = true) ∧
      (∀ p ∈ [([0, 0, 0, 0] : List Byte), [2, 0, 0, 0], [2, 255, 0, 0]], verbFits headAnchor rowChainStream (msg p) = true ∧
        byteAt (msg p).payload 0 ≤ 2 ∧ (msg p).payload.drop 2 = [0, 0]) ∧
      verbFits base rowChainStat (msg []) = true ∧
      (verbFits (online ready) rowChainBreak (msg []) = true ∧ breakPort (online ready) .north = true ∧
        (online ready).np.brkOut = false ∧ breakFree (online ready) .north = true ∧
        breakFree { online ready with np.rxBusy := true } .north = false ∧ ready.sup.vport = false) := by decide +kernel

/-- A head that has accepted the crumbs of an address. -/
def crumbs (a : BitVec 7) : State := { member 1 base with chn.cacc := [(a, [], 0)] }

theorem witness_ChainVerbsCrumb :
    (verbFits (crumbs 2) rowChainCrumb (msg [2, 0, 0, 0]) = true ∧ 2 ≤ byteAt [2, 0, 0, 0] 0 ∧
      ((crumbs 2).chn.cacc.find? fun x => x.1.toNat == byteAt [2, 0, 0, 0] 0) = some (2, [], 0)) ∧
      (verbFits (crumbs 0x40) rowChainCrumb (msg [0x40, 0, 0, 0]) = true ∧ byteAt [0x40, 0, 0, 0] 0 ≤ 0x40 ∧
        ((crumbs 0x40).chn.cacc.find? fun x => x.1.toNat == byteAt [0x40, 0, 0, 0] 0) = some (0x40, [], 0)) := by decide +kernel

/-- The outcome of R415's tests does not depend on the free value of the window's offset here. -/
theorem streamRefusal_accepts (s : State) (a : allCalibrated s = true) (b : chainEl1 s = false) (c : pointGapNs s = none)
    (wofs : Nat) : streamRefusal s 0 1 100 wofs = none := by simp [streamRefusal, a, b, c, badIf, firstBad]

theorem streamRefusal_uncalibrated (s : State) (a : allCalibrated s = false) (wofs : Nat) :
    streamRefusal s 0 1 100 wofs = some 0x11 := by simp [streamRefusal, a, badIf, firstBad]

/-- The two states meet them. -/
theorem witness_streamRefusal :
    (allCalibrated headAnchor = true ∧ chainEl1 headAnchor = false ∧ pointGapNs headAnchor = none) ∧
      allCalibrated readyAnchor = false ∧ streamRefusal readyAnchor 0 0 0 0 = some 0x11 := by decide +kernel

/-! Safety and torque. -/

theorem witness_ConfirmationAndConnection :
    (let s : State := { ready with prot.everRel := true, prot.loaded := true, store.pwFactory := false }
     let p := leBytes 4 (sealNow s).toNat
     verbFits s rowSafeConfirm (msg p) = true ∧ word0 p = sealNow s ∧ s.prot.everRel = true ∧ s.store.pwFactory = false ∧
       word0 [0, 0, 0, 0] ≠ sealNow s ∧ verbFits s rowSafeConfirm (msg [0, 0, 0, 0]) = true ∧
       ({ s with store.pwFactory := true } : State).store.pwFactory = true) ∧
      verbFits base rowSafeStat (msg []) = true ∧
      (∀ t ∈ [1, 1000], let p : List Byte := [1, 0, 0, 0] ++ leBytes 2 t ++ [0, 0]
       verbFits ready rowSafeOpen (msg p) = true ∧ word0 p ≠ 0 ∧ ready.safe.lastConn ≠ some (word0 p) ∧ 1 ≤ leAt p 4 2 ∧
         leAt p 4 2 ≤ 1000 ∧ p.drop 6 = [0, 0]) ∧
      (verbFits ready rowSafeOpen (msg (List.replicate 8 0)) = true ∧ word0 (List.replicate 8 0) = 0) ∧
      verbFits ready rowSafeClose (msg []) = true ∧ isAnchor base = false ∧
      (isAnchor (login withTorque) = true ∧ (login withTorque).tq.enabling = [] ∧ (login withTorque).tq.rd = .enabled) ∧
      (active (connected base) = true ∧ (connected base).safe.conn ≠ none) ∧ base.safe.conn = none := by decide +kernel

/-- The connection of `connected`. -/
def conn7 : Conn := { id := 7, texp := 100, sseq := 0, losts := 0, reps := 0, restart := 0 }

/-- The envelope of a `SAFE_CYCLE`. -/
def cycleEnv (q : BitVec 16) : Msg := envMsg (envelope (connected base) 0x0705 q [])

theorem witness_EnvelopeChecks :
    fwRuns (connected base) = true ∧ (cycleEnv 1).env = true ∧ (cycleEnv 1).bcast = false ∧ commissioned (connected base) = true ∧
      (connected base).safe.conn = some conn7 ∧ noWaiters (connected base) 0x0705 (cycleEnv 1) = true ∧
      (cycleEnv 1).payload.length = 8 ∧ envJudge (connected base) 0x0705 (cycleEnv 1).payload = .accepted 1 1 ∧
      envJudge (connected base) 0x0705 (cycleEnv 8).payload = .accepted 8 8 ∧
      envJudge (connected base) 0x0705 (cycleEnv 0).payload = .repeated ∧
      envJudge (connected base) 0x0705 (cycleEnv 9).payload = .failed 4 ∧
      envJudge (connected base) 0x0705 (List.replicate 8 0) = .failed 3 := by decide +kernel

/-- An anchor with an open connection that has started up clean. -/
def mayTorque : State := { connected (asAnchor base) with prot.everRel := true, prot.unclean := false, cfg.roleCfg := 0x2811 }

theorem witness_TorqueEnabling :
    (let s := connected mayTorque
     let m := envMsg (envelope s rowSafeTen.code 1 [1, 0, 0, 0])
     fwRuns s = true ∧ isAnchor s = true ∧ m.env = true ∧ m.bcast = false ∧ commissioned s = true ∧ s.safe.conn = some conn7 ∧
       m.payload.length = 12 ∧ envJudge s rowSafeTen.code m.payload = .accepted 1 1 ∧ byteAt m.payload 4 = 1 ∧
       (m.payload.drop 5).take 3 = [0, 0, 0] ∧ s.sup.stopN = true ∧ tenRefusal s false = none) ∧
      (let s : State := { mayTorque with tq.enabling := [wait 0x0706], tq.ten := true }
       active s = true ∧ fwOn s = true ∧ isAnchor s = true ∧ s.tq.ten = true ∧ s.tq.enabling ≠ []) ∧
      fwOn { base with clk.coreDead := true } = false ∧ base.tq.enabling = [] ∧
      (running withTorque = true ∧ isAnchor withTorque = true ∧ withTorque.tq.ten = true ∧ torqueOn withTorque = true ∧
        withTorque.tq.enabling = []) ∧ active withTorque = true ∧
      active (asAnchor base) = true ∧ torqueOn (asAnchor base) = false ∧ base.tq.ten = false ∧ isAnchor base = false := by decide +kernel

/-- The anchor in a state of its torque, with monitors. -/
def torqueIn (rd : RdState) : State :=
  { withTorque with tq.rd := rd, tq.smTimer := true, cfg.roleCfg := 0x2817, cfg.rdnCfg := 7096, tq.smRole := 0x2817,
                    tq.smRoleN := ~~~0x2817 }

theorem witness_StopDecisionRundown :
    (active withTorque = true ∧ isAnchor withTorque = true ∧ withTorque.tq.enabling = [] ∧ withTorque.tq.rd = .enabled) ∧
      isAnchor base = false ∧ base.tq.rd ≠ .decide ∧ base.tq.smTimer = false ∧ base.tq.rd ≠ .rundown ∧
      (let s : State := { torqueIn .decide with
                            en.reports := [{ addr := 2, time := 0, ninc := 18, vmin := 400000, flt3 := false, excl := false }] }
       fwOn s = true ∧ isAnchor s = true ∧ s.tq.rd = .decide ∧ eNeed s.cfg * 200000 ≤ eSum s s.tq.decideAt) ∧
      (eSum (torqueIn .decide) (torqueIn .decide).tq.decideAt < eNeed (torqueIn .decide).cfg * 200000) ∧
      (running (torqueIn .decide) = true ∧ (torqueIn .decide).tq.smTimer = true ∧ (torqueIn .decide).tq.enabling = []) ∧
      (let s := torqueIn .rundown
       fwOn s = true ∧ active s = true ∧ running s = true ∧ isAnchor s = true ∧ s.tq.rd = .rundown ∧
         bitOf s.cfg.roleCfg 1 = true ∧ bitOf s.tq.smRole 1 = true ∧ bitOf base.tq.smRole 1 = false ∧ bitOf base.cfg.roleCfg 1 = false ∧
         s.tq.enabling = [] ∧ s.tq.zeros < 99 ∧ 99 ≤ ({ s with tq.zeros := 99 } : State).tq.zeros) ∧
      (active base = true ∧ fwRuns base = true ∧ (msg []).payload = [] ∧ noWaiters base rowSafeSto.code (msg []) = true) ∧
      (let s := connected withTorque
       let m := envMsg (envelope s rowSafeRdn.code 1 [1, 0, 0, 0])
       fwRuns s = true ∧ isAnchor s = true ∧ m.env = true ∧ m.bcast = false ∧ commissioned s = true ∧ s.safe.conn = some conn7 ∧
         m.payload.length = 12 ∧ envJudge s rowSafeRdn.code m.payload = .accepted 1 1 ∧ byteAt m.payload 4 = 1 ∧
         (m.payload.drop 5).take 3 = [0, 0, 0] ∧ s.tq.rd = .enabled ∧ s.tq.enabling = []) ∧
      verbFits (asAnchor base) rowSafeEnergy (msg []) = true := by decide +kernel

/-- A run-down whose last 8 ms hold some edges of `PHA`, as the firmware and the safety monitor saw them. -/
def runningDown (edges : List Nat) : State :=
  { torqueIn .rundown with now := 2000000, tq.runAt := 2000000, ph.phaAt := edges, tq.smEdges := edges }

theorem witness_rundownCheck :
    let a (s : State) := edges8 s.ph.phaAt fw8ms s.now
    let b (s : State) := edges8 s.tq.smEdges (smWindow true 30136) s.now
    let limF := rdnEdgeLimit (runningDown []).cfg.roleCfg (runningDown []).tq.n0f 1
    let limS := rdnEdgeLimit (runningDown []).tq.smRole (runningDown []).tq.n0s 1
    (limF < a (runningDown (List.replicate 3 2000000)) ∧ limS < b (runningDown (List.replicate 3 2000000))) ∧
      (¬ limF < a (runningDown [2000000]) ∧ ¬ limS < b (runningDown [2000000]) ∧ a (runningDown [2000000]) ≠ 0) ∧
      (¬ limF < a (runningDown []) ∧ a (runningDown []) = 0) ∧ (runningDown []).tq.checks = 0 ∧ (runningDown []).tq.smChecks = 0 ∧
      (runningDown []).tq.smRoleN = ~~~(runningDown []).tq.smRole ∧
      ({ runningDown [] with tq.smRoleN := 0 } : State).tq.smRoleN ≠ ~~~(runningDown []).tq.smRole := by decide +kernel

/-! Journal, power, diagnosis, applet verbs. -/

theorem witness_JournalPowerResetVerbs :
    (∀ c ∈ [(1 : Byte), 7], let s : State := { base with jrn.rNum := 1 }
     let p : List Byte := [0, c, 0, 0, 1, 0, 0, 0]
     verbFits s rowJrnRead (msg p) = true ∧ byteAt p 0 ≤ 1 ∧ 1 ≤ byteAt p 1 ∧ byteAt p 1 ≤ 7 ∧ (p.drop 2).take 2 = [0, 0] ∧
       heldRecord s (byteAt p 0 == 1) (leAt p 4 4) = some 1) ∧
      verbFits base rowJrnHead (msg []) = true ∧
      (verbFits ready rowJrnRelease (msg [1, 0, 0, 0]) = true ∧ 2 ^ 31 < (ready.jrn.iNum + 2 ^ 32 - leAt [1, 0, 0, 0] 0 4) % 2 ^ 32) ∧
      (releaseEnd ready 0 = none ∧ (ready.jrn.iNum + 2 ^ 32 - leAt [0, 0, 0, 0] 0 4) % 2 ^ 32 = 0) ∧
      releaseEnd { ready with jrn.iNum := 1 } 0 = some 1 ∧
      (∀ p ∈ [([1] : List Byte), List.replicate 16 0], verbFits ready rowJrnMark (msg p) = true ∧ p ≠ [] ∧ p.length ≤ 16) ∧
      jrnRoom ready = true ∧ 16 < (List.replicate 17 (0 : Byte)).length ∧
      (verbFits ready rowJrnMark (msg (List.replicate 17 0)) = true ∧ verbFits ready rowJrnMark (msg []) = true) ∧
      (∀ x ∈ [(0 : Byte), 1, 4], verbFits ready rowPwrSet (msg [x, 0, 0, 0]) = true ∧ byteAt [x, 0, 0, 0] 0 ≤ 4) ∧
      (4 < byteAt [5, 0, 0, 0] 0 ∧ verbFits ready rowPwrSet (msg [5, 0, 0, 0]) = true) ∧
      verbFits base rowPwrStat (msg []) = true ∧
      (verbFits base rowPwrWakeclr (msg [0xFF, 0x0F, 7, 0]) = true ∧ reservedBits (word0 [0xFF, 0x0F, 7, 0]) 0x00070FFF = none) ∧
      verbFits base rowPwrKeep (msg []) = true ∧ verbFits base rowDiagInfo (msg []) = true ∧
      verbFits base rowDiagScan (msg []) = true ∧ verbFits ready rowReset (msg [0x5A, 0xA5, 0x0F, 0x01]) = true ∧
      (verbFits ready rowReset (msg [0, 0, 0, 0]) = true ∧ (msg [0, 0, 0, 0]).payload ≠ [0x5A, 0xA5, 0x0F, 0x01]) := by
  decide +kernel

/-- A valid image of 20 bytes: the header of 20 Table 20-7 and one word. -/
def image : List Byte := [0x53, 0x51, 0x59, 0x31] ++ leBytes 4 16 ++ leBytes 4 10 ++ [0, 0, 0, 0] ++ [1, 2, 3, 4]

/-- A device whose store holds the image, committed. -/
def withImage : State :=
  { ready with mem := memPuts [] 0x30014000 image, store.imgValid := true, store.imgLen := 20, store.imgChk := crc32c image,
               apl.state := .valid }

/-- The applet runs. -/
def runningApl (s : State) : State := { s with apl.state := .running }

theorem witness_AppletVerbs :
    (MemOk ready ↔ Memory.wf ready.mem = true) ∧
      (∀ n ∈ [1, 232], let p := leBytes 4 (40960 - n) ++ List.replicate n 0
       verbFits ready rowAplLoad (msg p) = true ∧ 5 ≤ p.length ∧ p.length ≤ 236 ∧ leAt p 0 4 + (p.length - 4) ≤ 40960) ∧
      ready.apl.state ≠ .running ∧
      (let p := leBytes 4 40960 ++ [0]
       verbFits ready rowAplLoad (msg p) = true ∧ 40960 < leAt p 0 4 + (p.length - 4)) ∧
      (let p := leBytes 4 20 ++ leBytes 4 (crc32c image).toNat
       verbFits withImage rowAplCommit (msg p) = true ∧ 1 ≤ leAt p 0 4 ∧ leAt p 0 4 ≤ 40960 ∧
         imgChecks withImage (leAt p 0 4) (BitVec.ofNat 32 (leAt p 4 4)) = true ∧
         imgChecks withImage 19 (BitVec.ofNat 32 (leAt p 4 4)) = false) ∧
      (verbFits withImage rowAplStart (msg []) = true ∧ imgBytes withImage withImage.store.imgLen.toNat = some image ∧
        headerOk image withImage.store.imgLen.toNat = true ∧ crc32c image = withImage.store.imgChk) ∧
      (let s := runningApl withImage
       verbFits s rowAplStart (msg []) = true ∧ s.apl.state = .running ∧ verbFits s rowAplStop (msg []) = true ∧
         s.apl.inSvc = false ∧ verbFits s rowAplMsg (msg [1]) = true) ∧
      verbFits base rowAplStop (msg []) = true ∧ verbFits base rowAplStat (msg []) = true ∧
      verbFits base rowAplMsg (msg [1]) = true ∧
      (let s : State := { base with apl.msgs := [wait 0x0906] }
       active s = true ∧ s.apl.msgs = wait 0x0906 :: [] ∧ noWaiters s rowAplMsg.code (wait 0x0906).msg = true) ∧
      verbFits ready rowAplErase (msg []) = true := by
  refine ⟨Iff.rfl, ?_⟩
  decide +kernel

/-! The core. -/

/-- The applet runs at its first instruction; its service entry is enabled. -/
def applet : State :=
  { base with core.sw := 0x4050, core.pc := 16, core.fe := true, mpu.ap := aplRegions 20, apl.state := .running }

/-- Divides run in the background. -/
def plain0 : State := { base with core.sw := 0x4020 }

/-- A machine state with a stack in SRAM. -/
def stacked (s : State) : State := { s with core.g := s.core.g.set 15 0x20001000, core.vbase := 0x20000000 }

theorem witness_ArithmeticAndLogic :
    issues base = true ∧ issues plain0 = true ∧ issues applet = true := by decide +kernel

theorem witness_TrappingAndDivides :
    issues base = true ∧ base.core.sw.getLsbD 4 = true ∧ issues plain0 = true ∧ plain0.core.sw.getLsbD 4 = false ∧
      (let s := setR 1 0x7FFFFFFF (setR 2 1 (setR 3 0x80000000 base))
       issues s = true ∧ (-2 ^ 31 ≤ (getG s 1).toInt + (getG s 0).toInt ∧ (getG s 1).toInt + (getG s 0).toInt < 2 ^ 31) ∧
         ¬ ((getG s 1).toInt + (getG s 2).toInt < 2 ^ 31) ∧ ¬ (-2 ^ 31 ≤ (getG s 3).toInt - (getG s 2).toInt) ∧
         ¬ ((getG s 1).toInt * (getG s 1).toInt < 2 ^ 31) ∧ getG s 2 ≠ 0 ∧ getG s 0 = 0 ∧
         (-2 ^ 31 ≤ (getG s 3).toInt.tdiv (getG s 2).toInt ∧ (getG s 3).toInt.tdiv (getG s 2).toInt < 2 ^ 31)) ∧
      (let s := setR 2 0xFFFFFFFF (setR 3 0x80000000 base)
       ¬ ((getG s 3).toInt.tdiv (getG s 2).toInt < 2 ^ 31)) ∧
      (([(0 : Word), 3].all fun y => decide (
        let d : DivRun := { op := .divu, rd := 4, x := 10, y := y, pc := 0x200, a := false, n := 0 }
       let s : State := { plain0 with core.div := some d }
       running s = true ∧ s.core.div = some d ∧ d.a = inApplet s ∧ s.core.imp = none)) = true) ∧ base.core.div = none := by decide +kernel

/-- A buffered store. -/
def aStore (a : Nat) : BufStore :=
  { addr := a, issued := BitVec.ofNat 32 a, bytes := [1, 2, 3, 4], size := 2, a := false }

/-- Registers for a block move: g1 destination, g2 source, g3 count. -/
def block (n : Word) : State := setR 1 0x20000000 (setR 2 0x20000100 (setR 3 n base))

theorem witness_LoadsStoresBlockMoves :
    (([(0x20000000 : Word), 0x2002FFFC].all fun a => decide (
        let s := setR 2 a base
     issues s = true ∧ mpuCheck s (inApplet s) (getG s 2 + sext18 0).toNat 1 = .ok a.toNat ∧
       mpuCheck s (inApplet s) (getG s 2 + sext18 0).toNat 2 = .ok a.toNat ∧ inSram a.toNat = true ∧
       (getG s 2 + sext18 0).toNat % 4 = 0 ∧ s.core.sbuf.length < 4)) = true) ∧
      (let s : State := { setR 2 0x20000000 base with core.sbuf := [aStore 0x20000000, aStore 4, aStore 8, aStore 12] }
       issues s = true ∧ s.core.sbuf = aStore 0x20000000 :: [aStore 4, aStore 8, aStore 12] ∧ 4 ≤ s.core.sbuf.length) ∧
      (getG (setR 2 0x20000001 base) 2 + sext18 0).toNat % 4 ≠ 0 ∧
      (let s := setR 2 0x100 applet
       issues s = true ∧ (getG s 2 + sext18 0).toNat % 4 = 0 ∧
         mpuCheck s (inApplet s) (getG s 2 + sext18 0).toNat 1 = .error 1) ∧
      (let s : State := { base with core.sbuf := [aStore 0x20000000] }
       running s = true ∧ s.core.sbuf = aStore 0x20000000 :: [] ∧ s.core.late = none) ∧
      (distinct3 1 2 3 = true ∧ issues (block 0) = true ∧ getG (block 0) 3 = 0) ∧
      (issues (block 8) = true ∧ (block 8).core.sbuf = [] ∧ 8 ≤ (getG (block 8) 3).toNat ∧ (getG (block 8) 1).toNat % 4 = 0 ∧
        (getG (block 8) 2).toNat % 4 = 0 ∧ mpuCheck (block 8) false (getG (block 8) 2).toNat 1 = .ok 0x20000100 ∧
        mpuCheck (block 8) false (getG (block 8) 1).toNat 2 = .ok 0x20000000 ∧ inSram 0x20000100 = true) := by decide +kernel

theorem witness_ControlAndSystemInstructions :
    issues base = true ∧ inApplet base = false ∧ (0 : BitVec 4) ≠ 15 ∧ (14 : BitVec 4) ≠ 15 ∧ (11 : BitVec 4).toNat < 12 ∧
      issues applet = true ∧ inApplet applet = true ∧ (12 : BitVec 4).toNat ≤ 12 ∧ applet.core.fe = true ∧
      ({ applet with core.fe := false } : State).core.fe = false ∧ base.apl.inSvc = false ∧ base.core.sbuf = [] ∧
      (let e : LateErr := { addr := 0, a := false, sub := 1, size := 2, ovr := false, fresh := true }
       let s : State := { base with core.late := some e }
       coreOn s = true ∧ s.core.imp = none ∧ s.core.fstop = false ∧ fetchFault s = none ∧ drainErr s = some e ∧
         drainErr base = none) ∧
      (let s : State := { base with core.waiting := true, pw.state := .standby, mbx.takeq := [0] }
       s.core.waiting = true ∧ s.pw.state = .standby ∧ workWaits s = true ∧ workWaits base = false) ∧ base.core.waiting = false ∧
      base.pw.state ≠ .standby ∧
      (let s : State := { base with core.waiting := true, core.ipend := 1, core.ien0 := 1 }
       s.core.waiting = true ∧ pendBits s &&& enableBits s ≠ 0) ∧ pendBits base &&& enableBits base = 0 := by decide +kernel

/-- Entry 50 is pending and enabled, and H is 0. -/
def irq50 : State := { base with core.sw := 0x4010, core.ipend := 1 <<< 34, core.ien1 := 4 }

theorem witness_ExceptionsAndReturn :
    (let s := stacked base
     plainMode s = true ∧ s.core.div = none ∧ s.core.g[15].toNat % 8 = 0 ∧ inSram (s.core.g[15] - 16).toNat = true ∧
       inSram (s.core.g[15] - 16 + 12).toNat = true ∧ Memory.wf s.mem = true ∧
       inSram (s.core.vbase + BitVec.ofNat 32 (4 * 63)).toNat = true ∧
       (s.core.vbase + BitVec.ofNat 32 (4 * 63)).toNat + 4 ≤ (s.core.g[15] - 16).toNat ∧
       (BitVec.ofNat 32 (leVal (memGets s.mem (s.core.vbase + BitVec.ofNat 32 (4 * 63)).toNat 4))).toNat % 4 = 0) ∧
      (coreAwake irq50 = true ∧ fetchFault irq50 = none ∧ asyncEvent irq50 = some (.irq 50) ∧ (50 : Nat) ≠ 46 ∧ (50 : Nat) ≠ 63) ∧ asyncEvent base = none ∧
      issues base = true ∧ legalWord 0 = false ∧ legalWord 0x08000000 = true ∧
      (let s : State := { irq50 with core.pc := 0x202 }
       coreOn s = true ∧ impDue s = false ∧ asyncEvent s ≠ none ∧ (fetchFault s).isSome = true) ∧
      (coreOn base = true ∧ impDue base = false ∧ fetchFault base = none ∧ drainErr base = none) ∧
      (let s : State := { base with core.fstop := true }
       s.core.fstop = true ∧ fwOn s = false ∧ s.clk.coreDead = false ∧ s.rst.held = false) ∧
      (let s := stacked base
       issues s = true ∧ plainMode s = true ∧ s.core.g[15].toNat % 4 = 0 ∧ inSram s.core.g[15].toNat = true ∧
         inSram (s.core.g[15] + 12).toNat = true) ∧
      (inSram (base.core.esp - 32).toNat = true ∧ inSram ((base.core.esp - 32).toNat + 31) = true) ∧
      base.rst.held = false := by decide +kernel

/-- The applet has called a service: its number, and its first two arguments. -/
def svc (n a b : Word) : State :=
  setR 1 n (setR 2 a (setR 3 b { applet with core.sw := 0x4030, core.pc := 0x200, apl.inSvc := true, apl.svcPend := true,
                                             prot.everRel := true }))

theorem witness_AppletServices :
    svcReady (svc 1 0 0) 1 = true ∧ svcReady (svc 2 0 0) 2 = true ∧
      (([(1 : Word), 10000].all fun t => decide (
        svcReady (svc 3 t 0) 3 = true ∧ 1 ≤ (svc 3 t 0).core.g[2].toNat ∧
        (svc 3 t 0).core.g[2].toNat ≤ 10000)) = true) ∧
      ((svc 3 0 0).core.g[2] = 0 ∧ 10000 < (svc 3 10001 0).core.g[2].toNat) ∧
      (running { base with apl.suspended := true } = true ∧ base.apl.suspended = false) ∧
      (let s : State := { svc 4 0x10000 0 with acq.kept := [snap] }
       svcReady s 4 = true ∧ s.core.g[3] = 0 ∧ s.acq.kept = snap :: [] ∧ svcRange s s.core.g[2] 84 2 = some 0x20020100 ∧
         (snapBytes snap).length = 84) ∧
      (svcReady (svc 4 0x10000 0) 4 = true ∧ (svc 4 0x10000 0).acq.kept = [] ∧
        svcRange (svc 4 0x10000 0) (svc 4 0x10000 0).core.g[2] 84 2 = some 0x20020100) ∧
      (let s : State := { svc 5 0x1FED8 0 with acq.ntcKept := [List.replicate 40 0] }
       svcReady s 5 = true ∧ s.acq.ntcKept = List.replicate 40 0 :: [] ∧ svcRange s s.core.g[2] 40 2 = some 0x2002FFD8) ∧
      (svcReady (svc 5 0x1FEDC 0) 5 = true ∧ svcRange (svc 5 0x1FEDC 0) (svc 5 0x1FEDC 0).core.g[2] 40 2 = none) ∧
      (svc 5 0x1FED8 0).acq.ntcKept = [] ∧ svcReady (svc 4 0 1) 4 = true ∧ (svc 4 0 1).core.g[3].toNat < 0x10000 ∧
      svcRange (svc 4 2 0) (svc 4 2 0).core.g[2] 84 2 = none ∧ (∀ n ∈ List.range 14, svcReady base n = false) := by
  decide +kernel

theorem witness_AppletServicesBalancing :
    (let s := svc 6 0x10000 1
     svcReady s 6 = true ∧ 1 ≤ s.core.g[3].toNat ∧ s.core.g[3].toNat ≤ 18 ∧ svcRange s s.core.g[2] 8 1 = some 0x20020100 ∧
       balRecsBad s (balRecs (svcRead s 0x20020100 8)) 0 = some 0) ∧
      (let s : State := { svc 6 0x10000 1 with mem := memPuts [] 0x20020100 (balRec 1 1 1 0), bal := mayBalance.bal,
                                               cfg := mayBalance.cfg }
       let l := balRecs (svcRead s 0x20020100 8)
       balRecsBad s l 0 = none ∧ s.prot.everRel = true ∧ balTestFails s l = false ∧
         balTestFails { s with bal.testFail := 1 } l = true ∧ ({ s with prot.everRel := false } : State).prot.everRel = false) ∧
      (svcReady (svc 7 0x3FFFF 0) 7 = true ∧ (svc 7 0x3FFFF 0).core.g[2].toNat < 2 ^ 18) ∧
      (svcReady (svc 8 0x10000 0) 8 = true ∧ svcRange (svc 8 0x10000 0) (svc 8 0x10000 0).core.g[2] 72 2 = some 0x20020100) ∧
      svcRange (svc 8 2 0) (svc 8 2 0).core.g[2] 72 2 = none ∧ (svc 6 0 0).core.g[3] = 0 ∧ svcReady (svc 6 0 0) 6 = true ∧
      svcRange (svc 6 2 18) (svc 6 2 18).core.g[2] 144 1 = none ∧ svcReady (svc 6 2 18) 6 = true ∧
      (svcReady (svc 7 0x40000 0) 7 = true ∧ 2 ^ 18 ≤ (svc 7 0x40000 0).core.g[2].toNat) := by
  decide +kernel

theorem witness_AppletServicesMessages :
    (let s : State := { svc 9 0x10000 0 with apl.msgs := [wait 0x0906] }
     svcReady s 9 = true ∧ svcRange s s.core.g[2] 240 2 = some 0x20020100 ∧ s.apl.msgs = wait 0x0906 :: []) ∧
      (svc 9 0x10000 0).apl.msgs = [] ∧
      (([(1 : Word), 240].all fun n => decide (
        let s : State := { svc 10 0x10000 n with apl.msgs := [wait 0x0906] }
       svcReady s 10 = true ∧ 1 ≤ s.core.g[3].toNat ∧ s.core.g[3].toNat ≤ 240 ∧
         svcRange s s.core.g[2] s.core.g[3].toNat 1 = some 0x20020100)) = true) ∧
      (([(1 : Word), 16].all fun n => decide (
        let s := svc 11 0x10000 n
       svcReady s 11 = true ∧ 1 ≤ s.core.g[3].toNat ∧ s.core.g[3].toNat ≤ 16 ∧
         svcRange s s.core.g[2] s.core.g[3].toNat 1 = some 0x20020100 ∧ jrnRoom s = true ∧
         (s.apl.notes.filter fun x => decide (s.now - x < 1000 * ctPerMs)).length < 10)) = true) ∧
      (([(0 : Word), 1].all fun n => decide (
        svcReady (svc 12 n 0) 12 = true ∧ (svc 12 n 0).core.g[2] = n)) = true) ∧
      (svcReady (svc 13 0 0) 13 = true ∧ (svc 13 0 0).apl.stopDue = none ∧ (svc 13 0 0).apl.state = .running) := by decide +kernel

theorem witness_AppletServicesRefused :
    svcRange (svc 9 2 0) (svc 9 2 0).core.g[2] 240 2 = none ∧ svcReady (svc 9 2 0) 9 = true ∧
      (svcReady (svc 10 0 241) 10 = true ∧ 240 < (svc 10 0 241).core.g[3].toNat) ∧
      (svcReady (svc 10 0 0) 10 = true ∧ (svc 10 0 0).core.g[3] = 0 ∧ (svc 10 0 0).core.g[2].toNat % 4 = 0) ∧
      svcRange (svc 10 2 240) (svc 10 2 240).core.g[2] 240 1 = none ∧
      (svcReady (svc 11 0 17) 11 = true ∧ 16 < (svc 11 0 17).core.g[3].toNat ∧ (svc 11 0 0).core.g[3] = 0) ∧
      svcRange (svc 11 2 16) (svc 11 2 16).core.g[2] 16 1 = none ∧
      10 ≤ (({ svc 11 0x10000 1 with apl.notes := List.replicate 10 0 } : State).apl.notes.filter fun x =>
        decide (0 - x < 1000 * ctPerMs)).length ∧
      (svcReady (svc 12 2 0) 12 = true ∧ 1 < (svc 12 2 0).core.g[2].toNat) ∧
      (let s : State := { svc 1 0 0 with now := 100 * ctPerMs }
       running s = true ∧ s.apl.state = .running ∧ s.apl.ivAt + 100 * ctPerMs ≤ s.now) ∧ (svc 1 0 0).now < (svc 1 0 0).apl.ivAt + 100 * ctPerMs ∧
      base.apl.state ≠ .running ∧ ((svc 14 0 0).core.fstop = false ∧ (svc 14 0 0).core.owed = none ∧ unknownSvc (svc 14 0 0) = true) ∧
      inSram 0x20020100 = true := by decide +kernel

/-! DMA, check engine. -/

/-- A DMA channel as given. -/
def dmaIs (n : Fin 8) (c : DmaCh) (s : State) : State := { s with dma.ch := s.dma.ch.set n c }

/-- A valid descriptor at the channel's address: copy one word. -/
def descriptor : State :=
  dmaIs 0 { DmaCh.reset with desc := 0x20000000 }
    { base with mem := memPuts [] 0x20000000 (wordsLe [0x20000100, 0x20000200, 0x00880004, 0]) }

/-- What channel 0 reads as its descriptor. -/
def descWords (s : State) : List Word :=
  match readDesc (setCh s 0 { s.dma.ch[(0 : Fin 8)] with held := [], req := false }) 0 4 0x20000000 with
  | .ok (l, _) => l
  | .error _ => []

/-- A channel about to move its last word. -/
def lastWord (st : DmaState) : DmaCh :=
  { DmaCh.reset with state := st, src := 0x20000100, dst := 0x20000200, left := 4, ctl := 0x00880004 }

theorem witness_DmaChannels :
    (active descriptor = true ∧ descriptor.dma.ch[(0 : Fin 8)].state = .idle ∧
      descriptor.dma.ch[(0 : Fin 8)].desc.toNat % 16 = 0 ∧ descBad 0 0x20000100 0x20000200 0x00880004 = false ∧
      descWords descriptor = [0x20000100, 0x20000200, 0x00880004, 0]) ∧
      (dmaIs 0 { DmaCh.reset with desc := 8 } base).dma.ch[(0 : Fin 8)].desc.toNat % 16 ≠ 0 ∧
      (∀ st ∈ [DmaState.run, .wait, .fault], (dmaIs 7 (lastWord st) base).dma.ch[(7 : Fin 8)].state = st) ∧
      (dmaIs 7 (lastWord .fault) base).dma.ch[(7 : Fin 8)].fsub ≠ 9 ∧ (dmaIs 7 (lastWord .fault) base).dma.ch[(7 : Fin 8)].fsub ≠ 10 ∧
      (let s := dmaIs 5 (lastWord .run) base
       active s = true ∧ lowestCh s (fun c => c.state == .aborting) = none ∧ lowestCh s dmaReadyCh = some 5 ∧ s.mpu.fen = false ∧
         s.dma.ch[(5 : Fin 8)].held = [] ∧ s.dma.ch[(5 : Fin 8)].left = dmaWidth s.dma.ch[(5 : Fin 8)].ctl ∧
         bitOf s.dma.ch[(5 : Fin 8)].ctl 23 = true ∧ inSram s.dma.ch[(5 : Fin 8)].src.toNat = true ∧
         inSram s.dma.ch[(5 : Fin 8)].dst.toNat = true) ∧
      portTaken (dmaIs 5 (lastWord .run) base) true = false ∧
      (let s := dmaIs 5 { lastWord .aborting with req := false } base
       active s = true ∧ portTaken s true = false ∧ lowestCh s (fun c => c.state == .aborting) = some 5 ∧ s.dma.ch[(5 : Fin 8)].req = false) ∧
      lowestCh base dmaReadyCh = none ∧ (6 : BitVec 5) ≠ 0 := by decide +kernel

/-- A check-engine channel as given. -/
def ceIs (m : Fin 4) (c : CeCh) (s : State) : State := { s with ce.ch := s.ce.ch.set m c }

/-- A scan of 4 bytes of SRAM. -/
def aScan (st : CeState) : CeCh := { CeCh.reset with addr := 0x20020000, len := 4, state := st }

/-- A scan of the applet window under the applet's regions. -/
def scanning : State := ceIs 2 { aScan .busy with addr := 0x10000 } applet

/-- Both engines ask for the SRAM port, and one of them has had it. -/
def bothAsk (dma : Bool) : State :=
  let s := dmaIs 5 (lastWord .run) (ceIs 0 (aScan .busy) base)
  { s with dma.sramLast := some dma }

theorem witness_portTaken :
    ∀ d : Bool, portTaken (bothAsk d) d = true ∧ dmaSram (bothAsk d) = true ∧ ceSram (bothAsk d) = true := by decide +kernel

theorem witness_CheckEngineScans :
    (∀ st ∈ [CeState.idle, .fault], let s := ceIs 3 (aScan st) base
     active s = true ∧ s.ce.ch[(3 : Fin 4)].state ≠ .busy ∧ ceBad s.ce.ch[(3 : Fin 4)] = false ∧ s.ce.ch[(3 : Fin 4)].len ≠ 0) ∧
      ceBad { aScan .idle with cfg := 33 } = true ∧ ceBad { aScan .idle with cfg := 0 } = true ∧
      (ceIs 3 (aScan .busy) base).ce.ch[(3 : Fin 4)].state = .busy ∧
      (active scanning = true ∧ ceNext scanning = some 2 ∧ scanning.ce.ch[(2 : Fin 4)].abort = false ∧
        portTaken scanning false = false ∧
        (ceWords 8 { notePort scanning false with ce := { scanning.ce with lastCh := 2 } } 2).2 = true ∧
        ceAll (ceWords 8 { notePort scanning false with ce := { scanning.ce with lastCh := 2 } } 2).1.ce.ch[(2 : Fin 4)] = true) ∧
      (let s := ceIs 3 { aScan .busy with abort := true } base
       ceNext s = some 3 ∧ portTaken s false = false ∧ s.ce.ch[(3 : Fin 4)].abort = true) ∧ ceNext base = none ∧
      (ceIs 0 { CeCh.reset with mtch := true } base).ce.ch[(0 : Fin 4)].mtch = true ∧
      (let s : State := { ceIs 0 { CeCh.reset with cfg := 0x200 } base with prot.romOk := true, ce.rep := 1 }
       s.rst.held = false ∧ s.prot.romOk = true ∧ s.ce.ch[(0 : Fin 4)].mtch = false ∧ bitOf s.ce.ch[(0 : Fin 4)].cfg 9 = true ∧
         s.ce.rep.getLsbD 0 = true) ∧ bitOf base.ce.ch[(0 : Fin 4)].cfg 9 = false ∧ fwRuns base = true ∧
      (base.ce.ch[(0 : Fin 4)].state ≠ .busy ∧ base.ce.ch[(1 : Fin 4)].state ≠ .busy) := by decide +kernel

/-! The journal's writer, power states, the watchdog. -/

/-- A queued entry. -/
def entry (inc : Bool) : JEntry := mkEntry base inc 0x45 [4, 0]

/-- A device in a power state. -/
def inPower (p : PState) : State := { base with pw.state := p, cfg.patCfg := 0x96DC103C }

theorem witness_JournalWriterAndPowerStates :
    (let s : State := { base with jrn.queue := [entry false] }
     fwRuns s = true ∧ causesOpen s = false ∧ jrnNext s.jrn.queue = some (entry false) ∧ (entry false).inc = false ∧ (entry false).mark = none ∧
       s.jrn.discards = 0 ∧ Memory.wf s.mem = true ∧ (entry false).parts = 1) ∧
      (let s : State := { base with jrn.queue := [entry true] }
       causesOpen s = false ∧ jrnNext s.jrn.queue = some (entry true) ∧ (entry true).inc = true ∧ (entry true).mark = none ∧ (entry true).parts ≤ incFree s) ∧
      base.jrn.queue = [] ∧
      (active base = true ∧ base.pw.decided = none ∧ base.pw.sleepGone = false ∧ fld base.cfg.tmrCfg 31 16 ≠ 0 ∧
        fld ({ base with cfg.tmrCfg := 0 } : State).cfg.tmrCfg 31 16 = 0) ∧
      (∀ x ∈ [PState.patrol, .sleep, .shutdown], let s : State := { base with pw.decided := some x }
       s.pw.decided = some x ∧ entryReady s = true) ∧
      (let s : State := { base with pw.decided := some .sleep, pw.alarmDue := true }
       entryReady s = true ∧ s.pw.alarmDue = true) ∧ awake (inPower .sleep) = false ∧ patrolDue (inPower .patrol) = false ∧
      (running (inPower .patrol) = true ∧ (inPower .patrol).pw.wakeDue = false ∧
        patrolDue { inPower .patrol with now := 60000 * ctPerMs } = true ∧
        patFindings (inPower .patrol) (patrol 500000) (patrol 500000) 4 ≠ 0 ∧
        patFindings (inPower .patrol) (patrol 500000) (patrol 370000) 4 = 0 ∧
        patFindings (inPower .patrol) (patrol 500000) (patrol 500000) (3 : Fin 4).val ≠ 0 ∧
        patFindings (inPower .patrol) (patrol 370000) (patrol 500000) 4 = 0 ∧ bitOf (inPower .patrol).cfg.patCfg 13 = false) ∧
      base.pw.state ≠ .patrol ∧
      (∀ p ∈ [PState.patrol, .sleep, .shutdown], running { inPower p with pw.wakeDue := true } = true ∧
        ({ inPower p with pw.wakeDue := true } : State).pw.state = p ∧ ({ inPower p with pw.wakeDue := true } : State).pw.wakeDue = true) ∧
      awake base = true := by decide +kernel

theorem witness_WatchdogAndSupervision :
    (wdOn base = true ∧ fwRuns base = true ∧ base.rst.supFail = false ∧ sysTicked base base.rst.wdServed = false ∧
      sysTicked { base with now := ctPerMs } base.rst.wdServed = true ∧ fwRuns { base with clk.coreDead := true } = false) ∧ wdOn (inPower .sleep) = false ∧
      (let s : State := { base with core.sw := 0x2F10 }
       wdOn s = true ∧ fwOn s = true ∧ s.core.sw.getLsbD 5 = false ∧ 46 < swLvl s.core.sw) ∧ fwOn base = true ∧
      fwOn { base with core.fstop := true } = false ∧
      swLvl ({ base with core.sw := 0x2E10 } : State).core.sw ≤ 46 ∧ base.core.sw.getLsbD 5 = true ∧
      (active base = true ∧ supCode 0xD401 = true ∧ supCode 0xD412 = true ∧ supCode 0xD413 = false ∧ supCode 0xD400 = false) := by
  decide +kernel

/-! ## Results worked out in the spec, or by hand from its tables -/

/-- "123456789". -/
def digits : List Byte := [0x31, 0x32, 0x33, 0x34, 0x35, 0x36, 0x37, 0x38, 0x39]

/-- 11 R381. -/
theorem test_crc32 : crc32 digits = 0xCBF43926 := by decide +kernel
/-- 15 R562. -/
theorem test_crc32c : crc32c digits = 0xE3069283 := by decide +kernel
/-- 11 R382. -/
theorem test_crc16 : crc16 digits = 0x29B1 := by decide +kernel
/-- FIPS 180-4, the digest of "abc" (its first four and last four bytes). -/
theorem test_sha256 : (sha256 [0x61, 0x62, 0x63]).take 4 = [0xBA, 0x78, 0x16, 0xBF] ∧
    (sha256 [0x61, 0x62, 0x63]).drop 28 = [0xF2, 0x00, 0x15, 0xAD] := by decide +kernel

/-- 06 Example 6-2: the codes of words 5 and 9. -/
theorem test_words : wordCode 0x00061F60 = 401248 ∧ wordCode 0xC0FFA89C = -22372 := by decide
/-- 09 Example 9-1: `CMP_CFG` 0x11F41232 is 4.248 V and 2.800 V. -/
theorem test_thresholds : ovMv { base.cfg with cmpCfg := 0x11F41232 } = 4248 ∧
    uvMv { base.cfg with cmpCfg := 0x11F41232 } = 2800 := by decide
/-- 17 Example 17-1: nine entries, `CMP_CFG` the fourth. -/
theorem test_sealRegs : (sealRegs base.cfg).length = 9 ∧ (sealRegs base.cfg)[3]? = some (0x58, base.cfg.cmpCfg) := by decide
set_option maxRecDepth 100000 in
/-- 17 R650: the record at reset carries the check over its own items. -/
theorem test_areaCheck : State.reset.store.record.crc = areaCrc State.reset.store.record := by decide +kernel
/-- 17 R662: so does the password record. -/
theorem test_pwCheck : State.reset.store.pwCrc = crc32c (pwBytes State.reset.store) := by decide +kernel
/-- 15 Example 15-1: 0x0130 after 0x012E is accepted with d = 2. -/
theorem test_envelope :
    let c : Conn := { id := 0x5A170C03, texp := 100, sseq := 0x012E, losts := 0, reps := 0, restart := 0 }
    let s : State := { base with store.uid := 0x00421B0000007E31, safe.conn := some c }
    let e : List Byte := [0x30, 0x01, 0x04, 0x00, 0x01, 0x00, 0x00, 0x00]
    let input : List Byte := [0x03, 0x0C, 0x17, 0x5A, 0x31, 0x7E, 0, 0, 0, 0x1B, 0x42, 0, 0x06, 0x07] ++ e
    envJudge s 0x0706 (e ++ leBytes 4 (crc32c input).toNat) = .accepted 0x0130 2 := by decide +kernel
/-- 22 Example 22-1. -/
theorem test_record :
    recBytes { inc := true, type := 3, parts := 1, data := [0x0E, 0x01, 0xA9, 0x01], uptime := 86402400084, resets := 37,
               epoch := 0x020186A0, mark := none } true false 531 0 =
      [0x13, 0x02, 0, 0, 0x03, 0x08, 0x54, 0xFF, 0xFB, 0x1D, 0x14, 0x00, 0x25, 0, 0, 0, 0xA0, 0x86, 0x01, 0x02, 0x0E, 0x01, 0xA9,
        0x01] ∧ jrnAddr true 531 = 0x3000C240 := by decide +kernel
/-- 20 Example 20-1: the regions of an image of 9,000 bytes, and the cause of its second store. -/
theorem test_appletRegions :
    mpuCheck { base with mpu.ap := aplRegions 9000 } true 0x10480 2 = .ok 0x20022880 ∧
      mpuCheck { base with mpu.ap := aplRegions 9000 } true 0x1000 2 = .error 3 ∧
      causeWord 7 true true 2 false false 3 false = 0x32C7 := by decide +kernel
/-- 20 Example 20-2, burst 2. -/
theorem test_dmaFault :
    let c : DmaCh := { DmaCh.reset with state := .run, src := 0x10020, dst := 0x1DC00, left := 68, ctl := 0x00B80064 }
    let t := after .dmaBurst (dmaIs 6 c { applet with mpu.ap := aplRegions 9000 })
    let d := t.dma.ch[(6 : Fin 8)]
    d.state = .fault ∧ d.src = 0x10040 ∧ d.dst = 0x1DC00 ∧ d.held.length = 32 ∧ d.left = 68 ∧ d.fsub = 1 ∧ d.fwr = true := by
  decide +kernel
/-- 21 Example 21-1: the burst gives `RES` and `MATCH`. -/
theorem test_checkEngine :
    let c : CeCh := { CeCh.reset with cfg := 0x3E0, poly := 0x1EDC6F41, addr := 0x12000, len := 9, exp := 0xE3069283,
                                      state := .busy, r := 0xFFFFFFFF }
    let t := after .ceBurst (ceIs 2 c { applet with mem := memPuts [] 0x20022100 digits })
    t.ce.ch[(2 : Fin 4)].res = 0xE3069283 ∧ t.ce.ch[(2 : Fin 4)].mtch = true ∧ t.ce.ch[(2 : Fin 4)].done = true := by
  decide +kernel
/-- 18 Example 18-1: the frame and the new `SW` of an imprecise divide fault of an applet. -/
theorem test_impreciseFault :
    let s : State := { stacked applet with core.sw := 0x4041, core.pc := 40, core.imp := some (1, 16, true) }
    let t := after .exceptionEntry s
    memGets t.mem 0x20000FF0 16 = wordsLe [40, 0x4041, 0x1846, 16] ∧ t.core.sw = 0x4031 ∧ t.core.g[15] = 0x20000FF0 := by
  decide +kernel
/-- 19 Example 19-2, step 3: a byte is copied. -/
theorem test_blockMove :
    let t := after (.bmov 1 2 3) (block 2)
    getG t 1 = 0x20000001 ∧ getG t 2 = 0x20000101 ∧ getG t 3 = 1 ∧ t.core.pc = 0x200 := by decide +kernel
/-- 19 Table 19-4: the sum overflows: N and V, no carry. -/
theorem test_addOverflow :
    let t := after (.add 3 1 2 true) (setR 1 0x7FFFFFFF (setR 2 1 base))
    getG t 3 = 0x80000000 ∧ t.core.sw = 0x403A ∧ t.core.pc = 0x204 := by decide +kernel
/-- 19 Table 19-4: 0 − 1 borrows; the source is also the destination. -/
theorem test_subBorrow :
    let t := after (.sub 2 0 2 true) (setR 2 1 base)
    getG t 2 = 0xFFFFFFFF ∧ t.core.sw = 0x4036 := by decide +kernel
/-- 19: an arithmetic shift of a negative number rounds down, its carry the last bit shifted out. -/
theorem test_sraCarry :
    let t := after (.sra 3 1 2 true) (setR 1 0x80000003 (setR 2 33 base))
    getG t 3 = 0xC0000001 ∧ t.core.sw = 0x4036 := by decide +kernel
/-- 19: a signed byte is extended. -/
theorem test_ldb :
    getG (after (.ldb 3 2 0x3FFFF) { setR 2 0x20000001 base with mem := [(0x20000000, 0x80)] }) 3 = 0xFFFFFF80 := by
  decide +kernel
/-- 19 R733: a branch backwards by one word. -/
theorem test_bc : (after (.bc 7 0x3FFFFF) base).core.pc = 0x1FC := by decide +kernel
/-- 05, 18: a period of the strobe distributor. -/
theorem test_tick : (tick base).now = 1 ∧ (tick base).tim.cnt = 1 := by decide +kernel
/-- 16 R611: `STOP_N` falls while torque is enabled. -/
theorem test_stop : (after .stopNLow withTorque).tq.rd = .decide ∧ (after .stopNLow withTorque).tq.ten = true := by decide +kernel
/-- 14 Table 14-2: `ID_FACTORY`'s reply: header, 16 bytes, trailer. -/
theorem test_idFactory : (after (.idFactory (msg [])) base).mbx.lastReply.length = 32 := by decide +kernel
/-- 24 R871: `RESET_N` records source 4. -/
theorem test_resetN : (after .resetNAssert base).rst.latch = 4 ∧ (after .resetNAssert base).rst.held = true := by decide +kernel

end Sys2Proof.Tests
end

/-! PROOFS. Pins, supplies, reset release and the seal check (02, 04, 17, 24). -/

namespace Sys2Proof.Machine

/-! ## What an operation keeps, carried through a fold -/

/-- A fold keeps every quantity that its operation keeps. -/
theorem foldl_keeps {α β : Type} (g : State → β) (f : State → α → State) (h : ∀ s a, g (f s a) = g s) (l : List α) (s : State) :
    g (l.foldl f s) = g s :=
  List.foldlRecOn l f (motive := fun t => g t = g s) rfl fun t ht a _ => (h t a).trans ht

/-! ## What replies leave alone -/

@[simp] theorem replyErr_tq (s : State) (v : BitVec 16) (m : Msg) (c d : Nat) : (replyErr s v m c d).tq = s.tq :=
  (replyErr_only ..).same .tq (by decide)

@[simp] theorem replyErr_jrn (s : State) (v : BitVec 16) (m : Msg) (c d : Nat) : (replyErr s v m c d).jrn = s.jrn :=
  (replyErr_only ..).same .jrn (by decide)

@[simp] theorem rdnAnswers_tq (l : List (Waiting × Bool)) (o : Nat) (s : State) : (rdnAnswers l o s).tq = s.tq :=
  (rdnAnswers_only ..).same .tq (by decide)

@[simp] theorem updateLive_prot (s : State) : (updateLive s).prot = s.prot := (updateLive_only _).same .prot (by decide)

/-! ## The end of the UART's reply: no operation that answers a message or removes torque moves it -/

@[simp] theorem placeOut_htxEnd (s : State) (i : Fin 4) (b : List Byte) : (placeOut s i b).host.htxEnd = s.host.htxEnd := rfl

@[simp] theorem sendAcked_host (s : State) (p : Port) (ty : BitVec 4) (d : BitVec 7) (b : List Byte) (o : Option (Fin 4)) :
    (sendAcked s p ty d b o).host = s.host := by cases p <;> rfl

@[simp] theorem deliver_htxEnd (s : State) (m : Msg) (b : List Byte) : (deliver s m b).host.htxEnd = s.host.htxEnd := by
  unfold deliver
  split
  · exact placeOut_htxEnd ..
  · split
    · rfl
    · exact congrArg HostUnit.htxEnd (sendAcked_host (o := none) ..)

@[simp] theorem reply_htxEnd (s : State) (v : BitVec 16) (m : Msg) (e n : Bool) (b : List Byte) :
    (reply s v m e n b).host.htxEnd = s.host.htxEnd :=
  (foldl_keeps (·.host.htxEnd) _ (fun _ _ => deliver_htxEnd ..) _ _).trans (deliver_htxEnd ..)

@[simp] theorem replyErr_htxEnd (s : State) (v : BitVec 16) (m : Msg) (c d : Nat) :
    (replyErr s v m c d).host.htxEnd = s.host.htxEnd := reply_htxEnd ..

@[simp] theorem replyEnv_htxEnd (s : State) (w : Waiting) (b : List Byte) : (replyEnv s w b).host.htxEnd = s.host.htxEnd := by
  unfold replyEnv
  split <;> exact reply_htxEnd ..

@[simp] theorem rdnAnswers_htxEnd (l : List (Waiting × Bool)) (o : Nat) (s : State) :
    (rdnAnswers l o s).host.htxEnd = s.host.htxEnd := by
  induction l generalizing s with
  | nil => rfl
  | cons a l ih => exact (ih _).trans (replyEnv_htxEnd ..)

@[simp] theorem noteDiscard_htxEnd (s : State) (e : JEntry) : (noteDiscard s e).host.htxEnd = s.host.htxEnd := by
  unfold noteDiscard
  split
  · rfl
  · exact replyErr_htxEnd ..

@[simp] theorem jrnPut_htxEnd (s : State) (inc : Bool) (ty : Byte) (d : List Byte) :
    (jrnPut s inc ty d).host.htxEnd = s.host.htxEnd := by
  unfold jrnPut jrnQueue
  split
  · rfl
  · split
    · exact noteDiscard_htxEnd ..
    · split
      · rfl
      · exact noteDiscard_htxEnd ..

@[simp] theorem tqRemove_htxEnd (s : State) (c : Nat) (d : RdState) : (tqRemove s c d).host.htxEnd = s.host.htxEnd :=
  (rdnAnswers_htxEnd ..).trans (jrnPut_htxEnd ..)

@[simp] theorem endEnabling_htxEnd (s : State) (c : Nat) : (endEnabling s c).host.htxEnd = s.host.htxEnd :=
  (foldl_keeps (·.host.htxEnd) _ (fun _ _ => replyErr_htxEnd ..) _ _).trans (tqRemove_htxEnd ..)

@[simp] theorem tqImmediate_htxEnd (s : State) (c : Nat) : (tqImmediate s c).host.htxEnd = s.host.htxEnd := by
  unfold tqImmediate
  split
  · rfl
  · split
    · exact endEnabling_htxEnd ..
    · split
      · exact tqRemove_htxEnd ..
      · rfl

/-! ## An immediate cause removes torque on an anchor that has or enables it, and does nothing elsewhere (16 R605, R612) -/

/-- The torque unit after a removal. -/
theorem tqRemove_tq (s : State) (c : Nat) (d : RdState) :
    (tqRemove s c d).tq = { s.tq with ten := false, pulseA := false, pulseB := false, smTimer := false, rd := d, rdnWaits := [],
                                      tfbHigh := if torqueOn s then some s.now else s.tq.tfbHigh } :=
  (rdnAnswers_tq ..).trans (jrnPut_tq ..)

theorem endEnabling_tq (s : State) (c : Nat) : (endEnabling s c).tq.ten = false ∧ (endEnabling s c).tq.rd = .removed := by
  have h : (endEnabling s c).tq = _ :=
    (foldl_keeps (·.tq) _ (fun _ _ => replyErr_tq ..) _ _).trans (tqRemove_tq ..)
  rw [h]
  exact ⟨rfl, rfl⟩

theorem tqImmediate_removes (s : State) (c : Nat) (ha : isAnchor s = true) (ht : torqueOn s = true ∨ s.tq.enabling ≠ []) :
    (tqImmediate s c).tq.ten = false ∧ (tqImmediate s c).tq.rd = .removed := by
  by_cases he : s.tq.enabling = []
  · have hon : torqueOn s = true := ht.resolve_right (not_not_intro he)
    simp [tqImmediate, ha, he, hon, tqRemove_tq]
  · simpa [tqImmediate, ha, he] using endEnabling_tq s c

theorem tqImmediate_idle (s : State) (c : Nat) (h : isAnchor s = false ∨ (torqueOn s = false ∧ s.tq.enabling = [])) :
    tqImmediate s c = s := by
  obtain ha | ⟨ht, he⟩ := h
  · simp [tqImmediate, ha]
  · simp [tqImmediate, ht, he]

/-! ## The ports without `VPORT` -/

/-- Both ports are silenced (04 R124). -/
def portsSilenced (s : State) : State := { s with sp := silence s.now s.sp, np := silence s.now s.np }

theorem silencePorts_relaying (s : State) (h : (s.sp.brkRelay || s.np.brkRelay) = true) :
    silencePorts s true true = fullReset (portsSilenced s) 5 := by
  obtain h | h := Bool.or_eq_true_iff.mp h <;> simp [silencePorts, portsSilenced, h]

theorem silencePorts_idle (s : State) (hr : (s.sp.brkRelay || s.np.brkRelay) = false)
    (hd : (s.sp.brkDue || s.np.brkDue) = false) : silencePorts s true true = portsSilenced s := by
  obtain ⟨hsr, hnr⟩ := Bool.or_eq_false_iff.mp hr
  obtain ⟨hsd, hnd⟩ := Bool.or_eq_false_iff.mp hd
  simp [silencePorts, portsSilenced, hsr, hnr, hsd, hnd]

/-! ## The levels of pins -/

theorem vioPin_without_vio (s : State) (d : PinDrive) (h : s.sup.vio = false) : vioPin s d = .z := by simp [vioPin, h]

theorem vioPin_held (s : State) (d : PinDrive) (h : s.rst.held = true) : vioPin s d = .z := by simp [vioPin, outRun, h]

theorem awake_iff (s : State) : awake s = true ↔ s.pw.state = .active ∨ s.pw.state = .standby := by simp [awake]

/-- `TEN_A` or `TEN_B` is high only where an awake anchor drives it (02 R40, R44; 16 R600). -/
theorem pinTen_high (s : State) (pulse : Bool) (h : pinTen s pulse = .high) :
    s.sup.vio = true ∧ s.rst.held = false ∧ isAnchor s = true ∧ s.tq.ten = true ∧ (s.pw.state = .active ∨ s.pw.state = .standby) := by
  unfold pinTen vioPin at h
  split at h
  case isFalse => cases h
  case isTrue hrun =>
    split at h
    case isTrue => cases h
    case isFalse =>
      split at h
      case isFalse => cases h
      case isTrue hdrive =>
        simp only [outRun, Bool.and_eq_true, Bool.not_eq_true'] at hrun hdrive
        obtain ⟨⟨_, hheld⟩, hvio⟩ := hrun
        obtain ⟨⟨⟨haw, hanchor⟩, hten⟩, _⟩ := hdrive
        exact ⟨hvio, hheld, hanchor, hten, (awake_iff s).mp haw⟩

/-- `FAULT_N` is not driven while `TEST` holds the device in reset (02 R45). -/
theorem pinFaultN_testHeld (s : State) (h : testHeld s = true) : pinFaultN s = .z := by
  have hf : faultLow s = false := by
    simp only [testHeld] at h
    simp [faultLow, h]
  simp [pinFaultN, hf]

/-! ## Supplies -/

theorem fullReset_held (s : State) (c : BitVec 4) : (fullReset s c).rst.held = true := by
  unfold fullReset
  split
  · assumption
  · rfl

theorem fullReset_store (s : State) (c : BitVec 4) : (fullReset s c).store = s.store := by
  unfold fullReset
  split <;> rfl

/-- Below 3.0 V the device is unpowered, stands in reset and does not drive `FAULT_N` (04 R110). -/
theorem vstackBelow_resets (s : State) : Does (.vstackFaultDriveThreshold false) s fun t =>
    t.sup.vstack3 = false ∧ t.sup.por = false ∧ t.rst.held = true ∧ faultLow t = false ∧ t.store = s.store :=
  ⟨_, rfl, rfl, rfl, fullReset_held s 1, rfl, fullReset_store s 1⟩

theorem vioLoss_without_torque (s : State) (h : isAnchor s = false ∨ (torqueOn s = false ∧ s.tq.enabling = [])) :
    Does .vioLoss s fun t => 
      t = { s with sup := { s.sup with vio := false },
                   host := { s.host with htxEnd := min s.now s.host.htxEnd, uartAt := min s.now s.host.uartAt } } :=
  ⟨_, rfl, tqImmediate_idle _ 15 h⟩

theorem vioLoss_removes_torque (s : State) (ha : isAnchor s = true) (ht : torqueOn s = true ∨ s.tq.enabling ≠ []) :
    Does .vioLoss s fun t => t.sup.vio = false ∧ t.tq.ten = false ∧ t.tq.rd = .removed ∧ t.host.htxEnd ≤ s.now ∧
      Only (.sup :: .tq :: journalParts) s t := by
  obtain ⟨hten, hrd⟩ := tqImmediate_removes
    { s with sup.vio := false, host.htxEnd := min s.now s.host.htxEnd, host.uartAt := min s.now s.host.uartAt } 15 ha ht
  refine ⟨_, rfl, ?_, hten, hrd, ?_, ?_⟩
  · rw [tqImmediate_sup]
  · rw [tqImmediate_htxEnd]
    exact Nat.min_le_left ..
  · refine Only.trans ?_ ((tqImmediate_only ..).mono (by decide))
    exact Only.of fun p => by cases p <;> first | exact .inr rfl | exact .inl (by decide)

/-- A break relay that ends with `VPORT` resets the device (10 R376). -/
theorem vportLoss_relaying (s : State) (hh : s.rst.held = false) (hr : (s.sp.brkRelay || s.np.brkRelay) = true) :
    Does .vportLoss s fun t => t.sup.vport = false ∧ t.rst.held = true ∧ t.rst.latch = 5 := by
  have h : silencePorts { s with sup.vport := false } true true = resetState (portsSilenced { s with sup.vport := false }) 5 :=
    (silencePorts_relaying { s with sup.vport := false } hr).trans (if_neg (by simp [portsSilenced, hh]))
  exact ⟨_, congrArg Host.Outcome.next h, rfl, rfl, rfl⟩

theorem vportLoss_idle (s : State) (hr : (s.sp.brkRelay || s.np.brkRelay) = false) (hd : (s.sp.brkDue || s.np.brkDue) = false) :
    Does .vportLoss s fun t => t.sup.vport = false ∧ t.sp.up = false ∧ t.np.up = false ∧ t.sp.txNow = none ∧
      t.np.txNow = none ∧ t.sp.rx = s.sp.rx ∧ t.np.rx = s.np.rx ∧ Only [.sup, .sp, .np] s t := by
  refine ⟨_, congrArg Host.Outcome.next (silencePorts_idle { s with sup.vport := false } hr hd), rfl, rfl, rfl, rfl, rfl, rfl, rfl, ?_⟩
  exact Only.of fun p => by cases p <;> first | exact .inr rfl | exact .inl (by decide)

/-- Settles O13: each supply's row by the lemma about the operation it leaves to (`tqImmediate`, `silencePorts`, `fullReset`), and the
pins by `vioPin`. -/
theorem suppliesComeAndGo : Obligations.SuppliesComeAndGo := by
  refine ⟨fun s => ⟨_, rfl, rfl⟩, vstackBelow_resets, vioLoss_without_torque, vioLoss_removes_torque, ?pins, ?ten,
    fun s => ⟨_, rfl, rfl⟩, vportLoss_relaying, vportLoss_idle, fun s => ⟨_, rfl, rfl⟩, ?operational⟩
  case pins =>
    intro s h
    have z := fun d => vioPin_without_vio s d h
    exact ⟨z _, z _, z _, z _, z _, z _⟩
  case ten => exact fun s h => h.elim (pinTen_high s _) (pinTen_high s _)
  case operational =>
    intro s p hv hp
    exact ⟨_, if_pos (by simp [hv, hp]), rfl⟩

/-! ## The numbers of the journal's heads -/

/-- The record numbers of the heads of the routine and the incident area. -/
def headNums (s : State) : Nat × Nat := (s.jrn.rNum, s.jrn.iNum)

theorem headNums_of_jrn {s t : State} (h : t.jrn = s.jrn) : headNums t = headNums s := by simp [headNums, h]

/-- Queuing an entry writes none, so the heads stay. -/
theorem noteDiscard_headNums (s : State) (e : JEntry) : headNums (noteDiscard s e) = headNums s := by
  unfold noteDiscard
  split
  · rfl
  · simp only [headNums, replyErr_jrn]

@[simp] theorem jrnPut_headNums (s : State) (inc : Bool) (ty : Byte) (d : List Byte) : headNums (jrnPut s inc ty d) = headNums s := by
  unfold jrnPut jrnQueue
  split
  · rfl
  · split
    · exact noteDiscard_headNums ..
    · split
      · rfl
      · exact noteDiscard_headNums ..

/-- An entry for which the queue has a place is appended. -/
theorem jrnPut_room (s : State) (inc : Bool) (ty : Byte) (d : List Byte) (h : jrnRoom s = true) :
    (jrnPut s inc ty d).jrn = { s.jrn with queue := s.jrn.queue ++ [mkEntry s inc ty d] } := by
  have hlt : s.jrn.queue.length < jrnCap := of_decide_eq_true h
  simp [jrnPut, jrnQueue, hlt]

/-! ## The firmware's work at a release, operation by operation -/

theorem tripRecord_only (s : State) (w : Well) (uv trip : Bool) : Only journalParts s (tripRecord s w uv trip) := by
  unfold tripRecord
  dsimp only
  split <;> exact jrnPut_only ..

theorem tripRecord_headNums (s : State) (w : Well) (uv trip : Bool) : headNums (tripRecord s w uv trip) = headNums s := by
  unfold tripRecord
  dsimp only
  split <;> exact jrnPut_headNums ..

theorem tripsDuringReset_only (s : State) : Only (.prot :: journalParts) s (tripsDuringReset s) :=
  (only_prot (by decide) ..).trans (Only.foldl _ (fun _ _ => (tripRecord_only ..).mono (by decide)) _ _)

theorem tripsDuringReset_heldEvents (s : State) : (tripsDuringReset s).prot.heldEvents = [] :=
  foldl_keeps (·.prot.heldEvents) _ (fun s e => congrArg ProtUnit.heldEvents ((tripRecord_only s ..).same .prot (by decide))) _ _

theorem tripsDuringReset_headNums (s : State) : headNums (tripsDuringReset s) = headNums s :=
  foldl_keeps headNums _ (fun _ _ => tripRecord_headNums ..) _ _

theorem jrnCheck_only (s : State) (inc : Bool) : Only journalParts s (jrnCheck s inc) := by
  unfold jrnCheck
  have chain (c : List Byte) :
      Only journalParts s (if inc then { s with jrn.iChain := c } else { s with jrn.rChain := c }) := by
    split <;> exact only_jrn (by decide) ..
  dsimp only
  split
  · exact chain _
  · exact (chain _).trans (jrnPut_only ..)

theorem jrnCheck_headNums (s : State) (inc : Bool) : headNums (jrnCheck s inc) = headNums s := by
  unfold jrnCheck
  have chain (c : List Byte) : headNums (if inc then { s with jrn.iChain := c } else { s with jrn.rChain := c }) = headNums s := by
    split <;> rfl
  dsimp only
  split
  · exact chain _
  · exact (jrnPut_headNums ..).trans (chain _)

theorem restoreDisc_only (s : State) : Only [.gate] s (restoreDisc s) := by
  unfold restoreDisc
  split
  · exact Only.refl ..
  · exact only_gate (by decide) ..

theorem restoreDisc_disc (s : State) : (restoreDisc s).gate.disc = (s.gate.disc || s.store.disc.isSome) := by
  unfold restoreDisc
  split
  case h_1 h => simp [h]
  case h_2 h => simp [h]

theorem restorePassword_only (s : State) : Only (.store :: journalParts) s (restorePassword s) := by
  unfold restorePassword
  split
  · exact Only.refl ..
  · exact (only_store (by decide) ..).trans (((storePassword_only _).mono (by decide)).trans ((jrnPut_only ..).mono (by decide)))

theorem restorePassword_resets (s : State) : (restorePassword s).store.resets = s.store.resets := by
  unfold restorePassword
  split
  · rfl
  · rw [jrnPut_store]
    rfl

theorem restorePassword_headNums (s : State) : headNums (restorePassword s) = headNums s := by
  unfold restorePassword
  split
  · rfl
  · exact jrnPut_headNums ..

/-- Noting the conditions changes the own `FLT` last noted, and nothing else of the protection unit. -/
theorem noteConditions_prot (s : State) : (noteConditions s).prot = { s.prot with flt := ownFlt s } := by
  unfold noteConditions
  dsimp only
  rw [updateLive_prot]
  split <;> rfl

/-! ## Reset release -/

/-- The device is out of reset, its counters and clocks started and the heads of the journal found (04 R98; 22 R834). -/
def leftReset (s : State) : State :=
  findOldest (findHead (findHead { s with
    rst.held := false, rst.startDue := false, rst.test := false, rst.resetN := true, rst.releaseAt := s.now, rst.wdRun := true,
    rst.wdServed := s.now, sup.brown := false, tim.cnt := 0, store.resets := s.store.resets + 1, bal.frame := 0,
    pw.lossAt := s.now } false) true)

/-- A watchdog reset or the expiry of the full stop's timer (24 Table 24-1 sources 7 and 10) is counted apart. -/
def byWatchdog (src : Byte) : Bool := src == 7 || src == 10

/-- The source is named, and the core, the protection unit and the applet are set up (18 R705; 20 R767). -/
def coreSetUp (s : State) : State :=
  { s with
    rst.lastRst := lastRst s, store.wdresets := if byWatchdog (lastRst s) then s.store.wdresets + 1 else s.store.wdresets,
    core.esp := 0x20020000, core.espl := true, mpu.fw := fwRegions, mpu.fen := true, mpu.flock := true,
    apl.state := if s.store.imgValid then .valid else .none }

/-- What the firmware records: the reset, the trips made while it was held, and breaks of the journal's chain. -/
def releaseRecorded (s : State) : State :=
  jrnCheck (jrnCheck (tripsDuringReset (jrnPut s (byWatchdog s.rst.lastRst) (if byWatchdog s.rst.lastRst then 0x10 else 0x40)
    [s.rst.lastRst])) false) true

/-- What it restores and starts: the gate's latch, the password, the thermistor cycle. -/
def releaseRestored (s : State) : State := noteConditions (firstCycle (restorePassword (restoreDisc s)))

/-- A release is these four parts, one after the other. -/
theorem exec_resetRelease_low (s : State) (hd : s.rst.startDue = true) (hp : s.sup.por = true) :
    exec (.resetRelease false) s = .next (releaseRestored (releaseRecorded (coreSetUp (leftReset s)))) := by
  show execResetRelease false s = _
  unfold execResetRelease
  rw [if_neg (by simp [hd, hp])]
  rfl

theorem exec_resetRelease_high (s : State) (hd : s.rst.startDue = true) (hp : s.sup.por = true) :
    exec (.resetRelease true) s = .next { s with rst := { s.rst with test := true, held := true } } := by
  show execResetRelease true s = _
  unfold execResetRelease
  rw [if_neg (by simp [hd, hp]), if_pos rfl]

theorem releaseRecorded_only (s : State) : Only (.prot :: journalParts) s (releaseRecorded s) :=
  ((jrnPut_only ..).mono (by decide)).trans ((tripsDuringReset_only _).trans
    (((jrnCheck_only ..).mono (by decide)).trans ((jrnCheck_only ..).mono (by decide))))

theorem releaseRecorded_heldEvents (s : State) : (releaseRecorded s).prot.heldEvents = [] := by
  have h : (releaseRecorded s).prot = _ := ((jrnCheck_only ..).same .prot (by decide)).trans ((jrnCheck_only ..).same .prot (by decide))
  rw [h]
  exact tripsDuringReset_heldEvents _

theorem releaseRecorded_headNums (s : State) : headNums (releaseRecorded s) = headNums s := by
  simp only [releaseRecorded, jrnCheck_headNums, tripsDuringReset_headNums, jrnPut_headNums]

theorem firstCycle_only (s : State) : Only [.aux] s (firstCycle s) :=
  Only.of fun p => by cases p <;> first | exact .inr rfl | exact .inl (by decide)

theorem releaseRestored_only (s : State) : Only (.gate :: .store :: .aux :: .prot :: journalParts) s (releaseRestored s) :=
  ((restoreDisc_only s).mono (by decide)).trans (((restorePassword_only _).mono (by decide)).trans
    (((firstCycle_only _).mono (by decide)).trans ((noteConditions_only _).mono (by decide))))

theorem releaseRestored_disc (s : State) : (releaseRestored s).gate.disc = (s.gate.disc || s.store.disc.isSome) := by
  have h : (restorePassword (restoreDisc s)).gate = _ := (restorePassword_only _).same .gate (by decide)
  simp only [releaseRestored, noteConditions_gate, firstCycle, h, restoreDisc_disc]

theorem releaseRestored_resets (s : State) : (releaseRestored s).store.resets = s.store.resets := by
  have h : (restoreDisc s).store = s.store := (restoreDisc_only s).same .store (by decide)
  simp only [releaseRestored, noteConditions_store, firstCycle, restorePassword_resets, h]

theorem releaseRestored_headNums (s : State) : headNums (releaseRestored s) = headNums s :=
  calc headNums (releaseRestored s)
    _ = headNums (restorePassword (restoreDisc s)) := headNums_of_jrn (noteConditions_jrn _)
    _ = headNums (restoreDisc s) := restorePassword_headNums _
    _ = headNums s := headNums_of_jrn ((restoreDisc_only s).same .jrn (by decide))

theorem releaseRestored_heldEvents (s : State) : (releaseRestored s).prot.heldEvents = s.prot.heldEvents := by
  have h1 : (restorePassword (restoreDisc s)).prot = _ := (restorePassword_only _).same .prot (by decide)
  have h2 : (restoreDisc s).prot = s.prot := (restoreDisc_only s).same .prot (by decide)
  simp only [releaseRestored, noteConditions_prot, firstCycle, h1, h2]

/-- The first thermistor cycle runs under the `NTC_CFG` in force at the release (07 R238). -/
theorem releaseRestored_ntc (s : State) : (releaseRestored s).aux.ntcRun = true ∧ (releaseRestored s).aux.ntcCfg = s.cfg.ntcCfg := by
  have h1 : (restorePassword (restoreDisc s)).cfg = _ := (restorePassword_only _).same .cfg (by decide)
  have h2 : (restoreDisc s).cfg = s.cfg := (restoreDisc_only s).same .cfg (by decide)
  simp only [releaseRestored, noteConditions_aux, firstCycle, h1, h2, and_self]

/-- The heads are found from the stored records, whatever else the release has changed by then (22 R834). -/
theorem leftReset_headNums (s : State) : headNums (leftReset s) = ((findHead s false).jrn.rNum, (findHead s true).jrn.iNum) := rfl

/-- Any source but the power-on reset is named as latched (24 R875). -/
theorem lastRst_of_latch (s : State) (h : s.rst.latch ≠ 1) : lastRst s = s.rst.latch.setWidth 8 :=
  if_neg fun hc => h hc.1

/-- What recording and restoring may touch; what `leftReset` and `coreSetUp` did elsewhere stands at the end of the release. -/
theorem releaseDone_only (s : State) :
    Only (.gate :: .store :: .aux :: .prot :: journalParts) s (releaseRestored (releaseRecorded s)) :=
  ((releaseRecorded_only s).mono (by decide)).trans (releaseRestored_only _)

/-- What the release of O12 leaves: `leftReset` and `coreSetUp` say what changes, and the frames of the recording and restoring that follow
carry it to the end. -/
theorem resetRelease_starts (s : State) (hd : s.rst.startDue = true) (hp : s.sup.por = true) :
    Does (.resetRelease false) s fun t =>
      running t = true ∧ t.rst.wdRun = true ∧ t.rst.releaseAt = s.now ∧ t.tim.cnt = 0 ∧ t.store.resets = s.store.resets + 1 ∧
      t.core = { s.core with esp := 0x20020000, espl := true } ∧ t.mpu = { s.mpu with fw := fwRegions, fen := true, flock := true } ∧
      t.apl.state = (if s.store.imgValid then .valid else .none) ∧ t.gate.disc = (s.gate.disc || s.store.disc.isSome) ∧
      (s.rst.latch ≠ 1 → t.rst.lastRst = s.rst.latch.setWidth 8) ∧ t.mem = s.mem ∧ t.cfg = s.cfg ∧ t.pw.lossAt = s.now ∧
      t.jrn.rNum = (findHead s false).jrn.rNum ∧ t.jrn.iNum = (findHead s true).jrn.iNum ∧
      t.aux.ntcRun = true ∧ t.aux.ntcCfg = s.cfg.ntcCfg ∧ t.prot.heldEvents = [] := by
  have hexec := exec_resetRelease_low s hd hp
  generalize hu : coreSetUp (leftReset s) = u at hexec
  have hrst : (releaseRestored (releaseRecorded u)).rst = u.rst := (releaseDone_only u).same .rst (by decide)
  have htim : (releaseRestored (releaseRecorded u)).tim = u.tim := (releaseDone_only u).same .tim (by decide)
  have hcore : (releaseRestored (releaseRecorded u)).core = u.core := (releaseDone_only u).same .core (by decide)
  have hmpu : (releaseRestored (releaseRecorded u)).mpu = u.mpu := (releaseDone_only u).same .mpu (by decide)
  have hapl : (releaseRestored (releaseRecorded u)).apl = u.apl := (releaseDone_only u).same .apl (by decide)
  have hmem : (releaseRestored (releaseRecorded u)).mem = u.mem := (releaseDone_only u).same .mem (by decide)
  have hcfg : (releaseRestored (releaseRecorded u)).cfg = u.cfg := (releaseDone_only u).same .cfg (by decide)
  have hpw : (releaseRestored (releaseRecorded u)).pw = u.pw := (releaseDone_only u).same .pw (by decide)
  have hstore : (releaseRecorded u).store = u.store := (releaseRecorded_only u).same .store (by decide)
  have hgate : (releaseRecorded u).gate = u.gate := (releaseRecorded_only u).same .gate (by decide)
  have hcfgNow : (releaseRecorded u).cfg = u.cfg := (releaseRecorded_only u).same .cfg (by decide)
  have hnums : headNums (releaseRestored (releaseRecorded u)) = ((findHead s false).jrn.rNum, (findHead s true).jrn.iNum) :=
    (releaseRestored_headNums _).trans ((releaseRecorded_headNums u).trans (hu ▸ leftReset_headNums s))
  obtain ⟨hrNum, hiNum⟩ := Prod.mk.inj hnums
  obtain ⟨hntcRun, hntcCfg⟩ := releaseRestored_ntc (releaseRecorded u)
  refine ⟨_, hexec, ?_, ?_, ?_, ?_, ?_, ?_, ?_, ?_, ?_, ?_, ?_, ?_, ?_, hrNum, hiNum, hntcRun, ?_,
    (releaseRestored_heldEvents _).trans (releaseRecorded_heldEvents u)⟩
  · rw [running, hrst, ← hu]; rfl
  · rw [hrst, ← hu]; rfl
  · rw [hrst, ← hu]; rfl
  · rw [htim, ← hu]; rfl
  · rw [releaseRestored_resets, hstore, ← hu]; rfl
  · rw [hcore, ← hu]; rfl
  · rw [hmpu, ← hu]; rfl
  · rw [hapl, ← hu]; rfl
  · rw [releaseRestored_disc, hgate, hstore, ← hu]; rfl
  · intro hl
    rw [hrst, ← hu]
    exact lastRst_of_latch (leftReset s) hl
  · rw [hmem, ← hu]; rfl
  · rw [hcfg, ← hu]; rfl
  · rw [hpw, ← hu]; rfl
  · rw [hntcCfg, hcfgNow, ← hu]; rfl

/-- With `TEST` high no output is driven (02 R45). -/
theorem testHeld_drives_nothing (s : State) (h : testHeld s = true) :
    pinFaultN s = .z ∧ pinTenA s = .z ∧ pinTenB s = .z ∧ pinRdnN s = .z ∧ pinHsdo s = .z ∧
      pinHtx s = .z ∧ pinHirqN s = .z ∧ pinHwakeN s = .z ∧ (∀ w, pinBal s w = false) ∧ pinCp s = false ∧ pinXout s = false := by
  obtain ⟨hheld, -⟩ := Bool.and_eq_true_iff.mp h
  have hrun : outRun s = false := by simp [outRun, hheld]
  have z := fun d => vioPin_held s d hheld
  refine ⟨pinFaultN_testHeld s h, z _, z _, z _, z _, z _, z _, ?_, fun w => ?_, ?_, ?_⟩
  · simp [pinHwakeN, hrun]
  · simp [pinBal, hrun]
  · simp [pinCp, hrun]
  · simp [pinXout, hrun]

/-! ## The seal check -/

theorem startTracker_only (s : State) : Only [.ph, .sch] s (startTracker s) :=
  Only.of fun p => by cases p <;> first | exact .inr rfl | exact .inl (by decide)

theorem dropAnchor_only (s : State) : Only (.tq :: replyParts) s (dropAnchor s) := by
  unfold dropAnchor
  split
  · exact Only.refl ..
  · exact (only_tq (by decide) ..).trans (Only.foldl _ (fun _ _ => (replyErr_only ..).mono (by decide)) _ _)

theorem dropAnchor_anchor (s : State) (h : isAnchor s = true) : dropAnchor s = s := if_pos h

/-- What is no anchor holds its torque pins (02 R40). -/
theorem dropAnchor_tq (s : State) (h : isAnchor s = false) :
    (dropAnchor s).tq = { s.tq with enabling := [], ten := false, pulseA := false, pulseB := false, smTimer := false,
                                    rdnLow := false } := by
  unfold dropAnchor
  rw [if_neg (by simp [h])]
  exact foldl_keeps (·.tq) _ (fun _ _ => replyErr_tq ..) _ _

/-- The configuration of the record is in force (04 R100; 14 R522). -/
def recordLoaded (s : State) : State :=
  let r := s.store.record.regs
  { s with cfg := r, prot.loaded := true, acq.win := BitVec.ofNat 2 (fld r.acqCfg 1 0), bal.rbUse := r.balRb,
           sp.gen := BitVec.ofNat 2 (fld r.linkCfg 2 1), np.gen := BitVec.ofNat 2 (fld r.linkCfg 5 4) }

/-- The population of the new configuration is in force, and the safety monitor has its copies (04 R115; 16 R595). -/
def populationHanded (s : State) : State :=
  let m := cellMask s.cfg
  { leaveTest s m with
    prot.ovTrip := s.prot.ovTrip &&& m, prot.uvTrip := s.prot.uvTrip &&& m, prot.ovDeg := s.prot.ovDeg &&& m,
    prot.uvDeg := s.prot.uvDeg &&& m, tq.smRole := s.cfg.roleCfg, tq.smRoleN := ~~~s.cfg.roleCfg }

theorem handOver_eq (s : State) : handOver s = dropAnchor (populationHanded s) := rfl

theorem exec_sealCheck_pass (s : State) (hr : running s = true) (hs : sealChecks s = true) :
    exec .sealCheck s = .next (noteConditions (startTracker (handOver (recordLoaded s)))) := by
  show execSealCheck s = _
  unfold execSealCheck
  rw [if_neg (by simp [hr]), if_pos hs]
  rfl

theorem exec_sealCheck_fail (s : State) (hr : running s = true) (hs : sealChecks s = false) :
    exec .sealCheck s =
      .next (noteConditions (jrnPut { s with prot.loaded := false } true 0x02 (leBytes 4 s.store.record.sealV.toNat))) := by
  show execSealCheck s = _
  unfold execSealCheck
  rw [if_neg (by simp [hr]), if_neg (by simp [hs])]

theorem sealCheck_loads (s : State) (hr : running s = true) (hs : sealChecks s = true) : Does .sealCheck s fun t =>
    t.cfg = s.store.record.regs ∧ t.prot.loaded = true ∧ t.bal.rbUse = s.store.record.regs.balRb ∧
      t.tq.smRole = s.store.record.regs.roleCfg ∧ t.tq.smRoleN = ~~~ s.store.record.regs.roleCfg ∧
      (isAnchor t = true → t.tq = { s.tq with smRole := s.store.record.regs.roleCfg, smRoleN := ~~~ s.store.record.regs.roleCfg }) ∧
      (isAnchor t = false → t.tq.ten = false ∧ t.tq.rdnLow = false ∧ t.tq.enabling = []) ∧ t.store = s.store ∧ t.core = s.core ∧
      t.mem = s.mem := by
  let u := populationHanded (recordLoaded s)
  let t := noteConditions (startTracker (handOver (recordLoaded s)))
  have frame : Only ([.ph, .sch, .tq, .prot, .chn, .host] ++ replyParts) u t :=
    ((dropAnchor_only u).mono (by decide)).trans
      (((startTracker_only _).mono (by decide)).trans ((noteConditions_only _).mono (by decide)))
  have hcfg : t.cfg = s.store.record.regs := frame.same .cfg (by decide)
  have hrole : isAnchor t = isAnchor u := by simp only [isAnchor, hcfg]; rfl
  have htq : t.tq = (dropAnchor u).tq := noteConditions_tq _
  have hprot : (dropAnchor u).prot = u.prot := (dropAnchor_only u).same .prot (by decide)
  have hloaded : t.prot.loaded = true := by
    rw [noteConditions_prot]
    exact congrArg ProtUnit.loaded hprot
  have hanchor (h : isAnchor t = true) : t.tq = u.tq := by rw [htq, dropAnchor_anchor u (hrole ▸ h)]
  have hother (h : isAnchor t = false) := htq.trans (dropAnchor_tq u (hrole ▸ h))
  have hcopies : t.tq.smRole = u.tq.smRole ∧ t.tq.smRoleN = u.tq.smRoleN := by
    cases h : isAnchor t with
    | true => simp [hanchor h]
    | false => simp [hother h]
  refine ⟨t, exec_sealCheck_pass s hr hs, hcfg, hloaded, ?_, hcopies.1, hcopies.2, hanchor, fun h => ?_, frame.same .store (by decide),
    frame.same .core (by decide), frame.same .mem (by decide)⟩
  · exact congrArg BalUnit.rbUse (frame.same .bal (by decide))
  · simp [hother h]

theorem sealCheck_keeps_safe_values (s : State) (hr : running s = true) (hs : sealChecks s = false) (hq : jrnRoom s = true) :
    Does .sealCheck s fun t => t.cfg = s.cfg ∧ t.prot.loaded = false ∧
      JournalGains s t true 0x02 (leBytes 4 s.store.record.sealV.toNat) ∧ t.store = s.store ∧ t.core = s.core ∧ t.mem = s.mem := by
  refine ⟨_, exec_sealCheck_fail s hr hs, ?_, ?_, ?_, ?_, ?_, ?_⟩
  · rw [noteConditions_cfg, jrnPut_cfg]
  · rw [noteConditions_prot, jrnPut_prot]
  · exact (noteConditions_jrn _).trans (jrnPut_room { s with prot.loaded := false } _ _ _ hq)
  · rw [noteConditions_store, jrnPut_store]
  · rw [noteConditions_core, jrnPut_core]
  · rw [noteConditions_mem, jrnPut_mem]

/-- Settles O12, release and seal check each by its own lemma. -/
theorem resetReleaseAndSealCheck : Obligations.ResetReleaseAndSealCheck :=
  ⟨⟨resetRelease_starts, fun s hd hp => ⟨_, exec_resetRelease_high s hd hp, rfl⟩, testHeld_drives_nothing⟩,
    sealCheck_loads, sealCheck_keeps_safe_values⟩

end Sys2Proof.Machine

/-! PROOFS. The start-up acquisition, its repeat and its evaluation (04 R102 to R105; 21 R814). -/

namespace Sys2Proof.Machine

/-! ## Frames of one unit -/

theorem only_aux {l : List Part} (h : .aux ∈ l) (s : State) (x : AuxUnit) : Only l s { s with aux := x } :=
  Only.of fun p => by
    cases p
    case aux => exact .inl h
    all_goals exact .inr rfl

theorem only_ce {l : List Part} (h : .ce ∈ l) (s : State) (x : CeUnit) : Only l s { s with ce := x } :=
  Only.of fun p => by
    cases p
    case ce => exact .inl h
    all_goals exact .inr rfl

/-! ## What a strobe leaves (06) -/

/-- Taking the window writes the window in use and the writes that wait, and nothing else of the unit. -/
theorem takeWin_acq (s : State) :
    (takeWin s).acq = { s.acq with win := (takeWin s).acq.win, winNext := (takeWin s).acq.winNext } := by
  unfold takeWin
  dsimp only
  split <;> rfl

theorem openSwitches_acq (s : State) : (openSwitches s).acq = s.acq := by
  unfold openSwitches
  split <;> rfl

theorem openSwitches_closed (s : State) : (openSwitches s).bal.closed = 0 := by
  unfold openSwitches
  split
  case isTrue h => exact h
  case isFalse =>
    show s.bal.closed &&& ~~~ BitVec.allOnes 18 = 0
    simp

theorem dropTest_acq (s : State) : (dropTest s).acq = s.acq := (dropTest_only s).same .acq (by decide)
theorem dropTest_closed (s : State) : (dropTest s).bal.closed = s.bal.closed := by rw [dropTest]
theorem dropTest_testRun (s : State) : (dropTest s).bal.testRun = 0 := rfl

/-- The span that a strobe opens, its window taken. -/
def strobeSpan (s : State) (source : BitVec 2) (seq : BitVec 16) (point : BitVec 4) (hold unsched : Bool) (inst : Word) : Span :=
  let full := decide (2 ≤ (s.acq.spans.filter fun sp => sp.acc && spanOpen s sp).length)
  { seq := seq, point := point, source := source, win := s.acq.win, hold := hold, unsched := unsched, instant := inst,
    start := s.now,
    stale := (if full then BitVec.allOnes 19 else 0) ||| staleOf (settlingWells s) false ||| disturbed s,
    bal := balAtStrobe s, trip := tripAtStrobe s, range := BitVec.ofNat 18 s.cfg.cellRange.toNat,
    scTrip := match s.acq.scAt with | some t => decide (s.now < t + spanLead) | none => false, acc := !full }

/-- A strobe takes the window, opens every switch, ends a switch test and appends its span. -/
theorem openSpan_eq (s : State) (src : BitVec 2) (seq : BitVec 16) (pt : BitVec 4) (hold uns : Bool) (inst : Word) :
    openSpan s src seq pt hold uns inst =
      let u := dropTest (openSwitches (takeWin s))
      { u with acq.spans := u.acq.spans ++ [strobeSpan (takeWin s) src seq pt hold uns inst] } := rfl

/-- After a strobe every balancing switch is open and no switch test runs. -/
theorem openSpan_bal (s : State) (src : BitVec 2) (seq : BitVec 16) (pt : BitVec 4) (hold uns : Bool) (inst : Word) :
    (openSpan s src seq pt hold uns inst).bal.closed = 0 ∧ (openSpan s src seq pt hold uns inst).bal.testRun = 0 := by
  rw [openSpan_eq]
  exact ⟨(dropTest_closed _).trans (openSwitches_closed _), dropTest_testRun _⟩

/-- A strobe appends its span; beside it the unit has only its window taken. -/
theorem openSpan_acq (s : State) (src : BitVec 2) (seq : BitVec 16) (pt : BitVec 4) (hold uns : Bool) (inst : Word) :
    (openSpan s src seq pt hold uns inst).acq =
      { s.acq with win := (takeWin s).acq.win, winNext := (takeWin s).acq.winNext,
                   spans := s.acq.spans ++ [strobeSpan (takeWin s) src seq pt hold uns inst] } := by
  have hacq : (dropTest (openSwitches (takeWin s))).acq =
      { s.acq with win := (takeWin s).acq.win, winNext := (takeWin s).acq.winNext } :=
    (dropTest_acq _).trans ((openSwitches_acq _).trans (takeWin_acq s))
  rw [openSpan_eq]
  dsimp only
  rw [hacq]

/-! ## The start-up strobe -/

theorem startStrobe_only (s : State) : Only [.acq, .bal] s (startStrobe s) :=
  (only_acq (by decide) ..).trans (openSpan_only ..)

theorem startStrobe_bal (s : State) : (startStrobe s).bal.closed = 0 ∧ (startStrobe s).bal.testRun = 0 := openSpan_bal ..

/-- It opens a span of source 2, with the next number, and runs; the count that the thermistors' own cycle must pass stays. -/
theorem startStrobe_acq (s : State) :
    (startStrobe s).acq.startRun = true ∧ (startStrobe s).acq.seqN = s.acq.seqN + 1 ∧
      (startStrobe s).acq.startSet = s.acq.startSet ∧
      ∃ sp, (startStrobe s).acq.spans = s.acq.spans ++ [sp] ∧ sp.source = 2 ∧ sp.seq = s.acq.seqN + 1 ∧ sp.start = s.now := by
  let u : State :=
    { s with acq.seqN := s.acq.seqN + 1, acq.startRun := true, acq.startDue := false, acq.startDone := none }
  have h : (startStrobe s).acq = _ := openSpan_acq u 2 (s.acq.seqN + 1) 0 (!alignedNow s) false (chainMp s)
  have hnow : (takeWin u).now = s.now := (takeWin_only u).same .now (by decide)
  rw [h]
  exact ⟨rfl, rfl, rfl, _, rfl, rfl, rfl, hnow⟩

/-- Ready: every switch is open, and the window would end no earlier than the thermistor cycle. -/
theorem startReady_iff (s : State) : startReady s = true ↔
    quietOk s = true ∧ s.aux.ntcAt + ntcCt s.aux.ntcCfg ≤ s.now + winCt (takeWin s).acq.win := by
  rw [startReady, Bool.and_eq_true, decide_eq_true_eq]

theorem closed_of_quietOk {s : State} (h : quietOk s = true) : s.bal.closed = 0 := by
  simp only [quietOk, Bool.and_eq_true, beq_iff_eq] at h
  exact h.1.1

theorem exec_startupAcquisition (s : State) : exec .startupAcquisition s =
    if active s && s.clk.pllLock && !s.acq.startRun && !s.prot.everRel && startReady s then .next (startStrobe s) else .next s := rfl

theorem startupAcquisition_strobes (s : State) (ha : active s = true) (hp : s.clk.pllLock = true) (hr : s.acq.startRun = false)
    (he : s.prot.everRel = false) (hs : startReady s = true) : Does .startupAcquisition s fun t =>
      t.acq.startRun = true ∧ t.acq.seqN = s.acq.seqN + 1 ∧ t.bal.closed = 0 ∧ t.bal.testRun = 0 ∧
        (∃ sp, t.acq.spans = s.acq.spans ++ [sp] ∧ sp.source = 2 ∧ sp.seq = s.acq.seqN + 1 ∧ sp.start = s.now) ∧
        Only [.acq, .bal] s t := by
  obtain ⟨hrun, hseq, -, hspan⟩ := startStrobe_acq s
  obtain ⟨hclosed, htest⟩ := startStrobe_bal s
  have hexec : exec .startupAcquisition s = .next (startStrobe s) := by simp [exec_startupAcquisition, ha, hp, hr, he, hs]
  exact ⟨_, hexec, hrun, hseq, hclosed, htest, hspan, startStrobe_only s⟩

theorem startupAcquisition_waits (s : State) (h : startReady s = false) : Idle .startupAcquisition s := by
  simp [Idle, exec_startupAcquisition, h]

/-! ## A repeat: its scan, its thermistor cycle, its strobe (04 R104; 07 R239; 21 R814) -/

theorem setCe_only (s : State) (m : Fin 4) (c : CeCh) : Only [.ce] s (setCe s m c) := only_ce (by decide) ..

theorem setCe_ch_same (s : State) (m : Fin 4) (c : CeCh) : (setCe s m c).ce.ch[m] = c := by
  simp [setCe]

/-- A scan of at least one byte leaves its channel busy. -/
theorem ceLaunch_busy (s : State) (m : Fin 4) (h : s.ce.ch[m].len ≠ 0) : (ceLaunch s m).1.ce.ch[m].state = .busy := by
  unfold ceLaunch
  dsimp only
  rw [if_neg h, setCe_ch_same]

theorem ceEnd_only (s : State) (m : Fin 4) (c : CeCh) : Only [.ce] s (ceEnd s m c) := by
  unfold ceEnd
  dsimp only
  split
  · exact (setCe_only ..).trans (only_ce (by decide) ..)
  · exact setCe_only ..

theorem ceLaunch_only (s : State) (m : Fin 4) : Only [.ce] s (ceLaunch s m).1 := by
  unfold ceLaunch
  dsimp only
  split
  · exact ceEnd_only ..
  · exact setCe_only ..

theorem romScan_only (s : State) : Only [.ce] s (romScan s) := (setCe_only ..).trans (ceLaunch_only ..)

/-- The ROM has bytes, so its scan leaves channel 0 busy. -/
theorem romScan_busy (s : State) : (romScan s).ce.ch[0].state = .busy := by
  refine ceLaunch_busy _ 0 ?_
  rw [setCe_ch_same]
  exact (by decide : (0x3FFFC : BitVec 24) ≠ 0)

/-- The ROM scan of a repeat: the one in progress, or a new one. -/
def repeatScan (s : State) : State := if s.ce.ch[0].state == .busy then s else romScan s

theorem repeatScan_only (s : State) : Only [.ce] s (repeatScan s) := by
  unfold repeatScan
  split
  · exact Only.refl ..
  · exact romScan_only s

theorem repeatScan_busy (s : State) : (repeatScan s).ce.ch[0].state = .busy := by
  unfold repeatScan
  split
  case isTrue h => exact beq_iff_eq.mp h
  case isFalse => exact romScan_busy s

/-- The repeat notes what it waits for: a thermistor cycle after those counted so far, its strobe, and the skipped self-tests (09
R902). -/
def repeatNoted (s : State) : State :=
  { s with acq.startSet := s.aux.ntcCount, acq.startDue := true, prot.oweOv := s.prot.oweOv ||| s.prot.againOv,
           prot.oweUv := s.prot.oweUv ||| s.prot.againUv }

theorem repeatNoted_only (s : State) : Only [.acq, .prot] s (repeatNoted s) :=
  (only_acq (by decide) s { s.acq with startSet := s.aux.ntcCount, startDue := true }).trans (only_prot (by decide) ..)

/-- The thermistor cycle of a repeat: the one in progress, or a new one. -/
def repeatCycle (s : State) : State := if s.aux.ntcRun then s else ntcStart s

theorem repeatCycle_only (s : State) : Only [.aux] s (repeatCycle s) := by
  unfold repeatCycle
  split
  · exact Only.refl ..
  · exact only_aux (by decide) ..

theorem repeatCycle_runs (s : State) : (repeatCycle s).aux.ntcRun = true := by
  unfold repeatCycle
  split
  case isTrue h => exact h
  case isFalse => rfl

theorem tickStart_only (s : State) : Only [.acq, .bal] s (tickStart s) := by
  unfold tickStart
  split
  · exact startStrobe_only s
  · exact Only.refl ..

/-- A strobe that is due fires now or stays due. -/
theorem tickStart_due (s : State) (h : s.acq.startDue = true) :
    ((tickStart s).acq.startRun = true ∨ (tickStart s).acq.startDue = true) ∧
      (tickStart s).acq.startSet = s.acq.startSet := by
  obtain ⟨hrun, -, hset, -⟩ := startStrobe_acq s
  unfold tickStart
  split
  · exact ⟨.inl hrun, hset⟩
  · exact ⟨.inr h, rfl⟩

theorem exec_startupAcqRepeat (s : State) : exec .startupAcqRepeat s =
    if fwOn s && s.clk.pllLock && !s.acq.startRun && !s.prot.everRel then
      .next (tickStart (repeatCycle (repeatNoted (repeatScan s)))) else .next s := rfl

theorem startupAcqRepeat_begins (s : State) (hf : fwOn s = true) (hp : s.clk.pllLock = true) (hr : s.acq.startRun = false)
    (he : s.prot.everRel = false) : Does .startupAcqRepeat s fun t =>
      (t.acq.startRun = true ∨ t.acq.startDue = true) ∧ t.ce.ch[0].state = .busy ∧ t.aux.ntcRun = true ∧
        t.acq.startSet = s.aux.ntcCount ∧
        t.prot = { s.prot with oweOv := s.prot.oweOv ||| s.prot.againOv, oweUv := s.prot.oweUv ||| s.prot.againUv } ∧
        Only [.acq, .bal, .ce, .aux, .prot] s t := by
  let n := repeatNoted (repeatScan s)
  let c := repeatCycle n
  have scanned := repeatScan_only s
  have cycled : Only [.aux] n c := repeatCycle_only n
  have ticked : Only [.acq, .bal] c (tickStart c) := tickStart_only c
  have hcacq : c.acq = n.acq := cycled.same .acq (by decide)
  obtain ⟨hdue, hset⟩ := tickStart_due c (congrArg AcqUnit.startDue hcacq)
  have hexec : exec .startupAcqRepeat s = .next (tickStart c) := by simp [exec_startupAcqRepeat, hf, hp, hr, he, c, n]
  refine ⟨_, hexec, hdue, ?busy, ?cycle, ?count, ?owed, ?frame⟩
  case busy =>
    have hce : (tickStart c).ce = (repeatScan s).ce := Eq.trans (ticked.same .ce (by decide)) (cycled.same .ce (by decide))
    rw [hce]
    exact repeatScan_busy s
  case cycle =>
    have haux : (tickStart c).aux = c.aux := ticked.same .aux (by decide)
    rw [haux]
    exact repeatCycle_runs n
  case count =>
    have haux : (repeatScan s).aux = s.aux := scanned.same .aux (by decide)
    calc (tickStart c).acq.startSet = c.acq.startSet := hset
      _ = n.acq.startSet := congrArg AcqUnit.startSet hcacq
      _ = s.aux.ntcCount := congrArg AuxUnit.ntcCount haux
  case owed =>
    have hprot : (repeatScan s).prot = s.prot := scanned.same .prot (by decide)
    have hkept : (tickStart c).prot = n.prot := Eq.trans (ticked.same .prot (by decide)) (cycled.same .prot (by decide))
    rw [hkept, ← hprot]
    rfl
  case frame =>
    exact (scanned.mono (by decide)).trans (((repeatNoted_only _).mono (by decide)).trans
      ((cycled.mono (by decide)).trans (ticked.mono (by decide))))

theorem startup_idle (s : State) (h : s.clk.pllLock = false ∨ s.prot.everRel = true) :
    Idle .startupAcquisition s ∧ Idle .startupAcqRepeat s := by
  cases h with
  | inl hp => simp [Idle, exec_startupAcquisition, exec_startupAcqRepeat, hp]
  | inr he => simp [Idle, exec_startupAcquisition, exec_startupAcqRepeat, he]

/-! ## The evaluation (04 R103 to R105) -/

/-- Noting the conditions raises and clears none. -/
theorem ownFault_noteConditions (s : State) : ownFault (noteConditions s) = ownFault s := by
  simp [ownFault, hwCond, fwCond, noteConditions_prot]

/-- The completed acquisition is taken up. -/
def startTaken (s : State) : State := { s with acq.startDone := none }

/-- Its evaluation is clean: `FAULT_N` is no longer held low for the start. -/
def startFreed (s : State) : State := { startTaken s with prot.unclean := false, prot.everRel := true }

/-- The evaluation releases `FAULT_N`: never released before, a clean acquisition, a configuration whose seal checks, a ROM
scan that has matched, and no other condition. -/
def ReleasesFaultLine (s : State) (words : List Word) : Prop :=
  s.prot.everRel = false ∧ startClean (startTaken s) words = true ∧ s.prot.loaded = true ∧ s.prot.romOk = true ∧
    ownFault (startFreed s) = false

theorem exec_startupEvaluation (s : State) (words : List Word) (hf : fwOn s = true) (hd : s.acq.startDone = some words) :
    exec .startupEvaluation s =
      if !s.prot.everRel && startClean (startTaken s) words && s.prot.loaded && s.prot.romOk && !ownFault (startFreed s) then
        .next (noteConditions (startFreed s))
      else .next (startTaken s) := by
  show execStartupEvaluation s = _
  unfold execStartupEvaluation
  rw [if_neg (by simp [hf]), hd]
  rfl

theorem startupEvaluation_releases (s : State) (words : List Word) (hf : fwOn s = true) (hd : s.acq.startDone = some words)
    (h : ReleasesFaultLine s words) : Does .startupEvaluation s fun t =>
      t.prot.everRel = true ∧ t.prot.unclean = false ∧ ownFault t = false ∧ t.acq = { s.acq with startDone := none } := by
  obtain ⟨he, hc, hl, hr, ho⟩ := h
  have hexec : exec .startupEvaluation s = .next (noteConditions (startFreed s)) := by
    simp [exec_startupEvaluation s words hf hd, he, hc, hl, hr, ho]
  refine ⟨_, hexec, ?_, ?_, ?_, ?_⟩
  · rw [noteConditions_prot]
    rfl
  · rw [noteConditions_prot]
    rfl
  · rw [ownFault_noteConditions, ho]
  · rw [noteConditions_acq]
    rfl

theorem startupEvaluation_keeps (s : State) (words : List Word) (hf : fwOn s = true) (hd : s.acq.startDone = some words)
    (h : ¬ ReleasesFaultLine s words) : Does .startupEvaluation s fun t => t = startTaken s := by
  refine ⟨_, ?_, rfl⟩
  rw [exec_startupEvaluation s words hf hd, if_neg]
  intro hall
  simp only [Bool.and_eq_true, Bool.not_eq_true'] at hall
  obtain ⟨⟨⟨⟨he, hc⟩, hl⟩, hr⟩, ho⟩ := hall
  exact h ⟨he, hc, hl, hr, ho⟩

/-- Settles O14, each of the three commands by its own lemmas: the strobe of the first acquisition (`startStrobe`), the repeat's scan,
cycle and strobe, and the evaluation split on `ReleasesFaultLine`. -/
theorem startupReleasesFaultLine : Obligations.StartupReleasesFaultLine := by
  refine ⟨startupAcquisition_strobes, fun s h => ?ready, startup_idle, startupAcquisition_waits, startupAcqRepeat_begins,
    fun s words hf hd => ⟨startupEvaluation_releases s words hf hd, startupEvaluation_keeps s words hf hd⟩⟩
  case ready =>
    obtain ⟨hq, hw⟩ := (startReady_iff s).mp h
    exact ⟨closed_of_quietOk hq, hw⟩

end Sys2Proof.Machine

/-! PROOFS. Oscillators, chain-time timeouts and the clock check (05 R127 to R145; 11 R413; 24 R887). -/

namespace Sys2Proof.Machine

/-! ## Frames of one unit -/

theorem only_now {l : List Part} (h : .now ∈ l) (s : State) (x : Nat) : Only l s { s with now := x } :=
  Only.of fun p => by
    cases p
    case now => exact .inl h
    all_goals exact .inr rfl

theorem only_freeCtr {l : List Part} (h : .freeCtr ∈ l) (s : State) (x : Nat) : Only l s { s with freeCtr := x } :=
  Only.of fun p => by
    cases p
    case freeCtr => exact .inl h
    all_goals exact .inr rfl

theorem only_clk {l : List Part} (h : .clk ∈ l) (s : State) (x : ClkUnit) : Only l s { s with clk := x } :=
  Only.of fun p => by
    cases p
    case clk => exact .inl h
    all_goals exact .inr rfl

theorem only_tim {l : List Part} (h : .tim ∈ l) (s : State) (x : TimUnit) : Only l s { s with tim := x } :=
  Only.of fun p => by
    cases p
    case tim => exact .inl h
    all_goals exact .inr rfl

theorem only_ph {l : List Part} (h : .ph ∈ l) (s : State) (x : PhUnit) : Only l s { s with ph := x } :=
  Only.of fun p => by
    cases p
    case ph => exact .inl h
    all_goals exact .inr rfl

theorem only_sch {l : List Part} (h : .sch ∈ l) (s : State) (x : SchUnit) : Only l s { s with sch := x } :=
  Only.of fun p => by
    cases p
    case sch => exact .inl h
    all_goals exact .inr rfl

theorem only_apl {l : List Part} (h : .apl ∈ l) (s : State) (x : AplUnit) : Only l s { s with apl := x } :=
  Only.of fun p => by
    cases p
    case apl => exact .inl h
    all_goals exact .inr rfl

theorem irqRaise_only (s : State) (v : Nat) : Only [.core] s (irqRaise s v) := only_core (by decide) ..

theorem takeFree_only (s : State) : Only [.freeCtr] s (takeFree s).2 := only_freeCtr (by decide) ..

/-! ## Entries of the journal -/

/-- The entry of an event is formed from the time, the role, the epochs and the count of resets; what touches none of them leaves it. -/
theorem mkEntry_of_only {l : List Part} {s t : State} (h : Only l s t)
    (hl : ∀ p ∈ [Part.now, .rst, .store, .cfg, .ph, .sch], p ∉ l) (inc : Bool) (ty : Byte) (d : List Byte) :
    mkEntry t inc ty d = mkEntry s inc ty d := by
  have hnow : t.now = s.now := h.same .now (hl _ (by decide))
  have hrst : t.rst = s.rst := h.same .rst (hl _ (by decide))
  have hstore : t.store = s.store := h.same .store (hl _ (by decide))
  have hcfg : t.cfg = s.cfg := h.same .cfg (hl _ (by decide))
  have hph : t.ph = s.ph := h.same .ph (hl _ (by decide))
  have hsch : t.sch = s.sch := h.same .sch (hl _ (by decide))
  have hepoch : recEpoch t = recEpoch s := by
    unfold recEpoch isAnchor
    rw [hcfg, hph, hsch]
  simp only [mkEntry, uptimeUs, hepoch, hnow, hrst, hstore]

/-- Where the queue has a place, an entry is appended and nothing else changes. -/
theorem jrnPut_of_room (s : State) (inc : Bool) (ty : Byte) (d : List Byte) (h : jrnRoom s = true) :
    jrnPut s inc ty d = { s with jrn.queue := s.jrn.queue ++ [mkEntry s inc ty d] } := by
  have hlt : s.jrn.queue.length < jrnCap := of_decide_eq_true h
  simp [jrnPut, jrnQueue, hlt]

/-! ## The PLL and its reference -/

theorem retune_only (s : State) : Only [.clk, .freeCtr] s (retune s) :=
  Only.of fun p => by
    cases p
    case clk => exact .inl (by decide)
    case freeCtr => exact .inl (by decide)
    all_goals exact .inr rfl

/-- A new reference or steering value gives a new goal and a new rate, and leaves the frequency (05 R131). -/
theorem retune_clk (s : State) : (retune s).clk = { s.clk with goal := (retune s).clk.goal, rate := (retune s).clk.rate } := rfl

/-- The slew is at most 100 ppm per millisecond (05 R131), and not zero (log 15). -/
theorem retune_rate (s : State) : 1 ≤ (retune s).clk.rate ∧ (retune s).clk.rate ≤ 100 := by
  have h : (retune s).clk.rate = (Config.freeWord (s.freeCtr + 1)).toNat % 100 + 1 := rfl
  omega

theorem setRef_only (s : State) : Only [.clk, .freeCtr] s (setRef s) := by
  unfold setRef
  split
  · exact Only.refl ..
  · exact (only_clk (by decide) ..).trans (retune_only _)

/-- The reference is the one wanted; frequency, lock and the state of the crystal stay. -/
theorem setRef_clk (s : State) : (setRef s).clk = 
    { s.clk with refSel := wantsCrystal s, goal := (setRef s).clk.goal, rate := (setRef s).clk.rate } := by
  unfold setRef
  split
  case isTrue h => rw [← beq_iff_eq.mp h]
  case isFalse => exact retune_clk _

theorem exec_pllLock (s : State) : exec .pllLock s =
    if active s && !s.clk.pllLock then .next (retune (irqRaise { s with clk.pllLock := true, clk.refSel := false } 17))
    else .next s := rfl

theorem pllLock_locks (s : State) (ha : active s = true) (hl : s.clk.pllLock = false) : Does .pllLock s fun t =>
    t.clk = { s.clk with pllLock := true, refSel := false, goal := t.clk.goal, rate := t.clk.rate } ∧ 1 ≤ t.clk.rate ∧
      t.clk.rate ≤ 100 ∧ Only [.clk, .freeCtr, .core] s t := by
  let u : State := { s with clk.pllLock := true, clk.refSel := false }
  obtain ⟨hlo, hhi⟩ := retune_rate (irqRaise u 17)
  have hexec : exec .pllLock s = .next (retune (irqRaise u 17)) := by simp [exec_pllLock, ha, hl, u]
  refine ⟨_, hexec, retune_clk _, hlo, hhi, ?_⟩
  exact (only_clk (by decide) s u.clk).trans
    (((irqRaise_only u 17).mono (by decide)).trans ((retune_only _).mono (by decide)))

theorem pllLock_idle (s : State) (h : active s = false ∨ s.clk.pllLock = true) : Idle .pllLock s := by
  obtain ha | hl := h
  · simp [Idle, exec_pllLock, ha]
  · simp [Idle, exec_pllLock, hl]

theorem exec_crystalGood (s : State) : exec .crystalGood s =
    if active s && bitOf s.cfg.clkCfg 1 then .next (setRef (irqRaise { s with clk.xtalOk := true } 17)) else .next s := rfl

theorem crystalGood_refers (s : State) (ha : active s = true) (hc : bitOf s.cfg.clkCfg 1 = true) : Does .crystalGood s fun t =>
    t.clk.xtalOk = true ∧ t.clk.refSel = (s.clk.pllLock && bitOf s.cfg.clkCfg 0) ∧ t.clk.freq = s.clk.freq ∧
      t.clk.pllLock = s.clk.pllLock ∧ Only [.clk, .freeCtr, .core] s t := by
  let u : State := irqRaise { s with clk.xtalOk := true } 17
  have hexec : exec .crystalGood s = .next (setRef u) := by simp [exec_crystalGood, ha, hc, u]
  have hclk := setRef_clk u
  have hwant : wantsCrystal u = (s.clk.pllLock && bitOf s.cfg.clkCfg 0) := by
    simp [wantsCrystal, u]
  refine ⟨_, hexec, ?_, ?_, ?_, ?_, ?_⟩
  · rw [hclk]; rfl
  · rw [hclk]; exact hwant
  · rw [hclk]; rfl
  · rw [hclk]; rfl
  · exact (only_clk (by decide) s { s.clk with xtalOk := true }).trans
      (((irqRaise_only _ 17).mono (by decide)).trans ((setRef_only u).mono (by decide)))

/-! ## The crystal fails -/

/-- `CLK_STAT` tells reference and crystal in its two lowest bits (05 Table 5-3). -/
theorem clkStat_low_bits (s : State) (hr : s.clk.refSel = false) (hx : s.clk.xtalOk = false) :
    (BitVec.ofNat 8 (clkStat s).toNat).getLsbD 1 = false ∧ (BitVec.ofNat 8 (clkStat s).toNat).getLsbD 0 = false := by
  have h : (clkStat s).toNat % 4 = 0 := by
    simp only [clkStat, hr, hx, b2n, Bool.false_eq_true, if_false, BitVec.toNat_ofNat]
    omega
  simp only [BitVec.getLsbD_ofNat, Nat.testBit, Nat.shiftRight_zero, Nat.shiftRight_one]
  constructor
  · simp; omega
  · simp; omega

theorem exec_crystalFail (s : State) (ha : active s = true) (hx : s.clk.xtalOk = true) : exec .crystalFail s =
    let u := setRef (irqRaise { s with clk.xtalOk := false } 17)
    .next (jrnPut u false 0x42 [BitVec.ofNat 8 (clkStat u).toNat]) := by
  show execCrystalFail s = _
  simp [execCrystalFail, ha, hx]

theorem crystalFail_falls_back (s : State) (ha : active s = true) (hx : s.clk.xtalOk = true) (hq : jrnRoom s = true) :
    Does .crystalFail s fun t =>
      t.clk.xtalOk = false ∧ t.clk.refSel = false ∧ t.clk.freq = s.clk.freq ∧ t.clk.pllLock = s.clk.pllLock ∧
        Only [.clk, .freeCtr, .jrn, .core] s t ∧
        ∃ b, t.jrn.queue = s.jrn.queue ++ [mkEntry s false 0x42 [b]] ∧ b.getLsbD 1 = false ∧ b.getLsbD 0 = false := by
  let v : State := irqRaise { s with clk.xtalOk := false } 17
  have hclk := setRef_clk v
  have hframe : Only [.clk, .freeCtr, .core] s (setRef v) := (only_clk (by decide) s { s.clk with xtalOk := false }).trans
      (((irqRaise_only _ 17).mono (by decide)).trans ((setRef_only v).mono (by decide)))
  have hjrn : (setRef v).jrn = s.jrn := hframe.same .jrn (by decide)
  have hroom : jrnRoom (setRef v) = true := by rw [jrnRoom, hjrn]; exact hq
  have hwant : wantsCrystal v = false := by simp [wantsCrystal, v]
  have href : (setRef v).clk.refSel = false := by rw [hclk]; exact hwant
  have hxtal : (setRef v).clk.xtalOk = false := by rw [hclk]; rfl
  have hfreq : (setRef v).clk.freq = s.clk.freq := by rw [hclk]; rfl
  have hlock : (setRef v).clk.pllLock = s.clk.pllLock := by rw [hclk]; rfl
  obtain ⟨hbit1, hbit0⟩ := clkStat_low_bits _ href hxtal
  have hput := jrnPut_of_room (setRef v) false 0x42 [BitVec.ofNat 8 (clkStat (setRef v)).toNat] hroom
  refine ⟨_, exec_crystalFail s ha hx, ?_⟩
  show _ ∧ _
  rw [hput]
  refine ⟨hxtal, href, hfreq, hlock, ?_, _, ?_, hbit1, hbit0⟩
  · exact (hframe.mono (by decide)).trans (only_jrn (by decide) ..)
  · show (setRef v).jrn.queue ++ [mkEntry (setRef v) false 0x42 _] = _
    rw [hjrn, mkEntry_of_only hframe (by decide)]

/-! ## Timeouts of chain time -/

theorem alignTimeout_loses (s : State) (ha : active s = true) (hn : isAnchor s = false) : Does .alignTimeout s fun t =>
    t = { s with tim := { s.tim with aligned := false, stepDue := true, goodBeats := 0 } } :=
  ⟨_, if_pos (by simp [ha, hn]), rfl⟩

theorem orphanTimeout_orphans (s : State) (ha : active s = true) (hn : isAnchor s = false ∨ s.tq.conflict = true) :
    Does .orphanTimeout s fun t =>
      t = { s with tim := { s.tim with orphaned := true, aligned := false, stepDue := true, goodBeats := 0 },
                   chn := { s.chn with freeFrom := 0, freeTo := 0 } } :=
  ⟨_, if_pos (by obtain h | h := hn <;> simp [ha, h]), rfl⟩

/-! ## The clock check (05 R137 to R140) -/

/-- The disagreements of one check. -/
def disagreements (a b c : Bool) : BitVec 3 := BitVec.ofNat 3 (b2n a + 2 * b2n b + 4 * b2n c)

/-- The check's disagreements are remembered, and the clock interrupt is raised; the free bit has been drawn. -/
def clockFaulty (s : State) (now : BitVec 3) : State :=
  irqRaise { s with clk.disagree := now, freeCtr := s.freeCtr + 1 } 17

/-- The core can run: torque goes, the fault is journaled, and the firmware ends in the full stop (05 R139, R140). -/
def clockFaultStop (s : State) (now : BitVec 3) : State :=
  let u := clockFaulty s now
  fwStop (jrnFlushInc (jrnPut (tqImmediate (noteConditions { u with clk.fault := true }) 14) true 0x09
    [(now &&& s.clk.disagree).setWidth 8])) 0xE000

/-- The core cannot run: the safety monitor removes torque, and the watchdog is left unserved. -/
def clockFaultDead (s : State) (now : BitVec 3) : State :=
  let u := clockFaulty s now
  smRemove (noteConditions { u with clk.fault := true, clk.coreDead := true })

theorem exec_clockSupervisionCheck (s : State) (a b c : Bool) (ha : active s = true) :
    exec (.clockSupervisionCheck a b c) s =
      if disagreements a b c &&& s.clk.disagree = 0 then .next { s with clk.disagree := disagreements a b c }
      else if (Config.freeWord s.freeCtr).getLsbD 0 && !s.clk.coreDead then .next (clockFaultStop s (disagreements a b c))
      else .next (clockFaultDead s (disagreements a b c)) := by
  show execClockSupervisionCheck a b c s = _
  unfold execClockSupervisionCheck
  rw [if_neg (by simp [ha])]
  rfl

theorem clockFaulty_only (s : State) (now : BitVec 3) : Only [.clk, .freeCtr, .core] s (clockFaulty s now) :=
  (only_clk (by decide) s { s.clk with disagree := now }).trans
    ((only_freeCtr (by decide) ..).trans ((irqRaise_only ..).mono (by decide)))

/-! ### The full stop -/

/-- The firmware's own stop enters the full stop, or, where its frame cannot be pushed, is a full reset from source 9 (18 R700,
R702). -/
theorem fwStop_cases (s : State) (code : Word) :
    ((fwStop s code).core.fstop = true ∧ (fwStop s code).core.pc = 0x100 ∧ (fwStop s code).rst.fstopTimer = true ∧
        Only [.core, .mem, .rst] s (fwStop s code)) ∨
      ∃ u, fwStop s code = fullReset u 9 ∧ Only [.core] s u := by
  have hcore : Only [.core] s { s with core.g := s.core.g.set 1 code } := only_core (by decide) ..
  unfold fwStop fullStop
  dsimp only
  split
  · split
    · refine .inl ⟨rfl, rfl, rfl, Only.of fun p => ?_⟩
      cases p
      case core => exact .inl (by decide)
      case mem => exact .inl (by decide)
      case rst => exact .inl (by decide)
      all_goals exact .inr rfl
    · exact .inr ⟨_, rfl, hcore⟩
  · exact .inr ⟨_, rfl, hcore⟩

theorem resetFrom_of_fullReset (s : State) (code : BitVec 4) (h : s.rst.held = false) :
    (fullReset s code).rst.held = true ∧ (fullReset s code).rst.latch = code ∧ (fullReset s code).tq.ten = false := by
  simp [fullReset, h, resetState, State.reset, TqUnit.reset]

/-- A clock fault is a condition of hardware that holds `FAULT_N` (05 R139; 09 Table 9-2). -/
theorem ownFault_of_clkFault (s : State) (h : s.clk.fault = true) : ownFault s = true := by
  simp [ownFault, hwCond, h]

/-- The device runs: it is not held in reset. -/
theorem held_of_active {s : State} (h : active s = true) : s.rst.held = false := by
  simp only [active, running, Bool.and_eq_true, Bool.not_eq_true'] at h
  exact h.1.1

/-! ### The core can run -/

/-- The fault is noted, torque removed, and the record written. -/
def clockFaultRecorded (s : State) (now : BitVec 3) : State :=
  jrnFlushInc (jrnPut (tqImmediate (noteConditions { clockFaulty s now with clk.fault := true }) 14) true 0x09
    [(now &&& s.clk.disagree).setWidth 8])

theorem clockFaultStop_eq (s : State) (now : BitVec 3) : clockFaultStop s now = fwStop (clockFaultRecorded s now) 0xE000 := rfl

/-- What the record's path may touch after the fault has been noted. -/
theorem clockFaultRecorded_only (s : State) (now : BitVec 3) :
    Only (.prot :: .tq :: .mem :: journalParts) { clockFaulty s now with clk.fault := true } (clockFaultRecorded s now) :=
  ((noteConditions_only _).mono (by decide)).trans (((tqImmediate_only ..).mono (by decide)).trans
    (((jrnPut_only ..).mono (by decide)).trans ((jrnFlushInc_only _).mono (by decide))))

/-- On the anchor torque that stands has gone (05 R139). -/
theorem clockFaultRecorded_ten (s : State) (now : BitVec 3) (ha : isAnchor s = true) (ht : torqueOn s = true) :
    (clockFaultRecorded s now).tq.ten = false := by
  let u := noteConditions { clockFaulty s now with clk.fault := true }
  have hcfg : u.cfg = s.cfg := noteConditions_cfg _
  have htq : u.tq = s.tq := noteConditions_tq _
  have hanchor : isAnchor u = true := by rw [isAnchor, hcfg]; exact ha
  have hon : torqueOn u = true := by rw [torqueOn, htq]; exact ht
  have hkept : (clockFaultRecorded s now).tq = (tqImmediate u 14).tq :=
    (((jrnPut_only ..).mono (by decide)).trans (jrnFlushInc_only _)).same .tq (by decide)
  rw [hkept]
  exact (tqImmediate_removes u 14 hanchor (.inl hon)).1

theorem clockFaultStop_stops (s : State) (now : BitVec 3) (ha : active s = true) :
    let t := clockFaultStop s now
    ((t.core.fstop = true ∧ t.core.pc = 0x100 ∧ t.rst.fstopTimer = true ∧ t.clk.fault = true ∧ ownFault t = true) ∨
        (t.rst.held = true ∧ t.rst.latch = 9)) ∧
      (isAnchor s = true → torqueOn s = true → t.tq.ten = false) ∧ t.store.record = s.store.record := by
  let u := clockFaultRecorded s now
  have hu := clockFaultRecorded_only s now
  have hclk : u.clk = { (clockFaulty s now).clk with fault := true } := hu.same .clk (by decide)
  have hrst : u.rst = s.rst := hu.same .rst (by decide)
  have hstore : u.store = s.store := hu.same .store (by decide)
  obtain ⟨hstop, hpc, htimer, hframe⟩ | ⟨v, hreset, hv⟩ := fwStop_cases u 0xE000
  · have hfault : (fwStop u 0xE000).clk.fault = true := by rw [hframe.same .clk (by decide), hclk]
    have htq : (fwStop u 0xE000).tq = u.tq := hframe.same .tq (by decide)
    have hstore' : (fwStop u 0xE000).store = u.store := hframe.same .store (by decide)
    refine ⟨.inl ⟨hstop, hpc, htimer, hfault, ownFault_of_clkFault _ hfault⟩, fun hr ht => ?_, ?_⟩
    · rw [clockFaultStop_eq, htq]
      exact clockFaultRecorded_ten s now hr ht
    · rw [clockFaultStop_eq, hstore', hstore]
  · have hvrst : v.rst = s.rst := Eq.trans (hv.same .rst (by decide)) hrst
    have hvstore : v.store = s.store := Eq.trans (hv.same .store (by decide)) hstore
    have hheld : v.rst.held = false := by rw [hvrst]; exact held_of_active ha
    obtain ⟨hh, hl, hten⟩ := resetFrom_of_fullReset v 9 hheld
    rw [clockFaultStop_eq, hreset]
    exact ⟨.inr ⟨hh, hl⟩, fun _ _ => hten, by rw [fullReset_store, hvstore]⟩

/-! ### The core cannot run -/

theorem smRemove_only (s : State) : Only [.tq] s (smRemove s) := by
  unfold smRemove
  split
  · exact only_tq (by decide) ..
  · exact Only.refl ..

theorem smRemove_removes (s : State) (ha : isAnchor s = true) (ht : torqueOn s = true ∨ s.tq.ten = true ∨ s.tq.enabling ≠ []) :
    (smRemove s).tq.ten = false ∧ (smRemove s).tq.rd = .removed ∧ (smRemove s).tq.enabling = [] := by
  have hc : (isAnchor s && (torqueOn s || s.tq.ten || !s.tq.enabling.isEmpty)) = true := by
    obtain h | h | h := ht <;> simp [ha, h]
  simp [smRemove, hc]

theorem clockFaultDead_stands (s : State) (now : BitVec 3) :
    let t := clockFaultDead s now
    t.clk.fault = true ∧ t.clk.coreDead = true ∧ ownFault t = true ∧ t.rst = s.rst ∧ t.jrn = s.jrn ∧
      (isAnchor s = true → torqueOn s = true ∨ s.tq.ten = true ∨ s.tq.enabling ≠ [] →
        t.tq.ten = false ∧ t.tq.rd = .removed ∧ t.tq.enabling = []) ∧
      Only [.clk, .tq, .freeCtr, .core, .prot, .chn, .host] s t := by
  let v : State := { clockFaulty s now with clk.fault := true, clk.coreDead := true }
  let u := noteConditions v
  have hsm := smRemove_only u
  have hclk : (smRemove u).clk = v.clk := Eq.trans (hsm.same .clk (by decide)) (noteConditions_clk v)
  have hfault : (smRemove u).clk.fault = true := by rw [hclk]
  have hframe : Only [.clk, .tq, .freeCtr, .core, .prot, .chn, .host] s (smRemove u) :=
    ((clockFaulty_only s now).mono (by decide)).trans ((only_clk (by decide) _ v.clk).trans
      (((noteConditions_only v).mono (by decide)).trans (hsm.mono (by decide))))
  refine ⟨hfault, by rw [clockFaultDead]; exact congrArg ClkUnit.coreDead hclk, ownFault_of_clkFault _ hfault,
    hframe.same .rst (by decide), hframe.same .jrn (by decide), fun ha ht => ?_, hframe⟩
  have hcfg : u.cfg = s.cfg := noteConditions_cfg v
  have htq : u.tq = s.tq := noteConditions_tq v
  refine smRemove_removes u ?_ ?_
  · rw [isAnchor, hcfg]
    exact ha
  · rw [torqueOn, htq]
    exact ht

/-! ### The check as a command -/

theorem clockCheck_remembers (s : State) (a b c : Bool) (ha : active s = true)
    (h : disagreements a b c &&& s.clk.disagree = 0) : Does (.clockSupervisionCheck a b c) s fun t =>
      t = { s with clk := { s.clk with disagree := disagreements a b c } } :=
  ⟨_, by rw [exec_clockSupervisionCheck s a b c ha, if_pos h], rfl⟩

theorem clockCheck_faults (s : State) (a b c : Bool) (ha : active s = true)
    (h : disagreements a b c &&& s.clk.disagree ≠ 0) :
    let coreRuns := (Config.freeWord s.freeCtr).getLsbD 0 && !s.clk.coreDead
    Does (.clockSupervisionCheck a b c) s fun t =>
      (coreRuns = true → ((t.core.fstop = true ∧ t.core.pc = 0x100 ∧ t.rst.fstopTimer = true ∧ t.clk.fault = true ∧ ownFault t = true) ∨
          (t.rst.held = true ∧ t.rst.latch = 9)) ∧ (isAnchor s = true → torqueOn s = true → t.tq.ten = false) ∧
        t.store.record = s.store.record) ∧
      (coreRuns = false → t.clk.fault = true ∧ t.clk.coreDead = true ∧ ownFault t = true ∧ t.rst = s.rst ∧ t.jrn = s.jrn ∧
        (isAnchor s = true → torqueOn s = true ∨ s.tq.ten = true ∨ s.tq.enabling ≠ [] →
          t.tq.ten = false ∧ t.tq.rd = .removed ∧ t.tq.enabling = []) ∧
        Only [.clk, .tq, .freeCtr, .core, .prot, .chn, .host] s t) := by
  intro coreRuns
  have hexec := exec_clockSupervisionCheck s a b c ha
  rw [if_neg h] at hexec
  by_cases hr : coreRuns = true
  · exact ⟨_, hexec.trans (if_pos hr), fun _ => clockFaultStop_stops s _ ha, fun hn => absurd hr (by simp [hn])⟩
  · exact ⟨_, hexec.trans (if_neg hr), fun hn => absurd hn hr, fun _ => clockFaultDead_stands s _⟩

/-- Settles O15: lock, crystal and timeouts by `retune` and `setRef`; the clock check split on the second disagreement and on the
free bit that says whether the core can run. -/
theorem clocksTimeoutsAndClockCheck : Obligations.ClocksTimeoutsAndClockCheck :=
  ⟨⟨pllLock_locks, pllLock_idle, crystalGood_refers, crystalFail_falls_back, alignTimeout_loses, orphanTimeout_orphans⟩,
    clockCheck_remembers, clockCheck_faults⟩

end Sys2Proof.Machine

/-! PROOFS. The phase tracker: edges, index, zero-crosses and stalls (05 R148 to R153, R170, Table 5-12). -/

namespace Sys2Proof.Machine

/-! ## Stamps -/

theorem stampEdge_only (s : State) (a b : Bool) : Only [.ph, .tq] s (stampEdge s a b) := by
  unfold stampEdge
  dsimp only
  split
  · exact (only_ph (by decide) s { s.ph with phaAt := keepEdges s s.ph.phaAt }).trans
      ((only_tq (by decide) ..).trans (only_ph (by decide) ..))
  · exact only_ph (by decide) ..

/-- Every edge is stamped in chain time; beside stamps and levels the tracker keeps only its list of rising edges of `PHA`. -/
theorem stampEdge_ph (s : State) (a b : Bool) : (stampEdge s a b).ph =
    { s.ph with a := a, b := b, stampA := if a ≠ s.ph.a then s.tim.cnt else s.ph.stampA,
                stampB := if b ≠ s.ph.b then s.tim.cnt else s.ph.stampB, phaAt := (stampEdge s a b).ph.phaAt } := by
  unfold stampEdge
  dsimp only
  simp only [bne_iff_ne, ne_eq]
  split <;> rfl

theorem stampFall_only (s : State) (f : Bool) : Only [.ph] s (stampFall s f) := by
  unfold stampFall
  split
  · exact only_ph (by decide) ..
  · exact Only.refl ..

theorem stampFall_eq (s : State) (f : Bool) :
    stampFall s f = if f = true ∧ s.ph.z = true then { s with ph := { s.ph with stampZ := s.tim.cnt, z := false } } else s := by
  simp only [stampFall, Bool.and_eq_true]

theorem stampFall_ph (s : State) (f : Bool) :
    (stampFall s f).ph = { s.ph with stampZ := (stampFall s f).ph.stampZ, z := (stampFall s f).ph.z } := by
  unfold stampFall
  split <;> rfl

/-- The levels told and their stamps. -/
def stamped (s : State) (a b f : Bool) : State := stampFall (stampEdge s a b) f

theorem stamped_only (s : State) (a b f : Bool) : Only [.ph, .tq] s (stamped s a b f) :=
  (stampEdge_only ..).trans ((stampFall_only ..).mono (by decide))

/-- Stamping an edge leaves where the tracker stands. -/
theorem stamped_ph (s : State) (a b f : Bool) : (stamped s a b f).ph =
    { s.ph with a := a, b := b, z := (stamped s a b f).ph.z, stampA := (stamped s a b f).ph.stampA,
                stampB := (stamped s a b f).ph.stampB, stampZ := (stamped s a b f).ph.stampZ,
                phaAt := (stamped s a b f).ph.phaAt } := by
  rw [stamped, stampFall_ph, stampEdge_ph]

/-! ## Positions and points -/

theorem phCycle_pos (s : State) : 0 < phCycle s := Nat.lt_of_lt_of_le Nat.one_pos (Nat.le_max_left ..)

theorem phCycle_congr {s t : State} (h : t.cfg = s.cfg) : phCycle t = phCycle s := by rw [phCycle, h, phCycle]

theorem leavePoints_only (s : State) (lo n : Nat) : Only [.sch] s (leavePoints s lo n) := by
  unfold leavePoints
  split
  · exact Only.refl ..
  · exact only_sch (by decide) ..

/-- A point that is left can be evaluated again; the schedule is otherwise as it was. -/
theorem leavePoints_sch (s : State) (lo n : Nat) :
    (leavePoints s lo n).sch = { s.sch with passed := (leavePoints s lo n).sch.passed } := by
  unfold leavePoints
  split <;> rfl

/-- The era is the top byte of an epoch. -/
theorem era_eq (e : Word) : fld e 31 24 = e.toNat / 16777216 := by
  have he : e.toNat < 4294967296 := e.isLt
  have h : fld e 31 24 = e.toNat / 16777216 % 256 := rfl
  rw [h, Nat.mod_eq_of_lt]
  exact Nat.div_lt_of_lt_mul he

/-- A change of the cycle count leaves the era. -/
theorem era_addCycles (e : Word) (d : Int) : fld (addCycles e d) 31 24 = fld e 31 24 := by
  obtain ⟨n, hn, hc⟩ : ∃ n, n < 16777216 ∧ addCycles e d = (e &&& 0xFF000000#32) ||| BitVec.ofNat 32 n :=
    ⟨_, by omega, rfl⟩
  have hlow : (BitVec.ofNat 32 n).toNat >>> 24 = 0 := by
    rw [BitVec.toNat_ofNat, Nat.shiftRight_eq_div_pow]
    omega
  have htop : (e &&& 0xFF000000#32).toNat >>> 24 = e.toNat >>> 24 := by
    have he : e.toNat >>> 24 < 2 ^ 8 := by
      rw [Nat.shiftRight_eq_div_pow]
      exact Nat.div_lt_of_lt_mul e.isLt
    rw [BitVec.toNat_and, Nat.shiftRight_and_distrib]
    exact Nat.and_two_pow_sub_one_of_lt_two_pow he
  calc fld (addCycles e d) 31 24
    _ = (addCycles e d).toNat >>> 24 := by rw [era_eq, Nat.shiftRight_eq_div_pow]
    _ = (e &&& 0xFF000000#32).toNat >>> 24 ||| (BitVec.ofNat 32 n).toNat >>> 24 := by
      rw [hc, BitVec.toNat_or, Nat.shiftRight_or_distrib]
    _ = e.toNat >>> 24 := by rw [htop, hlow, Nat.or_zero]
    _ = fld e 31 24 := by rw [era_eq, Nat.shiftRight_eq_div_pow]

/-- A new era. -/
theorem era_raiseEra (e : Word) : fld (raiseEra e) 31 24 = (fld e 31 24 + 1) % 256 := by
  have hr : (raiseEra e).toNat = (e.toNat + 16777216) % 4294967296 := BitVec.toNat_add ..
  rw [era_eq, era_eq, hr]
  have he : e.toNat < 4294967296 := e.isLt
  generalize e.toNat = n at he
  omega

/-- Setting the position moves it and the cycle count with it. -/
theorem setPos_ph (s : State) (p : Nat) :
    (setPos s p).ph = { s.ph with pos := p % phCycle s, epoch := (setPos s p).ph.epoch } := by
  unfold setPos
  dsimp only
  split
  · have h : (leavePoints s s.ph.pos ((p + phCycle s - s.ph.pos % phCycle s) % phCycle s)).ph = s.ph :=
      (leavePoints_only ..).same .ph (by decide)
    rw [h]
  · have h (a b : Nat) : (leavePoints s a b).ph = s.ph := (leavePoints_only ..).same .ph (by decide)
    rw [h]

theorem setPos_era (s : State) (p : Nat) : fld (setPos s p).ph.epoch 31 24 = fld s.ph.epoch 31 24 := by
  have h (a b : Nat) : (leavePoints s a b).ph = s.ph := (leavePoints_only ..).same .ph (by decide)
  unfold setPos
  dsimp only
  rw [era_addCycles]
  split <;> rw [h]

theorem setPos_only (s : State) (p : Nat) : Only [.ph, .sch] s (setPos s p) := by
  unfold setPos
  dsimp only
  refine Only.trans ?_ (only_ph (by decide) ..)
  split <;> exact (leavePoints_only ..).mono (by decide)

theorem setPos_ticks (s : State) (p : Nat) : (setPos s p).sch.ticks = s.sch.ticks := by
  have h (a b : Nat) : (leavePoints s a b).sch.ticks = s.sch.ticks := by rw [leavePoints_sch]
  unfold setPos
  dsimp only
  split <;> exact h _ _

/-! ## Cancellations and discontinuities -/

theorem cancelTicks_only (s : State) (r : Byte) : Only [.sch] s (cancelTicks s r) := only_sch (by decide) ..

/-- What a cancellation leaves of the pending ticks is marked late (05 R168). -/
theorem cancelTicks_late (s : State) (r : Byte) : ∀ k ∈ (cancelTicks s r).sch.ticks, k.late = true := by
  intro k hk
  obtain ⟨t, -, rfl⟩ := List.mem_map.mp hk
  rfl

theorem settle_only (s : State) : Only [.ph, .sch] s (settle s) :=
  (only_ph (by decide) s { s.ph with tbase := .settling, settle := 0 }).trans (only_sch (by decide) ..)

theorem phaseRecord_only (s : State) (kind : Byte) : Only (.core :: journalParts) s (phaseRecord s kind) :=
  ((jrnPut_only ..).mono (by decide)).trans ((irqRaise_only ..).mono (by decide))

theorem phaseRecord_ph (s : State) (kind : Byte) : (phaseRecord s kind).ph = s.ph :=
  (phaseRecord_only ..).same .ph (by decide)

theorem phaseRecord_sch (s : State) (kind : Byte) : (phaseRecord s kind).sch = s.sch :=
  (phaseRecord_only ..).same .sch (by decide)

/-- The pending ticks cancelled, and the era raised. -/
def eraBroken (s : State) (reason : Byte) : State :=
  let u := cancelTicks s reason
  { u with ph.epoch := raiseEra u.ph.epoch }

theorem eraBroken_ph (s : State) (r : Byte) : (eraBroken s r).ph = { s.ph with epoch := raiseEra s.ph.epoch } := rfl

theorem eraBroken_only (s : State) (r : Byte) : Only [.ph, .sch] s (eraBroken s r) :=
  ((cancelTicks_only s r).mono (by decide)).trans (only_ph (by decide) ..)

theorem settle_ph (s : State) : (settle s).ph = { s.ph with tbase := .settling, settle := 0 } := rfl

theorem quadError_eq (s : State) : quadError s = phaseRecord (settle (eraBroken s 3)) 4 := rfl

/-- A quadrature error raises the era and begins SETTLING; count and position stay (05 R149, R170). -/
theorem quadError_ph (s : State) : (quadError s).ph =
    { s.ph with epoch := raiseEra s.ph.epoch, tbase := .settling, settle := 0 } := by
  rw [quadError_eq, phaseRecord_ph, settle_ph, eraBroken_ph]

/-- A quadrature error cancels the pending ticks. -/
theorem quadError_late (s : State) : ∀ k ∈ (quadError s).sch.ticks, k.late = true := by
  rw [quadError_eq, phaseRecord_sch]
  exact cancelTicks_late s 3

theorem quadError_only (s : State) : Only (.ph :: .sch :: .core :: journalParts) s (quadError s) :=
  ((eraBroken_only s 3).mono (by decide)).trans (((settle_only _).mono (by decide)).trans ((phaseRecord_only ..).mono (by decide)))

theorem phaseJump_eq (s : State) : phaseJump s = phaseRecord (settle (setPos (eraBroken s 2) s.cfg.phZofs.toNat)) 3 := rfl

/-- A phase jump sets the position and begins SETTLING (05 R150, R153, R170). -/
theorem phaseJump_ph (s : State) : (phaseJump s).ph =
    { s.ph with pos := s.cfg.phZofs.toNat % phCycle s, epoch := (phaseJump s).ph.epoch, tbase := .settling, settle := 0 } := by
  have hcycle : phCycle (eraBroken s 2) = phCycle s := phCycle_congr ((eraBroken_only s 2).same .cfg (by decide))
  rw [phaseJump_eq, phaseRecord_ph, settle_ph, setPos_ph, eraBroken_ph, hcycle]

/-- A phase jump raises the era. -/
theorem phaseJump_era (s : State) : fld (phaseJump s).ph.epoch 31 24 = (fld s.ph.epoch 31 24 + 1) % 256 := by
  have hera : (eraBroken s 2).ph.epoch = raiseEra s.ph.epoch := by rw [eraBroken_ph]
  rw [phaseJump_eq, phaseRecord_ph, settle_ph]
  dsimp only
  rw [setPos_era, hera, era_raiseEra]

/-! ## Counted edges -/

/-- A counted edge moves count and position by one in its direction (05 R149); the short way round where it passes the cycle's end. -/
theorem moveEdge_ph (s : State) (rev : Bool) (h : s.ph.pos < phCycle s) :
    (moveEdge s rev).ph.pos = if rev then (s.ph.pos + phCycle s - 1) % phCycle s else (s.ph.pos + 1) % phCycle s := by
  have hph : (leavePoints s s.ph.pos 1).ph = s.ph := (leavePoints_only ..).same .ph (by decide)
  have hc := phCycle_pos s
  cases rev
  case false =>
    have hpos : (moveEdge s false).ph.pos = if s.ph.pos + 1 ≥ phCycle s then 0 else s.ph.pos + 1 := by
      simp only [moveEdge, hph]
      rfl
    rw [hpos]
    split
    case isTrue hge => simp [show s.ph.pos + 1 = phCycle s by omega]
    case isFalse hlt => simp [Nat.mod_eq_of_lt (Nat.lt_of_not_ge hlt)]
  case true =>
    have hpos : (moveEdge s true).ph.pos = if s.ph.pos = 0 then phCycle s - 1 else s.ph.pos - 1 := by
      simp only [moveEdge, hph]
      rfl
    rw [hpos]
    split
    case isTrue h0 => simp [h0, Nat.mod_eq_of_lt (Nat.sub_lt hc Nat.one_pos)]
    case isFalse h0 =>
      have hsum : s.ph.pos + phCycle s - 1 = s.ph.pos - 1 + phCycle s := by omega
      simp [hsum, Nat.mod_eq_of_lt (show s.ph.pos - 1 < phCycle s by omega)]

theorem moveEdge_only (s : State) (rev : Bool) : Only [.ph, .sch] s (moveEdge s rev) := by
  unfold moveEdge
  dsimp only
  refine ((leavePoints_only s s.ph.pos 1).mono (by decide)).trans (Only.trans ?_ (only_ph (by decide) ..))
  split <;> exact only_ph (by decide) ..

/-- Beside count and position, an edge leaves direction, levels and time base. -/
theorem moveEdge_keeps (s : State) (rev : Bool) :
    (moveEdge s rev).ph.count = (if rev then s.ph.count - 1 else s.ph.count + 1) ∧ (moveEdge s rev).ph.a = s.ph.a ∧
      (moveEdge s rev).ph.b = s.ph.b ∧ (moveEdge s rev).ph.rev = s.ph.rev ∧ (moveEdge s rev).ph.tbase = s.ph.tbase ∧
      (moveEdge s rev).sch.ticks = s.sch.ticks := by
  have hph : (leavePoints s s.ph.pos 1).ph = s.ph := (leavePoints_only ..).same .ph (by decide)
  have hticks : (leavePoints s s.ph.pos 1).sch.ticks = s.sch.ticks := by rw [leavePoints_sch]
  cases rev <;> simp [moveEdge, hph, hticks]

/-- In TRACKING an edge in the present direction is counted and nothing else happens. -/
theorem countEdge_tracking (s : State) (h : s.ph.tbase = .tracking) : countEdge s s.ph.rev = moveEdge s s.ph.rev := by
  have ht : (moveEdge s s.ph.rev).ph.tbase = .tracking := by
    obtain ⟨-, -, -, -, htbase, -⟩ := moveEdge_keeps s s.ph.rev
    exact htbase.trans h
  simp [countEdge, h, settleEdge, ht]

/-! ## The encoder's edges as commands -/

/-- What an edge does by the direction that the mode counts for it, if it counts it; `inv` is the configured inversion. -/
def edgeTaken (s : State) (inv : Bool) : Option Bool → State
  | none => s
  | some r => countEdge s (r != inv)

theorem exec_encoderEdge (s : State) (a b f : Bool) (ha : active s = true) (hr : isAnchor s = true) :
    exec (.encoderEdge (a, b) f) s =
      if !encMode s.cfg then .next (stamped s a b f)
      else if a != s.ph.a && b != s.ph.b then .next (quadError (stamped s a b f))
      else .next (edgeTaken (stamped s a b f) (bitOf s.cfg.phCfg 4) (edgeDir (phMode s.cfg) s.ph.a s.ph.b a b)) := by
  have hcfg : (stamped s a b f).cfg = s.cfg := (stamped_only s a b f).same .cfg (by decide)
  show execEncoderEdge (a, b) f s = _
  unfold execEncoderEdge
  dsimp only
  rw [if_neg (by simp [ha, hr])]
  simp only [show stampFall (stampEdge s a b) f = stamped s a b f from rfl, hcfg]
  cases edgeDir (phMode s.cfg) s.ph.a s.ph.b a b with
  | none => rfl
  | some r => rfl

theorem encoderEdge_idle (s : State) (ab : Bool × Bool) (f : Bool) (h : active s = false ∨ isAnchor s = false) :
    Idle (.encoderEdge ab f) s := by
  show execEncoderEdge ab f s = _
  exact if_pos (by obtain h | h := h <;> simp [h])

theorem encoderEdge_counts (s : State) (a b f rev : Bool) (ha : active s = true) (hr : isAnchor s = true)
    (he : encMode s.cfg = true) (hone : ¬ (a ≠ s.ph.a ∧ b ≠ s.ph.b))
    (hdir : edgeDir (phMode s.cfg) s.ph.a s.ph.b a b = some rev) (hrev : (rev != bitOf s.cfg.phCfg 4) = s.ph.rev)
    (ht : s.ph.tbase = .tracking) : Does (.encoderEdge (a, b) f) s fun t =>
      t.ph.count = (if s.ph.rev then s.ph.count - 1 else s.ph.count + 1) ∧
        (s.ph.pos < phCycle s → t.ph.pos = (if s.ph.rev then (s.ph.pos + phCycle s - 1) % phCycle s else (s.ph.pos + 1) % phCycle s)) ∧
        t.ph.a = a ∧ t.ph.b = b ∧ t.ph.rev = s.ph.rev ∧ t.ph.tbase = .tracking ∧ t.sch.ticks = s.sch.ticks ∧
        Only [.ph, .sch, .tq] s t := by
  let u := stamped s a b f
  have hu := stamped_only s a b f
  have huph := stamped_ph s a b f
  have hurev : u.ph.rev = s.ph.rev := by rw [huph]
  have hutbase : u.ph.tbase = .tracking := by rw [huph]; exact ht
  have hupos : u.ph.pos = s.ph.pos := by rw [huph]
  have hucycle : phCycle u = phCycle s := phCycle_congr (hu.same .cfg (by decide))
  have husch : u.sch = s.sch := hu.same .sch (by decide)
  have hexec : exec (.encoderEdge (a, b) f) s = .next (moveEdge u s.ph.rev) := by
    have hedge : (a != s.ph.a && b != s.ph.b) = false := by simpa using hone
    rw [exec_encoderEdge s a b f ha hr, if_neg (by simp [he]), if_neg (by simp [hedge]), hdir, edgeTaken, hrev, ← hurev]
    exact congrArg _ (countEdge_tracking u hutbase)
  obtain ⟨hcount, hka, hkb, hkrev, hktbase, hkticks⟩ := moveEdge_keeps u s.ph.rev
  refine ⟨_, hexec, ?_, fun hp => ?_, ?_, ?_, hkrev.trans hurev, hktbase.trans hutbase, ?_, ?_⟩
  · rw [hcount, huph]
  · rw [moveEdge_ph u _ (by rw [hupos, hucycle]; exact hp), hupos, hucycle]
  · rw [hka, huph]
  · rw [hkb, huph]
  · rw [hkticks, husch]
  · exact (hu.mono (by decide)).trans ((moveEdge_only ..).mono (by decide))

theorem encoderEdge_both (s : State) (a b f : Bool) (ha : active s = true) (hr : isAnchor s = true)
    (he : encMode s.cfg = true) (hea : a ≠ s.ph.a) (heb : b ≠ s.ph.b) : Does (.encoderEdge (a, b) f) s fun t =>
      t.ph.epoch = raiseEra s.ph.epoch ∧ t.ph.tbase = .settling ∧ t.ph.count = s.ph.count ∧ t.ph.pos = s.ph.pos ∧
        (∀ k ∈ t.sch.ticks, k.late = true) ∧ t.tim = s.tim ∧ t.mem = s.mem := by
  let u := stamped s a b f
  have hexec : exec (.encoderEdge (a, b) f) s = .next (quadError u) := by
    simp [exec_encoderEdge s a b f ha hr, he, hea, heb, u]
  have hframe : Only (.ph :: .sch :: .tq :: .core :: journalParts) s (quadError u) :=
    ((stamped_only s a b f).mono (by decide)).trans ((quadError_only u).mono (by decide))
  refine ⟨_, hexec, ?_, ?_, ?_, ?_, quadError_late u, hframe.same .tim (by decide), hframe.same .mem (by decide)⟩
  · rw [quadError_ph, stamped_ph]
  · rw [quadError_ph]
  · rw [quadError_ph, stamped_ph]
  · rw [quadError_ph, stamped_ph]

theorem encoderEdge_uncounted (s : State) (a b f : Bool) (ha : active s = true) (hr : isAnchor s = true)
    (hone : ¬ (a ≠ s.ph.a ∧ b ≠ s.ph.b)) (h : encMode s.cfg = false ∨ edgeDir (phMode s.cfg) s.ph.a s.ph.b a b = none) :
    Does (.encoderEdge (a, b) f) s fun t => t = stampFall (stampEdge s a b) f := by
  refine ⟨_, ?_, rfl⟩
  rw [exec_encoderEdge s a b f ha hr]
  have hedge : (a != s.ph.a && b != s.ph.b) = false := by simpa using hone
  cases he : encMode s.cfg with
  | false => rfl
  | true =>
    have hdir := h.resolve_left (by simp [he])
    simp only [hedge, hdir]
    rfl

/-! ## The index -/

/-- `PHZ` has risen, and its edge is stamped. -/
def indexStamped (s : State) : State := { s with ph.stampZ := s.tim.cnt, ph.z := true }

theorem exec_indexEdge (s : State) (ha : active s = true) (hr : isAnchor s = true) : exec .indexEdge s =
    if !encMode s.cfg || !bitOf s.cfg.phCfg 3 then .next (indexStamped s)
    else
      let u : State := { indexStamped s with ph.firstIndex := false }
      .next (if s.ph.firstIndex || decide (posDist s s.cfg.phZofs.toNat > s.cfg.phZtol.toNat) then phaseJump u
        else setPos u s.cfg.phZofs.toNat) := by
  show execIndexEdge s = _
  unfold execIndexEdge
  rw [if_neg (by simp [ha, hr])]
  rfl

theorem indexEdge_sets (s : State) (ha : active s = true) (hr : isAnchor s = true) (he : encMode s.cfg = true)
    (hi : bitOf s.cfg.phCfg 3 = true) : Does .indexEdge s fun t =>
    t.ph.pos = s.cfg.phZofs.toNat % phCycle s ∧ t.ph.firstIndex = false ∧ t.ph.z = true ∧ t.ph.stampZ = s.tim.cnt ∧
      (s.ph.firstIndex = true → fld t.ph.epoch 31 24 = (fld s.ph.epoch 31 24 + 1) % 256 ∧ t.ph.tbase = .settling) ∧
      (s.ph.firstIndex = false → posDist s s.cfg.phZofs.toNat ≤ s.cfg.phZtol.toNat →
        fld t.ph.epoch 31 24 = fld s.ph.epoch 31 24 ∧ t.ph.tbase = s.ph.tbase ∧ t.sch.ticks = s.sch.ticks ∧ Only [.ph, .sch] s t) := by
  let u : State := { indexStamped s with ph.firstIndex := false }
  have hexec := exec_indexEdge s ha hr
  rw [if_neg (by simp [he, hi])] at hexec
  refine ⟨_, hexec, ?_⟩
  by_cases hj : (s.ph.firstIndex || decide (posDist s s.cfg.phZofs.toNat > s.cfg.phZtol.toNat)) = true
  · dsimp only
    rw [if_pos hj]
    have hph : (phaseJump u).ph = _ := phaseJump_ph u
    refine ⟨?_, ?_, ?_, ?_, fun _ => ⟨phaseJump_era u, ?_⟩, fun hf hd => ?_⟩
    · rw [hph]; rfl
    · rw [hph]
    · rw [hph]; rfl
    · rw [hph]; rfl
    · rw [hph]
    · simp [hf, Nat.not_lt.mpr hd] at hj
  · dsimp only
    rw [if_neg hj]
    have hph : (setPos u s.cfg.phZofs.toNat).ph = _ := setPos_ph u s.cfg.phZofs.toNat
    refine ⟨?_, ?_, ?_, ?_, fun hf => ?_, fun _ _ => ⟨setPos_era u _, ?_, setPos_ticks u _, ?_⟩⟩
    · rw [hph]; rfl
    · rw [hph]
    · rw [hph]; rfl
    · rw [hph]; rfl
    · simp [hf] at hj
    · rw [hph]; rfl
    · exact (only_ph (by decide) s u.ph).trans (setPos_only u _)

theorem indexEdge_stamps (s : State) (ha : active s = true) (hr : isAnchor s = true)
    (h : encMode s.cfg = false ∨ bitOf s.cfg.phCfg 3 = false) : Does .indexEdge s fun t =>
      t = { s with ph := { s.ph with stampZ := s.tim.cnt, z := true } } := by
  refine ⟨_, ?_, rfl⟩
  rw [exec_indexEdge s ha hr, if_pos (by obtain h | h := h <;> simp [h])]
  rfl

theorem indexEdge_idle (s : State) (h : active s = false ∨ isAnchor s = false) : Idle .indexEdge s := by
  show execIndexEdge s = _
  exact if_pos (by obtain h | h := h <;> simp [h])

/-! ## Zero-crosses -/

/-- A positive-going zero-cross is stamped like a rise of `PHA` that follows a fall. -/
def zeroStamped (s : State) : State := stampEdge { s with ph.a := false } true s.ph.b

theorem zeroStamped_only (s : State) : Only [.ph, .tq] s (zeroStamped s) :=
  (only_ph (by decide) s { s.ph with a := false }).trans (stampEdge_only ..)

theorem zeroStamped_ph (s : State) : (zeroStamped s).ph =
    { s.ph with a := true, stampA := s.tim.cnt, phaAt := (zeroStamped s).ph.phaAt } := by
  rw [zeroStamped, stampEdge_ph]
  simp

/-- A zero-cross accepted at this moment. -/
def zeroTaken (u : State) : State := { u with ph.zcAt := some u.now, ph.acc := 0 }

theorem settleZc_ph (s : State) : (settleZc s).ph = { s.ph with settle := (settleZc s).ph.settle, tbase :=
    if s.ph.tbase = .settling then (if s.ph.settle + 1 ≥ 2 then .tracking else .settling) else s.ph.tbase } := by
  by_cases h : s.ph.tbase = .settling
  · simp [settleZc, h]
  · simp [settleZc, h]

/-- A zero-cross that finds no hold-over, with the time since the last one: the first sets the position, a later one also tells the
period, and one that does not fit is a jump (05 R151 to R153). -/
def zeroKept (u : State) (since : Option Nat) : State :=
  match since with
  | none => settleZc (setPos (zeroTaken u) u.cfg.phZofs.toNat)
  | some p =>
    let inRange := decide (usCt 15380 ≤ p) && decide (p ≤ usCt 22220)
    let v : State := { zeroTaken u with ph.zcPeriod := if inRange then p else u.ph.zcPeriod }
    if zcJump u p then phaseJump v else settleZc (setPos v u.cfg.phZofs.toNat)

/-- The last zero-cross came less than 5 ms ago. -/
def zeroEarly (s : State) : Bool := (s.ph.zcAt.map (s.now - ·)).any (· < 5 * ctPerMs)

theorem exec_zeroCross (s : State) (ha : active s = true) (hr : isAnchor s = true) (ht : s.ph.tbase ≠ .holdover) :
    exec .zeroCross s = if phMode s.cfg != 4 || zeroEarly s then .next (zeroStamped s)
      else .next (zeroKept (zeroStamped s) (s.ph.zcAt.map (s.now - ·))) := by
  have hcfg : (zeroStamped s).cfg = s.cfg := (zeroStamped_only s).same .cfg (by decide)
  have htbase : ((zeroStamped s).ph.tbase == .holdover) = false := by
    rw [zeroStamped_ph]
    simpa using ht
  show execZeroCross s = _
  unfold execZeroCross
  dsimp only
  rw [if_neg (by simp [ha, hr]), show stampEdge { s with ph.a := false } true s.ph.b = zeroStamped s from rfl, hcfg]
  refine if_congr Iff.rfl rfl ?_
  rw [if_neg (by simp [htbase])]
  cases s.ph.zcAt <;> rfl

/-- A zero-cross that is kept takes this moment and sets the position; of the stamps it changes none. -/
theorem zeroKept_ph (u : State) (since : Option Nat) : (zeroKept u since).ph.zcAt = some u.now ∧
    (zeroKept u since).ph.pos = u.cfg.phZofs.toNat % phCycle u ∧ (zeroKept u since).ph.stampA = u.ph.stampA := by
  have hpos (v : State) : (settleZc (setPos v u.cfg.phZofs.toNat)).ph.zcAt = v.ph.zcAt ∧
      (settleZc (setPos v u.cfg.phZofs.toNat)).ph.pos = u.cfg.phZofs.toNat % phCycle v ∧
      (settleZc (setPos v u.cfg.phZofs.toNat)).ph.stampA = v.ph.stampA := by
    rw [settleZc_ph, setPos_ph]
    exact ⟨rfl, rfl, rfl⟩
  cases since with
  | none => exact hpos (zeroTaken u)
  | some p =>
    unfold zeroKept
    dsimp only
    split
    · rw [phaseJump_ph]
      exact ⟨rfl, rfl, rfl⟩
    · exact hpos _

theorem zeroCross_kept (s : State) (ha : active s = true) (hr : isAnchor s = true) (hm : phMode s.cfg = 4)
    (ht : s.ph.tbase ≠ .holdover) (hz : ∀ z, s.ph.zcAt = some z → 5 * ctPerMs ≤ s.now - z) : Does .zeroCross s fun t =>
      t.ph.zcAt = some s.now ∧ t.ph.pos = s.cfg.phZofs.toNat % phCycle s ∧ t.ph.stampA = s.tim.cnt ∧
        (s.ph.zcAt = none → t.ph.tbase = (if s.ph.tbase = .settling then (if s.ph.settle + 1 ≥ 2 then .tracking else .settling)
          else s.ph.tbase)) := by
  let u := zeroStamped s
  have hu := zeroStamped_only s
  have hcfg : u.cfg = s.cfg := hu.same .cfg (by decide)
  have hnow : u.now = s.now := hu.same .now (by decide)
  have hlate : zeroEarly s = false := by
    cases h : s.ph.zcAt with
    | none => simp [zeroEarly, h]
    | some z => simpa [zeroEarly, h] using hz z h
  obtain ⟨hzc, hpos, hstamp⟩ := zeroKept_ph u (s.ph.zcAt.map (s.now - ·))
  refine ⟨_, (exec_zeroCross s ha hr ht).trans (if_neg (by simp [hm, hlate])), ?_, ?_, ?_, fun hn => ?_⟩
  · rw [hzc, hnow]
  · rw [hpos, hcfg, phCycle_congr hcfg]
  · rw [hstamp, zeroStamped_ph]
  · rw [hn]
    show (settleZc (setPos (zeroTaken u) _)).ph.tbase = _
    rw [settleZc_ph, setPos_ph]
    show (if u.ph.tbase = .settling then (if u.ph.settle + 1 ≥ 2 then .tracking else .settling) else u.ph.tbase) = _
    rw [show u.ph = _ from zeroStamped_ph s]

theorem zeroCross_early (s : State) (z : Nat) (ha : active s = true) (hr : isAnchor s = true) (hz : s.ph.zcAt = some z)
    (he : s.now - z < 5 * ctPerMs) : Does .zeroCross s fun t => t = stampEdge { s with ph := { s.ph with a := false } } true s.ph.b := by
  refine ⟨zeroStamped s, ?_, rfl⟩
  show execZeroCross s = _
  unfold execZeroCross
  dsimp only
  rw [if_neg (by simp [ha, hr]), if_pos (by simp [hz, he])]
  rfl

/-! ## Stalls -/

theorem phaseStall_holds (s : State) (ha : active s = true) (hr : isAnchor s = true) (hm : phMode s.cfg ≠ 0)
    (ht : s.ph.tbase = .tracking ∨ s.ph.tbase = .settling) : Does .phaseStall s fun t =>
      t.ph = { s.ph with tbase := .holdover, acc := 0 } ∧ (∀ k ∈ t.sch.ticks, k.late = true) ∧ t.tim = s.tim ∧ t.mem = s.mem := by
  let u : State := { cancelTicks s 4 with ph.tbase := .holdover, ph.acc := 0 }
  have hexec : exec .phaseStall s = .next (phaseRecord u 1) := if_pos (by obtain h | h := ht <;> simp [ha, hr, hm, h])
  have hframe : Only (.ph :: .sch :: .core :: journalParts) s (phaseRecord u 1) :=
    ((cancelTicks_only s 4).mono (by decide)).trans ((only_ph (by decide) _ u.ph).trans ((phaseRecord_only u 1).mono (by decide)))
  refine ⟨_, hexec, phaseRecord_ph u 1, ?_, hframe.same .tim (by decide), hframe.same .mem (by decide)⟩
  rw [phaseRecord_sch]
  exact cancelTicks_late s 4

/-- Settles O16: each command by what it leaves of the tracker (`moveEdge`, `quadError`, `setPos`, `phaseJump`), behind its stamps. -/
theorem phaseTracker : Obligations.PhaseTracker := by
  refine ⟨⟨fun s a b => ?stamps, stampFall_eq, encoderEdge_counts, encoderEdge_both, encoderEdge_uncounted, encoderEdge_idle⟩,
    indexEdge_sets, indexEdge_stamps, indexEdge_idle, zeroCross_kept, zeroCross_early, phaseStall_holds⟩
  case stamps =>
    rw [stampEdge_ph]
    exact ⟨rfl, rfl, rfl, rfl, stampEdge_only s a b⟩

end Sys2Proof.Machine

/-! PROOFS. The scheduler and its strobes (05 R158 to R164, R170 to R172; 06 R173). -/

namespace Sys2Proof.Machine

/-! ## A pass and its lead -/

theorem notePass_only (s : State) (n : Fin 16) : Only [.sch] s (notePass s n) := only_sch (by decide) ..

theorem notePass_passed (s : State) (n : Fin 16) : (notePass s n).sch.passed.getLsbD n.val = true := by
  simp [notePass]

theorem skipPoint_only (s : State) (n : Fin 16) : Only [.ph, .sch] s (skipPoint s n) :=
  (only_ph (by decide) s { s.ph with skips := satInc s.ph.skips }).trans ((notePass_only ..).mono (by decide))

/-- The effective lead is the configured one or what the delivery of ticks needs, whichever is more (05 R163). -/
theorem lead125_bounds (s : State) : (leadRaised s = true ↔ s.cfg.phLead.toNat * 24576 < lead125 s) ∧
    s.cfg.phLead.toNat * 24576 ≤ lead125 s ∧ (s.sch.tdel ≠ 0 → s.sch.tdel.toNat * 125 + 20 * 24576 ≤ lead125 s) := by
  refine ⟨decide_eq_true_iff, Nat.le_max_left .., fun h => ?_⟩
  rw [lead125, if_neg h]
  exact Nat.le_max_right ..

/-! ## Blanking for a tick (06 R198; 08 R268) -/

theorem owEnd_bal (s : State) : (owEnd s).bal = s.bal := (owEnd_only s).same .bal (by decide)

/-- An announced tick opens every switch and ends a switch test. -/
theorem blankForTick_bal (s : State) : (blankForTick s).bal.closed = 0 ∧ (blankForTick s).bal.testRun = 0 := by
  refine ⟨?_, dropTest_testRun _⟩
  unfold blankForTick
  dsimp only
  rw [dropTest_closed]
  split
  · exact openSwitches_closed s
  · rw [owEnd_bal]
    exact openSwitches_closed s

/-! ## The evaluation of a point -/

/-- The point may be evaluated: on an anchor without conflict, enabled, in the present direction, and undecided in this pass. -/
def evaluates (s : State) (n : Fin 16) : Bool :=
  active s && isAnchor s && !s.tq.conflict && bitOf s.cfg.phPoint[n] 31 && dirOk s s.cfg.phPoint[n] && !s.sch.passed.getLsbD n.val

/-- The instant fixed for a point: a tick at the end of the queue, numbered next (05 R159, R160). -/
def fixed (s : State) (n : Fin 16) (mp : Nat) : State :=
  { s with
    sch.ticks := s.sch.ticks ++ [{ tseq := s.sch.tseq, instant := BitVec.ofNat 32 mp, point := BitVec.ofNat 4 n.val,
                                   hold := s.ph.tbase == .holdover, sent := false, late := false }],
    sch.tseq := s.sch.tseq + 1, sch.cmask := s.sch.cmask <<< 1, sch.lastFix := some mp,
    sch.log := (s.sch.tseq, s.now + (mp * 24 - s.tim.cnt)) :: s.sch.log.take 65535 }

theorem fixed_only (s : State) (n : Fin 16) (mp : Nat) : Only [.sch] s (fixed s n mp) := only_sch (by decide) ..

/-- What a fixed instant leaves: its tick, the pass decided, every switch open. -/
theorem instantFixed (s : State) (n : Fin 16) (mp : Nat) :
    let t := irqRaise (blankForTick (notePass (fixed s n mp) n)) 36
    t.sch.ticks = s.sch.ticks ++ [{ tseq := s.sch.tseq, instant := BitVec.ofNat 32 mp, point := BitVec.ofNat 4 n.val,
                                    hold := s.ph.tbase == .holdover, sent := false, late := false }] ∧
      t.sch.tseq = s.sch.tseq + 1 ∧ t.sch.lastFix = some mp ∧ t.sch.passed.getLsbD n.val = true ∧ t.bal.closed = 0 ∧
      t.bal.testRun = 0 ∧ Only [.sch, .acq, .bal, .core] s t := by
  intro t
  have hblank := blankForTick_only (notePass (fixed s n mp) n)
  have hsch : (blankForTick (notePass (fixed s n mp) n)).sch = (notePass (fixed s n mp) n).sch := hblank.same .sch (by decide)
  obtain ⟨hclosed, htest⟩ := blankForTick_bal (notePass (fixed s n mp) n)
  refine ⟨?_, ?_, ?_, ?_, hclosed, htest, ?_⟩
  · rw [irqRaise_sch, hsch]; rfl
  · rw [irqRaise_sch, hsch]; rfl
  · rw [irqRaise_sch, hsch]; rfl
  · rw [irqRaise_sch, hsch]; exact notePass_passed _ n
  · exact ((fixed_only s n mp).mono (by decide)).trans (((notePass_only _ n).mono (by decide)).trans
      ((hblank.mono (by decide)).trans ((irqRaise_only _ 36).mono (by decide))))

/-- What the scheduler does with a point by its prediction, if it has one (05 R159 to R161). -/
def pointTaken (s : State) (n : Fin 16) : Option (Nat × Nat) → State
  | none => s
  | some (num, den) =>
    if num * 125 > (lead125 s + 25 * 24576) * den then s
    else if tooNear s (instantMp s num den) || !leadHolds s ((instantMp s num den : Int) * 24 - s.tim.cnt) then skipPoint s n
    else irqRaise (blankForTick (notePass (fixed s n (instantMp s num den)) n)) 36

theorem next_pointTaken (s : State) (n : Fin 16) (num den : Nat) : Host.Outcome.next (pointTaken s n (some (num, den))) =
    (if num * 125 > (lead125 s + 25 * 24576) * den then .next s
      else if tooNear s (instantMp s num den) || !leadHolds s ((instantMp s num den : Int) * 24 - s.tim.cnt) then
        .next (skipPoint s n)
      else .next (irqRaise (blankForTick (notePass (fixed s n (instantMp s num den)) n)) 36) : Host.Outcome State Fault Refusal) :=
  (apply_ite _ _ _ _).trans (if_congr Iff.rfl rfl (apply_ite _ _ _ _))

theorem exec_instantFix (s : State) (n : Fin 16) : exec (.instantFix n) s =
    if !evaluates s n then .next s
    else if s.ph.tbase == .settling then
      .next (if pointReached s (fld s.cfg.phPoint[n] 23 0) then skipPoint s n else s)
    else .next (pointTaken s n (predictAt s (fld s.cfg.phPoint[n] 23 0))) := by
  show execInstantFix n s = _
  unfold execInstantFix
  simp only [evaluates, Bool.not_and, Bool.not_not]
  cases predictAt s (fld s.cfg.phPoint[n] 23 0) with
  | none => rfl
  | some q => exact if_congr Iff.rfl rfl (if_congr Iff.rfl rfl (next_pointTaken s n q.1 q.2).symm)

/-- As `exec_instantFix` of a point that is evaluated outside SETTLING, within the lead and 25 µs. -/
theorem exec_instantFix_near (s : State) (n : Fin 16) (num den : Nat) (he : evaluates s n = true) (ht : s.ph.tbase ≠ .settling)
    (hp : predictAt s (fld s.cfg.phPoint[n] 23 0) = some (num, den)) (hn : num * 125 ≤ (lead125 s + 25 * 24576) * den) :
    exec (.instantFix n) s =
      if tooNear s (instantMp s num den) || !leadHolds s ((instantMp s num den : Int) * 24 - s.tim.cnt) then .next (skipPoint s n)
      else .next (irqRaise (blankForTick (notePass (fixed s n (instantMp s num den)) n)) 36) := by
  rw [exec_instantFix, if_neg (by simp [he]), if_neg (by simpa using ht), hp, next_pointTaken]
  exact if_neg (Nat.not_lt.mpr hn)

theorem tooNear_iff (s : State) (mp : Nat) : tooNear s mp = true ↔ ∃ l, s.sch.lastFix = some l ∧ mp < l + 256 := by
  unfold tooNear
  cases s.sch.lastFix <;> simp

section
variable (s : State) (n : Fin 16) (ha : active s = true) (hr : isAnchor s = true) (hc : s.tq.conflict = false)
  (he : bitOf s.cfg.phPoint[n] 31 = true) (hd : dirOk s s.cfg.phPoint[n] = true) (hp : s.sch.passed.getLsbD n.val = false)
include ha hr hc he hd hp

theorem evaluates_of : evaluates s n = true := by simp only [evaluates, ha, hr, hc, he, hd, hp]; rfl

theorem instantFix_fixes (num den : Nat) (ht : s.ph.tbase ≠ .settling)
    (hpr : predictAt s (fld s.cfg.phPoint[n] 23 0) = some (num, den)) (hn : num * 125 ≤ (lead125 s + 25 * 24576) * den) :
    let mp := instantMp s num den
    leadHolds s ((mp : Int) * 24 - s.tim.cnt) = true →
    (∀ l, s.sch.lastFix = some l → l + 256 ≤ mp) → Does (.instantFix n) s fun t =>
      t.sch.ticks = s.sch.ticks ++ [{ tseq := s.sch.tseq, instant := BitVec.ofNat 32 mp, point := BitVec.ofNat 4 n.val,
                                      hold := s.ph.tbase == .holdover, sent := false, late := false }] ∧
        t.sch.tseq = s.sch.tseq + 1 ∧ t.sch.lastFix = some mp ∧ t.sch.passed.getLsbD n.val = true ∧ t.bal.closed = 0 ∧
        t.bal.testRun = 0 ∧ Only [.sch, .acq, .bal, .core] s t := by
  intro mp hlead hfar
  have hnear : tooNear s mp = false := by
    rw [Bool.eq_false_iff, Ne, tooNear_iff]
    rintro ⟨l, hl, hlt⟩
    exact absurd (hfar l hl) (Nat.not_le.mpr hlt)
  have hexec := (exec_instantFix_near s n num den (evaluates_of s n ha hr hc he hd hp) ht hpr hn).trans
    (if_neg (by simp [mp, hnear, hlead]))
  exact ⟨_, hexec, instantFixed s n mp⟩

theorem instantFix_settling (ht : s.ph.tbase = .settling) : Does (.instantFix n) s fun t =>
    t = (if pointReached s (fld s.cfg.phPoint[n] 23 0) then skipPoint s n else s) := by
  refine ⟨_, ?_, rfl⟩
  rw [exec_instantFix, if_neg (by simp [evaluates_of s n ha hr hc he hd hp]), if_pos (by simp [ht])]

theorem instantFix_skips (num den : Nat) (ht : s.ph.tbase ≠ .settling)
    (hpr : predictAt s (fld s.cfg.phPoint[n] 23 0) = some (num, den)) (hn : num * 125 ≤ (lead125 s + 25 * 24576) * den)
    (h : (∃ l, s.sch.lastFix = some l ∧ instantMp s num den < l + 256) ∨
      leadHolds s ((instantMp s num den : Int) * 24 - s.tim.cnt) = false) :
    Does (.instantFix n) s fun t => t = skipPoint s n := by
  refine ⟨_, (exec_instantFix_near s n num den (evaluates_of s n ha hr hc he hd hp) ht hpr hn).trans (if_pos ?_), rfl⟩
  obtain h | h := h
  · simp [(tooNear_iff ..).mpr h]
  · simp [h]

end

theorem instantFix_far (s : State) (n : Fin 16) (num den : Nat)
    (hp : predictAt s (fld s.cfg.phPoint[n] 23 0) = some (num, den)) (hn : (lead125 s + 25 * 24576) * den < num * 125)
    (ht : s.ph.tbase ≠ .settling) : Idle (.instantFix n) s := by
  rw [Idle, exec_instantFix]
  split
  · rfl
  · rw [if_neg (by simpa using ht), hp, next_pointTaken]
    exact if_pos hn

theorem instantFix_idle (s : State) (n : Fin 16) (h : isAnchor s = false ∨ bitOf s.cfg.phPoint[n] 31 = false ∨
    dirOk s s.cfg.phPoint[n] = false ∨ s.sch.passed.getLsbD n.val = true) : Idle (.instantFix n) s := by
  have he : evaluates s n = false := by
    unfold evaluates
    obtain h | h | h | h := h <;> rw [h] <;> simp
  rw [Idle, exec_instantFix, if_pos (by simp [he])]

/-! ## Strobes -/

/-- The tick has left the queue, and on the anchor the phase of its strobe stands in the report (05 R164). -/
def strobeTaken (s : State) (n : BitVec 16) (k : Tick) : State :=
  { s with sch := { s.sch with
      ticks := s.sch.ticks.filter fun u => u.tseq != n
      report := if isAnchor s then some { tseq := n, point := k.point, rev := s.ph.rev, pos := s.ph.pos, count := s.ph.count,
                                          epoch := s.ph.epoch }
        else s.sch.report } }

theorem exec_strobeFire (s : State) (n : BitVec 16) (k : Tick) (ha : active s = true)
    (hk : (s.sch.ticks.find? fun t => t.tseq == n) = some k) (hc : ctAhead s k.instant ≤ 0) :
    exec (.strobeFire n) s = .next (irqRaise (openSpan (strobeTaken s n k) 0 n k.point (k.hold || !alignedNow s) k.late k.instant) 21) := by
  show execStrobeFire n s = _
  unfold execStrobeFire
  rw [if_neg (by simp [ha]), hk]
  dsimp only
  rw [if_neg (Int.not_lt.mpr hc)]
  unfold strobeTaken
  by_cases hr : isAnchor s = true
  · have hr' : isAnchor { s with sch.ticks := s.sch.ticks.filter fun u => u.tseq != n } = true := hr
    rw [if_pos hr', if_pos hr]
    rfl
  · have hr' : ¬ isAnchor { s with sch.ticks := s.sch.ticks.filter fun u => u.tseq != n } = true := hr
    rw [if_neg hr', if_neg hr]
    rfl

/-- Which switches a span meets is told by balancing and the clock alone. -/
theorem balAtStrobe_congr {s t : State} (hb : t.bal = s.bal) (hn : t.now = s.now) : balAtStrobe t = balAtStrobe s := by
  unfold balAtStrobe
  rw [hb, hn]

theorem strobeFire_strobes (s : State) (n : BitVec 16) (k : Tick) (ha : active s = true)
    (hk : (s.sch.ticks.find? fun t => t.tseq == n) = some k) (hc : ctAhead s k.instant ≤ 0) : Does (.strobeFire n) s fun t =>
      t.sch.ticks = s.sch.ticks.filter (fun u => u.tseq != n) ∧
        (∃ sp, t.acq.spans = s.acq.spans ++ [sp] ∧ sp.source = 0 ∧ sp.seq = n ∧ sp.point = k.point ∧ sp.instant = k.instant ∧
          sp.unsched = k.late ∧ sp.start = s.now ∧ sp.hold = (k.hold || !alignedNow s) ∧ sp.bal = balAtStrobe s) ∧
        t.bal.closed = 0 ∧ t.bal.testRun = 0 ∧
        (isAnchor s = true → t.sch.report = some { tseq := n, point := k.point, rev := s.ph.rev, pos := s.ph.pos,
                                                   count := s.ph.count, epoch := s.ph.epoch }) ∧
        (isAnchor s = false → t.sch.report = s.sch.report) ∧ Only [.sch, .acq, .bal, .core] s t := by
  let u := strobeTaken s n k
  have htaken : Only [.sch] s u := only_sch (by decide) ..
  have hspan : Only [.acq, .bal] u (openSpan u 0 n k.point (k.hold || !alignedNow s) k.late k.instant) := openSpan_only ..
  have hsch : (openSpan u 0 n k.point (k.hold || !alignedNow s) k.late k.instant).sch = u.sch := hspan.same .sch (by decide)
  have hacq := openSpan_acq u 0 n k.point (k.hold || !alignedNow s) k.late k.instant
  have hbal : (takeWin u).bal = s.bal := (takeWin_only u).same .bal (by decide)
  have hnow : (takeWin u).now = s.now := (takeWin_only u).same .now (by decide)
  obtain ⟨hclosed, htest⟩ := openSpan_bal u 0 n k.point (k.hold || !alignedNow s) k.late k.instant
  refine ⟨_, exec_strobeFire s n k ha hk hc, ?_, ?_, ?_, ?_, fun hr => ?_, fun hr => ?_, ?_⟩
  · rw [irqRaise_sch, hsch]; rfl
  · rw [irqRaise_acq, hacq]
    exact ⟨_, rfl, rfl, rfl, rfl, rfl, rfl, hnow, rfl, balAtStrobe_congr hbal hnow⟩
  · rw [irqRaise_bal, hclosed]
  · rw [irqRaise_bal, htest]
  · rw [irqRaise_sch, hsch]
    exact if_pos hr
  · rw [irqRaise_sch, hsch]
    exact if_neg (by simp [hr])
  · exact (htaken.mono (by decide)).trans ((hspan.mono (by decide)).trans ((irqRaise_only _ 21).mono (by decide)))

theorem strobeFire_early (s : State) (n : BitVec 16) (k : Tick) (hk : (s.sch.ticks.find? fun t => t.tseq == n) = some k)
    (hc : 0 < ctAhead s k.instant) : Idle (.strobeFire n) s := by
  show execStrobeFire n s = _
  unfold execStrobeFire
  split
  · rfl
  · rw [hk]
    exact if_pos hc

theorem strobeFire_unknown (s : State) (n : BitVec 16) (hk : (s.sch.ticks.find? fun t => t.tseq == n) = none) :
    Idle (.strobeFire n) s := by
  show execStrobeFire n s = _
  unfold execStrobeFire
  split
  · rfl
  · rw [hk]

/-- Settles O17: the evaluation of a point by its cases (far, too near or too late, fixed, in SETTLING), the strobe by `openSpan`. -/
theorem schedulerFixesAndStrobes : Obligations.SchedulerFixesAndStrobes := by
  refine ⟨⟨?fixes, instantFix_settling, ?skips, fun s n => ⟨rfl, notePass_passed _ n, rfl, skipPoint_only s n⟩, instantFix_far,
    instantFix_idle, lead125_bounds⟩, strobeFire_strobes, strobeFire_early, strobeFire_unknown⟩
  case fixes => exact fun s n num den ha hr hc he hd hp => instantFix_fixes s n ha hr hc he hd hp num den
  case skips => exact fun s n num den ha hr hc he hd hp => instantFix_skips s n ha hr hc he hd hp num den

end Sys2Proof.Machine

/-! PROOFS. Results kept, held and released; acquisitions on request (05 R169; 06 R178 to R199; 14 R528; 20 R791). -/

namespace Sys2Proof.Machine

theorem only_en {l : List Part} (h : .en ∈ l) (s : State) (x : EnUnit) : Only l s { s with en := x } :=
  Only.of fun p => by
    cases p
    case en => exact .inl h
    all_goals exact .inr rfl

/-! ## A release ends a budget interval and an applet's wait -/

theorem endInterval_of_running (s : State) (h : s.apl.state = .running) :
    (endInterval s).apl.ivAt = s.now ∧ (endInterval s).apl.charge = 0 := by
  rw [endInterval, if_pos h]
  exact ⟨rfl, rfl⟩

theorem endInterval_of_idle (s : State) (h : s.apl.state ≠ .running) : endInterval s = s := if_neg h

theorem endInterval_suspended (s : State) : (endInterval s).apl.suspended = s.apl.suspended := by
  unfold endInterval
  split <;> rfl

/-- Without an applet that waits, a release only ends the budget interval. -/
theorem svcReleased_of_awake (s : State) (h : s.apl.suspended = false) : svcReleased s = endInterval s :=
  if_neg (by simp [endInterval_suspended, h])

theorem svcReleased_wakes (s : State) (h : s.apl.suspended = true) :
    (svcReleased s).apl.suspended = false ∧ (svcReleased s).core.g[1] = 0 := by
  have hs : (endInterval s).apl.suspended = true := by rw [endInterval_suspended, h]
  unfold svcReleased
  dsimp only
  rw [if_pos hs]
  exact ⟨rfl, by simp⟩

/-- The running applet's interval ends with a release, whether it waits or not (20 R791). -/
theorem svcReleased_interval (s : State) (h : s.apl.state = .running) :
    (svcReleased s).apl.ivAt = s.now ∧ (svcReleased s).apl.charge = 0 := by
  unfold svcReleased
  dsimp only
  split <;> exact endInterval_of_running s h

/-- With no applet waiting a release leaves the core, and with none running the applet. -/
theorem svcReleased_leaves (s : State) (h : s.apl.suspended = false) :
    (svcReleased s).core = s.core ∧ (s.apl.state ≠ .running → (svcReleased s).apl = s.apl) := by
  rw [svcReleased_of_awake s h]
  refine ⟨(endInterval_only s).same .core (by decide), fun hr => ?_⟩
  rw [endInterval_of_idle s hr]

/-! ## Held results -/

/-- The results held whose instant lies before a time frame are released, the others stay (05 R169). -/
theorem releaseHeld_acq (s : State) (x : Nat) : (releaseHeld s x).acq =
    { s.acq with held := s.acq.held.filter (fun k => !ctAfter x k.instant),
                 rel := s.acq.rel ++ s.acq.held.filter (fun k => ctAfter x k.instant) } := by
  have h : (svcReleased s).acq = s.acq := (svcReleased_only s).same .acq (by decide)
  unfold releaseHeld
  dsimp only
  split
  · rw [h]
  · rfl

/-- With no applet waiting a release of results leaves the core, and with none running the applet. -/
theorem releaseHeld_leaves (s : State) (x : Nat) (h : s.apl.suspended = false) :
    (releaseHeld s x).core = s.core ∧ (s.apl.state ≠ .running → (releaseHeld s x).apl = s.apl) := by
  unfold releaseHeld
  dsimp only
  split
  · exact svcReleased_leaves s h
  · exact ⟨rfl, fun _ => rfl⟩

theorem holdResult_only (s : State) (k : Snapshot) : Only [.sch, .acq, .apl, .core] s (holdResult s k) := by
  have h : Only [.sch, .acq, .apl, .core] s { s with acq.held := s.acq.held ++ [k] } := only_acq (by decide) ..
  unfold holdResult
  dsimp only
  split
  · exact h.trans (releaseHeld_only ..)
  · exact h

/-- A result that no time frame has followed waits. -/
theorem holdResult_waits (s : State) (k : Snapshot) (h : s.sch.ttx = none) :
    holdResult s k = { s with acq.held := s.acq.held ++ [k] } := by
  simp [holdResult, h]

theorem holdResult_releases (s : State) (k : Snapshot) (x : Nat) (h : s.sch.ttx = some x) :
    holdResult s k = releaseHeld { s with acq.held := s.acq.held ++ [k] } x := by
  simp [holdResult, h]

theorem holdResult_leaves (s : State) (k : Snapshot) (h : s.apl.suspended = false) :
    (holdResult s k).core = s.core ∧ (s.apl.state ≠ .running → (holdResult s k).apl = s.apl) := by
  cases hx : s.sch.ttx with
  | none =>
    rw [holdResult_waits s k hx]
    exact ⟨rfl, fun _ => rfl⟩
  | some x =>
    rw [holdResult_releases s k x hx]
    exact releaseHeld_leaves { s with acq.held := s.acq.held ++ [k] } x h

/-- Holding a result touches the held and the released ones alone. -/
theorem holdResult_acq (s : State) (k : Snapshot) :
    (holdResult s k).acq = { s.acq with held := (holdResult s k).acq.held, rel := (holdResult s k).acq.rel } := by
  cases hx : s.sch.ttx with
  | none => rw [holdResult_waits s k hx]
  | some x => rw [holdResult_releases s k x hx, releaseHeld_acq]

/-! ## The oldest span's result -/

/-- The result of a span, with its words. -/
def snapOf (s : State) (sp : Span) (r : List Reading) : Snapshot :=
  { seq := sp.seq, point := sp.point, source := sp.source, win := sp.win, hold := sp.hold, unsched := sp.unsched,
    instant := sp.instant, words := (List.finRange 19).map (chanWord s sp r), start := sp.start }

/-- The result is kept, newest first (06 R178, R179). -/
def resultKept (s : State) (sp : Span) (rest : List Span) (r : List Reading) : State :=
  { s with acq.spans := rest, acq.last := Vector.ofFn (chanResult s sp r), acq.kept := (snapOf s sp r :: s.acq.kept).take 8,
           acq.good := noteGood s.acq.good (popOf s.cfg) (snapOf s sp r).words sp.start exclMask,
           acq.usable := noteGood s.acq.usable (popOf s.cfg) (snapOf s sp r).words sp.start (exclMask + 32) }

/-- A scheduled result is held, another released at once. -/
def resultPassed (u : State) (k : Snapshot) : State := if k.source = 0 then holdResult u k else svcReleased u

/-- The result of a start-up acquisition completes it (04 R102). -/
def startNoted (u : State) (k : Snapshot) : State :=
  if k.source = 2 then
    { u with acq.startRun := false, acq.startDone := some k.words, acq.startOw := false, acq.owBoot := false }
  else u

/-- The anchor keeps its own report of the result (16 R617). -/
def resultReported (u : State) (k : Snapshot) : State := if isAnchor u then putReport u (ownReport u k.words k.start) else u

theorem exec_resultReady (s : State) (r : List Reading) (sp : Span) (rest : List Span) (ha : active s = true)
    (hs : s.acq.spans = sp :: rest) : exec (.resultReady r) s =
      .next (reclose (resultReported (startNoted (resultPassed (resultKept s sp rest r) (snapOf s sp r)) (snapOf s sp r))
        (snapOf s sp r))) := by
  show execResultReady r s = _
  unfold execResultReady
  rw [if_neg (by simp [ha]), hs]
  rfl

theorem resultPassed_only (u : State) (k : Snapshot) : Only [.sch, .acq, .apl, .core] u (resultPassed u k) := by
  unfold resultPassed
  split
  · exact holdResult_only u k
  · exact (svcReleased_only u).mono (by decide)

theorem resultPassed_acq (u : State) (k : Snapshot) : (resultPassed u k).acq =
    { u.acq with held := (resultPassed u k).acq.held, rel := (resultPassed u k).acq.rel } := by
  unfold resultPassed
  split
  · exact holdResult_acq u k
  · have h : (svcReleased u).acq = u.acq := (svcReleased_only u).same .acq (by decide)
    rw [h]

theorem resultPassed_leaves (u : State) (k : Snapshot) (h : u.apl.suspended = false) :
    (resultPassed u k).core = u.core ∧ (u.apl.state ≠ .running → (resultPassed u k).apl = u.apl) := by
  unfold resultPassed
  split
  · exact holdResult_leaves u k h
  · exact svcReleased_leaves u h

theorem startNoted_only (u : State) (k : Snapshot) : Only [.acq] u (startNoted u k) := by
  unfold startNoted
  split
  · exact only_acq (by decide) ..
  · exact Only.refl ..

theorem startNoted_acq (u : State) (k : Snapshot) : (startNoted u k).acq =
    { u.acq with startRun := (startNoted u k).acq.startRun, startDone := (startNoted u k).acq.startDone,
                 startOw := (startNoted u k).acq.startOw, owBoot := (startNoted u k).acq.owBoot } := by
  unfold startNoted
  split <;> rfl

theorem noteTop_only (s : State) (a : BitVec 7) : Only [.en] s (noteTop s a) := by
  unfold noteTop
  split
  · exact only_en (by decide) ..
  · exact Only.refl ..

theorem putReport_only (s : State) (r : Report) : Only [.en] s (putReport s r) := by
  unfold putReport
  split
  · exact Only.refl ..
  · exact (only_en (by decide) ..).trans (noteTop_only ..)

theorem resultReported_only (u : State) (k : Snapshot) : Only [.en] u (resultReported u k) := by
  unfold resultReported
  split
  · exact putReport_only ..
  · exact Only.refl ..

/-- What follows the release: the completion of a start-up acquisition, the report, and switches that close again. -/
theorem resultEnded_only (u : State) (k : Snapshot) : Only [.acq, .en, .bal] u (reclose (resultReported (startNoted u k) k)) :=
  ((startNoted_only u k).mono (by decide)).trans (((resultReported_only _ k).mono (by decide)).trans
    ((reclose_only _).mono (by decide)))

theorem resultEnded_acq (u : State) (k : Snapshot) :
    (reclose (resultReported (startNoted u k) k)).acq = (startNoted u k).acq :=
  (((resultReported_only _ k).mono (by decide)).trans ((reclose_only _).mono (by decide)) :
    Only [.en, .bal] (startNoted u k) _).same .acq (by decide)

/-- What the result of the oldest span leaves. -/
def resultDone (s : State) (sp : Span) (rest : List Span) (r : List Reading) : State :=
  reclose (resultReported (startNoted (resultPassed (resultKept s sp rest r) (snapOf s sp r)) (snapOf s sp r)) (snapOf s sp r))

section
variable (s : State) (sp : Span) (rest : List Span) (r : List Reading)

theorem resultKept_only : Only [.acq] s (resultKept s sp rest r) := only_acq (by decide) ..

theorem resultDone_only : Only [.acq, .bal, .en, .apl, .core, .sch] s (resultDone s sp rest r) :=
  ((resultKept_only ..).mono (by decide)).trans (((resultPassed_only ..).mono (by decide)).trans
    ((resultEnded_only ..).mono (by decide)))

/-- The result is kept; what is held and released is what its passing on leaves. -/
theorem resultDone_acq : 
    let u := resultPassed (resultKept s sp rest r) (snapOf s sp r)
    (resultDone s sp rest r).acq.spans = rest ∧ (resultDone s sp rest r).acq.kept = (snapOf s sp r :: s.acq.kept).take 8 ∧
      (resultDone s sp rest r).acq.held = u.acq.held ∧ (resultDone s sp rest r).acq.rel = u.acq.rel := by
  intro u
  have h : (resultDone s sp rest r).acq = (startNoted u (snapOf s sp r)).acq := resultEnded_acq u _
  rw [h, startNoted_acq, show u.acq = _ from resultPassed_acq ..]
  exact ⟨rfl, rfl, rfl, rfl⟩

/-- A start-up acquisition is complete. -/
theorem resultDone_startup (h : sp.source = 2) :
    (resultDone s sp rest r).acq.startRun = false ∧ (resultDone s sp rest r).acq.startDone = some (snapOf s sp r).words := by
  have hacq : (resultDone s sp rest r).acq = _ := resultEnded_acq (resultPassed (resultKept s sp rest r) (snapOf s sp r)) _
  have hsource : (snapOf s sp r).source = 2 := h
  rw [hacq, startNoted, if_pos hsource]
  exact ⟨rfl, rfl⟩

/-- Applet and core are what the passing on of the result leaves them. -/
theorem resultDone_apl : (resultDone s sp rest r).apl = (resultPassed (resultKept s sp rest r) (snapOf s sp r)).apl :=
  (resultEnded_only ..).same .apl (by decide)

theorem resultDone_core : (resultDone s sp rest r).core = (resultPassed (resultKept s sp rest r) (snapOf s sp r)).core :=
  (resultEnded_only ..).same .core (by decide)

/-- A device that is not the anchor keeps no report. -/
theorem resultDone_en (h : isAnchor s = false) : (resultDone s sp rest r).en = s.en := by
  let v := startNoted (resultPassed (resultKept s sp rest r) (snapOf s sp r)) (snapOf s sp r)
  have hv : Only [.acq, .sch, .apl, .core] s v := ((resultKept_only ..).mono (by decide)).trans
    (((resultPassed_only ..).mono (by decide)).trans ((startNoted_only ..).mono (by decide)))
  have hcfg : v.cfg = s.cfg := hv.same .cfg (by decide)
  have hen : v.en = s.en := hv.same .en (by decide)
  have hrole : isAnchor v = false := by rw [isAnchor, hcfg]; exact h
  have hreport : resultReported v (snapOf s sp r) = v := if_neg (by simp [hrole])
  have hclose : (reclose v).en = v.en := (reclose_only v).same .en (by decide)
  rw [resultDone, hreport, hclose, hen]

/-- A result that was not scheduled is released at once (06 R178). -/
theorem resultPassed_unscheduled (h : sp.source ≠ 0) :
    resultPassed (resultKept s sp rest r) (snapOf s sp r) = svcReleased (resultKept s sp rest r) := if_neg h

theorem resultPassed_scheduled (h : sp.source = 0) :
    resultPassed (resultKept s sp rest r) (snapOf s sp r) = holdResult (resultKept s sp rest r) (snapOf s sp r) := if_pos h

theorem resultReady_keeps (ha : active s = true) (hs : s.acq.spans = sp :: rest) :
    Does (.resultReady r) s fun t =>
      let k := snapOf s sp r
      t.acq.spans = rest ∧ t.acq.kept = (k :: s.acq.kept).take 8 ∧
        (sp.source ≠ 0 → t.acq.held = s.acq.held ∧ t.acq.rel = s.acq.rel ∧
          (s.apl.state = .running → t.apl.ivAt = s.now ∧ t.apl.charge = 0)) ∧
        (sp.source = 0 → s.sch.ttx = none → t.acq.held = s.acq.held ++ [k] ∧ t.acq.rel = s.acq.rel ∧ t.apl = s.apl) ∧
        (∀ x, sp.source = 0 → s.sch.ttx = some x →
          t.acq.held = (s.acq.held ++ [k]).filter (fun q => !ctAfter x q.instant) ∧
            t.acq.rel = s.acq.rel ++ (s.acq.held ++ [k]).filter (fun q => ctAfter x q.instant)) ∧
        (sp.source = 2 → t.acq.startRun = false ∧ t.acq.startDone = some k.words) ∧
        (isAnchor s = false → t.en = s.en) ∧
        (s.apl.suspended = false → t.core = s.core ∧ (s.apl.state ≠ .running → t.apl = s.apl)) ∧
        Only [.acq, .bal, .en, .apl, .core, .sch] s t := by
  let u := resultKept s sp rest r
  let k := snapOf s sp r
  obtain ⟨hspans, hkept, hheld, hrel⟩ := resultDone_acq s sp rest r
  refine ⟨_, exec_resultReady s r sp rest ha hs, hspans, hkept, fun h0 => ?_, fun h0 hx => ?_, fun x h0 hx => ?_,
    resultDone_startup s sp rest r, resultDone_en s sp rest r, fun hsus => ?_, resultDone_only s sp rest r⟩
  · have hpass := resultPassed_unscheduled s sp rest r h0
    have hacq : (svcReleased u).acq = u.acq := (svcReleased_only u).same .acq (by decide)
    refine ⟨hheld.trans ?_, hrel.trans ?_, fun hrun => ?_⟩
    · rw [hpass, hacq]; rfl
    · rw [hpass, hacq]; rfl
    · have hapl := resultDone_apl s sp rest r
      rw [hpass] at hapl
      exact hapl ▸ svcReleased_interval u hrun
  · have hpass := (resultPassed_scheduled s sp rest r h0).trans (holdResult_waits u k hx)
    have hapl := resultDone_apl s sp rest r
    rw [hpass] at hheld hrel hapl
    exact ⟨hheld, hrel, hapl⟩
  · have hpass := (resultPassed_scheduled s sp rest r h0).trans (holdResult_releases u k x hx)
    rw [hpass, releaseHeld_acq] at hheld hrel
    exact ⟨hheld, hrel⟩
  · obtain ⟨hcore, hapl⟩ := resultPassed_leaves u k hsus
    exact ⟨(resultDone_core s sp rest r).trans hcore, fun hrun => (resultDone_apl s sp rest r).trans (hapl hrun)⟩

end

/-- The word of a channel that is off tells nothing but that (06 R195). -/
theorem chanWord_of_off (s : State) (sp : Span) (r : List Reading) (k : Fin 19) (h : chanOff s.cfg k = true) :
    chanWord s sp r k = 0x80000000#32 := if_pos h

theorem resultReady_idle (s : State) (r : List Reading) (h : s.acq.spans = []) : Idle (.resultReady r) s := by
  show execResultReady r s = _
  unfold execResultReady
  split
  · rfl
  · rw [h]

/-! ## Release without a frame -/

/-- The oldest held result leaves, marked `UNSCHEDULED`. -/
def heldTimedOut (s : State) (k : Snapshot) (q : List Snapshot) : State :=
  { s with acq.held := q, acq.rel := s.acq.rel ++ [{ k with unsched := true }], acq.kept := markKept s.acq.kept k.seq }

theorem exec_resultReleaseTimeout (s : State) (k : Snapshot) (q : List Snapshot) (ha : active s = true)
    (hk : s.acq.held = k :: q) : exec .resultReleaseTimeout s = .next (svcReleased (heldTimedOut s k q)) := by
  show execResultReleaseTimeout s = _
  unfold execResultReleaseTimeout
  rw [if_neg (by simp [ha]), hk]
  rfl

theorem resultReleaseTimeout_releases (s : State) (k : Snapshot) (q : List Snapshot) (ha : active s = true)
    (hsus : s.apl.suspended = false) (hk : s.acq.held = k :: q) : Does .resultReleaseTimeout s fun t =>
    t.acq.held = q ∧ t.acq.rel = s.acq.rel ++ [{ k with unsched := true }] ∧
      (s.apl.state = .running → t.apl.ivAt = s.now ∧ t.apl.charge = 0) ∧ Only [.acq, .apl] s t := by
  let u := heldTimedOut s k q
  have hrelease : svcReleased u = endInterval u := svcReleased_of_awake u hsus
  have hacq : (endInterval u).acq = u.acq := (endInterval_only u).same .acq (by decide)
  refine ⟨_, (exec_resultReleaseTimeout s k q ha hk).trans (congrArg _ hrelease), ?_, ?_, endInterval_of_running u, ?_⟩
  · rw [hacq]; rfl
  · rw [hacq]; rfl
  · exact (only_acq (by decide) s u.acq).trans ((endInterval_only u).mono (by decide))

theorem resultReleaseTimeout_wakes (s : State) (k : Snapshot) (q : List Snapshot) (ha : active s = true)
    (hsus : s.apl.suspended = true) (hk : s.acq.held = k :: q) : Does .resultReleaseTimeout s fun t =>
    t.apl.suspended = false ∧ t.core.g[1] = 0 ∧ t.acq.held = q := by
  let u := heldTimedOut s k q
  have hacq : (svcReleased u).acq = u.acq := (svcReleased_only u).same .acq (by decide)
  obtain ⟨hawake, hg1⟩ := svcReleased_wakes u hsus
  refine ⟨_, exec_resultReleaseTimeout s k q ha hk, hawake, hg1, ?_⟩
  rw [hacq]
  rfl

/-! ## Acquisitions on request -/

theorem exec_onrequestAcquisition (s : State) (n : BitVec 16) (ha : active s = true) (hq : quietOk s = true)
    (hr : s.acq.req = some n) : exec .onrequestAcquisition s =
      .next (openSpan { s with acq.req := none } 1 n 0 (!alignedNow s) false (chainMp s)) := by
  show execOnrequestAcquisition s = _
  unfold execOnrequestAcquisition
  rw [if_neg (by simp [ha, hq]), hr]

theorem onrequestAcquisition_strobes (s : State) (n : BitVec 16) (ha : active s = true) (hq : quietOk s = true)
    (hr : s.acq.req = some n) : Does .onrequestAcquisition s fun t =>
    t.acq.req = none ∧ t.bal.closed = 0 ∧ t.bal.testRun = 0 ∧
      (∃ sp, t.acq.spans = s.acq.spans ++ [sp] ∧ sp.source = 1 ∧ sp.seq = n ∧ sp.start = s.now ∧ sp.instant = chainMp s) ∧
      Only [.acq, .bal] s t := by
  let u : State := { s with acq.req := none }
  obtain ⟨hclosed, htest⟩ := openSpan_bal u 1 n 0 (!alignedNow s) false (chainMp s)
  have hacq := openSpan_acq u 1 n 0 (!alignedNow s) false (chainMp s)
  have hnow : (takeWin u).now = s.now := (takeWin_only u).same .now (by decide)
  refine ⟨_, exec_onrequestAcquisition s n ha hq hr, ?_, hclosed, htest, ?_, ?_⟩
  · rw [hacq]
  · rw [hacq]
    exact ⟨_, rfl, rfl, rfl, hnow, rfl⟩
  · exact (only_acq (by decide) s u.acq).trans (openSpan_only ..)

theorem onrequestAcquisition_idle (s : State) (h : s.acq.req = none ∨ quietOk s = false) : Idle .onrequestAcquisition s := by
  show execOnrequestAcquisition s = _
  unfold execOnrequestAcquisition
  split
  · rfl
  case isFalse hrun =>
    obtain hr | hq := h
    · rw [hr]
    · simp [hq] at hrun

/-- Settles O19: the result is kept (`resultKept`), passed on (`holdResult` or `svcReleased`) and noted; release by timeout and the
strobe on request each by its own lemma. -/
theorem resultsKeptReleasedAndRequested : Obligations.ResultsKeptReleasedAndRequested :=
  ⟨⟨fun s r sp rest => resultReady_keeps s sp rest r, chanWord_of_off, resultReady_idle⟩, resultReleaseTimeout_releases,
    resultReleaseTimeout_wakes, onrequestAcquisition_strobes, onrequestAcquisition_idle⟩

end Sys2Proof.Machine

/-! PROOFS. The anchor's time frames: beats, tick frames and cancellations (05 R141, R160, R167; 11 R407 to R424). -/

namespace Sys2Proof.Machine

/-! ## States with the same lines -/

theorem Same.symm {p : Part} {s t : State} (a : Same p s t) : Same p t s := by
  cases p <;> exact Eq.symm a

theorem Only.symm {l : List Part} {s t : State} (a : Only l s t) : Only l t s := ⟨fun p h => (a.same p h).symm⟩

/-- Two states whose ports, their supply, the configuration and the address are the same: what decides whether a line is free. -/
def SameLines (s t : State) : Prop := Only [.freeCtr, .tim, .sch, .acq, .apl, .core, .chn] s t ∧ t.chn.addr = s.chn.addr

theorem SameLines.trans {s t u : State} (a : SameLines s t) (b : SameLines t u) : SameLines s u := ⟨a.1.trans b.1, b.2.trans a.2⟩

theorem SameLines.symm {s t : State} (a : SameLines s t) : SameLines t s := ⟨a.1.symm, a.2.symm⟩

theorem SameLines.portOf {s t : State} (h : SameLines s t) (p : Port) : portOf t p = portOf s p := by
  cases p
  · exact h.1.same .sp (by decide)
  · exact h.1.same .np (by decide)

theorem portBusy_congr {s t : State} (h : SameLines s t) (p : Port) : portBusy t p = portBusy s p := by
  obtain ⟨ho, haddr⟩ := h
  have hnow : t.now = s.now := ho.same .now (by decide)
  have hrst : t.rst = s.rst := ho.same .rst (by decide)
  have hpw : t.pw = s.pw := ho.same .pw (by decide)
  have hsup : t.sup = s.sup := ho.same .sup (by decide)
  have hcfg : t.cfg = s.cfg := ho.same .cfg (by decide)
  have hport := SameLines.portOf ⟨ho, haddr⟩ p
  have hlive : portLive t p = portLive s p := by
    simp only [portLive, active, running, awake, portEnabled, hrst, hpw, hsup, hcfg, hport]
  simp only [portBusy, sendLive, lineFree, transmitting, pairQuiet, hlive, haddr, hnow, hport]

theorem setPort_sameLines {s t : State} (h : SameLines s t) (p : Port) (u : PortUnit) :
    SameLines (setPort s p u) (setPort t p u) := by
  obtain ⟨ho, haddr⟩ := h
  cases p
  · refine ⟨⟨fun q hq => ?_⟩, haddr⟩
    cases q
    case sp => rfl
    all_goals exact ho.same _ hq
  · refine ⟨⟨fun q hq => ?_⟩, haddr⟩
    cases q
    case np => rfl
    all_goals exact ho.same _ hq

/-! ## Written generations taken -/

theorem latchGen_of_none (s : State) (p : Port) (h : (portOf s p).genDue = none) : latchGen s p = s := by
  simp [latchGen, h]

/-- The unit of a port once its written generation has been taken (10 R338). -/
def latchedPort (s : State) (p : Port) : PortUnit :=
  match (portOf s p).genDue with
  | none => portOf s p
  | some n => if replyGone s n then { portOf s p with gen := genField s.cfg p, genDue := none } else portOf s p

theorem setPort_portOf (s : State) (p : Port) : setPort s p (portOf s p) = s := by cases p <;> rfl

/-- A change of generation changes its port, and perhaps alignment and what the calibration holds (11 R403). -/
theorem setPortGen_effect (s : State) (p : Port) (u : PortUnit) : ∃ tim da val,
    setPortGen s p u = { setPort s p u with tim := tim, chn := { s.chn with daNew := da, calValid := val } } := by
  unfold setPortGen
  dsimp only
  split
  · exact ⟨s.tim, s.chn.daNew, s.chn.calValid, by cases p <;> rfl⟩
  · split
    · exact ⟨_, none, false, by cases p <;> rfl⟩
    · exact ⟨s.tim, none, s.chn.calValid, by cases p <;> rfl⟩

theorem latchGen_effect (s : State) (p : Port) : ∃ tim da val,
    latchGen s p = { setPort s p (latchedPort s p) with tim := tim, chn := { s.chn with daNew := da, calValid := val } } := by
  have hsame : ∃ tim da val, s = { setPort s p (portOf s p) with tim := tim, chn := { s.chn with daNew := da, calValid := val } } :=
    ⟨s.tim, s.chn.daNew, s.chn.calValid, by rw [setPort_portOf]⟩
  cases hd : (portOf s p).genDue with
  | none => simpa only [latchGen, latchedPort, hd] using hsame
  | some n =>
    by_cases hg : replyGone s n = true
    · simpa only [latchGen, latchedPort, hd, if_pos hg] using setPortGen_effect s p _
    · simpa only [latchGen, latchedPort, hd, if_neg hg] using hsame

theorem latchGen_sameLines_setPort (s : State) (p : Port) : SameLines (setPort s p (latchedPort s p)) (latchGen s p) := by
  obtain ⟨tim, da, val, h⟩ := latchGen_effect s p
  rw [h]
  refine ⟨(only_tim (by decide) _ tim).trans (only_chn (by decide) ..), ?_⟩
  cases p <;> rfl

theorem replyGone_congr {s t : State} (h : SameLines s t) (n : Byte) : replyGone t n = replyGone s n := by
  have hnow : t.now = s.now := h.1.same .now (by decide)
  have hsp : t.sp = s.sp := h.1.same .sp (by decide)
  have hnp : t.np = s.np := h.1.same .np (by decide)
  unfold replyGone frameGone
  rw [hsp, hnp, hnow]

theorem latchGen_sameLines {s t : State} (h : SameLines s t) (p : Port) : SameLines (latchGen s p) (latchGen t p) := by
  have hcfg : t.cfg = s.cfg := h.1.same .cfg (by decide)
  have hport : latchedPort t p = latchedPort s p := by
    simp only [latchedPort, replyGone_congr h, h.portOf p, hcfg]
  have hset := setPort_sameLines h p (latchedPort s p)
  exact (latchGen_sameLines_setPort s p).symm.trans (hset.trans (hport ▸ latchGen_sameLines_setPort t p))

/-- Taking a generation leaves the numbering of frames, the announced window and its count. -/
theorem latchGen_chn (s : State) (p : Port) : (latchGen s p).chn =
    { s.chn with daNew := (latchGen s p).chn.daNew, calValid := (latchGen s p).chn.calValid } := by
  obtain ⟨tim, da, val, h⟩ := latchGen_effect s p
  rw [h]

/-- Both ports have taken their written generations. -/
def latched (s : State) : State := latchGen (latchGen s .south) .north

/-- Both lines are free for a time frame once the written generations are in force. -/
def PairFree (s : State) : Prop := portBusy (latched s) .south = false ∧ portBusy (latched s) .north = false

theorem pairFree_congr {s t : State} (h : SameLines s t) (hs : PairFree s) : PairFree t := by
  have hl : SameLines (latched s) (latched t) := latchGen_sameLines (latchGen_sameLines h .south) .north
  exact ⟨(portBusy_congr hl .south).trans hs.1, (portBusy_congr hl .north).trans hs.2⟩

theorem latched_only (s : State) : Only [.tim, .chn, .sp, .np] s (latched s) := (latchGen_only ..).trans (latchGen_only ..)

theorem latched_of_none (s : State) (hs : s.sp.genDue = none) (hn : s.np.genDue = none) : latched s = s := by
  rw [latched, latchGen_of_none s .south hs, latchGen_of_none s .north hn]

theorem latched_chn (s : State) : (latched s).chn =
    { s.chn with daNew := (latched s).chn.daNew, calValid := (latched s).chn.calValid } := by
  rw [latched, latchGen_chn, latchGen_chn s .south]

/-! ## A time frame leaves (11 R407) -/

/-- Putting a frame on a line touches its port, and of the chain's state the timer of 09 R312. -/
theorem startTime_chn (s : State) (p : Port) (f : Frame) (lead : Nat) : (startTime s p f lead).chn =
    { s.chn with fltTimer := (startTime s p f lead).chn.fltTimer } := by
  have hset (u : PortUnit) : (setPort s p u).chn = s.chn := (setPort_only s p u).same .chn (by decide)
  have hput (g : Frame) : (putOnLine s p g .valid lead).chn =
      { s.chn with fltTimer := (putOnLine s p g .valid lead).chn.fltTimer } := by
    unfold putOnLine
    dsimp only
    split
    · simp only [hset]
    · rw [hset]
  unfold startTime
  split
  · exact hput _
  · rfl

theorem freeInterval_only (s : State) (lead : Nat) (m : BitVec 2) (c o l : Nat) :
    Only [.freeCtr] s (freeInterval s lead m c o l).2.2 := by
  unfold freeInterval
  dsimp only
  split
  · exact Only.refl ..
  · exact (takeFree_only s).trans (takeFree_only _)

theorem ownWindow_only (s : State) (f : Frame) (lead : Nat) : Only [.chn] s (ownWindow s f lead) := by
  unfold ownWindow
  dsimp only
  split
  · exact Only.refl ..
  · exact only_chn (by decide) ..

/-- A frame without a window announces none. -/
theorem ownWindow_none (s : State) (f : Frame) (lead : Nat) (h : (windowFields f).1 = 0) : ownWindow s f lead = s := if_pos h

/-- A frame's window is announced from now on. -/
theorem ownWindow_some (s : State) (f : Frame) (lead : Nat) (m k : BitVec 2) (c o l : Nat)
    (hf : windowFields f = (m, k, c, o, l)) (hm : m ≠ 0) : (ownWindow s f lead).chn.winAt = some s.now ∧
      ∃ w, (ownWindow s f lead).chn.win = some w ∧ w.kind = k ∧ w.count = BitVec.ofNat 8 c ∧ w.done = false := by
  unfold ownWindow
  rw [hf]
  dsimp only
  rw [if_neg hm]
  exact ⟨rfl, _, rfl, rfl, rfl, rfl⟩

theorem ownWindow_chn (s : State) (f : Frame) (lead : Nat) : (ownWindow s f lead).chn =
    { s.chn with win := (ownWindow s f lead).chn.win, winAt := (ownWindow s f lead).chn.winAt,
                 winFwd := (ownWindow s f lead).chn.winFwd } := by
  unfold ownWindow
  dsimp only
  split <;> rfl

/-- A release of results notes the frame that made it. -/
theorem releaseHeld_sch (s : State) (x : Nat) : (releaseHeld s x).sch = { s.sch with ttx := some x } := by
  have h : (svcReleased s).sch = s.sch := (svcReleased_only s).same .sch (by decide)
  unfold releaseHeld
  dsimp only
  split
  · rw [h]
  · rfl

/-- The free interval stands in bytes 20 to 23 of the payload. -/
def withFree (f : Frame) (fofs flen : Nat) : Frame :=
  { f with payload := f.payload.take 20 ++ leBytes 2 fofs ++ leBytes 2 flen ++ f.payload.drop 24 }

/-- The copies of a time frame have started on both ports. -/
def pairStarted (s : State) (f : Frame) (lead : Nat) : State := startTime (startTime s .south f lead) .north f lead

theorem pairStarted_only (s : State) (f : Frame) (lead : Nat) : Only [.chn, .sp, .np] s (pairStarted s f lead) :=
  (startTime_only ..).trans (startTime_only ..)

theorem pairStarted_chn (s : State) (f : Frame) (lead : Nat) :
    (pairStarted s f lead).chn = { s.chn with fltTimer := (pairStarted s f lead).chn.fltTimer } := by
  rw [pairStarted, startTime_chn, startTime_chn s]

theorem setFree_only (s : State) (b o l : Nat) : Only [.chn] s (setFree s b o l) := only_chn (by decide) ..

/-- The copies have started, and the window that they announce stands. -/
def pairBegun (s : State) (f : Frame) (lead : Nat) : State := ownWindow (pairStarted s f lead) f lead

theorem pairBegun_only (s : State) (f : Frame) (lead : Nat) : Only [.chn, .sp, .np] s (pairBegun s f lead) :=
  (pairStarted_only ..).trans ((ownWindow_only ..).mono (by decide))

theorem pairBegun_chn (s : State) (f : Frame) (lead : Nat) : (pairBegun s f lead).chn =
    { s.chn with fltTimer := (pairBegun s f lead).chn.fltTimer, win := (pairBegun s f lead).chn.win,
                 winAt := (pairBegun s f lead).chn.winAt, winFwd := (pairBegun s f lead).chn.winFwd } := by
  rw [pairBegun, ownWindow_chn, pairStarted_chn]

/-- The moment of the frame, the last opportunity before it, and its free interval are noted. -/
def pairNoted (v : State) (past from_ to_ : Nat) : State :=
  { v with sch.frameAt := v.now, chn.oppAt := past, chn.freeFrom := from_, chn.freeTo := to_ }

theorem pairNoted_only (v : State) (a b c : Nat) : Only [.sch, .chn] v (pairNoted v a b c) :=
  (only_sch (by decide) v { v.sch with frameAt := v.now }).trans (only_chn (by decide) ..)

/-- A pair of copies starts in these steps: the free interval is drawn, the copies start, their window is announced, the results before
them are released, and the interval counts from their first symbol. -/
theorem startPair_steps (s : State) (f : Frame) : ∃ fofs flen x past from_ to_ u, Only [.freeCtr] s u ∧
    startPair s f = pairNoted (releaseHeld (pairBegun u (withFree f fofs flen) (leadNs s)) x) past from_ to_ :=
  ⟨_, _, _, _, _, _, _, freeInterval_only .., rfl⟩

/-- A time frame's payload tells its window, whatever free interval it announces (11 Table 11-6). -/
theorem tickPayload_window (s : State) (t : Option Tick) (m k : BitVec 2) (c o l a b : Nat) (f : Frame)
    (hf : f.payload = tickPayload s t m k c o l) :
    ∃ o' l', windowFields (withFree f a b) = (m, k, c % 256, o', l') := by
  obtain ⟨n, hn, hbyte⟩ : ∃ n, n < 16 ∧ byteAt (withFree f a b).payload 12 = (BitVec.ofNat 8 (n + 16 * m.toNat + 64 * k.toNat)).toNat := by
    unfold withFree
    dsimp only
    rw [hf]
    exact ⟨_, BitVec.isLt _, rfl⟩
  have hcount : byteAt (withFree f a b).payload 13 = (BitVec.ofNat 8 c).toNat := by
    unfold withFree
    dsimp only
    rw [hf]
    rfl
  have hm : m.toNat < 4 := m.isLt
  have hk : k.toNat < 4 := k.isLt
  rw [BitVec.toNat_ofNat, Nat.mod_eq_of_lt (by omega)] at hbyte
  rw [BitVec.toNat_ofNat] at hcount
  have hmode : BitVec.ofNat 2 ((n + 16 * m.toNat + 64 * k.toNat) / 16) = m := by
    refine BitVec.eq_of_toNat_eq ((BitVec.toNat_ofNat ..).trans ?_)
    show (n + 16 * m.toNat + 64 * k.toNat) / 16 % 4 = _
    omega
  have hkind : BitVec.ofNat 2 ((n + 16 * m.toNat + 64 * k.toNat) / 64) = k := by
    refine BitVec.eq_of_toNat_eq ((BitVec.toNat_ofNat ..).trans ?_)
    show (n + 16 * m.toNat + 64 * k.toNat) / 64 % 4 = _
    omega
  exact ⟨leAt (withFree f a b).payload 16 2, leAt (withFree f a b).payload 18 2, by
    rw [windowFields, hbyte, hcount, hmode, hkind]⟩

/-- The parts that a started pair of copies may touch. -/
theorem startPair_only (s : State) (f : Frame) : Only [.freeCtr, .sch, .acq, .apl, .core, .chn, .sp, .np] s (startPair s f) := by
  obtain ⟨fofs, flen, x, past, from_, to_, u, hu, h⟩ := startPair_steps s f
  rw [h]
  exact (hu.mono (by decide)).trans (((pairBegun_only ..).mono (by decide)).trans (((releaseHeld_only ..).mono (by decide)).trans
    ((pairNoted_only ..).mono (by decide))))

/-- Of the schedule a pair of copies notes its moment and the release of results. -/
theorem startPair_sch (s : State) (f : Frame) :
    (startPair s f).sch = { s.sch with ttx := (startPair s f).sch.ttx, frameAt := s.now } := by
  obtain ⟨fofs, flen, x, past, from_, to_, u, hu, h⟩ := startPair_steps s f
  rw [h]
  generalize hv : pairBegun u (withFree f fofs flen) (leadNs s) = v
  have hframe : Only [.freeCtr, .chn, .sp, .np] s v := hv ▸ (hu.mono (by decide)).trans ((pairBegun_only ..).mono (by decide))
  have hsch : v.sch = s.sch := hframe.same .sch (by decide)
  have hnow : v.now = s.now := hframe.same .now (by decide)
  have hkept : (releaseHeld v x).now = v.now := (releaseHeld_only v x).same .now (by decide)
  simp only [pairNoted, releaseHeld_sch, hsch, hkept, hnow]

/-- The numbers of frames and the count of ticks since the last window stay; the window is the frame's. -/
theorem startPair_chn (s : State) (f : Frame) :
    (startPair s f).chn.lseq = s.chn.lseq ∧ (startPair s f).chn.ticksSince = s.chn.ticksSince ∧
      ∃ a b u, Only [.freeCtr] s u ∧ (startPair s f).chn.win = (pairBegun u (withFree f a b) (leadNs s)).chn.win ∧
        (startPair s f).chn.winAt = (pairBegun u (withFree f a b) (leadNs s)).chn.winAt := by
  obtain ⟨fofs, flen, x, past, from_, to_, u, hu, h⟩ := startPair_steps s f
  rw [h]
  have hchn : u.chn = s.chn := hu.same .chn (by decide)
  have hbegun := pairBegun_chn u (withFree f fofs flen) (leadNs s)
  have hkept : (releaseHeld (pairBegun u (withFree f fofs flen) (leadNs s)) x).chn =
      (pairBegun u (withFree f fofs flen) (leadNs s)).chn := (releaseHeld_only ..).same .chn (by decide)
  refine ⟨?_, ?_, fofs, flen, u, hu, ?_, ?_⟩
  · simp only [pairNoted, hkept]
    rw [hbegun, hchn]
  · simp only [pairNoted, hkept]
    rw [hbegun, hchn]
  · simp only [pairNoted, hkept]
  · simp only [pairNoted, hkept]

/-- Where the line is free or busy, a frame that is to be sent: its number taken and the written generations in force (11 R427). -/
def numbered (s : State) (type : BitVec 4) (payload : List Byte) : State := latched (originate s type 0 payload).1

theorem originate_sameLines (s : State) (ty : BitVec 4) (d : BitVec 7) (b : List Byte) : SameLines s (originate s ty d b).1 :=
  ⟨(originate_only ..).mono (by decide), rfl⟩

theorem numbered_only (s : State) (ty : BitVec 4) (b : List Byte) : Only [.tim, .chn, .sp, .np] s (numbered s ty b) :=
  ((originate_only s ty 0 b).mono (by decide)).trans (latched_only _)

theorem numbered_chn (s : State) (ty : BitVec 4) (b : List Byte) :
    (numbered s ty b).chn.lseq = s.chn.lseq + 1 ∧ (numbered s ty b).chn.ticksSince = s.chn.ticksSince ∧
      (numbered s ty b).chn.win = s.chn.win := by
  rw [numbered, latched_chn]
  exact ⟨rfl, rfl, rfl⟩

theorem numbered_tim (s : State) (ty : BitVec 4) (b : List Byte) (hs : s.sp.genDue = none) (hn : s.np.genDue = none) :
    (numbered s ty b).tim = s.tim := by
  have h : latched (originate s ty 0 b).1 = (originate s ty 0 b).1 := latched_of_none _ hs hn
  rw [numbered, h]
  rfl

/-- The copies wait together, or start together (11 R407). -/
theorem sendPair_eq (s : State) (ty : BitVec 4) (b : List Byte) : sendPair s ty b =
    if portBusy (numbered s ty b) .south || portBusy (numbered s ty b) .north then
      waitTx (waitTx (numbered s ty b) .south (originate s ty 0 b).2) .north (originate s ty 0 b).2
    else startPair (numbered s ty b) (originate s ty 0 b).2 := rfl

theorem sendPair_free (s : State) (ty : BitVec 4) (b : List Byte) (h : PairFree s) :
    sendPair s ty b = startPair (numbered s ty b) (originate s ty 0 b).2 := by
  obtain ⟨hs, hn⟩ : PairFree (originate s ty 0 b).1 := pairFree_congr (originate_sameLines s ty 0 b) h
  exact (sendPair_eq s ty b).trans (if_neg (by simp only [numbered, hs, hn]; decide))

/-- Frames that wait touch the ports alone. -/
theorem waitBoth_only (s : State) (f g : Frame) : Only [.sp, .np] s (waitTx (waitTx s .south f) .north g) :=
  (waitTx_only ..).trans (waitTx_only ..)

theorem sendPair_only (s : State) (ty : BitVec 4) (b : List Byte) :
    Only [.freeCtr, .tim, .sch, .acq, .apl, .core, .chn, .sp, .np] s (sendPair s ty b) := by
  have h := (numbered_only s ty b).mono (m := [.freeCtr, .tim, .sch, .acq, .apl, .core, .chn, .sp, .np]) (by decide)
  rw [sendPair_eq]
  split
  · exact h.trans ((waitBoth_only ..).mono (by decide))
  · exact h.trans ((startPair_only ..).mono (by decide))

/-- Whether the copies start or wait, they have a number, and ticks and the count since the last window stay. -/
theorem sendPair_leaves (s : State) (ty : BitVec 4) (b : List Byte) :
    (sendPair s ty b).sch.ticks = s.sch.ticks ∧ (sendPair s ty b).chn.lseq = s.chn.lseq + 1 ∧
      (sendPair s ty b).chn.ticksSince = s.chn.ticksSince ∧
      (s.sp.genDue = none → s.np.genDue = none → (sendPair s ty b).tim = s.tim) := by
  have hsch : (numbered s ty b).sch = s.sch := (numbered_only s ty b).same .sch (by decide)
  obtain ⟨hlseq, hsince, -⟩ := numbered_chn s ty b
  have htim := numbered_tim s ty b
  rw [sendPair_eq]
  generalize hu : numbered s ty b = u at *
  generalize (originate s ty 0 b).2 = f
  split
  · have hwait := waitBoth_only u f f
    have wsch : (waitTx (waitTx u .south f) .north f).sch = u.sch := hwait.same .sch (by decide)
    have wchn : (waitTx (waitTx u .south f) .north f).chn = u.chn := hwait.same .chn (by decide)
    have wtim : (waitTx (waitTx u .south f) .north f).tim = u.tim := hwait.same .tim (by decide)
    rw [wsch, wchn, wtim, hsch]
    exact ⟨rfl, hlseq, hsince, htim⟩
  · have ptim : (startPair u f).tim = u.tim := (startPair_only u f).same .tim (by decide)
    obtain ⟨plseq, psince, -⟩ := startPair_chn u f
    rw [startPair_sch, plseq, psince, ptim, hsch]
    exact ⟨rfl, hlseq, hsince, htim⟩

/-- With both lines free the frame leaves now. -/
theorem sendPair_frameAt (s : State) (ty : BitVec 4) (b : List Byte) (h : PairFree s) : (sendPair s ty b).sch.frameAt = s.now := by
  have hnow : (numbered s ty b).now = s.now := (numbered_only s ty b).same .now (by decide)
  rw [sendPair_free s ty b h, startPair_sch, hnow]

theorem sendTime_eq (s : State) (t : Option Tick) (m k : BitVec 2) (c o l : Nat) : sendTime s t m k c o l =
    let u := sendPair s (if t.isSome then 5 else 6) (tickPayload s t m k c o l)
    { u with sch.report := none } := rfl

/-- What a tick frame or beat leaves: its number is taken, the report has gone with it, and the ticks stay. -/
theorem sendTime_leaves (s : State) (t : Option Tick) (m k : BitVec 2) (c o l : Nat) :
    let u := sendTime s t m k c o l
    u.sch.report = none ∧ u.sch.ticks = s.sch.ticks ∧ u.chn.lseq = s.chn.lseq + 1 ∧ u.chn.ticksSince = s.chn.ticksSince ∧
      (PairFree s → u.sch.frameAt = s.now) ∧ (s.sp.genDue = none → s.np.genDue = none → u.tim = s.tim) ∧
      Only [.freeCtr, .tim, .sch, .acq, .apl, .core, .chn, .sp, .np] s u := by
  obtain ⟨hticks, hlseq, hsince, htim⟩ := sendPair_leaves s (if t.isSome then 5 else 6) (tickPayload s t m k c o l)
  have hframe := sendPair_only s (if t.isSome then 5 else 6) (tickPayload s t m k c o l)
  exact ⟨rfl, hticks, hlseq, hsince, sendPair_frameAt s _ _, htim, hframe.trans (only_sch (by decide) ..)⟩

/-- A frame without a window leaves the one announced last. -/
theorem sendTime_noWindow (s : State) (t : Option Tick) (k : BitVec 2) (c o l : Nat) :
    (sendTime s t 0 k c o l).chn.win = s.chn.win := by
  generalize hty : (if t.isSome then 5 else 6 : BitVec 4) = ty
  generalize hb : tickPayload s t 0 k c o l = b
  obtain ⟨-, -, hwin⟩ := numbered_chn s ty b
  have hpair : (sendPair s ty b).chn.win = s.chn.win := by
    rw [sendPair_eq]
    split
    · have hchn : _ = (numbered s ty b).chn := (waitBoth_only (numbered s ty b) (originate s ty 0 b).2 (originate s ty 0 b).2).same
        .chn (by decide)
      rw [hchn, hwin]
    · obtain ⟨-, -, x, y, u, hu, hbegun, -⟩ := startPair_chn (numbered s ty b) (originate s ty 0 b).2
      obtain ⟨o', l', hfields⟩ := tickPayload_window s t 0 k c o l x y (originate s ty 0 b).2 hb.symm
      have huchn : u.chn = (numbered s ty b).chn := hu.same .chn (by decide)
      rw [hbegun, pairBegun, ownWindow_none _ _ _ (by rw [hfields]), pairStarted_chn, huchn]
      exact hwin
  rw [sendTime_eq, hty, hb]
  exact hpair

/-- A frame with a window announces it, where both lines are free. -/
theorem sendTime_window (s : State) (t : Option Tick) (m k : BitVec 2) (c o l : Nat) (hm : m ≠ 0) (h : PairFree s) :
    (sendTime s t m k c o l).chn.winAt = some s.now ∧
      ∃ w, (sendTime s t m k c o l).chn.win = some w ∧ w.kind = k ∧ w.count = BitVec.ofNat 8 c ∧ w.done = false := by
  rw [sendTime_eq]
  generalize hty : (if t.isSome then 5 else 6 : BitVec 4) = ty
  generalize hb : tickPayload s t m k c o l = b
  dsimp only
  rw [sendPair_free s ty b h]
  obtain ⟨-, -, x, y, u, hu, hwin, hwinAt⟩ := startPair_chn (numbered s ty b) (originate s ty 0 b).2
  obtain ⟨o', l', hfields⟩ := tickPayload_window s t m k c o l x y (originate s ty 0 b).2 hb.symm
  have hnow : (pairStarted u (withFree (originate s ty 0 b).2 x y) (leadNs (numbered s ty b))).now = s.now :=
    (((numbered_only s ty b).mono (by decide)).trans ((hu.mono (by decide)).trans ((pairStarted_only ..).mono (by decide))) :
      Only [.tim, .chn, .sp, .np, .freeCtr] s _).same .now (by decide)
  have hcount : BitVec.ofNat 8 (c % 256) = BitVec.ofNat 8 c := by
    refine BitVec.eq_of_toNat_eq ?_
    simp
  rw [hwin, hwinAt, pairBegun]
  obtain ⟨hat, w, hw, hkind, hwcount, hdone⟩ := ownWindow_some
    (pairStarted u (withFree (originate s ty 0 b).2 x y) (leadNs (numbered s ty b))) (withFree (originate s ty 0 b).2 x y)
    (leadNs (numbered s ty b)) m k (c % 256) o' l' hfields hm
  exact ⟨hat.trans (congrArg some hnow), w, hw, hkind, hwcount.trans hcount, hdone⟩

/-! ## The frame of a tick -/

/-- The tick is marked as sent, and the settings of streaming that apply to it are in force (14 R541). -/
def tickMarked (s : State) (t : Tick) : State := takeSettings { s with sch.ticks := markSent s.sch.ticks t.tseq } t

/-- A window may be announced with this tick, and is due (11 R424). -/
def windowDue (u : State) : Prop := u.chn.m ≠ 0 ∧ u.chn.ticksSince + 1 ≥ u.chn.m.toNat ∧ windowFree u = true

/-- The ticks since the last window, counted. -/
def sinceSet (u : State) (n : Nat) : State := { u with chn.ticksSince := n }

theorem sendTick_due (s : State) (t : Tick) (h : windowDue (tickMarked s t)) : sendTick s t =
    let u := tickMarked s t
    sendTime (sinceSet u 0) (some t) (if chainEl1 u then 2 else 1) u.chn.kind u.chn.top.toNat (wofsNow u)
      (windowSlot u u.chn.kind) := if_pos h

theorem sendTick_undue (s : State) (t : Tick) (h : ¬ windowDue (tickMarked s t)) : sendTick s t =
    sendTime (sinceSet (tickMarked s t) ((tickMarked s t).chn.ticksSince + 1)) (some t) 0 0 0 0 0 := if_neg h

/-- The settings change how often and what is streamed; no line, no number and no window. -/
theorem takeSettings_chn (s : State) (t : Tick) : Only [.chn] s (takeSettings s t) ∧ (takeSettings s t).chn =
    { s.chn with m := (takeSettings s t).chn.m, kind := (takeSettings s t).chn.kind, wofs := (takeSettings s t).chn.wofs,
                 ticksSince := (takeSettings s t).chn.ticksSince, setq := (takeSettings s t).chn.setq } := by
  unfold takeSettings
  split
  · exact ⟨Only.refl .., rfl⟩
  · exact ⟨only_chn (by decide) .., rfl⟩

theorem takeSettings_of_nil (s : State) (t : Tick) (h : s.chn.setq = []) : takeSettings s t = s := by simp [takeSettings, h]

theorem tickMarked_only (s : State) (t : Tick) : Only [.sch, .chn] s (tickMarked s t) :=
  (only_sch (by decide) s { s.sch with ticks := markSent s.sch.ticks t.tseq }).trans
    ((takeSettings_chn { s with sch.ticks := markSent s.sch.ticks t.tseq } t).1.mono (by decide))

theorem tickMarked_of_nil (s : State) (t : Tick) (h : s.chn.setq = []) :
    tickMarked s t = { s with sch.ticks := markSent s.sch.ticks t.tseq } :=
  takeSettings_of_nil { s with sch.ticks := markSent s.sch.ticks t.tseq } t h

/-- What is sent for a tick: its frame, with a window or without one, from the state in which the tick is marked. -/
theorem sendTick_eq (s : State) (t : Tick) : ∃ n m k c o l, sendTick s t = sendTime (sinceSet (tickMarked s t) n) (some t) m k c o l := by
  by_cases h : windowDue (tickMarked s t)
  · exact ⟨_, _, _, _, _, _, sendTick_due s t h⟩
  · exact ⟨_, _, _, _, _, _, sendTick_undue s t h⟩

/-- Marking the tick leaves the address, the numbers of frames and the announced window. -/
theorem tickMarked_chn (s : State) (t : Tick) : (tickMarked s t).chn.addr = s.chn.addr ∧ (tickMarked s t).chn.lseq = s.chn.lseq ∧
    (tickMarked s t).chn.win = s.chn.win := by
  obtain ⟨-, h⟩ := takeSettings_chn { s with sch.ticks := markSent s.sch.ticks t.tseq } t
  rw [tickMarked, h]
  exact ⟨rfl, rfl, rfl⟩

theorem sinceSet_only (u : State) (n : Nat) : Only [.chn] u (sinceSet u n) := only_chn (by decide) ..

theorem marked_only (s : State) (t : Tick) (n : Nat) : Only [.sch, .chn] s (sinceSet (tickMarked s t) n) :=
  (tickMarked_only s t).trans ((sinceSet_only ..).mono (by decide))

/-- Marking the tick changes nothing about the lines. -/
theorem marked_sameLines (s : State) (t : Tick) (n : Nat) : SameLines s (sinceSet (tickMarked s t) n) := by
  obtain ⟨haddr, -, -⟩ := tickMarked_chn s t
  exact ⟨(marked_only s t n).mono (by decide), haddr⟩

theorem tickMarked_ticks (s : State) (t : Tick) : (tickMarked s t).sch.ticks = markSent s.sch.ticks t.tseq := by
  obtain ⟨h, -⟩ := takeSettings_chn { s with sch.ticks := markSent s.sch.ticks t.tseq } t
  rw [tickMarked, h.same .sch (by decide)]

/-- What the frame of a tick leaves, whether it announces a window or not. -/
theorem sendTick_leaves (s : State) (t : Tick) :
    (sendTick s t).sch.ticks = markSent s.sch.ticks t.tseq ∧ (sendTick s t).sch.report = none ∧
      (sendTick s t).chn.lseq = s.chn.lseq + 1 ∧ (PairFree s → (sendTick s t).sch.frameAt = s.now) ∧
      (s.sp.genDue = none → s.np.genDue = none → (sendTick s t).tim = s.tim) ∧
      Only [.freeCtr, .tim, .sch, .acq, .apl, .core, .chn, .sp, .np] s (sendTick s t) := by
  obtain ⟨n, m, k, c, o, l, h⟩ := sendTick_eq s t
  rw [h]
  have hlines := marked_sameLines s t n
  have hframe := marked_only s t n
  obtain ⟨-, hseq, -⟩ := tickMarked_chn s t
  have hnow : (sinceSet (tickMarked s t) n).now = s.now := hframe.same .now (by decide)
  have hsp : (sinceSet (tickMarked s t) n).sp = s.sp := hframe.same .sp (by decide)
  have hnp : (sinceSet (tickMarked s t) n).np = s.np := hframe.same .np (by decide)
  have hmtim : (sinceSet (tickMarked s t) n).tim = s.tim := hframe.same .tim (by decide)
  obtain ⟨hreport, hticks, hlseq, -, hat, htim, honly⟩ := sendTime_leaves (sinceSet (tickMarked s t) n) (some t) m k c o l
  refine ⟨hticks.trans (tickMarked_ticks s t), hreport, hlseq.trans (congrArg (· + 1) hseq),
    fun hf => (hat (pairFree_congr hlines hf)).trans hnow, fun hs hn => ?_, (hframe.mono (by decide)).trans honly⟩
  exact (htim (by rw [hsp]; exact hs) (by rw [hnp]; exact hn)).trans hmtim

/-- Without new settings, and where no window may be announced, the frame announces none, and one more tick is counted. -/
theorem sendTick_noWindow (s : State) (t : Tick) (hq : s.chn.setq = []) (h : s.chn.m = 0 ∨ windowFree s = false) :
    (sendTick s t).chn.win = s.chn.win ∧ (sendTick s t).chn.ticksSince = s.chn.ticksSince + 1 := by
  have hmark := tickMarked_of_nil s t hq
  have hundue : ¬ windowDue (tickMarked s t) := by
    rw [hmark]
    rintro ⟨hm, -, hw⟩
    exact h.elim hm fun hf => Bool.false_ne_true (hf.symm.trans hw)
  obtain ⟨-, -, -, hsince, -⟩ := sendTime_leaves (sinceSet (tickMarked s t) ((tickMarked s t).chn.ticksSince + 1)) (some t) 0 0 0 0 0
  rw [sendTick_undue s t hundue, hsince, sendTime_noWindow, hmark]
  exact ⟨rfl, rfl⟩

/-- The M-th tick announces a window of all devices of the chain, where both lines are free. -/
theorem sendTick_window (s : State) (t : Tick) (hq : s.chn.setq = []) (hm : s.chn.m ≠ 0) (hw : windowFree s = true)
    (hn : s.chn.m.toNat ≤ s.chn.ticksSince + 1) (hf : PairFree s) :
    (sendTick s t).chn.ticksSince = 0 ∧ (sendTick s t).chn.winAt = some s.now ∧
      ∃ w, (sendTick s t).chn.win = some w ∧ w.kind = s.chn.kind ∧ w.count = s.chn.top ∧ w.done = false := by
  have hmark := tickMarked_of_nil s t hq
  have hdue : windowDue (tickMarked s t) := by
    rw [hmark]
    exact ⟨hm, hn, hw⟩
  have hlines := marked_sameLines s t 0
  have hnow : (sinceSet (tickMarked s t) 0).now = s.now := (marked_only s t 0).same .now (by decide)
  rw [sendTick_due s t hdue]
  dsimp only
  generalize hmode : (if chainEl1 (tickMarked s t) then 2 else 1 : BitVec 2) = mode
  have hmode0 : mode ≠ 0 := by
    rw [← hmode]
    split <;> decide
  obtain ⟨-, -, -, hsince, -⟩ := sendTime_leaves (sinceSet (tickMarked s t) 0) (some t) mode (tickMarked s t).chn.kind
    (tickMarked s t).chn.top.toNat (wofsNow (tickMarked s t)) (windowSlot (tickMarked s t) (tickMarked s t).chn.kind)
  obtain ⟨hat, w, hwin, hkind, hcount, hdone⟩ := sendTime_window (sinceSet (tickMarked s t) 0) (some t) mode
    (tickMarked s t).chn.kind (tickMarked s t).chn.top.toNat (wofsNow (tickMarked s t))
    (windowSlot (tickMarked s t) (tickMarked s t).chn.kind) hmode0 (pairFree_congr hlines hf)
  refine ⟨hsince, hat.trans (congrArg some hnow), w, hwin, hkind.trans ?_, hcount.trans ?_, hdone⟩
  · rw [hmark]
  · rw [hmark, BitVec.ofNat_toNat, BitVec.setWidth_eq]

/-! ## The commands -/

theorem exec_beatSend (s : State) : exec .beatSend s =
    if mayTime s && beatDue s then .next (sendTime s none 0 0 0 0 0) else .next s := rfl

theorem beatSend_sends (s : State) (ht : mayTime s = true) (hb : beatDue s = true) : Does .beatSend s fun t =>
    t.sch.report = none ∧ t.sch.ticks = s.sch.ticks ∧ t.chn.lseq = s.chn.lseq + 1 ∧
      (portBusy (latchGen (latchGen s .south) .north) .south = false → portBusy (latchGen (latchGen s .south) .north) .north = false →
        t.sch.frameAt = s.now) ∧
      (s.sp.genDue = none → s.np.genDue = none → t.tim = s.tim) ∧
      Only [.freeCtr, .tim, .sch, .acq, .apl, .core, .chn, .sp, .np] s t := by
  obtain ⟨hreport, hticks, hlseq, -, hat, htim, honly⟩ := sendTime_leaves s none 0 0 0 0 0
  exact ⟨_, by rw [exec_beatSend, if_pos (by simp [ht, hb])], hreport, hticks, hlseq, fun hs hn => hat ⟨hs, hn⟩, htim, honly⟩

theorem timeFrames_idle (s : State) (h : mayTime s = false) : Idle .beatSend s ∧ Idle .tickFrameSend s ∧ Idle .cancelFrameSend s :=
  ⟨if_neg (by simp [h]), if_pos (by simp [h]), if_pos (by simp [h])⟩

theorem beatSend_idle (s : State) (h : beatDue s = false) : Idle .beatSend s := if_neg (by simp [h])

theorem exec_tickFrameSend (s : State) (k : Tick) (ht : mayTime s = true) (hk : unsentTick s.sch.ticks = some k) :
    exec .tickFrameSend s = if leadKept s k.instant then .next (sendTick s k) else .next s := by
  show execTickFrameSend s = _
  unfold execTickFrameSend
  rw [if_neg (by simp [ht]), hk]

theorem tickFrameSend_sends (s : State) (k : Tick) (ht : mayTime s = true) (hk : unsentTick s.sch.ticks = some k)
    (hl : leadKept s k.instant = true) : Does .tickFrameSend s fun t =>
      t.sch.ticks = markSent s.sch.ticks k.tseq ∧ t.sch.report = none ∧ t.chn.lseq = s.chn.lseq + 1 ∧
      (portBusy (latchGen (latchGen s .south) .north) .south = false → portBusy (latchGen (latchGen s .south) .north) .north = false →
        t.sch.frameAt = s.now) ∧
      (s.chn.setq = [] → (s.chn.m = 0 ∨ windowFree s = false) →
        t.chn.win = s.chn.win ∧ t.chn.ticksSince = s.chn.ticksSince + 1) ∧
      (s.chn.setq = [] → s.chn.m ≠ 0 → windowFree s = true → s.chn.m.toNat ≤ s.chn.ticksSince + 1 →
        portBusy (latchGen (latchGen s .south) .north) .south = false → portBusy (latchGen (latchGen s .south) .north) .north = false →
        t.chn.ticksSince = 0 ∧ t.chn.winAt = some s.now ∧
          ∃ w, t.chn.win = some w ∧ w.kind = s.chn.kind ∧ w.count = s.chn.top ∧ w.done = false) ∧
      (s.sp.genDue = none → s.np.genDue = none → t.tim = s.tim) ∧
      Only [.freeCtr, .tim, .sch, .acq, .apl, .core, .chn, .sp, .np] s t := by
  obtain ⟨hticks, hreport, hlseq, hat, htim, honly⟩ := sendTick_leaves s k
  exact ⟨_, (exec_tickFrameSend s k ht hk).trans (if_pos hl), hticks, hreport, hlseq, fun hs hn => hat ⟨hs, hn⟩,
    sendTick_noWindow s k, fun hq hm hw hn hs hnn => sendTick_window s k hq hm hw hn ⟨hs, hnn⟩, htim, honly⟩

theorem tickFrameSend_none (s : State) (h : unsentTick s.sch.ticks = none) : Idle .tickFrameSend s := by
  show execTickFrameSend s = _
  unfold execTickFrameSend
  split
  · rfl
  · rw [h]

theorem tickFrameSend_late (s : State) (k : Tick) (hk : unsentTick s.sch.ticks = some k) (hl : leadKept s k.instant = false) :
    Idle .tickFrameSend s := by
  by_cases ht : mayTime s = true
  · exact (exec_tickFrameSend s k ht hk).trans (if_neg (by simp [hl]))
  · obtain ⟨-, h, -⟩ := timeFrames_idle s (by simpa using ht)
    exact h

/-! ### Cancellations -/

theorem putOnLine_genDue (s : State) (p q : Port) (f : Frame) (c : Crust) (lead : Nat) :
    (portOf (putOnLine s p f c lead) q).genDue = (portOf s q).genDue := by
  unfold putOnLine
  dsimp only
  split <;> cases p <;> cases q <;> rfl

theorem waitTx_genDue (s : State) (p q : Port) (f : Frame) : (portOf (waitTx s p f) q).genDue = (portOf s q).genDue := by
  unfold waitTx
  split
  · cases p <;> cases q <;> rfl
  · rfl

/-- A port without a written generation to take sends a frame, or lets it wait, without touching chain time. -/
theorem startOrWait_of_none (s : State) (p : Port) (f : Frame) (h : (portOf s p).genDue = none) :
    (startOrWait s p f).tim = s.tim ∧ ∀ q, (portOf (startOrWait s p f) q).genDue = (portOf s q).genDue := by
  unfold startOrWait
  split
  · exact ⟨rfl, fun _ => rfl⟩
  · split
    · rw [latchGen_of_none s p h]
      exact ⟨(startOwn_only s p f).same .tim (by decide), fun q => putOnLine_genDue ..⟩
    · exact ⟨(waitTx_only s p f).same .tim (by decide), fun q => waitTx_genDue ..⟩

theorem sendBoth_eq (s : State) (ty : BitVec 4) (b : List Byte) : sendBoth s ty b =
    startOrWait (startOrWait (originate s ty 0 b).1 .south (originate s ty 0 b).2) .north (originate s ty 0 b).2 := rfl

theorem sendBoth_tim (s : State) (ty : BitVec 4) (b : List Byte) (hs : s.sp.genDue = none) (hn : s.np.genDue = none) :
    (sendBoth s ty b).tim = s.tim := by
  obtain ⟨htim, hgen⟩ := startOrWait_of_none (originate s ty 0 b).1 .south (originate s ty 0 b).2 hs
  obtain ⟨htim', -⟩ := startOrWait_of_none (startOrWait (originate s ty 0 b).1 .south (originate s ty 0 b).2) .north
    (originate s ty 0 b).2 ((hgen .north).trans hn)
  rw [sendBoth_eq, htim', htim]
  rfl

theorem putOnLine_lseq (s : State) (p : Port) (f : Frame) (c : Crust) (lead : Nat) :
    (putOnLine s p f c lead).chn.lseq = s.chn.lseq := by
  unfold putOnLine
  dsimp only
  split <;> cases p <;> rfl

theorem startOrWait_lseq (s : State) (p : Port) (f : Frame) : (startOrWait s p f).chn.lseq = s.chn.lseq := by
  unfold startOrWait
  split
  · rfl
  · split
    · rw [startOwn, putOnLine_lseq, latchGen_chn]
    · exact congrArg ChnUnit.lseq ((waitTx_only s p f).same .chn (by decide))

theorem sendBoth_lseq (s : State) (ty : BitVec 4) (b : List Byte) : (sendBoth s ty b).chn.lseq = s.chn.lseq + 1 := by
  rw [sendBoth_eq, startOrWait_lseq, startOrWait_lseq]
  rfl

theorem cancelFrameSend_sends (s : State) (n : BitVec 16) (r : Byte) (q : List (BitVec 16 × Byte)) (ht : mayTime s = true)
    (hq : s.sch.cancelQ = (n, r) :: q) : Does .cancelFrameSend s fun t =>
    t.sch = { s.sch with cancelQ := q } ∧ t.chn.lseq = s.chn.lseq + 1 ∧
      (s.sp.genDue = none → s.np.genDue = none → t.tim = s.tim) ∧ Only [.tim, .sch, .chn, .sp, .np] s t := by
  let u : State := { s with sch.cancelQ := q }
  have hsend := sendBoth_only u 7 (leBytes 2 n.toNat ++ [r, 0])
  have hexec : exec .cancelFrameSend s = .next (sendBoth u 7 (leBytes 2 n.toNat ++ [r, 0])) := by
    show execCancelFrameSend s = _
    unfold execCancelFrameSend
    rw [if_neg (by simp [ht]), hq]
  exact ⟨_, hexec, hsend.same .sch (by decide), sendBoth_lseq u 7 _, sendBoth_tim u 7 _,
    (only_sch (by decide) s u.sch).trans (hsend.mono (by decide))⟩

theorem cancelFrameSend_idle (s : State) (h : s.sch.cancelQ = []) : Idle .cancelFrameSend s := by
  show execCancelFrameSend s = _
  unfold execCancelFrameSend
  split
  · rfl
  · rw [h]

/-! ### The first beat after a wake (23 R870) -/

/-- The first time frame after a wake: the earliest unsent tick's where its lead can be kept, otherwise a beat. -/
theorem firstBeat_frame (s : State) (hb : s.pw.firstBeat = true) (hw : 8 * ctPerMs ≤ s.now - s.pw.wokeAt)
    (ht : mayTime { s with pw := { s.pw with firstBeat := false } } = true) :
    let u : State := { s with pw := { s.pw with firstBeat := false } }
    exec .firstBeatAfterWake s = .next (sendTime u none 0 0 0 0 0) ∨ ∃ k, exec .firstBeatAfterWake s = .next (sendTick u k) := by
  intro u
  have hexec : exec .firstBeatAfterWake s = execFirstBeatAfterWake s := rfl
  rw [hexec]
  unfold execFirstBeatAfterWake
  rw [if_neg (by simp [hb, hw])]
  dsimp only
  rw [if_neg (by simp [ht])]
  split
  · exact .inl rfl
  · split
    · exact .inr ⟨_, rfl⟩
    · exact .inl rfl

theorem firstBeatAfterWake_sends (s : State) (hb : s.pw.firstBeat = true) (hw : 8 * ctPerMs ≤ s.now - s.pw.wokeAt)
    (ht : mayTime { s with pw := { s.pw with firstBeat := false } } = true) : Does .firstBeatAfterWake s fun t =>
      t.pw = { s.pw with firstBeat := false } ∧ t.chn.lseq = s.chn.lseq + 1 ∧ t.sch.report = none ∧
        (s.sp.genDue = none → s.np.genDue = none → t.tim = s.tim) ∧
        Only [.pw, .freeCtr, .tim, .sch, .acq, .apl, .core, .chn, .sp, .np] s t := by
  let u : State := { s with pw := { s.pw with firstBeat := false } }
  have hwoken : Only [.pw, .freeCtr, .tim, .sch, .acq, .apl, .core, .chn, .sp, .np] s u := only_pw (by decide) ..
  obtain hbeat | ⟨k, htick⟩ := firstBeat_frame s hb hw ht
  · obtain ⟨hreport, -, hlseq, -, -, htim, honly⟩ := sendTime_leaves u none 0 0 0 0 0
    exact ⟨_, hbeat, honly.same .pw (by decide), hlseq, hreport, htim, hwoken.trans (honly.mono (by decide))⟩
  · obtain ⟨-, hreport, hlseq, -, htim, honly⟩ := sendTick_leaves u k
    exact ⟨_, htick, honly.same .pw (by decide), hlseq, hreport, htim, hwoken.trans (honly.mono (by decide))⟩

theorem firstBeatAfterWake_idle (s : State) (h : s.pw.firstBeat = false ∨ s.now - s.pw.wokeAt < 8 * ctPerMs) :
    Idle .firstBeatAfterWake s := if_pos (by obtain h | h := h <;> simp [h])

/-- Settles O18: every time frame leaves by `sendTime`, whose own lemmas say what it leaves and when it announces a window. -/
theorem anchorSendsTimeFrames : Obligations.AnchorSendsTimeFrames :=
  ⟨beatSend_sends, timeFrames_idle, beatSend_idle, tickFrameSend_sends, tickFrameSend_none, tickFrameSend_late,
    cancelFrameSend_sends, cancelFrameSend_idle, firstBeatAfterWake_sends, firstBeatAfterWake_idle⟩

end Sys2Proof.Machine

/-! PROOFS. Time frames received: what a device hears, takes and steers, the tick and the window, and a second anchor (O32). -/

namespace Sys2Proof.Machine

open Sys2Proof

/-! ## Hearing a frame -/

/-- `FLT` of the frame is noted, and the firmware's `HOST_FLT` with it. -/
def frameNoted (s : State) (f : Frame) : State :=
  updateLive { noteTop s f.src with
    chn.flts := (f.flt, s.now) :: s.chn.flts.filter fun x => decide (s.now - x.2 ≤ 10 * ctPerMs) }

theorem frameNoted_only (s : State) (f : Frame) : Only [.chn, .host, .en] s (frameNoted s f) :=
  ((noteTop_only ..).mono (by decide)).trans ((only_chn (by decide) ..).trans ((updateLive_only ..).mono (by decide)))

theorem frameNoted_chn (s : State) (f : Frame) : (frameNoted s f).chn =
    { s.chn with flts := (f.flt, s.now) :: s.chn.flts.filter fun x => decide (s.now - x.2 ≤ 10 * ctPerMs) } := by
  have hlive : (frameNoted s f).chn = _ := (updateLive_only _).same .chn (by decide)
  have htop : (noteTop s f.src).chn = s.chn := (noteTop_only _ _).same .chn (by decide)
  rw [hlive]
  dsimp only
  rw [htop]

/-- The two causes of the safety monitor that a frame's `FLT` may bring (16 R616). -/
def causeHeard (s : State) (b : Bool) (cause : Nat) : State := if b then tqImmediate s cause else s

theorem heardFrame_eq (s : State) (f : Frame) :
    heardFrame s f = causeHeard (causeHeard (frameNoted s f) (f.flt.getLsbD 1) 9) (f.flt.getLsbD 2) 10 := rfl

theorem causeHeard_only (s : State) (b : Bool) (c : Nat) : Only (.tq :: journalParts) s (causeHeard s b c) := by
  unfold causeHeard
  split
  · exact tqImmediate_only ..
  · exact Only.refl ..

theorem causeHeard_of_not_anchor (s : State) (b : Bool) (c : Nat) (ha : isAnchor s = false) : causeHeard s b c = s := by
  unfold causeHeard
  split
  · exact tqImmediate_idle s c (.inl ha)
  · rfl

theorem heardFrame_only (s : State) (f : Frame) : Only (.tq :: .en :: journalParts) s (heardFrame s f) :=
  ((frameNoted_only ..).mono (by decide)).trans
    (((causeHeard_only ..).mono (by decide)).trans ((causeHeard_only ..).mono (by decide)))

theorem isAnchor_of_only {l : List Part} {s t : State} (h : Only l s t) (hl : Part.cfg ∉ l) : isAnchor t = isAnchor s := by
  have hcfg : t.cfg = s.cfg := h.same .cfg hl
  simp only [isAnchor, hcfg]

/-- A device that is not the anchor presents nothing to a safety monitor. -/
theorem heardFrame_of_not_anchor (s : State) (f : Frame) (ha : isAnchor s = false) : heardFrame s f = frameNoted s f := by
  have hn : isAnchor (frameNoted s f) = false := (isAnchor_of_only (frameNoted_only s f) (by decide)).trans ha
  rw [heardFrame_eq, causeHeard_of_not_anchor _ _ _ hn, causeHeard_of_not_anchor _ _ _ hn]

/-! ## Taking time -/

/-- The frame's moment and port are noted, and its epoch checked (11 R403; 16 R596). -/
def timeNoted (s : State) (p : Port) (f : Frame) : State :=
  checkEpoch (noteBeat { s with tim.beatAt := some s.now, tim.orphaned := false } p) f

theorem noteBeat_only (s : State) (p : Port) : Only [.tim] s (noteBeat s p) := by
  cases p <;> exact only_tim (by decide) ..

theorem noteBeat_tim (s : State) (p : Port) : (noteBeat s p).tim =
    { s.tim with southBeat := (noteBeat s p).tim.southBeat, northBeat := (noteBeat s p).tim.northBeat } := by
  cases p <;> rfl

theorem checkEpoch_only (s : State) (f : Frame) : Only [.chn] s (checkEpoch s f) := by
  unfold checkEpoch
  split
  · exact only_chn (by decide) ..
  · exact Only.refl ..

theorem checkEpoch_chn (s : State) (f : Frame) :
    (checkEpoch s f).chn = { s.chn with calValid := s.chn.calValid && s.chn.calEp == f.payload.getD 5 0 } := by
  unfold checkEpoch
  split
  case isTrue h =>
    have hep : (s.chn.calEp == f.payload.getD 5 0) = false := by
      rw [Bool.and_eq_true, bne_iff_ne] at h
      exact beq_false_of_ne h.2
    simp only [hep, Bool.and_false]
  case isFalse h =>
    have hv : (s.chn.calValid && s.chn.calEp == f.payload.getD 5 0) = s.chn.calValid := by
      cases hc : s.chn.calValid
      · rfl
      · simpa [hc] using h
    rw [hv]

theorem timeNoted_only (s : State) (p : Port) (f : Frame) : Only [.tim, .chn] s (timeNoted s p f) :=
  (only_tim (by decide) ..).trans (((noteBeat_only ..).mono (by decide)).trans ((checkEpoch_only ..).mono (by decide)))

theorem timeNoted_chn (s : State) (p : Port) (f : Frame) :
    (timeNoted s p f).chn = { s.chn with calValid := s.chn.calValid && s.chn.calEp == f.payload.getD 5 0 } := by
  have hb (x : State) : (noteBeat x p).chn = x.chn := (noteBeat_only x p).same .chn (by decide)
  unfold timeNoted
  rw [checkEpoch_chn, hb]

theorem timeNoted_tim (s : State) (p : Port) (f : Frame) : (timeNoted s p f).tim =
    { s.tim with beatAt := some s.now, orphaned := false,
                 southBeat := (timeNoted s p f).tim.southBeat, northBeat := (timeNoted s p f).tim.northBeat } := by
  have hc (x : State) : (checkEpoch x f).tim = x.tim := (checkEpoch_only x f).same .tim (by decide)
  unfold timeNoted
  rw [hc]
  exact noteBeat_tim ..

theorem timeNoted_both (s : State) (p : Port) (f : Frame) :
    beatsBothPorts (timeNoted s p f) = beatsBothPorts (noteBeat s p) := by
  have htim (x : State) : (checkEpoch x f).tim = x.tim := (checkEpoch_only x f).same .tim (by decide)
  have hnow (x : State) : (checkEpoch x f).now = x.now := (checkEpoch_only x f).same .now (by decide)
  have hch (x : State) : beatsBothPorts (checkEpoch x f) = beatsBothPorts x := by
    unfold beatsBothPorts
    rw [htim, hnow]
  unfold timeNoted
  rw [hch]
  cases p <;> rfl

/-- The frame is taken for time: the calibration is valid in its epoch, and no other port brings beats (11 R403; 16 R596). -/
def takesTime (s : State) (p : Port) (f : Frame) : Bool :=
  s.chn.calValid && s.chn.calEp == f.payload.getD 5 0 && !beatsBothPorts (noteBeat s p)

/-- Milliseconds since the last beat. -/
def beatMs (s : State) : Nat := match s.tim.beatAt with | some t => msSince s t | none => 0

/-- The device faces the port of the frame and holds its offset. -/
def timeFaced (s : State) (p : Port) (f : Frame) (m : Nat) : State :=
  { timeNoted s p f with tim.facing := p, tim.offset := BitVec.ofInt 8 (clampI (-127) 127 ((timeOffset s f m).tdiv 16)) }

theorem timeOffset_congr {s t : State} (h : t.chn.da = s.chn.da) (f : Frame) (m : Nat) : timeOffset t f m = timeOffset s f m := by
  unfold timeOffset
  rw [h]

theorem portOf_of_only {l : List Part} {s t : State} (h : Only l s t) (hs : Part.sp ∉ l) (hn : Part.np ∉ l) (p : Port) :
    portOf t p = portOf s p := by
  cases p
  · exact h.same .sp hs
  · exact h.same .np hn

/-- The port of the frame receives at EL2. -/
def rxFast (s : State) (p : Port) : Bool := (portOf s p).rx == some .el2

theorem takeTime_eq (s : State) (p : Port) (f : Frame) (m : Nat) :
    takeTime s p f m = if beatsBothPorts (timeNoted s p f) then loseAlign (timeNoted s p f)
      else applyTime (timeNoted s p f) p f m (beatMs s) := rfl

theorem takeTime_of_takesTime (s : State) (p : Port) (f : Frame) (m : Nat) (h : takesTime s p f = true) :
    takeTime s p f m = applyOffset (timeFaced s p f m) (timeOffset s f m) (rxFast s p) (beatMs s) := by
  unfold takesTime at h
  rw [Bool.and_eq_true, Bool.not_eq_true'] at h
  obtain ⟨hcal, hboth⟩ := h
  have hvalid : (timeNoted s p f).chn.calValid = true := by
    rw [timeNoted_chn]
    exact hcal
  have hoff : ∀ q, timeOffset { timeNoted s p f with tim.facing := q } f m = timeOffset s f m := fun q =>
    timeOffset_congr (by dsimp only; rw [timeNoted_chn]) f m
  have hport : portOf (timeNoted s p f) p = portOf s p := portOf_of_only (timeNoted_only s p f) (by decide) (by decide) p
  rw [takeTime_eq, timeNoted_both, hboth]
  simp only [applyTime, hvalid, hoff, hport, timeFaced, rxFast, Bool.not_true, Bool.false_eq_true, if_false]

/-- Otherwise the device loses its alignment, and at most steers its frequency (11 R404). -/
theorem takeTime_of_not_takesTime (s : State) (p : Port) (f : Frame) (m : Nat) (h : takesTime s p f = false) :
    takeTime s p f m = loseAlign (timeNoted s p f) ∨
      takeTime s p f m = steerFreq (loseAlign { timeNoted s p f with tim.facing := p }) := by
  rw [takeTime_eq, timeNoted_both]
  split
  case isTrue => exact .inl rfl
  case isFalse hboth =>
    have hvalid : (timeNoted s p f).chn.calValid = false := by
      rw [timeNoted_chn]
      simpa [takesTime, Bool.eq_false_iff.mpr hboth] using h
    refine .inr ?_
    simp only [applyTime, hvalid, Bool.not_false, if_true]

/-! ### Steering -/

theorem steerFreq_only (s : State) : Only [.clk, .freeCtr] s (steerFreq s) :=
  ((takeFree_only s).mono (by decide)).trans ((only_clk (by decide) ..).trans (retune_only _))

theorem steer_only (s : State) (ms : Nat) : Only [.tim, .clk, .freeCtr] s (steer s ms) :=
  ((steerFreq_only s).mono (by decide)).trans (((takeFree_only _).mono (by decide)).trans (only_tim (by decide) ..))

/-- Steering moves the counter and nothing else of the chain time (05 R143). -/
theorem steer_tim (s : State) (ms : Nat) : (steer s ms).tim = { s.tim with cnt := (steer s ms).tim.cnt } := rfl

/-- The first offset of a device that lost its alignment steps the counter, to the nearest period (05 R143; 11 R404). -/
def counterStepped (s : State) (off : Int) (el2 : Bool) : State :=
  moveCnt { s with tim.stepDue := false, tim.goodBeats := b2n (withinNs off (if el2 then 10 else 500)),
                   sch.lastFix := none } ((off + 192) / 384 * 24)

theorem applyOffset_of_stepDue (s : State) (off : Int) (el2 : Bool) (ms : Nat) (h : s.tim.stepDue = true) :
    applyOffset s off el2 ms = counterStepped s off el2 := by
  unfold applyOffset
  exact if_pos h

theorem applyOffset_of_far (s : State) (off : Int) (el2 : Bool) (ms : Nat) (h : s.tim.stepDue = false)
    (ha : s.tim.aligned = true) (hoff : withinNs off (if el2 then 20 else 800) = false) :
    applyOffset s off el2 ms = loseAlign s := by
  simp [applyOffset, h, ha, hoff]

/-- The count of good beats in a row, and `ALIGNED` after four of them (05 R144). -/
def beatCounted (s : State) (good : Bool) : State :=
  let n := if good then s.tim.goodBeats + 1 else 0
  { s with tim.goodBeats := n, tim.aligned := s.tim.aligned || decide (4 ≤ n) }

theorem applyOffset_of_near (s : State) (off : Int) (el2 : Bool) (ms : Nat) (h : s.tim.stepDue = false)
    (hoff : s.tim.aligned = false ∨ withinNs off (if el2 then 20 else 800) = true) :
    applyOffset s off el2 ms = steer (beatCounted s (withinNs off (if el2 then 10 else 500))) ms := by
  have hstay : (s.tim.aligned && !withinNs off (if el2 then 20 else 800)) = false := by
    obtain ha | hin := hoff
    · rw [ha, Bool.false_and]
    · rw [hin, Bool.not_true, Bool.and_false]
  simp [applyOffset, h, hstay, beatCounted]

theorem applyOffset_cases (s : State) (off : Int) (el2 : Bool) (ms : Nat) :
    applyOffset s off el2 ms = counterStepped s off el2 ∨ applyOffset s off el2 ms = loseAlign s ∨
      applyOffset s off el2 ms = steer (beatCounted s (withinNs off (if el2 then 10 else 500))) ms := by
  cases hd : s.tim.stepDue
  case true => exact .inl (applyOffset_of_stepDue s off el2 ms hd)
  case false =>
    by_cases hoff : s.tim.aligned = false ∨ withinNs off (if el2 then 20 else 800) = true
    · exact .inr (.inr (applyOffset_of_near s off el2 ms hd hoff))
    · rw [not_or, Bool.not_eq_false, Bool.not_eq_true] at hoff
      exact .inr (.inl (applyOffset_of_far s off el2 ms hd hoff.1 hoff.2))

theorem counterStepped_only (s : State) (off : Int) (el2 : Bool) : Only [.tim, .sch] s (counterStepped s off el2) :=
  Only.of fun p => by
    cases p
    case tim => exact .inl (by decide)
    case sch => exact .inl (by decide)
    all_goals exact .inr rfl

theorem beatCounted_only (s : State) (good : Bool) : Only [.tim] s (beatCounted s good) := only_tim (by decide) ..

theorem applyOffset_only (s : State) (off : Int) (el2 : Bool) (ms : Nat) :
    Only [.tim, .clk, .freeCtr, .sch] s (applyOffset s off el2 ms) := by
  obtain h | h | h := applyOffset_cases s off el2 ms
  · exact h ▸ (counterStepped_only ..).mono (by decide)
  · exact h ▸ (loseAlign_only s).mono (by decide)
  · exact h ▸ ((beatCounted_only ..).mono (by decide)).trans ((steer_only ..).mono (by decide))

/-- What taking time leaves of the chain time and of the scheduler. -/
def BeatHeld (s t : State) : Prop :=
  t.tim.beatAt = s.tim.beatAt ∧ t.tim.orphaned = s.tim.orphaned ∧ t.sch = { s.sch with lastFix := t.sch.lastFix }

theorem applyOffset_held (s : State) (off : Int) (el2 : Bool) (ms : Nat) : BeatHeld s (applyOffset s off el2 ms) := by
  obtain h | h | h := applyOffset_cases s off el2 ms
  · exact h ▸ ⟨rfl, rfl, rfl⟩
  · exact h ▸ ⟨rfl, rfl, rfl⟩
  · exact h ▸ ⟨rfl, rfl, rfl⟩

theorem takeTime_only (s : State) (p : Port) (f : Frame) (m : Nat) :
    Only [.tim, .chn, .clk, .freeCtr, .sch] s (takeTime s p f m) := by
  have hn : Only [.tim, .chn, .clk, .freeCtr, .sch] s (timeNoted s p f) := (timeNoted_only s p f).mono (by decide)
  cases h : takesTime s p f
  case true =>
    rw [takeTime_of_takesTime s p f m h]
    exact hn.trans ((only_tim (by decide) ..).trans ((applyOffset_only ..).mono (by decide)))
  case false =>
    obtain he | he := takeTime_of_not_takesTime s p f m h
    · rw [he]
      exact hn.trans ((loseAlign_only _).mono (by decide))
    · rw [he]
      exact hn.trans ((only_tim (by decide) ..).trans
        (((loseAlign_only _).mono (by decide)).trans ((steerFreq_only _).mono (by decide))))

theorem takeTime_held (s : State) (p : Port) (f : Frame) (m : Nat) :
    (takeTime s p f m).tim.beatAt = some s.now ∧ (takeTime s p f m).tim.orphaned = false ∧
      (takeTime s p f m).sch = { s.sch with lastFix := (takeTime s p f m).sch.lastFix } := by
  have hsch : (timeNoted s p f).sch = s.sch := (timeNoted_only s p f).same .sch (by decide)
  have hat : (timeNoted s p f).tim.beatAt = some s.now := by rw [timeNoted_tim]
  have horph : (timeNoted s p f).tim.orphaned = false := by rw [timeNoted_tim]
  have hheld : BeatHeld (timeNoted s p f) (takeTime s p f m) := by
    cases h : takesTime s p f
    case true =>
      rw [takeTime_of_takesTime s p f m h]
      exact applyOffset_held (timeFaced s p f m) _ _ _
    case false =>
      obtain he | he := takeTime_of_not_takesTime s p f m h
      · rw [he]; exact ⟨rfl, rfl, rfl⟩
      · rw [he]; exact ⟨rfl, rfl, rfl⟩
  obtain ⟨hbeat, horphan, hs⟩ := hheld
  exact ⟨hbeat.trans hat, horphan.trans horph, hsch ▸ hs⟩

theorem takeTime_chn (s : State) (p : Port) (f : Frame) (m : Nat) : (takeTime s p f m).chn =
    { s.chn with calValid := s.chn.calValid && s.chn.calEp == f.payload.getD 5 0 } := by
  have hchn : (takeTime s p f m).chn = (timeNoted s p f).chn := by
    cases h : takesTime s p f
    case true =>
      rw [takeTime_of_takesTime s p f m h]
      exact (applyOffset_only (timeFaced s p f m) _ _ _).same .chn (by decide)
    case false =>
      obtain he | he := takeTime_of_not_takesTime s p f m h
      · rw [he]; rfl
      · rw [he]; rfl
  rw [hchn, timeNoted_chn]

theorem takeTime_unaligned (s : State) (p : Port) (f : Frame) (m : Nat) (h : takesTime s p f = false) :
    (takeTime s p f m).tim.aligned = false ∧ (takeTime s p f m).tim.cnt = s.tim.cnt := by
  have hcnt : (timeNoted s p f).tim.cnt = s.tim.cnt := by rw [timeNoted_tim]
  obtain he | he := takeTime_of_not_takesTime s p f m h
  · rw [he]; exact ⟨rfl, hcnt⟩
  · rw [he]; exact ⟨rfl, hcnt⟩

/-- What the device holds as it applies the offset. -/
theorem timeFaced_tim (s : State) (p : Port) (f : Frame) (m : Nat) :
    (timeFaced s p f m).tim.stepDue = s.tim.stepDue ∧ (timeFaced s p f m).tim.aligned = s.tim.aligned ∧
      (timeFaced s p f m).tim.goodBeats = s.tim.goodBeats ∧ (timeFaced s p f m).tim.cnt = s.tim.cnt := by
  unfold timeFaced
  dsimp only
  rw [timeNoted_tim]
  exact ⟨rfl, rfl, rfl, rfl⟩

theorem takeTime_steps (s : State) (p : Port) (f : Frame) (m : Nat) (h : takesTime s p f = true) (hd : s.tim.stepDue = true) :
    (takeTime s p f m).tim.stepDue = false ∧
      (takeTime s p f m).tim.goodBeats = b2n (withinNs (timeOffset s f m) (if rxFast s p then 10 else 500)) ∧
      (takeTime s p f m).tim.aligned = s.tim.aligned ∧
      (takeTime s p f m).tim.cnt = (((s.tim.cnt : Int) + (timeOffset s f m + 192) / 384 * 24) % (2 ^ 32 * 24)).toNat := by
  obtain ⟨hdue, hal, -, hcnt⟩ := timeFaced_tim s p f m
  rw [takeTime_of_takesTime s p f m h, applyOffset_of_stepDue _ _ _ _ (hdue.trans hd)]
  simp only [counterStepped, moveCnt, hal, hcnt, and_self]

theorem takeTime_loses (s : State) (p : Port) (f : Frame) (m : Nat) (h : takesTime s p f = true) (hd : s.tim.stepDue = false)
    (ha : s.tim.aligned = true) (hoff : withinNs (timeOffset s f m) (if rxFast s p then 20 else 800) = false) :
    (takeTime s p f m).tim.aligned = false ∧ (takeTime s p f m).tim.stepDue = true ∧ (takeTime s p f m).tim.cnt = s.tim.cnt := by
  obtain ⟨hdue, hal, -, hcnt⟩ := timeFaced_tim s p f m
  rw [takeTime_of_takesTime s p f m h, applyOffset_of_far _ _ _ _ (hdue.trans hd) (hal.trans ha) hoff]
  exact ⟨rfl, rfl, hcnt⟩

theorem takeTime_counts (s : State) (p : Port) (f : Frame) (m : Nat) (h : takesTime s p f = true) (hd : s.tim.stepDue = false)
    (hoff : s.tim.aligned = false ∨ withinNs (timeOffset s f m) (if rxFast s p then 20 else 800) = true) :
    (takeTime s p f m).tim.goodBeats =
        (if withinNs (timeOffset s f m) (if rxFast s p then 10 else 500) then s.tim.goodBeats + 1 else 0) ∧
      (takeTime s p f m).tim.stepDue = false ∧
      (takeTime s p f m).tim.aligned = (s.tim.aligned || decide (4 ≤ (takeTime s p f m).tim.goodBeats)) := by
  obtain ⟨hdue, hal, hgood, -⟩ := timeFaced_tim s p f m
  rw [takeTime_of_takesTime s p f m h, applyOffset_of_near _ _ _ _ (hdue.trans hd) (hal.symm ▸ hoff), steer_tim]
  simp only [beatCounted, hal, hgood, hdue, hd, and_self]

/-! ## What else a time frame brings -/

/-- The mask, the release of results, the report's epoch, the next sequence number and the head's report (11 R410, R411). -/
def timeTold (s : State) (f : Frame) : State :=
  let tseq : BitVec 16 := BitVec.ofNat 16 (leAt f.payload 6 2)
  let s := markUnsched s (maskHas tseq (leAt f.payload 14 2))
  let s := releaseHeld s ((leAt f.payload 0 4 * 24 + byteAt f.payload 4 % 32) % (2 ^ 32 * 24))
  let s := if byteAt f.payload 27 / 32 % 2 = 1 then { s with sch.repEpoch := BitVec.ofNat 32 (leAt f.payload 38 4) } else s
  { s with sch.tseq := tseq, chn.fltRep := if (ownFlt s &&& ~~~ f.flt) = 0 then 0 else s.chn.fltRep }

theorem timeFrame_eq (s : State) (p : Port) (f : Frame) (m : Nat) :
    timeFrame s p f m = takeFree' (timeTold (takeTime (irqRaise (heardFrame s f) 34) p f m) f) f m := rfl

theorem markUnsched_only (s : State) (c : BitVec 16 → Bool) : Only [.sch, .acq] s (markUnsched s c) :=
  Only.of fun p => by
    cases p
    case sch => exact .inl (by decide)
    case acq => exact .inl (by decide)
    all_goals exact .inr rfl

/-- The report's epoch of the frame, where it carries a report. -/
def epochTaken (s : State) (f : Frame) : State :=
  if byteAt f.payload 27 / 32 % 2 = 1 then { s with sch.repEpoch := BitVec.ofNat 32 (leAt f.payload 38 4) } else s

/-- Results are released by the frame, once its mask has marked them (05 R168, R169). -/
def resultsTold (s : State) (f : Frame) : State :=
  releaseHeld (markUnsched s (maskHas (BitVec.ofNat 16 (leAt f.payload 6 2)) (leAt f.payload 14 2)))
    ((leAt f.payload 0 4 * 24 + byteAt f.payload 4 % 32) % (2 ^ 32 * 24))

/-- The sequence number of the frame, and the report of `FLT` that the frame answers. -/
def numberTold (s : State) (f : Frame) : State :=
  { s with sch.tseq := BitVec.ofNat 16 (leAt f.payload 6 2),
           chn.fltRep := if (ownFlt s &&& ~~~ f.flt) = 0 then 0 else s.chn.fltRep }

theorem timeTold_eq (s : State) (f : Frame) : timeTold s f = numberTold (epochTaken (resultsTold s f) f) f := rfl

theorem epochTaken_only (s : State) (f : Frame) : Only [.sch] s (epochTaken s f) := by
  unfold epochTaken
  split
  · exact only_sch (by decide) ..
  · exact Only.refl ..

theorem epochTaken_sch (s : State) (f : Frame) :
    (epochTaken s f).sch = { s.sch with repEpoch := (epochTaken s f).sch.repEpoch } := by
  unfold epochTaken
  split
  · rfl
  · rfl

theorem resultsTold_only (s : State) (f : Frame) : Only [.sch, .acq, .apl, .core] s (resultsTold s f) :=
  ((markUnsched_only ..).mono (by decide)).trans (releaseHeld_only ..)

theorem numberTold_only (s : State) (f : Frame) : Only [.sch, .chn] s (numberTold s f) :=
  Only.of fun p => by
    cases p
    case sch => exact .inl (by decide)
    case chn => exact .inl (by decide)
    all_goals exact .inr rfl

theorem timeTold_only (s : State) (f : Frame) : Only [.sch, .acq, .apl, .core, .chn] s (timeTold s f) :=
  ((resultsTold_only ..).mono (by decide)).trans
    (((epochTaken_only ..).mono (by decide)).trans ((numberTold_only ..).mono (by decide)))

theorem timeTold_chn (s : State) (f : Frame) : (timeTold s f).chn = { s.chn with fltRep := (timeTold s f).chn.fltRep } := by
  have h : (epochTaken (resultsTold s f) f).chn = s.chn :=
    Eq.trans ((epochTaken_only (resultsTold s f) f).same .chn (by decide)) ((resultsTold_only s f).same .chn (by decide))
  rw [timeTold_eq]
  generalize epochTaken (resultsTold s f) f = x at h
  rw [← h]
  rfl

theorem timeTold_sch (s : State) (f : Frame) :
    (timeTold s f).sch.tseq = BitVec.ofNat 16 (leAt f.payload 6 2) ∧ (timeTold s f).sch.missed = s.sch.missed := by
  have hmiss : (epochTaken (resultsTold s f) f).sch.missed = s.sch.missed := by
    rw [epochTaken_sch, resultsTold, releaseHeld_sch]
    rfl
  exact ⟨rfl, hmiss⟩

/-- The state in which a device other than the anchor has taken the time of a frame. -/
def timeTaken (s : State) (p : Port) (f : Frame) (m : Nat) : State := takeTime (irqRaise (frameNoted s f) 34) p f m

theorem timeFrame_of_not_anchor (s : State) (p : Port) (f : Frame) (m : Nat) (ha : isAnchor s = false) :
    timeFrame s p f m = takeFree' (timeTold (timeTaken s p f m) f) f m := by
  rw [timeFrame_eq, heardFrame_of_not_anchor s f ha, timeTaken]

/-- What a device has heard leaves what it takes time by. -/
theorem heard_keeps (s : State) (f : Frame) : Only [.core, .chn, .host, .en] s (irqRaise (frameNoted s f) 34) :=
  ((frameNoted_only ..).mono (by decide)).trans ((irqRaise_only ..).mono (by decide))

theorem timeTaken_only (s : State) (p : Port) (f : Frame) (m : Nat) :
    Only [.freeCtr, .clk, .tim, .sch, .chn, .host, .core, .en] s (timeTaken s p f m) :=
  ((heard_keeps s f).mono (by decide)).trans ((takeTime_only ..).mono (by decide))

theorem timeTaken_chn (s : State) (p : Port) (f : Frame) (m : Nat) : (timeTaken s p f m).chn =
    { s.chn with flts := (f.flt, s.now) :: s.chn.flts.filter (fun x => decide (s.now - x.2 ≤ 10 * ctPerMs)),
                 calValid := s.chn.calValid && s.chn.calEp == f.payload.getD 5 0 } := by
  rw [timeTaken, takeTime_chn, irqRaise_chn, frameNoted_chn]

theorem timeTaken_sch (s : State) (p : Port) (f : Frame) (m : Nat) : (timeTaken s p f m).sch.missed = s.sch.missed := by
  have h : (irqRaise (frameNoted s f) 34).sch = s.sch := (heard_keeps s f).same .sch (by decide)
  rw [timeTaken, (takeTime_held _ p f m).2.2, h]

theorem timeTaken_beat (s : State) (p : Port) (f : Frame) (m : Nat) :
    (timeTaken s p f m).tim.beatAt = some s.now ∧ (timeTaken s p f m).tim.orphaned = false := by
  have hnow : (irqRaise (frameNoted s f) 34).now = s.now := (heard_keeps s f).same .now (by decide)
  obtain ⟨hbeat, horph, -⟩ := takeTime_held (irqRaise (frameNoted s f) 34) p f m
  exact ⟨hnow ▸ hbeat, horph⟩

/-- The part of the chain time that a frame's arrival leaves as it was, by which the frame is judged. -/
theorem heard_judges (s : State) (p : Port) (f : Frame) (m : Nat) :
    takesTime (irqRaise (frameNoted s f) 34) p f = takesTime s p f ∧
      timeOffset (irqRaise (frameNoted s f) 34) f m = timeOffset s f m ∧
      rxFast (irqRaise (frameNoted s f) 34) p = rxFast s p := by
  have hchn : (irqRaise (frameNoted s f) 34).chn = _ := frameNoted_chn s f
  have htim : (irqRaise (frameNoted s f) 34).tim = s.tim := (heard_keeps s f).same .tim (by decide)
  have hnow : (irqRaise (frameNoted s f) 34).now = s.now := (heard_keeps s f).same .now (by decide)
  have hport : portOf (irqRaise (frameNoted s f) 34) p = portOf s p := portOf_of_only (heard_keeps s f) (by decide) (by decide) p
  generalize irqRaise (frameNoted s f) 34 = x at hchn htim hnow hport
  have hboth : beatsBothPorts (noteBeat x p) = beatsBothPorts (noteBeat s p) := by
    cases p <;> simp only [noteBeat, beatsBothPorts, htim, hnow] <;> rfl
  refine ⟨?_, timeOffset_congr (by rw [hchn]) f m, ?_⟩
  · unfold takesTime
    rw [hboth, hchn]
  · unfold rxFast
    rw [hport]

/-! ## The frame's free interval -/

theorem takeFree'_only (s : State) (f : Frame) (m : Nat) : Only [.chn] s (takeFree' s f m) := setFree_only ..

theorem frameBase_congr {s t : State} (hnow : t.now = s.now) (htim : t.tim = s.tim) (hv : t.chn.calValid = s.chn.calValid)
    (f : Frame) (m : Nat) : frameBase t f m = frameBase s f m := by
  simp only [frameBase, nowAt, hnow, htim, hv]

/-- The interval counts from the frame's `TTX`, which taking it leaves (11 R412). -/
theorem takeFree'_interval (s : State) (f : Frame) (m : Nat) :
    (takeFree' s f m).chn.freeFrom = frameBase (takeFree' s f m) f m + usCt (leAt f.payload 20 2) ∧
      (takeFree' s f m).chn.freeTo = (if leAt f.payload 22 2 = 0 then (takeFree' s f m).chn.freeFrom
        else frameBase (takeFree' s f m) f m + usCt (leAt f.payload 20 2 + leAt f.payload 22 2)) := by
  have hbase : frameBase (takeFree' s f m) f m = frameBase s f m :=
    frameBase_congr ((takeFree'_only s f m).same .now (by decide)) ((takeFree'_only s f m).same .tim (by decide)) rfl f m
  rw [hbase]
  exact ⟨rfl, rfl⟩

section TimeFrame

variable {s : State} (ha : isAnchor s = false) (p : Port) (f : Frame) (m : Nat)
include ha

theorem timeFrame_only : Only [.freeCtr, .clk, .tim, .sch, .acq, .chn, .host, .core, .apl, .en] s (timeFrame s p f m) := by
  rw [timeFrame_of_not_anchor s p f m ha]
  exact ((timeTaken_only ..).mono (by decide)).trans
    (((timeTold_only ..).mono (by decide)).trans ((takeFree'_only ..).mono (by decide)))

theorem timeFrame_tim : (timeFrame s p f m).tim = (timeTaken s p f m).tim := by
  rw [timeFrame_of_not_anchor s p f m ha]
  exact Eq.trans ((takeFree'_only (timeTold (timeTaken s p f m) f) f m).same .tim (by decide))
    ((timeTold_only (timeTaken s p f m) f).same .tim (by decide))

theorem timeFrame_sch : (timeFrame s p f m).sch.tseq = BitVec.ofNat 16 (leAt f.payload 6 2) ∧
    (timeFrame s p f m).sch.missed = s.sch.missed := by
  have h : (takeFree' (timeTold (timeTaken s p f m) f) f m).sch = (timeTold (timeTaken s p f m) f).sch :=
    (takeFree'_only _ f m).same .sch (by decide)
  obtain ⟨htseq, hmiss⟩ := timeTold_sch (timeTaken s p f m) f
  rw [timeFrame_of_not_anchor s p f m ha, h]
  exact ⟨htseq, hmiss.trans (timeTaken_sch s p f m)⟩

theorem timeFrame_chn : (timeFrame s p f m).chn.win = s.chn.win ∧
    (timeFrame s p f m).chn.flts.head? = some (f.flt, s.now) ∧
    (timeFrame s p f m).chn.calValid = (s.chn.calValid && s.chn.calEp == f.payload.getD 5 0) := by
  have h : (timeFrame s p f m).chn =
      { (timeTold (timeTaken s p f m) f).chn with freeFrom := (timeFrame s p f m).chn.freeFrom,
                                                  freeTo := (timeFrame s p f m).chn.freeTo } := by
    rw [timeFrame_of_not_anchor s p f m ha]
    rfl
  rw [h, timeTold_chn, timeTaken_chn]
  exact ⟨rfl, rfl, rfl⟩

theorem timeFrame_interval :
    (timeFrame s p f m).chn.freeFrom = frameBase (timeFrame s p f m) f m + usCt (leAt f.payload 20 2) ∧
      (timeFrame s p f m).chn.freeTo = (if leAt f.payload 22 2 = 0 then (timeFrame s p f m).chn.freeFrom
        else frameBase (timeFrame s p f m) f m + usCt (leAt f.payload 20 2 + leAt f.payload 22 2)) := by
  rw [timeFrame_of_not_anchor s p f m ha]
  exact takeFree'_interval _ f m

end TimeFrame

/-! ### The four courses of the chain time at a beat, from the state before the frame -/

section TimeTaken

variable (s : State) (p : Port) (f : Frame) (m : Nat)

theorem heard_tim : (irqRaise (frameNoted s f) 34).tim = s.tim := (heard_keeps s f).same .tim (by decide)

theorem timeTaken_unaligned (h : takesTime s p f = false) :
    (timeTaken s p f m).tim.aligned = false ∧ (timeTaken s p f m).tim.cnt = s.tim.cnt := by
  obtain ⟨htakes, -, -⟩ := heard_judges s p f m
  have hall := takeTime_unaligned (irqRaise (frameNoted s f) 34) p f m (htakes.trans h)
  rwa [heard_tim] at hall

theorem timeTaken_steps (h : takesTime s p f = true) (hd : s.tim.stepDue = true) :
    (timeTaken s p f m).tim.stepDue = false ∧
      (timeTaken s p f m).tim.goodBeats = b2n (withinNs (timeOffset s f m) (if rxFast s p then 10 else 500)) ∧
      (timeTaken s p f m).tim.aligned = s.tim.aligned ∧
      (timeTaken s p f m).tim.cnt = (((s.tim.cnt : Int) + (timeOffset s f m + 192) / 384 * 24) % (2 ^ 32 * 24)).toNat := by
  obtain ⟨htakes, hoff, hfast⟩ := heard_judges s p f m
  have hall := takeTime_steps (irqRaise (frameNoted s f) 34) p f m (htakes.trans h) (by rw [heard_tim, hd])
  rwa [heard_tim, hoff, hfast] at hall

theorem timeTaken_loses (h : takesTime s p f = true) (hd : s.tim.stepDue = false) (hal : s.tim.aligned = true)
    (hfar : withinNs (timeOffset s f m) (if rxFast s p then 20 else 800) = false) :
    (timeTaken s p f m).tim.aligned = false ∧ (timeTaken s p f m).tim.stepDue = true ∧
      (timeTaken s p f m).tim.cnt = s.tim.cnt := by
  obtain ⟨htakes, hoff, hfast⟩ := heard_judges s p f m
  have hall := takeTime_loses (irqRaise (frameNoted s f) 34) p f m (htakes.trans h) (by rw [heard_tim, hd])
    (by rw [heard_tim, hal]) (by rw [hoff, hfast, hfar])
  rwa [heard_tim] at hall

theorem timeTaken_counts (h : takesTime s p f = true) (hd : s.tim.stepDue = false)
    (hnear : s.tim.aligned = false ∨ withinNs (timeOffset s f m) (if rxFast s p then 20 else 800) = true) :
    (timeTaken s p f m).tim.goodBeats =
        (if withinNs (timeOffset s f m) (if rxFast s p then 10 else 500) then s.tim.goodBeats + 1 else 0) ∧
      (timeTaken s p f m).tim.stepDue = false ∧
      (timeTaken s p f m).tim.aligned = (s.tim.aligned || decide (4 ≤ (timeTaken s p f m).tim.goodBeats)) := by
  obtain ⟨htakes, hoff, hfast⟩ := heard_judges s p f m
  have hall := takeTime_counts (irqRaise (frameNoted s f) 34) p f m (htakes.trans h) (by rw [heard_tim, hd])
    (by rw [heard_tim, hoff, hfast]; exact hnear)
  rwa [heard_tim, hoff, hfast] at hall

end TimeTaken

/-! ## A tick frame: its tick and its window -/

theorem takeWindow_only (s : State) (f : Frame) (m : Nat) : Only [.chn] s (takeWindow s f m) := by
  unfold takeWindow
  dsimp only
  split
  · exact Only.refl ..
  · exact only_chn (by decide) ..

/-- A frame of no mode or of a reserved code announces none (log 106). -/
theorem takeWindow_of_none (s : State) (f : Frame) (m : Nat)
    (h : byteAt f.payload 12 / 16 % 4 = 0 ∨ byteAt f.payload 12 / 16 % 4 = 3 ∨ byteAt f.payload 12 / 64 = 3) :
    takeWindow s f m = s := by
  unfold takeWindow
  exact if_pos (by simpa [or_assoc] using h)

theorem takeWindow_win (s : State) (f : Frame) (m : Nat) (h0 : byteAt f.payload 12 / 16 % 4 ≠ 0)
    (h3 : byteAt f.payload 12 / 16 % 4 ≠ 3) (hk : byteAt f.payload 12 / 64 ≠ 3) :
    (takeWindow s f m).chn.win = some
      { mode := BitVec.ofNat 2 (byteAt f.payload 12 / 16 % 4), kind := BitVec.ofNat 2 (byteAt f.payload 12 / 64),
        count := f.payload.getD 13 0, ofs := BitVec.ofNat 16 (leAt f.payload 16 2),
        slot := BitVec.ofNat 16 (leAt f.payload 18 2),
        start := frameBase s f m + nsCt (40 * leAt f.payload 16 2), done := false, swept := false } := by
  unfold takeWindow
  dsimp only
  rw [if_neg (by simp [h0, h3, hk])]

/-- The tick that a frame announces (11 Table 11-6). -/
def frameTick (f : Frame) : Tick :=
  { tseq := BitVec.ofNat 16 (leAt f.payload 6 2), instant := BitVec.ofNat 32 (leAt f.payload 8 4),
    point := BitVec.ofNat 4 (byteAt f.payload 12), hold := byteAt f.payload 4 / 32 % 2 == 1, sent := true, late := false }

/-- The tick stands at the end of the queue, and no older one of its number does. -/
def tickQueued (s : State) (f : Frame) : State :=
  { s with sch.ticks := (s.sch.ticks.filter fun u => u.tseq != (frameTick f).tseq) ++ [frameTick f],
           sch.tseq := (frameTick f).tseq + 1 }

/-- The tick came too late, and is counted (05 R165). -/
def tickMissed (s : State) (f : Frame) : State :=
  { s with sch.missed := satInc s.sch.missed, sch.tseq := (frameTick f).tseq + 1 }

theorem takeTick_of_inTime (s : State) (f : Frame) (h : inTime s (frameTick f).instant = true) :
    takeTick s f = blankForTick (tickQueued s f) := by
  unfold takeTick
  exact if_pos h

theorem takeTick_of_late (s : State) (f : Frame) (h : inTime s (frameTick f).instant = false) :
    takeTick s f = tickMissed s f := by
  unfold takeTick
  exact if_neg (Bool.eq_false_iff.mp h)

theorem tickQueued_only (s : State) (f : Frame) : Only [.sch] s (tickQueued s f) := only_sch (by decide) ..

theorem tickMissed_only (s : State) (f : Frame) : Only [.sch] s (tickMissed s f) := only_sch (by decide) ..

theorem takeTick_only (s : State) (f : Frame) : Only [.sch, .acq, .bal] s (takeTick s f) := by
  cases h : inTime s (frameTick f).instant
  case true =>
    rw [takeTick_of_inTime s f h]
    exact ((tickQueued_only s f).mono (by decide)).trans ((blankForTick_only _).mono (by decide))
  case false =>
    rw [takeTick_of_late s f h]
    exact (tickMissed_only s f).mono (by decide)

theorem takeTick_sch_of_inTime (s : State) (f : Frame) (h : inTime s (frameTick f).instant = true) :
    (takeTick s f).sch = (tickQueued s f).sch := by
  rw [takeTick_of_inTime s f h]
  exact (blankForTick_only (tickQueued s f)).same .sch (by decide)

theorem takeTick_tseq (s : State) (f : Frame) : (takeTick s f).sch.tseq = (frameTick f).tseq + 1 := by
  cases h : inTime s (frameTick f).instant
  case true => rw [takeTick_sch_of_inTime s f h]; rfl
  case false => rw [takeTick_of_late s f h]; rfl

theorem inTime_congr {s t : State} (h : t.tim = s.tim) (inst : Word) : inTime t inst = inTime s inst := by
  have hahead : ctAhead t inst = ctAhead s inst := by
    unfold ctAhead chainMp
    rw [h]
  rw [inTime, hahead, inTime]

/-! ## A cancellation -/

/-- A cancelled tick that lies ahead leaves the queue (05 R168). -/
def tickStopped (s : State) (n : BitVec 16) : State :=
  { s with sch.ticks := s.sch.ticks.filter fun t => !(t.tseq == n && inTime s t.instant) }

theorem tickStopped_only (s : State) (n : BitVec 16) : Only [.sch] s (tickStopped s n) := only_sch (by decide) ..

theorem markUnsched_tick (s : State) (c : BitVec 16 → Bool) {k : Tick} (hk : k ∈ (markUnsched s c).sch.ticks)
    (hc : c k.tseq = true) : k.late = true ∧ ∃ t ∈ s.sch.ticks, t.tseq = k.tseq ∧ t.instant = k.instant := by
  obtain ⟨t, ht, rfl⟩ := List.mem_map.mp hk
  by_cases h : c t.tseq = true
  · rw [if_pos h]
    exact ⟨rfl, t, ht, rfl, rfl⟩
  · rw [if_neg h] at hc
    exact absurd hc h

theorem markUnsched_keeps_tick (s : State) (c : BitVec 16 → Bool) {k : Tick} (hk : k ∈ s.sch.ticks) (hc : c k.tseq = false) :
    k ∈ (markUnsched s c).sch.ticks :=
  List.mem_map.mpr ⟨k, hk, by simp [hc]⟩

theorem markUnsched_snap (s : State) (c : BitVec 16 → Bool) {k : Snapshot}
    (hk : k ∈ (markUnsched s c).acq.kept ++ (markUnsched s c).acq.held) (h0 : k.source = 0) (hc : c k.seq = true) :
    k.unsched = true := by
  have hx : ∃ x : Snapshot, (if x.source = 0 ∧ c x.seq = true then { x with unsched := true } else x) = k := by
    obtain hk | hk := List.mem_append.mp hk
    · obtain ⟨x, -, hx⟩ := List.mem_map.mp hk
      exact ⟨x, hx⟩
    · obtain ⟨x, -, hx⟩ := List.mem_map.mp hk
      exact ⟨x, hx⟩
  obtain ⟨x, rfl⟩ := hx
  by_cases h : x.source = 0 ∧ c x.seq = true
  · rw [if_pos h]
  · rw [if_neg h] at h0 hc
    exact absurd ⟨h0, hc⟩ h

theorem markUnsched_span (s : State) (c : BitVec 16 → Bool) {k : Span} (hk : k ∈ (markUnsched s c).acq.spans)
    (h0 : k.source = 0) (hc : c k.seq = true) : k.unsched = true := by
  obtain ⟨x, -, rfl⟩ := List.mem_map.mp hk
  by_cases h : x.source = 0 ∧ c x.seq = true
  · rw [if_pos h]
  · rw [if_neg h] at h0 hc
    exact absurd ⟨h0, hc⟩ h

/-! ## A second anchor -/

theorem jrnPut_incident_mem (s : State) (ty : Byte) (d : List Byte) : mkEntry s true ty d ∈ (jrnPut s true ty d).jrn.queue := by
  unfold jrnPut jrnQueue
  split
  · exact List.mem_append_right _ (List.mem_singleton_self _)
  · split
    case _ e q _ =>
      have h (x : State) : (noteDiscard x e).jrn.queue = x.jrn.queue := by
        unfold noteDiscard
        dsimp only
        split
        · rfl
        · rw [replyErr_jrn]
      rw [h]
      exact List.mem_append_right _ (List.mem_singleton_self _)
    · have hinc : (mkEntry s true ty d).inc = true := rfl
      rw [if_pos hinc]
      exact List.mem_append_right _ (List.mem_singleton_self _)

theorem endEnabling_conflict (s : State) (c : Nat) : (endEnabling s c).tq.conflict = s.tq.conflict := by
  have h : (endEnabling s c).tq = _ :=
    (foldl_keeps (·.tq) _ (fun _ _ => replyErr_tq ..) _ _).trans (tqRemove_tq ..)
  rw [h]

theorem tqImmediate_conflict (s : State) (c : Nat) : (tqImmediate s c).tq.conflict = s.tq.conflict := by
  unfold tqImmediate
  split
  · rfl
  · split
    · exact endEnabling_conflict s c
    · split
      · rw [tqRemove_tq]
      · rfl

theorem causeHeard_conflict (s : State) (b : Bool) (c : Nat) : (causeHeard s b c).tq.conflict = s.tq.conflict := by
  unfold causeHeard
  split
  · exact tqImmediate_conflict s c
  · rfl

theorem heardFrame_conflict (s : State) (f : Frame) : (heardFrame s f).tq.conflict = s.tq.conflict := by
  have h : (frameNoted s f).tq = s.tq := (frameNoted_only s f).same .tq (by decide)
  rw [heardFrame_eq, causeHeard_conflict, causeHeard_conflict, h]

/-- Torque is driven, being enabled, or has been removed at once. -/
def TorqueEnds (s : State) : Prop :=
  (torqueOn s = true ∨ s.tq.enabling ≠ []) ∨ (s.tq.ten = false ∧ s.tq.rd = .removed)

/-- A cause of the course "immediate" leaves torque removed, also where an earlier one has removed it. -/
theorem tqImmediate_removed (s : State) (c : Nat) (ha : isAnchor s = true) (h : TorqueEnds s) :
    (tqImmediate s c).tq.ten = false ∧ (tqImmediate s c).tq.rd = .removed := by
  by_cases ht : torqueOn s = true ∨ s.tq.enabling ≠ []
  · exact tqImmediate_removes s c ha ht
  · rw [not_or, Bool.not_eq_true, not_not] at ht
    rw [tqImmediate_idle s c (.inr ht)]
    exact h.resolve_left (by simp [ht])

theorem causeHeard_ends (s : State) (b : Bool) (c : Nat) (ha : isAnchor s = true) (h : TorqueEnds s) :
    TorqueEnds (causeHeard s b c) := by
  unfold causeHeard
  split
  · exact .inr (tqImmediate_removed s c ha h)
  · exact h

theorem heardFrame_ends (s : State) (f : Frame) (ha : isAnchor s = true) (h : TorqueEnds s) : TorqueEnds (heardFrame s f) := by
  have htq : (frameNoted s f).tq = s.tq := (frameNoted_only s f).same .tq (by decide)
  have hn : isAnchor (frameNoted s f) = true := (isAnchor_of_only (frameNoted_only s f) (by decide)).trans ha
  have hends : TorqueEnds (frameNoted s f) := by simpa only [TorqueEnds, torqueOn, htq] using h
  have hc : isAnchor (causeHeard (frameNoted s f) (f.flt.getLsbD 1) 9) = true :=
    (isAnchor_of_only (causeHeard_only ..) (by decide)).trans hn
  exact causeHeard_ends _ _ _ hc (causeHeard_ends _ _ _ hn hends)

/-- Torque is removed for the conflict of two anchors (16 R596). -/
def conflictStopped (s : State) : State := tqImmediate { s with tq.conflict := true } 18

/-- What the incident's record tells: the frame's type and the port it came by. -/
def conflictData (p : Port) (f : Frame) : List Byte := [BitVec.ofNat 8 f.type.toNat, if p = .south then 0 else 1]

theorem anchorConflict_eq (s : State) (p : Port) (f : Frame) (h : s.tq.conflict = false) :
    anchorConflict s p f = noteConditions (jrnPut (conflictStopped s) true 0x15 (conflictData p f)) := by
  unfold anchorConflict
  exact if_neg (Bool.eq_false_iff.mp h)

theorem conflictStopped_only (s : State) : Only (.tq :: journalParts) s (conflictStopped s) :=
  (only_tq (by decide) ..).trans (tqImmediate_only ..)

theorem conflictStopped_conflict (s : State) : (conflictStopped s).tq.conflict = true := tqImmediate_conflict _ 18

theorem conflictStopped_removed (s : State) (ha : isAnchor s = true) (h : TorqueEnds s) :
    (conflictStopped s).tq.ten = false ∧ (conflictStopped s).tq.rd = .removed := tqImmediate_removed _ 18 ha h

theorem ownFault_of_conflict (s : State) (h : s.tq.conflict = true) : ownFault s = true := by
  simp [ownFault, fwCond, h]

/-! ## The commands -/

theorem exec_beatReceived (s : State) (p : Port) (f : Frame) (m : Nat) (ha : active s = true) (hl : f.payload.length = 42) :
    exec (.beatReceived p f m) s =
      .next (if isAnchor s then anchorConflict (heardFrame s f) p f else timeFrame s p f m) := by
  show execBeatReceived p f m s = _
  unfold execBeatReceived
  rw [if_neg (by simp [ha, hl])]
  exact (apply_ite _ _ _ _).symm

theorem exec_tickReceived (s : State) (p : Port) (f : Frame) (m : Nat) (ha : active s = true) (hl : f.payload.length = 42) :
    exec (.tickReceived p f m) s =
      .next (if isAnchor s then anchorConflict (heardFrame s f) p f
        else takeTick (takeWindow (timeFrame s p f m) f m) f) := by
  show execTickReceived p f m s = _
  unfold execTickReceived
  rw [if_neg (by simp [ha, hl])]
  exact (apply_ite _ _ _ _).symm

theorem exec_cancelReceived (s : State) (p : Port) (f : Frame) (ha : active s = true) (hl : f.payload.length = 4) :
    exec (.cancelReceived p f) s =
      .next (if isAnchor s then anchorConflict (heardFrame s f) p f
        else markUnsched (tickStopped (irqRaise (heardFrame s f) 34) (BitVec.ofNat 16 (leAt f.payload 0 2)))
          (fun n => n == BitVec.ofNat 16 (leAt f.payload 0 2))) := by
  show execCancelReceived p f s = _
  unfold execCancelReceived
  rw [if_neg (by simp [ha, hl])]
  exact (apply_ite _ _ _ _).symm

theorem timeFrames_of_length (s : State) (p : Port) (f : Frame) (m : Nat) (hl : f.payload.length ≠ 42) :
    Idle (.tickReceived p f m) s ∧ Idle (.beatReceived p f m) s :=
  ⟨if_pos (by simp [hl]), if_pos (by simp [hl])⟩

theorem cancelReceived_of_length (s : State) (p : Port) (f : Frame) (hl : f.payload.length ≠ 4) : Idle (.cancelReceived p f) s :=
  if_pos (by simp [hl])

theorem timeFrames_of_inactive (s : State) (p : Port) (f : Frame) (m : Nat) (ha : active s = false) :
    Idle (.tickReceived p f m) s ∧ Idle (.beatReceived p f m) s ∧ Idle (.cancelReceived p f) s :=
  ⟨if_pos (by simp [ha]), if_pos (by simp [ha]), if_pos (by simp [ha])⟩

/-- Any time frame at an anchor shows it a second one. -/
theorem exec_timeFrame_of_anchor (s : State) (p : Port) (f : Frame) (m : Nat) (c : Instr) (ha : active s = true)
    (han : isAnchor s = true) (hc : f.payload.length = 42 ∧ (c = .tickReceived p f m ∨ c = .beatReceived p f m) ∨
      f.payload.length = 4 ∧ c = .cancelReceived p f) :
    exec c s = .next (anchorConflict (heardFrame s f) p f) := by
  obtain ⟨hl, rfl | rfl⟩ | ⟨hl, rfl⟩ := hc
  · rw [exec_tickReceived s p f m ha hl, if_pos han]
  · rw [exec_beatReceived s p f m ha hl, if_pos han]
  · rw [exec_cancelReceived s p f ha hl, if_pos han]

theorem beatReceived_takes (s : State) (p : Port) (f : Frame) (m : Nat) (ha : active s = true) (han : isAnchor s = false)
    (hl : f.payload.length = 42) : Does (.beatReceived p f m) s fun t =>
    let off := timeOffset s f m
    let el2 := (portOf s p).rx == some .el2
    let alone := s.chn.calValid && s.chn.calEp == f.payload.getD 5 0 && !beatsBothPorts (noteBeat s p)
    let good := withinNs off (if el2 then 10 else 500)
    t = timeFrame s p f m ∧ t.tim.beatAt = some s.now ∧ t.tim.orphaned = false ∧
      t.sch.tseq = BitVec.ofNat 16 (leAt f.payload 6 2) ∧ t.chn.win = s.chn.win ∧ t.chn.flts.head? = some (f.flt, s.now) ∧
      t.chn.calValid = (s.chn.calValid && s.chn.calEp == f.payload.getD 5 0) ∧
      t.chn.freeFrom = frameBase t f m + usCt (leAt f.payload 20 2) ∧
      t.chn.freeTo = (if leAt f.payload 22 2 = 0 then t.chn.freeFrom
        else frameBase t f m + usCt (leAt f.payload 20 2 + leAt f.payload 22 2)) ∧
      (alone = false → t.tim.aligned = false ∧ t.tim.cnt = s.tim.cnt) ∧
      (alone = true → s.tim.stepDue = true → t.tim.stepDue = false ∧ t.tim.goodBeats = b2n good ∧ t.tim.aligned = s.tim.aligned ∧
        t.tim.cnt = (((s.tim.cnt : Int) + (off + 192) / 384 * 24) % (2 ^ 32 * 24)).toNat) ∧
      (alone = true → s.tim.stepDue = false → s.tim.aligned = true → withinNs off (if el2 then 20 else 800) = false →
        t.tim.aligned = false ∧ t.tim.stepDue = true ∧ t.tim.cnt = s.tim.cnt) ∧
      (alone = true → s.tim.stepDue = false → (s.tim.aligned = false ∨ withinNs off (if el2 then 20 else 800) = true) →
        t.tim.goodBeats = (if good then s.tim.goodBeats + 1 else 0) ∧ t.tim.stepDue = false ∧
          t.tim.aligned = (s.tim.aligned || decide (4 ≤ t.tim.goodBeats))) ∧
      Only [.freeCtr, .clk, .tim, .sch, .acq, .chn, .host, .core, .apl, .en] s t := by
  have hexec := exec_beatReceived s p f m ha hl
  rw [if_neg (Bool.eq_false_iff.mp han)] at hexec
  obtain ⟨hbeat, horph⟩ := timeTaken_beat s p f m
  obtain ⟨hwin, hflts, hvalid⟩ := timeFrame_chn han p f m
  obtain ⟨hfrom, hto⟩ := timeFrame_interval han p f m
  refine ⟨timeFrame s p f m, hexec, ?_⟩
  dsimp only
  rw [timeFrame_tim han p f m]
  exact ⟨rfl, hbeat, horph, (timeFrame_sch han p f m).1, hwin, hflts, hvalid, hfrom, hto, timeTaken_unaligned s p f m,
    timeTaken_steps s p f m, timeTaken_loses s p f m, timeTaken_counts s p f m, timeFrame_only han p f m⟩

theorem tickReceived_takes (s : State) (p : Port) (f : Frame) (m : Nat) (ha : active s = true) (han : isAnchor s = false)
    (hl : f.payload.length = 42) : Does (.tickReceived p f m) s fun t =>
    let u := timeFrame s p f m
    let inst : Word := BitVec.ofNat 32 (leAt f.payload 8 4)
    let mode := byteAt f.payload 12 / 16 % 4
    let kind := byteAt f.payload 12 / 64
    t.sch.tseq = BitVec.ofNat 16 (leAt f.payload 6 2) + 1 ∧ t.tim = u.tim ∧ t.clk = u.clk ∧
      (inTime u inst = true → t.sch.missed = s.sch.missed ∧ t.bal.closed = 0 ∧ t.bal.testRun = 0 ∧
        t.sch.ticks = (u.sch.ticks.filter fun k => k.tseq != BitVec.ofNat 16 (leAt f.payload 6 2)) ++
          [{ tseq := BitVec.ofNat 16 (leAt f.payload 6 2), instant := inst, point := BitVec.ofNat 4 (byteAt f.payload 12),
             hold := byteAt f.payload 4 / 32 % 2 == 1, sent := true, late := false }]) ∧
      (inTime u inst = false → t.sch.missed = satInc s.sch.missed ∧ t.bal = s.bal ∧ t.sch.ticks = u.sch.ticks) ∧
      (mode ≠ 0 → mode ≠ 3 → kind ≠ 3 → ∃ w, t.chn.win = some w ∧ w.count = f.payload.getD 13 0 ∧ w.done = false ∧
        w.swept = false ∧ w.mode = BitVec.ofNat 2 mode ∧ w.kind = BitVec.ofNat 2 kind ∧
        w.slot = BitVec.ofNat 16 (leAt f.payload 18 2) ∧ w.start = frameBase u f m + nsCt (40 * leAt f.payload 16 2)) ∧
      (mode = 0 ∨ mode = 3 ∨ kind = 3 → t.chn = u.chn) ∧
      Only [.freeCtr, .clk, .tim, .sch, .acq, .bal, .chn, .host, .core, .apl, .en] s t := by
  have hexec := exec_tickReceived s p f m ha hl
  rw [if_neg (Bool.eq_false_iff.mp han)] at hexec
  refine ⟨_, hexec, ?_⟩
  obtain ⟨-, hmissed⟩ := timeFrame_sch han p f m
  have hframe := timeFrame_only han p f m
  generalize timeFrame s p f m = u at hmissed hframe
  have hwin := takeWindow_only u f m
  have hsch : (takeWindow u f m).sch = u.sch := hwin.same .sch (by decide)
  have htim : (takeWindow u f m).tim = u.tim := hwin.same .tim (by decide)
  have hbal : (takeWindow u f m).bal = s.bal := Eq.trans (hwin.same .bal (by decide)) (hframe.same .bal (by decide))
  have hin : inTime (takeWindow u f m) (frameTick f).instant = inTime u (frameTick f).instant := inTime_congr htim _
  have htick := takeTick_only (takeWindow u f m) f
  have hchn : (takeTick (takeWindow u f m) f).chn = (takeWindow u f m).chn := htick.same .chn (by decide)
  refine ⟨takeTick_tseq _ f, Eq.trans (htick.same .tim (by decide)) htim,
    Eq.trans (htick.same .clk (by decide)) (hwin.same .clk (by decide)), fun h => ?ahead, fun h => ?late,
    fun h0 h3 hk => ?win, fun h => ?none,
    (hframe.mono (by decide)).trans ((hwin.mono (by decide)).trans (htick.mono (by decide)))⟩
  case ahead =>
    have ht := hin.trans h
    have hq : (tickQueued (takeWindow u f m) f).sch.missed = u.sch.missed := congrArg (·.missed) hsch
    obtain ⟨hclosed, htest⟩ := blankForTick_bal (tickQueued (takeWindow u f m) f)
    rw [takeTick_sch_of_inTime _ f ht, takeTick_of_inTime _ f ht]
    refine ⟨hq.trans hmissed, hclosed, htest, ?_⟩
    simp only [tickQueued, hsch, frameTick]
  case late =>
    rw [takeTick_of_late _ f (hin.trans h)]
    refine ⟨?_, hbal, congrArg (·.ticks) hsch⟩
    simp only [tickMissed, hsch, hmissed]
  case win =>
    rw [hchn]
    exact ⟨_, takeWindow_win u f m h0 h3 hk, rfl, rfl, rfl, rfl, rfl, rfl, rfl⟩
  case none => rw [hchn, takeWindow_of_none u f m h]

theorem cancelReceived_takes (s : State) (p : Port) (f : Frame) (ha : active s = true) (han : isAnchor s = false)
    (hl : f.payload.length = 4) : Does (.cancelReceived p f) s fun t =>
    let n : BitVec 16 := BitVec.ofNat 16 (leAt f.payload 0 2)
    (∀ k ∈ t.sch.ticks, k.tseq = n → k.late = true ∧ inTime s k.instant = false) ∧
      (∀ k ∈ s.sch.ticks, k.tseq ≠ n → k ∈ t.sch.ticks) ∧
      (∀ k ∈ t.acq.kept ++ t.acq.held, k.source = 0 → k.seq = n → k.unsched = true) ∧
      (∀ k ∈ t.acq.spans, k.source = 0 → k.seq = n → k.unsched = true) ∧ t.tim = s.tim ∧ t.bal = s.bal ∧
      Only [.chn, .host, .core, .sch, .acq, .en] s t := by
  have hexec := exec_cancelReceived s p f ha hl
  rw [if_neg (Bool.eq_false_iff.mp han), heardFrame_of_not_anchor s f han] at hexec
  refine ⟨_, hexec, ?_⟩
  have hheard := heard_keeps s f
  have htim : (irqRaise (frameNoted s f) 34).tim = s.tim := hheard.same .tim (by decide)
  have hsch : (irqRaise (frameNoted s f) 34).sch = s.sch := hheard.same .sch (by decide)
  generalize irqRaise (frameNoted s f) 34 = h at hheard htim hsch
  dsimp only
  generalize BitVec.ofNat 16 (leAt f.payload 0 2) = n
  have honly : Only [.chn, .host, .core, .sch, .acq, .en] s (markUnsched (tickStopped h n) fun m => m == n) :=
    (hheard.mono (by decide)).trans (((tickStopped_only h n).mono (by decide)).trans ((markUnsched_only ..).mono (by decide)))
  refine ⟨fun k hk hn => ?marked, fun k hk hn => ?kept, fun k hk h0 hn => markUnsched_snap _ _ hk h0 (beq_iff_eq.mpr hn),
    fun k hk h0 hn => markUnsched_span _ _ hk h0 (beq_iff_eq.mpr hn), honly.same .tim (by decide), honly.same .bal (by decide),
    honly⟩
  case marked =>
    obtain ⟨hlate, x, hx, htseq, hinst⟩ := markUnsched_tick _ _ hk (beq_iff_eq.mpr hn)
    have hstays : (!(x.tseq == n && inTime h x.instant)) = true := (List.mem_filter.mp hx).2
    rw [htseq, hn, beq_self_eq_true, Bool.true_and, Bool.not_eq_true', hinst, inTime_congr htim] at hstays
    exact ⟨hlate, hstays⟩
  case kept =>
    have hne : (k.tseq == n) = false := beq_false_of_ne hn
    refine markUnsched_keeps_tick _ _ (List.mem_filter.mpr ⟨hsch ▸ hk, ?_⟩) hne
    rw [hne, Bool.false_and, Bool.not_false]

theorem timeFrame_atAnchor (s : State) (p : Port) (f : Frame) (m : Nat) (c : Instr) (ha : active s = true)
    (han : isAnchor s = true) (hcf : s.tq.conflict = false)
    (hc : f.payload.length = 42 ∧ (c = .tickReceived p f m ∨ c = .beatReceived p f m) ∨
      f.payload.length = 4 ∧ c = .cancelReceived p f) : Does c s fun t =>
      t.tq.conflict = true ∧ ownFault t = true ∧ t.tim = s.tim ∧ t.sch = s.sch ∧
        ((torqueOn s = true ∨ s.tq.enabling ≠ []) → t.tq.ten = false ∧ t.tq.rd = .removed) ∧
        mkEntry s true 0x15 [BitVec.ofNat 8 f.type.toNat, if p = .south then 0 else 1] ∈ t.jrn.queue ∧
        Only (.tq :: .prot :: .en :: journalParts) s t := by
  have hexec := exec_timeFrame_of_anchor s p f m c ha han hc
  rw [anchorConflict_eq _ p f ((heardFrame_conflict s f).trans hcf)] at hexec
  refine ⟨_, hexec, ?_⟩
  have hheard := heardFrame_only s f
  have hends := heardFrame_ends s f han
  have hanchor : isAnchor (heardFrame s f) = true := (isAnchor_of_only hheard (by decide)).trans han
  generalize heardFrame s f = h at hheard hends hanchor
  have hstop : Only (.tq :: .en :: journalParts) s (conflictStopped h) :=
    hheard.trans ((conflictStopped_only h).mono (by decide))
  have hconf := conflictStopped_conflict h
  have hgone := conflictStopped_removed h hanchor
  generalize conflictStopped h = x at hstop hconf hgone
  have hput := jrnPut_only x true 0x15 (conflictData p f)
  have hmem := jrnPut_incident_mem x 0x15 (conflictData p f)
  have htq : (jrnPut x true 0x15 (conflictData p f)).tq = x.tq := hput.same .tq (by decide)
  generalize jrnPut x true 0x15 (conflictData p f) = y at hput hmem htq
  have hcond := noteConditions_only y
  have hytq : (noteConditions y).tq = x.tq := Eq.trans (hcond.same .tq (by decide)) htq
  have hjrn : (noteConditions y).jrn = y.jrn := hcond.same .jrn (by decide)
  have honly : Only (.tq :: .prot :: .en :: journalParts) s (noteConditions y) :=
    (hstop.mono (by decide)).trans ((hput.mono (by decide)).trans (hcond.mono (by decide)))
  have hconflict : (noteConditions y).tq.conflict = true := by rw [hytq, hconf]
  refine ⟨hconflict, ownFault_of_conflict _ hconflict, honly.same .tim (by decide), honly.same .sch (by decide),
    fun ht => hytq ▸ hgone (hends (.inl ht)), ?_, honly⟩
  rw [hjrn, ← mkEntry_of_only hstop (by decide) true 0x15 _]
  exact hmem

/-- Settles O32: the chain time that a frame brings is `timeTaken`, of which each course of the statement is a lemma; at an anchor
every time frame ends in `anchorConflict`. -/
theorem timeFramesReceived : Obligations.TimeFramesReceived :=
  ⟨beatReceived_takes, tickReceived_takes, cancelReceived_takes, fun s p f m => timeFrames_of_length s p f m,
    cancelReceived_of_length, timeFrames_of_inactive, timeFrame_atAnchor⟩

end Sys2Proof.Machine

/-! PROOFS. One period of the strobe distributor (O8): the clock advances, and on a running device each unit takes its ct. -/

namespace Sys2Proof.Machine

open Sys2Proof

/-! ## What each unit's ct touches -/

theorem tickCycle_only (s : State) : Only [.core] s (tickCycle s) := by
  unfold tickCycle
  split
  · exact Only.refl ..
  · exact only_core (by decide) ..

theorem tickCycle_core (s : State) : (tickCycle s).core =
    { s.core with cycle := (tickCycle s).core.cycle, cycleFrac := (tickCycle s).core.cycleFrac } := by
  unfold tickCycle
  split
  · rfl
  · rfl

/-- 125 cycles of the core in 256 ct (05 Table 5-1). -/
theorem tickCycle_counts (s : State) (h : s.core.waiting = false) :
    (tickCycle s).core.cycleFrac = (s.core.cycleFrac + 125) % 256 ∧
      (tickCycle s).core.cycle = (if s.core.cycleFrac + 125 < 256 then s.core.cycle else s.core.cycle + 1) := by
  unfold tickCycle
  rw [if_neg (Bool.eq_false_iff.mp h)]
  exact ⟨rfl, rfl⟩

theorem tickMs_only (s : State) : Only [.core] s (tickMs s) := by
  unfold tickMs
  split
  · exact irqRaise_only ..
  · exact Only.refl ..

theorem tickMs_core (s : State) : (tickMs s).core = { s.core with ipend := (tickMs s).core.ipend } := by
  unfold tickMs
  split
  · rfl
  · rfl

theorem tickClk_only (s : State) : Only [.clk, .freeCtr] s (tickClk s) := (only_clk (by decide) ..).trans (setRef_only _)

theorem tickClk_clk (s : State) : (tickClk s).clk =
    { s.clk with freq := slew s.clk.freq s.clk.goal s.clk.rate, refSel := (tickClk s).clk.refSel,
                 goal := (tickClk s).clk.goal, rate := (tickClk s).clk.rate } := by
  have h : (tickClk s).clk = _ := setRef_clk _
  rw [h]

/-- The output moves by no more than its slew (05 R131). -/
theorem slew_bound (f g : Int) (r : Nat) : (slew f g r - f).natAbs ≤ r := by
  unfold slew
  split
  · omega
  · split
    · omega
    · omega

theorem advance_only (s : State) (n : Nat) (c : Bool) : Only [.ph, .sch] s (advance s n c) :=
  ((leavePoints_only ..).mono (by decide)).trans (only_ph (by decide) ..)

theorem retreat_only (s : State) (n : Nat) : Only [.ph, .sch] s (retreat s n) :=
  ((leavePoints_only ..).mono (by decide)).trans (only_ph (by decide) ..)

theorem tickPhase_only (s : State) : Only [.ph, .sch] s (tickPhase s) := by
  have hacc (x : PhUnit) : Only [.ph, .sch] s { s with ph := x } := only_ph (by decide) ..
  unfold tickPhase
  split
  · exact Only.refl ..
  · split
    · exact Only.refl ..
    · dsimp only
      split
      · exact hacc _
      · split
        · exact (hacc _).trans (retreat_only ..)
        · exact (hacc _).trans (advance_only ..)

theorem tickTest_only (s : State) : Only [.bal] s (tickTest s) := by
  unfold tickTest
  dsimp only
  split
  · exact Only.refl ..
  · split
    · exact only_bal (by decide) ..
    · split
      · exact only_bal (by decide) ..
      · exact only_bal (by decide) ..

theorem tickBal_only (s : State) : Only [.bal] s (tickBal s) := by
  unfold tickBal
  dsimp only
  split
  · exact tickTest_only s
  · exact (tickTest_only s).trans (only_bal (by decide) ..)

theorem owNext_only (s : State) : Only [.acq] s (owNext s) := by
  unfold owNext
  split
  · exact only_acq (by decide) ..
  · exact (markSpans_only ..).trans (only_acq (by decide) ..)
  · exact only_acq (by decide) ..
  · exact (noteDist_only ..).trans (only_acq (by decide) ..)
  · exact Only.refl ..

theorem tickOw_only (s : State) : Only [.acq] s (tickOw s) := by
  unfold tickOw
  split
  · exact Only.refl ..
  · split
    · split
      · exact owNext_only s
      · exact Only.refl ..
    · split
      · exact owNext_only s
      · exact Only.refl ..

theorem tickApl_only (s : State) : Only [.apl] s (tickApl s) := by
  unfold tickApl
  split
  · exact only_apl (by decide) ..
  · exact Only.refl ..

theorem tickApl_apl (s : State) : (tickApl s).apl = { s.apl with charge := (tickApl s).apl.charge } := by
  unfold tickApl
  split
  · rfl
  · rfl

theorem tickApl_charge (s : State) : s.apl.charge ≤ (tickApl s).apl.charge := by
  unfold tickApl
  split
  · exact Nat.le_succ _
  · exact Nat.le_refl _

/-! ## The balancing switches: conduction, and switches that open -/

theorem tickTest_keeps (s : State) : (tickTest s).bal.closed = s.bal.closed ∧ (tickTest s).bal.grant = s.bal.grant ∧
    (tickTest s).bal.wells = s.bal.wells := by
  unfold tickTest
  dsimp only
  split
  · exact ⟨rfl, rfl, rfl⟩
  · split
    · exact ⟨rfl, rfl, rfl⟩
    · split
      · exact ⟨rfl, rfl, rfl⟩
      · exact ⟨rfl, rfl, rfl⟩

theorem conduct_left (m : Wells) (v : Vector BalWell 18) (w : Well) :
    (conduct m v)[w].left = if hasW m w then v[w].left - 1 else v[w].left := by
  have h : (conduct m v)[w] = { v[w] with left := if hasW m w then v[w].left - 1 else v[w].left } := by
    simp [conduct]
  rw [h]

theorem conduct_zero (v : Vector BalWell 18) : conduct 0 v = v := by
  ext i hi
  simp [conduct, hasW]

theorem closed_of_or_eq_zero {a b : Wells} (h : a ||| b = 0) : a = 0 := by
  refine BitVec.eq_of_getLsbD_eq fun i _ => ?_
  have hi : (a ||| b).getLsbD i = false := by rw [h]; exact BitVec.getLsbD_zero
  rw [BitVec.getLsbD_or, Bool.or_eq_false_iff] at hi
  exact hi.1.trans BitVec.getLsbD_zero.symm

/-- Conduction takes a ct of the time of every request whose switch is closed (08 R261). -/
theorem tickBal_bal (s : State) : (tickBal s).bal.closed = s.bal.closed ∧ (tickBal s).bal.grant = s.bal.grant ∧
    (tickBal s).bal.wells = conduct s.bal.closed s.bal.wells := by
  obtain ⟨hclosed, hgrant, hwells⟩ := tickTest_keeps s
  unfold tickBal
  dsimp only
  split
  case isTrue h =>
    have h0 : s.bal.closed = 0 := hclosed ▸ closed_of_or_eq_zero h
    exact ⟨hclosed, hgrant, by rw [hwells, h0, conduct_zero]⟩
  case isFalse => exact ⟨hclosed, hgrant, by rw [hclosed, hwells]⟩

/-- At most, switches have opened: no grant, and no request's time, has changed. -/
def SwitchesOpened (a b : BalUnit) : Prop := b.closed &&& ~~~ a.closed = 0 ∧ b.grant = a.grant ∧ b.wells = a.wells

theorem SwitchesOpened.of_same {a b : BalUnit} (hc : b.closed = a.closed) (hg : b.grant = a.grant) (hw : b.wells = a.wells) :
    SwitchesOpened a b := ⟨by rw [hc, BitVec.and_not_self], hg, hw⟩

theorem SwitchesOpened.of_eq {a b : BalUnit} (h : b = a) : SwitchesOpened a b := h ▸ .of_same rfl rfl rfl

theorem wells_subset_trans {a b c : Wells} (h : b &&& ~~~ a = 0) (k : c &&& ~~~ b = 0) : c &&& ~~~ a = 0 := by
  refine BitVec.eq_of_getLsbD_eq fun i hi => ?_
  have h1 := congrArg (·.getLsbD i) h
  have h2 := congrArg (·.getLsbD i) k
  simp only [BitVec.getLsbD_and, BitVec.getLsbD_not, hi, decide_true, Bool.true_and] at h1 h2 ⊢
  cases hb : b.getLsbD i
  case true => simp_all
  case false => simp_all

theorem SwitchesOpened.trans {a b c : BalUnit} (h : SwitchesOpened a b) (k : SwitchesOpened b c) : SwitchesOpened a c := by
  obtain ⟨hc, hg, hw⟩ := h
  obtain ⟨kc, kg, kw⟩ := k
  exact ⟨wells_subset_trans hc kc, kg.trans hg, kw.trans hw⟩

theorem openSwitches_opened (s : State) : SwitchesOpened s.bal (openSwitches s).bal := by
  refine ⟨by rw [openSwitches_closed]; exact BitVec.zero_and, ?grant, ?wells⟩
  all_goals
    unfold openSwitches
    split
    · rfl
    · rfl

theorem dropTest_opened (s : State) : SwitchesOpened s.bal (dropTest s).bal :=
  .of_same (dropTest_closed s) (by rw [dropTest]) (by rw [dropTest])

theorem openSpan_opened (s : State) (src : BitVec 2) (seq : BitVec 16) (pt : BitVec 4) (hold uns : Bool) (inst : Word) :
    SwitchesOpened s.bal (openSpan s src seq pt hold uns inst).bal := by
  have hwin : SwitchesOpened s.bal (takeWin s).bal := .of_eq ((takeWin_only s).same .bal (by decide))
  rw [openSpan_eq]
  exact hwin.trans ((openSwitches_opened (takeWin s)).trans (dropTest_opened (openSwitches (takeWin s))))

/-- The start-up acquisition is noted as run, before its strobe opens its span. -/
def startCounted (s : State) : State :=
  { s with acq.seqN := s.acq.seqN + 1, acq.startRun := true, acq.startDue := false, acq.startDone := none }

theorem startStrobe_eq (s : State) : startStrobe s =
    openSpan (startCounted s) 2 (s.acq.seqN + 1) 0 (!alignedNow s) false (chainMp s) := rfl

theorem tickStart_opened (s : State) : SwitchesOpened s.bal (tickStart s).bal := by
  unfold tickStart
  split
  · rw [startStrobe_eq]
    exact openSpan_opened (startCounted s) 2 (s.acq.seqN + 1) 0 (!alignedNow s) false (chainMp s)
  · exact .of_eq rfl

theorem tickXc_only (s : State) : Only [.acq, .bal] s (tickXc s) := by
  unfold tickXc
  split
  · dsimp only
    split
    · exact (openSwitches_only s).trans (((dropTest_only _).mono (by decide)).trans (only_acq (by decide) ..))
    · exact Only.refl ..
  · split
    · exact ((markSpans_only ..).mono (by decide)).trans (only_acq (by decide) ..)
    · exact Only.refl ..

theorem tickXc_opened (s : State) : SwitchesOpened s.bal (tickXc s).bal := by
  have hmark (m : BitVec 19) : (markSpans s m).bal = s.bal := (markSpans_only s m).same .bal (by decide)
  have hopen := (openSwitches_opened s).trans (dropTest_opened (openSwitches s))
  unfold tickXc
  split
  · dsimp only
    split
    · exact hopen
    · exact .of_eq rfl
  · split
    · exact .of_eq (hmark (staleOf (usedMask s.cfg) true))
    · exact .of_eq rfl

/-! ## The work of the units in one ct, one after the other -/

/-- The counter, the core's cycles and its system tick, the PLL and the tracker. -/
def tickClocks (s : State) : State := tickPhase (tickClk (tickMs (tickCycle { s with tim.cnt := s.tim.cnt + 1 })))

/-- The balancing unit, the checks and acquisitions, and the applet's charge. -/
def tickUnits (s : State) : State := tickApl (tickStart (tickXc (tickOw (tickBal s))))

/-- Time has advanced, and a break that was held back has begun where it may. -/
def tickBegun (s : State) : State :=
  if running { s with now := s.now + 1 } then tickBreak { s with now := s.now + 1 } else { s with now := s.now + 1 }

theorem tick_eq (s : State) : tick s = if active (tickBegun s)
    then tickFw (tickReset (tickCal (tickUnits (tickClocks (tickBegun s))))) else tickBegun s := rfl

theorem tickClocks_only (s : State) : Only [.tim, .core, .clk, .freeCtr, .ph, .sch] s (tickClocks s) :=
  (only_tim (by decide) ..).trans (((tickCycle_only _).mono (by decide)).trans (((tickMs_only _).mono (by decide)).trans
    (((tickClk_only _).mono (by decide)).trans ((tickPhase_only _).mono (by decide)))))

theorem tickUnits_only (s : State) : Only [.acq, .bal, .apl] s (tickUnits s) :=
  ((tickBal_only s).mono (by decide)).trans (((tickOw_only _).mono (by decide)).trans (((tickXc_only _).mono (by decide)).trans
    (((tickStart_only _).mono (by decide)).trans ((tickApl_only _).mono (by decide)))))

/-! ## The clock goes on in every course -/

theorem fullReset_now (s : State) (c : BitVec 4) : (fullReset s c).now = s.now := by
  unfold fullReset
  split
  · rfl
  · rfl

theorem startBreak_now (s : State) (q : Port) : (startBreak s q).now = s.now := by
  have hput : (putBreak s q).now = s.now := (putBreak_only s q).same .now (by decide)
  unfold startBreak
  split
  · dsimp only
    split
    · rw [setPort_now]
    · rw [fullReset_now, setPort_now]
  · split
    · rw [setPort_now]
    · dsimp only
      rw [setPort_now, hput]

theorem chainBreakGo_only (s : State) : Only [.np] s (chainBreakGo s) := by
  unfold chainBreakGo
  split
  · exact only_np (by decide) ..
  · exact Only.refl ..

/-- A break that was held back starts when it is due. -/
def breakDue (s : State) (q : Port) : State := if (portOf s q).brkDue then startBreak s q else s

theorem tickBreak_eq (s : State) : tickBreak s = chainBreakGo (breakDue (breakDue s .south) .north) := rfl

theorem breakDue_now (s : State) (q : Port) : (breakDue s q).now = s.now := by
  unfold breakDue
  split
  · exact startBreak_now s q
  · rfl

theorem tickBreak_now (s : State) : (tickBreak s).now = s.now := by
  have h : (tickBreak s).now = (breakDue (breakDue s .south) .north).now := (chainBreakGo_only _).same .now (by decide)
  rw [h, breakDue_now, breakDue_now]

theorem tickBegun_now (s : State) : (tickBegun s).now = s.now + 1 := by
  unfold tickBegun
  split
  · exact tickBreak_now _
  · rfl

/-- A result waits at a port that may send. -/
def resultPut (s : State) (q : Port) (f : Frame) : State := if sendLive s q then enqueueTx s q f else s

theorem sendResult_eq (s : State) (b : List Byte) : (sendResult s b).1 =
    resultPut (resultPut (originate s 9 0 b).1 .south (originate s 9 0 b).2) .north (originate s 9 0 b).2 := rfl

theorem resultPut_now (s : State) (q : Port) (f : Frame) : (resultPut s q f).now = s.now := by
  unfold resultPut
  split
  · exact (enqueueTx_only s q f).same .now (by decide)
  · rfl

theorem sendResult_now (s : State) (b : List Byte) : (sendResult s b).1.now = s.now := by
  rw [sendResult_eq, resultPut_now, resultPut_now]
  rfl

theorem calFinish_now (s : State) (c : CalRun) : (calFinish s c).now = s.now := sendResult_now s _

theorem calReply_now (s : State) : (calReply s).now = s.now := by
  unfold calReply
  split
  · rfl
  · split
    · rw [replyOk_now]
    · rfl

theorem tickCal_now (s : State) : (tickCal s).now = s.now := by
  unfold tickCal
  dsimp only
  split
  · exact calReply_now s
  · split
    · exact (calFinish_now ..).trans (calReply_now s)
    · exact calReply_now s

theorem tickReset_now (s : State) : (tickReset s).now = s.now := by
  unfold tickReset
  split
  · exact fullReset_now ..
  · rfl

theorem fstopSteps_now (s : State) : (fstopSteps s).now = s.now := by
  have hcommit (x : State) (e : JEntry) : (jrnCommit x e).now = x.now := (jrnCommit_only x e).same .now (by decide)
  unfold fstopSteps
  dsimp only
  rw [fullReset_now]
  dsimp only
  rw [hcommit]

theorem fwStop_now (s : State) (c : Word) : (fwStop s c).now = s.now := by
  unfold fwStop fullStop
  dsimp only
  split
  · split
    · rfl
    · exact fullReset_now ..
  · exact fullReset_now ..

theorem tickFw_now (s : State) : (tickFw s).now = s.now := by
  unfold tickFw
  split
  · split
    · rfl
    · exact fstopSteps_now s
  · split
    · rfl
    · split
      · exact fwStop_now ..
      · split
        · rfl
        · split
          · rfl
          · rfl

theorem tick_now (s : State) : (tick s).now = s.now + 1 := by
  have hclocks : (tickClocks (tickBegun s)).now = (tickBegun s).now := (tickClocks_only _).same .now (by decide)
  have hunits : (tickUnits (tickClocks (tickBegun s))).now = (tickClocks (tickBegun s)).now :=
    (tickUnits_only _).same .now (by decide)
  rw [tick_eq]
  split
  · rw [tickFw_now, tickReset_now, tickCal_now, hunits, hclocks, tickBegun_now]
  · exact tickBegun_now s

/-! ## A device that does not run, or sleeps -/

theorem active_of_not_running {s : State} (h : running s = false) : active s = false := by
  rw [active, h, Bool.false_and]

theorem active_of_only {l : List Part} {s t : State} (h : Only l s t) (hr : Part.rst ∉ l) (hp : Part.pw ∉ l) :
    active t = active s := by
  have hrst : t.rst = s.rst := h.same .rst hr
  have hpw : t.pw = s.pw := h.same .pw hp
  simp only [active, running, awake, hrst, hpw]

theorem tick_of_not_running (s : State) (h : running s = false) : tick s = { s with now := s.now + 1 } := by
  have hr : running { s with now := s.now + 1 } = false := h
  have hb : tickBegun s = { s with now := s.now + 1 } := by
    unfold tickBegun
    rw [if_neg (Bool.eq_false_iff.mp hr)]
  rw [tick_eq, hb, if_neg (Bool.eq_false_iff.mp (active_of_not_running hr))]

/-- Without a break that waits to be relayed only the pattern of a `CHAIN_BREAK` may begin, on the north port. -/
theorem tickBegun_only (s : State) (hs : s.sp.brkDue = false) (hn : s.np.brkDue = false) : Only [.now, .np] s (tickBegun s) := by
  have htime : Only [.now, .np] s { s with now := s.now + 1 } := only_now (by decide) ..
  have hsouth : breakDue { s with now := s.now + 1 } .south = { s with now := s.now + 1 } := if_neg (Bool.eq_false_iff.mp hs)
  have hnorth : breakDue { s with now := s.now + 1 } .north = { s with now := s.now + 1 } := if_neg (Bool.eq_false_iff.mp hn)
  unfold tickBegun
  split
  · rw [tickBreak_eq, hsouth, hnorth]
    exact htime.trans ((chainBreakGo_only _).mono (by decide))
  · exact htime

theorem tick_of_inactive (s : State) (h : active s = false) (hs : s.sp.brkDue = false) (hn : s.np.brkDue = false) :
    Only [.now, .np] s (tick s) := by
  have honly := tickBegun_only s hs hn
  have hb : active (tickBegun s) = false := (active_of_only honly (by decide) (by decide)).trans h
  rw [tick_eq, if_neg (Bool.eq_false_iff.mp hb)]
  exact honly

/-! ## A device that runs and owes nothing: the tick is only time -/

theorem tickCal_of_none (s : State) (h : s.chn.cal = none) (hd : s.chn.calDone = []) : tickCal s = s := by
  have hr : calReply s = s := by
    unfold calReply
    rw [hd]
  unfold tickCal
  rw [hr]
  dsimp only
  rw [h]

theorem tickReset_of_nil (s : State) (h : s.pw.resetVerb = []) : tickReset s = s := by
  unfold tickReset
  rw [h]
  rfl

/-- The firmware owes nothing: at most it lets the core wait (23 R843). -/
theorem tickFw_of_idle (s : State) (hf : s.core.fstop = false) (ho : s.core.owed = none) (hu : unknownSvc s = false) :
    tickFw s = { s with core.waiting := (tickFw s).core.waiting } := by
  unfold tickFw
  rw [if_neg (Bool.eq_false_iff.mp hf), ho]
  dsimp only
  rw [if_neg (Bool.eq_false_iff.mp hu)]
  split
  · rfl
  · split
    · rfl
    · rfl

theorem unknownSvc_congr {s t : State} (hrst : t.rst = s.rst) (hpw : t.pw = s.pw) (hdead : t.clk.coreDead = s.clk.coreDead)
    (hcore : t.core.fstop = s.core.fstop ∧ t.core.sw = s.core.sw ∧ t.core.g = s.core.g)
    (hapl : t.apl.inSvc = s.apl.inSvc ∧ t.apl.svcPend = s.apl.svcPend ∧ t.apl.suspended = s.apl.suspended) :
    unknownSvc t = unknownSvc s := by
  obtain ⟨hfstop, hsw, hg⟩ := hcore
  obtain ⟨hin, hpend, hsusp⟩ := hapl
  simp only [unknownSvc, fwRuns, fwOn, active, running, awake, handlerRuns, hrst, hpw, hdead, hfstop, hsw, hg, hin, hpend, hsusp]

/-! ### The units in their ct, seen from the state before -/

theorem tickClocks_core (s : State) : (tickClocks s).core =
    { s.core with cycle := (tickClocks s).core.cycle, cycleFrac := (tickClocks s).core.cycleFrac,
                  ipend := (tickClocks s).core.ipend } := by
  have hclk (x : State) : (tickPhase (tickClk x)).core = x.core :=
    Eq.trans ((tickPhase_only (tickClk x)).same .core (by decide)) ((tickClk_only x).same .core (by decide))
  unfold tickClocks
  rw [hclk, tickMs_core, tickCycle_core]

theorem tickClocks_counts (s : State) (h : s.core.waiting = false) :
    (tickClocks s).core.cycleFrac = (s.core.cycleFrac + 125) % 256 ∧
      (tickClocks s).core.cycle = (if s.core.cycleFrac + 125 < 256 then s.core.cycle else s.core.cycle + 1) := by
  have hclk (x : State) : (tickPhase (tickClk x)).core = x.core :=
    Eq.trans ((tickPhase_only (tickClk x)).same .core (by decide)) ((tickClk_only x).same .core (by decide))
  unfold tickClocks
  rw [hclk, tickMs_core]
  exact tickCycle_counts { s with tim.cnt := s.tim.cnt + 1 } h

theorem tickClocks_tim (s : State) : (tickClocks s).tim = { s.tim with cnt := s.tim.cnt + 1 } := by
  have hclk (x : State) : (tickPhase (tickClk x)).tim = x.tim :=
    Eq.trans ((tickPhase_only (tickClk x)).same .tim (by decide)) ((tickClk_only x).same .tim (by decide))
  have hcore (x : State) : (tickMs (tickCycle x)).tim = x.tim :=
    Eq.trans ((tickMs_only (tickCycle x)).same .tim (by decide)) ((tickCycle_only x).same .tim (by decide))
  unfold tickClocks
  rw [hclk, hcore]

theorem tickClocks_clk (s : State) : (tickClocks s).clk.freq = slew s.clk.freq s.clk.goal s.clk.rate ∧
    (tickClocks s).clk.coreDead = s.clk.coreDead := by
  have hphase (x : State) : (tickPhase x).clk = x.clk := (tickPhase_only x).same .clk (by decide)
  have hcore (x : State) : (tickMs (tickCycle x)).clk = x.clk :=
    Eq.trans ((tickMs_only (tickCycle x)).same .clk (by decide)) ((tickCycle_only x).same .clk (by decide))
  unfold tickClocks
  rw [hphase, tickClk_clk, hcore]
  exact ⟨rfl, rfl⟩

theorem tickUnits_apl (s : State) : (tickUnits s).apl = { s.apl with charge := (tickUnits s).apl.charge } ∧
    s.apl.charge ≤ (tickUnits s).apl.charge := by
  have hbefore : (tickStart (tickXc (tickOw (tickBal s)))).apl = s.apl :=
    ((tickBal_only s).mono (m := [.acq, .bal]) (by decide)).trans (((tickOw_only _).mono (by decide)).trans
      ((tickXc_only _).trans (tickStart_only _))) |>.same .apl (by decide)
  have happl := tickApl_apl (tickStart (tickXc (tickOw (tickBal s))))
  have hcharge := tickApl_charge (tickStart (tickXc (tickOw (tickBal s))))
  rw [hbefore] at happl hcharge
  exact ⟨happl, hcharge⟩

theorem tickUnits_bal (s : State) : (tickUnits s).bal.closed &&& ~~~ s.bal.closed = 0 ∧
    (tickUnits s).bal.grant = s.bal.grant ∧ (tickUnits s).bal.wells = conduct s.bal.closed s.bal.wells := by
  have happl : (tickUnits s).bal = (tickStart (tickXc (tickOw (tickBal s)))).bal := (tickApl_only _).same .bal (by decide)
  have how : (tickOw (tickBal s)).bal = (tickBal s).bal := (tickOw_only _).same .bal (by decide)
  have hopened := (tickXc_opened (tickOw (tickBal s))).trans (tickStart_opened (tickXc (tickOw (tickBal s))))
  obtain ⟨hclosed, hgrant, hwells⟩ := tickBal_bal s
  rw [SwitchesOpened, ← happl, how, hclosed, hgrant, hwells] at hopened
  exact hopened

/-- The state in which all units have taken their ct. -/
def tickWorked (s : State) : State := tickUnits (tickClocks (tickBegun s))

section Ticking

variable {s : State} (ha : active s = true) (hs : s.sp.brkDue = false) (hn : s.np.brkDue = false) (hcal : s.chn.cal = none)
  (hdone : s.chn.calDone = []) (hreset : s.pw.resetVerb = []) (hfstop : s.core.fstop = false) (howed : s.core.owed = none)
  (hsvc : unknownSvc s = false)
include hs hn

theorem tickWorked_only : Only [.now, .tim, .clk, .freeCtr, .ph, .sch, .acq, .bal, .apl, .core, .np] s (tickWorked s) :=
  ((tickBegun_only s hs hn).mono (by decide)).trans
    (((tickClocks_only _).mono (by decide)).trans ((tickUnits_only _).mono (by decide)))

theorem tickWorked_core : (tickWorked s).core =
    { s.core with cycle := (tickWorked s).core.cycle, cycleFrac := (tickWorked s).core.cycleFrac,
                  ipend := (tickWorked s).core.ipend } := by
  have hunits : (tickWorked s).core = (tickClocks (tickBegun s)).core := (tickUnits_only _).same .core (by decide)
  have hbegun : (tickBegun s).core = s.core := (tickBegun_only s hs hn).same .core (by decide)
  rw [hunits, tickClocks_core, hbegun]

theorem tickWorked_counts (h : s.core.waiting = false) :
    (tickWorked s).core.cycleFrac = (s.core.cycleFrac + 125) % 256 ∧
      (tickWorked s).core.cycle = (if s.core.cycleFrac + 125 < 256 then s.core.cycle else s.core.cycle + 1) := by
  have hunits : (tickWorked s).core = (tickClocks (tickBegun s)).core := (tickUnits_only _).same .core (by decide)
  have hbegun : (tickBegun s).core = s.core := (tickBegun_only s hs hn).same .core (by decide)
  have hcounts := tickClocks_counts (tickBegun s) (by rw [hbegun, h])
  rwa [← hunits, hbegun] at hcounts

theorem tickWorked_tim : (tickWorked s).tim = { s.tim with cnt := s.tim.cnt + 1 } := by
  have hunits : (tickWorked s).tim = (tickClocks (tickBegun s)).tim := (tickUnits_only _).same .tim (by decide)
  have hbegun : (tickBegun s).tim = s.tim := (tickBegun_only s hs hn).same .tim (by decide)
  rw [hunits, tickClocks_tim, hbegun]

theorem tickWorked_clk : (tickWorked s).clk.freq = slew s.clk.freq s.clk.goal s.clk.rate ∧
    (tickWorked s).clk.coreDead = s.clk.coreDead := by
  have hunits : (tickWorked s).clk = (tickClocks (tickBegun s)).clk := (tickUnits_only _).same .clk (by decide)
  have hbegun : (tickBegun s).clk = s.clk := (tickBegun_only s hs hn).same .clk (by decide)
  have hclk := tickClocks_clk (tickBegun s)
  rwa [← hunits, hbegun] at hclk

theorem tickWorked_apl : (tickWorked s).apl = { s.apl with charge := (tickWorked s).apl.charge } ∧
    s.apl.charge ≤ (tickWorked s).apl.charge := by
  have hclocks : (tickClocks (tickBegun s)).apl = (tickBegun s).apl := (tickClocks_only _).same .apl (by decide)
  have hbegun : (tickBegun s).apl = s.apl := (tickBegun_only s hs hn).same .apl (by decide)
  have happl := tickUnits_apl (tickClocks (tickBegun s))
  rwa [hclocks, hbegun] at happl

theorem tickWorked_bal : (tickWorked s).bal.closed &&& ~~~ s.bal.closed = 0 ∧ (tickWorked s).bal.grant = s.bal.grant ∧
    (tickWorked s).bal.wells = conduct s.bal.closed s.bal.wells := by
  have hclocks : (tickClocks (tickBegun s)).bal = (tickBegun s).bal := (tickClocks_only _).same .bal (by decide)
  have hbegun : (tickBegun s).bal = s.bal := (tickBegun_only s hs hn).same .bal (by decide)
  have hbal := tickUnits_bal (tickClocks (tickBegun s))
  rwa [hclocks, hbegun] at hbal

include ha hcal hdone hreset hfstop howed hsvc

/-- Beyond the units' work only the core may begin to wait. -/
theorem tick_of_free : tick s = { tickWorked s with core.waiting := (tick s).core.waiting } := by
  have hbegun : active (tickBegun s) = true :=
    (active_of_only (tickBegun_only s hs hn) (by decide) (by decide)).trans ha
  have hworked := tickWorked_only hs hn
  have hchn : (tickWorked s).chn = s.chn := hworked.same .chn (by decide)
  have hpw : (tickWorked s).pw = s.pw := hworked.same .pw (by decide)
  have hcore := tickWorked_core hs hn
  have hsvc' : unknownSvc (tickWorked s) = false := by
    obtain ⟨happl, -⟩ := tickWorked_apl hs hn
    refine (unknownSvc_congr (hworked.same .rst (by decide)) hpw (tickWorked_clk hs hn).2 ?_ ?_).trans hsvc
    · rw [hcore]
      exact ⟨rfl, rfl, rfl⟩
    · rw [happl]
      exact ⟨rfl, rfl, rfl⟩
  have htick : tick s = tickFw (tickWorked s) := by
    rw [tick_eq, if_pos hbegun, ← tickWorked, tickCal_of_none _ (by rw [hchn, hcal]) (by rw [hchn, hdone]),
      tickReset_of_nil _ (by rw [hpw, hreset])]
  rw [htick]
  exact tickFw_of_idle _ (by rw [hcore, hfstop]) (by rw [hcore, howed]) hsvc'

theorem tick_only : Only [.now, .tim, .clk, .freeCtr, .ph, .sch, .acq, .bal, .apl, .core, .np] s (tick s) := by
  rw [tick_of_free ha hs hn hcal hdone hreset hfstop howed hsvc]
  exact (tickWorked_only hs hn).trans (only_core (by decide) ..)

end Ticking

theorem tick_of_active (s : State) (ha : active s = true) (hs : s.sp.brkDue = false) (hn : s.np.brkDue = false)
    (hcal : s.chn.cal = none) (hdone : s.chn.calDone = []) (hreset : s.pw.resetVerb = []) (hfstop : s.core.fstop = false)
    (howed : s.core.owed = none) (hsvc : unknownSvc s = false) :
    (tick s).tim = { s.tim with cnt := s.tim.cnt + 1 } ∧
      (tick s).apl = { s.apl with charge := (tick s).apl.charge } ∧ s.apl.charge ≤ (tick s).apl.charge ∧
      (tick s).core = { s.core with cycle := (tick s).core.cycle, cycleFrac := (tick s).core.cycleFrac,
                                    ipend := (tick s).core.ipend, waiting := (tick s).core.waiting } ∧
      (s.core.waiting = false → (tick s).core.cycleFrac = (s.core.cycleFrac + 125) % 256 ∧
        (tick s).core.cycle = (if s.core.cycleFrac + 125 < 256 then s.core.cycle else s.core.cycle + 1)) ∧
      Only [.now, .tim, .clk, .freeCtr, .ph, .sch, .acq, .bal, .apl, .core, .np] s (tick s) ∧
      (tick s).clk.freq = slew s.clk.freq s.clk.goal s.clk.rate ∧
      (tick s).bal.closed &&& ~~~ s.bal.closed = 0 ∧ (tick s).bal.grant = s.bal.grant ∧
      (∀ w : Well, (tick s).bal.wells[w].left = (if hasW s.bal.closed w then s.bal.wells[w].left - 1 else s.bal.wells[w].left)) := by
  have honly := tick_only ha hs hn hcal hdone hreset hfstop howed hsvc
  have hfree := tick_of_free ha hs hn hcal hdone hreset hfstop howed hsvc
  have htim := tickWorked_tim hs hn
  have hcore := tickWorked_core hs hn
  have hcounts := tickWorked_counts hs hn
  obtain ⟨happl, hcharge⟩ := tickWorked_apl hs hn
  obtain ⟨hfreq, -⟩ := tickWorked_clk hs hn
  obtain ⟨hclosed, hgrant, hwells⟩ := tickWorked_bal hs hn
  generalize (tick s).core.waiting = b at hfree
  generalize tickWorked s = u at hfree htim hcore hcounts happl hcharge hfreq hclosed hgrant hwells
  rw [hfree] at honly ⊢
  refine ⟨htim, happl, hcharge, congrArg (fun c => { c with waiting := b }) hcore, hcounts, honly, hfreq, hclosed, hgrant,
    fun w => ?_⟩
  have hw : u.bal.wells[w].left = (conduct s.bal.closed s.bal.wells)[w].left := by simp only [hwells]
  exact hw.trans (conduct_left ..)

/-- Settles O8: a tick is `tickBegun`, the units' work `tickWorked`, and what waits on the firmware; the hypotheses leave of the last
only that the core may wait. -/
theorem tickAdvancesTime : Obligations.TickAdvancesTime :=
  ⟨tick_now, tick_of_not_running, tick_of_inactive, tick_of_active, slew_bound⟩

end Sys2Proof.Machine

/-! PROOFS. Open-wire checks and the cross-checks XC1, XC2 and XC4 (06 R201 to R207; 07 R243 to R247). -/

namespace Sys2Proof.Machine

/-! ## Sets of wells -/

theorem wbit_eq_twoPow (w : Well) : wbit w = BitVec.twoPow 18 w.val := (BitVec.twoPow_eq ..).symm

@[simp] theorem hasW_zero (w : Well) : hasW 0 w = false := BitVec.getLsbD_zero

theorem hasW_wbit (w v : Well) : hasW (wbit w) v = decide (v = w) := by
  rw [hasW, wbit_eq_twoPow, BitVec.getLsbD_twoPow, decide_eq_true w.isLt, Bool.true_and]
  exact decide_eq_decide.mpr ⟨fun h => Fin.ext h.symm, fun h => h ▸ rfl⟩

theorem hasW_putW (m : Wells) (w v : Well) (b : Bool) : hasW (putW m w b) v = if v = w then b else hasW m v := by
  have hbit : (wbit w).getLsbD v.val = decide (v = w) := hasW_wbit w v
  cases b with
  | true =>
    show (m ||| wbit w).getLsbD v.val = _
    rw [BitVec.getLsbD_or, hbit]
    by_cases h : v = w
    · simp [h]
    · simp [h, hasW]
  | false =>
    show (m &&& ~~~ wbit w).getLsbD v.val = _
    rw [BitVec.getLsbD_and, BitVec.getLsbD_not, hbit]
    by_cases h : v = w
    · simp [h]
    · simp [h, hasW]

theorem mem_wellList (m : Wells) (w : Well) : w ∈ wellList m ↔ hasW m w = true := by
  simp [wellList]

/-- Wells put in or out one after the other, each by its own verdict: the listed ones go by their verdicts. -/
theorem hasW_foldl_putW (f : Well → Bool) (l : List Well) (m : Wells) (v : Well) :
    hasW (l.foldl (fun m w => putW m w (f w)) m) v = if v ∈ l then f v else hasW m v := by
  induction l generalizing m with
  | nil => simp
  | cons w l ih =>
    rw [List.foldl_cons, ih, hasW_putW]
    by_cases hl : v ∈ l
    · simp [hl]
    · by_cases hw : v = w
      · simp [hw]
      · simp [hl, hw]

theorem wells_eq_zero_iff (m : Wells) : m = 0 ↔ ∀ w, hasW m w = false := by
  refine ⟨fun h w => h ▸ hasW_zero w, fun h => BitVec.eq_of_getLsbD_eq fun i hi => ?_⟩
  exact (h ⟨i, hi⟩).trans BitVec.getLsbD_zero.symm

/-! ## A check starts (06 R201, R204, R205, R207) -/

/-- A check has begun, in its odd phase, with every switch open; its first step waits for the quiet time. -/
def CheckBegun (s t : State) (forced : Bool) : Prop :=
  t.acq.ow = .check ∧ t.acq.owForced = forced ∧ t.acq.owEven = false ∧ t.acq.owAt = s.now ∧
    (t.acq.owStep = .reference ∨ t.acq.owStep = .quiet) ∧ t.bal.closed = 0 ∧ t.bal.testOn = 0 ∧ t.bal.testRun = 0 ∧
    Only [.acq, .bal] s t

theorem owStart_eq (s : State) (forced boot : Bool) : owStart s forced boot =
    let u := dropTest (openSwitches s)
    { u with acq.ow := .check, acq.owForced := forced, acq.owBoot := boot, acq.owEven := false, acq.owAt := u.now,
             acq.owStep := if quietOk u then .reference else .quiet } := rfl

theorem owStart_begins (s : State) (forced boot : Bool) : CheckBegun s (owStart s forced boot) forced := by
  have hframe : Only [.acq, .bal] s (dropTest (openSwitches s)) :=
    (openSwitches_only s).trans ((dropTest_only _).mono (by decide))
  have hnow : (dropTest (openSwitches s)).now = s.now := hframe.same .now (by decide)
  have hclosed : (dropTest (openSwitches s)).bal.closed = 0 := (dropTest_closed _).trans (openSwitches_closed s)
  have htest : (dropTest (openSwitches s)).bal.testOn = 0 := rfl
  have hrun := dropTest_testRun (openSwitches s)
  rw [owStart_eq]
  generalize dropTest (openSwitches s) = u at *
  refine ⟨rfl, rfl, rfl, hnow, ?_, hclosed, htest, hrun, hframe.trans (only_acq (by decide) u _)⟩
  dsimp only
  split
  · exact .inl rfl
  · exact .inr rfl

theorem openWireStart_periodic (s : State) (ha : active s = true) (hi : s.acq.ow = .idle)
    (hb : s.acq.startDone = none ∨ s.acq.startOw = true)
    (hp : ∀ x, s.acq.owDone = some x → x + fld s.cfg.acqCfg 15 8 * 100 * ctPerMs ≤ s.now) (hn : noSpan s = true)
    (ht : s.sch.ticks = []) (hr : s.bal.testRun = 0) : exec .openWireStart s = .next (owStart s false false) := by
  have hboot : (s.acq.startDone.isSome && !s.acq.startOw) = false := by
    obtain h | h := hb
    · simp [h]
    · simp [h]
  show execOpenWireStart s = _
  unfold execOpenWireStart
  rw [if_neg (by simp [ha, hi]), if_neg (by simp [hboot])]
  cases hd : s.acq.owDone with
  | none => simp [hn, tickPending, ht, hr]
  | some x => simp [owElapsed, hp x hd, hn, tickPending, ht, hr]

theorem openWireStart_after_startup (s : State) (ha : active s = true) (hi : s.acq.ow = .idle) (hd : s.acq.startDone ≠ none)
    (hb : s.acq.startOw = false) : exec .openWireStart s = .next (owStart s true true) := by
  show execOpenWireStart s = _
  unfold execOpenWireStart
  rw [if_neg (by simp [ha, hi]), if_pos (by simp [hb, Option.isSome_iff_ne_none.mpr hd])]

theorem openWireStart_kept_from (s : State) (hd : s.acq.startDone = none)
    (h : noSpan s = false ∨ s.sch.ticks ≠ [] ∨ s.bal.testRun ≠ 0) : Idle .openWireStart s := by
  have hheld : (noSpan s && !tickPending s && s.bal.testRun == 0) = false := by
    obtain h | h | h := h
    · simp [h]
    · simp [tickPending, h]
    · rw [beq_false_of_ne h, Bool.and_false]
  show execOpenWireStart s = _
  unfold execOpenWireStart
  split
  · rfl
  · rw [if_neg (by simp [hd]), if_neg]
    rw [Bool.and_assoc, Bool.and_assoc, ← Bool.and_assoc (noSpan s), hheld, Bool.and_false]
    exact Bool.false_ne_true

theorem openWireStart_too_early (s : State) (x : Nat) (hd : s.acq.startDone = none) (hx : s.acq.owDone = some x)
    (h : s.now < x + fld s.cfg.acqCfg 15 8 * 100 * ctPerMs) : Idle .openWireStart s := by
  have hearly : owElapsed s 1 x = false := by simpa [owElapsed] using h
  show execOpenWireStart s = _
  unfold execOpenWireStart
  split
  · rfl
  · rw [if_neg (by simp [hd]), hx]
    simp [hearly]

theorem openWireForced_starts (s : State) (ha : active s = true) (hi : s.acq.ow = .idle)
    (h : s.acq.owDone.getD s.rst.releaseAt + 10 * (fld s.cfg.acqCfg 15 8 * 100 * ctPerMs) ≤ s.now) :
    exec .openWireForced s = .next (owStart s true false) := by
  show execOpenWireForced s = _
  unfold execOpenWireForced
  rw [if_pos (by simp [ha, hi, owElapsed, h])]

theorem openWireForced_too_early (s : State)
    (h : s.now < s.acq.owDone.getD s.rst.releaseAt + 10 * (fld s.cfg.acqCfg 15 8 * 100 * ctPerMs)) : Idle .openWireForced s := by
  show execOpenWireForced s = _
  unfold execOpenWireForced
  rw [if_neg (by simp [owElapsed, h])]

/-- A command that starts a check by `owStart`, in the form that says nothing of a switch test. -/
theorem Does.of_begun {c : Instr} {s : State} {forced boot : Bool} (h : exec c s = .next (owStart s forced boot)) :
    Does c s fun t => t.acq.ow = .check ∧ t.acq.owForced = forced ∧ t.acq.owEven = false ∧ t.acq.owAt = s.now ∧
      (t.acq.owStep = .reference ∨ t.acq.owStep = .quiet) ∧ t.bal.closed = 0 ∧ t.bal.testOn = 0 ∧ Only [.acq, .bal] s t := by
  obtain ⟨how, hforced, heven, hat, hstep, hclosed, htest, -, honly⟩ := owStart_begins s forced boot
  exact ⟨_, h, how, hforced, heven, hat, hstep, hclosed, htest, honly⟩

/-! ## The sinks of a phase (06 R201, R204, R207) -/

theorem owSinks_of_off (s : State) (h : ¬ (s.acq.ow = .check ∧ s.acq.owStep = .sinks)) : owSinks s = 0 := by
  unfold owSinks
  rw [if_neg (by simpa using h)]

theorem owSinks_of_on (s : State) (h : s.acq.ow = .check) (k : s.acq.owStep = .sinks) :
    owSinks s = usedMask s.cfg &&& (if s.acq.owEven then ~~~ oddWells else oddWells) := by
  unfold owSinks
  rw [if_pos (by simp [h, k])]

theorem owNext_of_reference (s : State) (h : s.acq.owStep = .reference) : owNext s =
    { markSpans s (staleOf (usedMask s.cfg) false) with acq.owStep := .sinks, acq.owAt := s.now } := by
  unfold owNext
  rw [h]

/-- A set of wells makes the words of these wells `STALE`; word 0 is the current. -/
theorem staleOf_well (m : Wells) (cur : Bool) (w : Well) : (staleOf m cur).getLsbD (w.val + 1) = hasW m w := by
  have hw : w.val < 19 ∧ w.val + 1 < 19 := by omega
  have hcur : (if cur then 1#19 else 0#19).getLsbD (w.val + 1) = false := by
    cases cur with
    | true => simp
    | false => simp
  rw [staleOf, BitVec.getLsbD_or, hcur, BitVec.getLsbD_shiftLeft, BitVec.getLsbD_setWidth]
  simp [hasW, hw]

/-- An open span that is marked has its words of the mark `STALE`. -/
theorem markSpans_marks (s : State) (m : BitVec 19) (sp : Span) (h : sp ∈ s.acq.spans) (ho : spanOpen s sp = true) :
    { sp with stale := sp.stale ||| m } ∈ (markSpans s m).acq.spans :=
  List.mem_map.mpr ⟨sp, h, if_pos ho⟩

theorem owNext_sinks_on (s : State) (hc : s.acq.ow = .check) (hr : s.acq.owStep = .reference) :
    (owNext s).acq.owStep = .sinks ∧ owSinks s = 0 ∧
      owSinks (owNext s) = usedMask s.cfg &&& (if s.acq.owEven then ~~~ oddWells else oddWells) ∧
      (∀ sp ∈ s.acq.spans, spanOpen s sp = true → ∀ w : Well, hasW (usedMask s.cfg) w = true →
        ∃ q ∈ (owNext s).acq.spans, q.seq = sp.seq ∧ q.stale.getLsbD (w.val + 1) = true) := by
  have hnext := owNext_of_reference s hr
  refine ⟨by rw [hnext], owSinks_of_off s (by simp [hr]), ?_, fun sp hsp ho w hw => ?_⟩
  · rw [hnext]
    exact owSinks_of_on _ hc rfl
  · rw [hnext]
    refine ⟨_, markSpans_marks s _ sp hsp ho, rfl, ?_⟩
    rw [BitVec.getLsbD_or, staleOf_well, hw, Bool.or_true]

/-! ## A check completes (06 R202, R203; 07 R244) -/

/-- The check's wells and the state of its pins are stored; XC1 and XC2 are due, and meet what they disturb. -/
def checkClosed (s : State) (ref test : List Reading) : State :=
  markSpans
    { s with acq.owFail := owMask s ref test, acq.owStat := owStatOf (popOf s.cfg) (owMask s ref test), acq.ow := .xc,
             acq.xcDue := true, acq.owDone := some s.now, acq.startOw := s.acq.startOw || s.acq.owBoot }
    (staleOf (usedMask s.cfg) true)

theorem exec_openWireDone (s : State) (ref test : List Reading) (ha : active s = true) (hc : s.acq.ow = .check)
    (ho : s.acq.owStep = .over) : exec (.openWireDone ref test) s =
      .next (if (checkClosed s ref test).acq.owStat = s.acq.owStat then checkClosed s ref test
        else jrnPut (checkClosed s ref test) false 0x43 (leBytes 4 (checkClosed s ref test).acq.owStat.toNat)) := by
  show execOpenWireDone ref test s = _
  unfold execOpenWireDone
  rw [if_neg (by simp [ha, hc, ho])]
  rfl

theorem hasW_owMask (s : State) (ref test : List Reading) (w : Well) :
    hasW (owMask s ref test) w = (hasW (usedMask s.cfg) w && owVerdict s ref test w) := by
  rw [owMask, hasW_foldl_putW]
  simp only [mem_wellList, hasW_zero]
  cases hasW (usedMask s.cfg) w with
  | true => simp
  | false => simp

theorem checkClosed_only (s : State) (ref test : List Reading) : Only [.acq] s (checkClosed s ref test) :=
  (only_acq (by decide) ..).trans (markSpans_only ..)

theorem openWireDone_completes (s : State) (ref test : List Reading) (ha : active s = true) (hc : s.acq.ow = .check)
    (ho : s.acq.owStep = .over) : Does (.openWireDone ref test) s fun t =>
      t.acq.ow = .xc ∧ t.acq.owStep = .over ∧ t.acq.xcDue = true ∧ t.acq.owDone = some s.now ∧
      t.acq.startOw = (s.acq.startOw || s.acq.owBoot) ∧ t.acq.owStat = owStatOf (popOf s.cfg) t.acq.owFail ∧
      (∀ w : Well, hasW t.acq.owFail w = (hasW (usedMask s.cfg) w && owVerdict s ref test w)) ∧
      Only (.acq :: journalParts) s t := by
  have hclosed : Only (.acq :: journalParts) s (checkClosed s ref test) := (checkClosed_only s ref test).mono (by decide)
  refine ⟨_, exec_openWireDone s ref test ha hc ho, ?_⟩
  split
  · exact ⟨rfl, ho, rfl, rfl, rfl, rfl, hasW_owMask s ref test, hclosed⟩
  · rw [jrnPut_acq]
    exact ⟨rfl, ho, rfl, rfl, rfl, rfl, hasW_owMask s ref test, hclosed.trans ((jrnPut_only ..).mono (by decide))⟩

theorem openWireDone_idle (s : State) (ref test : List Reading) (h : s.acq.ow ≠ .check ∨ s.acq.owStep ≠ .over) :
    Idle (.openWireDone ref test) s := by
  have hnot : (!active s || s.acq.ow != .check || s.acq.owStep != .over) = true := by
    obtain h | h := h
    · simp [h]
    · simp [h]
  show execOpenWireDone ref test s = _
  unfold execOpenWireDone
  rw [if_pos hnot]

/-! ## One run of a cross-check (07 R246, R247) -/

theorem xcBit_eq_twoPow (i : Fin 5) : xcBit (i.val + 1) = BitVec.twoPow 5 i.val := (BitVec.twoPow_eq ..).symm

theorem xcBit_getLsbD (i : Fin 5) (j : Nat) : (xcBit (i.val + 1)).getLsbD j = decide (i.val = j) := by
  rw [xcBit_eq_twoPow, BitVec.getLsbD_twoPow, decide_eq_true i.isLt, Bool.true_and]

/-- The model tests a check's bit by a mask. -/
theorem and_xcBit_ne_zero (x : BitVec 5) (i : Fin 5) : (x &&& xcBit (i.val + 1) != 0) = x.getLsbD i.val := by
  rw [xcBit_eq_twoPow, BitVec.and_twoPow]
  cases x.getLsbD i.val with
  | true => simpa using fun h => absurd (congrArg (·.getLsbD i.val) h) (by simp)
  | false => simp

theorem or_xcBit_self (x : BitVec 5) (i : Fin 5) : (x ||| xcBit (i.val + 1)).getLsbD i.val = true := by
  rw [BitVec.getLsbD_or, xcBit_getLsbD, decide_eq_true rfl, Bool.or_true]

theorem andNot_xcBit_self (x : BitVec 5) (i : Fin 5) : (x &&& ~~~ xcBit (i.val + 1)).getLsbD i.val = false := by
  rw [BitVec.getLsbD_and, BitVec.getLsbD_not, xcBit_getLsbD]
  simp

theorem or_xcBit_other (x : BitVec 5) (i : Fin 5) {j : Nat} (h : j ≠ i.val) :
    (x ||| xcBit (i.val + 1)).getLsbD j = x.getLsbD j := by
  rw [BitVec.getLsbD_or, xcBit_getLsbD, decide_eq_false h.symm, Bool.or_false]

theorem andNot_xcBit_other (x : BitVec 5) (i : Fin 5) {j : Nat} (h : j ≠ i.val) :
    (x &&& ~~~ xcBit (i.val + 1)).getLsbD j = x.getLsbD j := by
  rw [BitVec.getLsbD_and, BitVec.getLsbD_not, xcBit_getLsbD, decide_eq_false h.symm]
  simpa using x.lt_of_getLsbD

/-- A failing run; the second in a row raises the fault. -/
theorem xcRun_fail_aux (s : State) (i : Fin 5) : (xcRun s i false).aux =
    { s.aux with
      xcRan := s.aux.xcRan ||| xcBit (i.val + 1), xcFail := s.aux.xcFail ||| xcBit (i.val + 1), xcEver := true,
      xcGood := s.aux.xcGood.set i 0,
      xcFault := if s.aux.xcFail.getLsbD i.val && !s.aux.xcFault.getLsbD i.val && fwOn s
        then s.aux.xcFault ||| xcBit (i.val + 1) else s.aux.xcFault } := by
  unfold xcRun xcRunAfter
  simp only [and_xcBit_ne_zero, Bool.false_or, Bool.false_eq_true, if_false]
  split
  case isTrue h =>
    have hraise : (s.aux.xcFail.getLsbD i.val && !s.aux.xcFault.getLsbD i.val && fwOn s) = true := h
    rw [jrnPut_aux, if_pos hraise]
  case isFalse h =>
    have hstay : ¬ (s.aux.xcFail.getLsbD i.val && !s.aux.xcFault.getLsbD i.val && fwOn s) = true := h
    rw [if_neg hstay]

/-- A passing run; the third in a row clears a standing fault. -/
theorem xcRun_pass_aux (s : State) (i : Fin 5) : (xcRun s i true).aux =
    { s.aux with
      xcRan := s.aux.xcRan ||| xcBit (i.val + 1), xcFail := s.aux.xcFail &&& ~~~ xcBit (i.val + 1),
      xcGood := (xcRun s i true).aux.xcGood,
      xcFault := if s.aux.xcFault.getLsbD i.val && (fwOn s && decide (3 ≤ s.aux.xcGood[i] + 1))
        then s.aux.xcFault &&& ~~~ xcBit (i.val + 1) else s.aux.xcFault } := by
  have hthird : (fwOn s && decide (3 ≤ s.aux.xcGood[i] + 1)) = !(decide (s.aux.xcGood[i] + 1 < 3) || !fwOn s) := by
    rw [Bool.not_or, Bool.not_not, ← decide_not, Bool.and_comm, decide_eq_decide.mpr Nat.not_lt]
  rw [hthird]
  unfold xcRun xcRunAfter
  simp only [and_xcBit_ne_zero, if_true]
  split
  case isTrue h =>
    have hnone : s.aux.xcFault.getLsbD i.val = false := by simpa using h
    rw [hnone, Bool.false_and, if_neg Bool.false_ne_true]
  case isFalse h =>
    have hfault : s.aux.xcFault.getLsbD i.val = true := by simpa using h
    split
    case isTrue h =>
      have hfew : (decide (s.aux.xcGood[i] + 1 < 3) || !fwOn s) = true := h
      rw [hfew, Bool.not_true, Bool.and_false, if_neg Bool.false_ne_true]
    case isFalse h =>
      have hthree : (decide (s.aux.xcGood[i] + 1 < 3) || !fwOn s) = false := Bool.eq_false_iff.mpr h
      rw [jrnPut_aux, if_pos (by rw [hfault, hthree]; rfl)]

/-- A run of one check leaves the bits of the others. -/
theorem xcRun_other (s : State) (i : Fin 5) (pass : Bool) {j : Nat} (h : j ≠ i.val) :
    (xcRun s i pass).aux.xcRan.getLsbD j = s.aux.xcRan.getLsbD j ∧
      (xcRun s i pass).aux.xcFail.getLsbD j = s.aux.xcFail.getLsbD j ∧
      (xcRun s i pass).aux.xcFault.getLsbD j = s.aux.xcFault.getLsbD j := by
  cases pass with
  | false =>
    rw [xcRun_fail_aux]
    refine ⟨or_xcBit_other _ i h, or_xcBit_other _ i h, ?_⟩
    dsimp only
    split
    · exact or_xcBit_other _ i h
    · rfl
  | true =>
    rw [xcRun_pass_aux]
    refine ⟨or_xcBit_other _ i h, andNot_xcBit_other _ i h, ?_⟩
    dsimp only
    split
    · exact andNot_xcBit_other _ i h
    · rfl

theorem checkRan_xcRun (s : State) (i : Fin 5) (pass : Bool) : CheckRan s (xcRun s i pass) i pass := by
  cases pass with
  | false =>
    rw [CheckRan, xcRun_fail_aux]
    refine ⟨or_xcBit_self .., or_xcBit_self .., fun _ => ⟨rfl, Vector.getElem_set_self i.isLt, ?_⟩, nofun⟩
    dsimp only
    cases hfault : s.aux.xcFault.getLsbD i.val with
    | true => rw [Bool.not_true, Bool.and_false, Bool.false_and, if_neg Bool.false_ne_true, hfault, Bool.true_or]
    | false =>
      rw [Bool.not_false, Bool.and_true, Bool.false_or]
      cases s.aux.xcFail.getLsbD i.val && fwOn s with
      | true => exact or_xcBit_self ..
      | false => exact hfault
  | true =>
    rw [CheckRan, xcRun_pass_aux]
    refine ⟨or_xcBit_self .., andNot_xcBit_self .., nofun, fun _ => ?_⟩
    dsimp only
    cases hfault : s.aux.xcFault.getLsbD i.val with
    | false => rw [Bool.false_and, Bool.false_and, if_neg Bool.false_ne_true, hfault]
    | true =>
      rw [Bool.true_and, Bool.true_and]
      cases fwOn s && decide (3 ≤ s.aux.xcGood[i] + 1) with
      | true => exact andNot_xcBit_self ..
      | false => exact hfault

theorem auxSet_only (s : State) (x : AuxUnit) : Only (.aux :: journalParts) s { s with aux := x } := only_aux (by decide) ..

/-- A run that raises or clears a fault writes the unit and queues its journal entry. -/
theorem auxJournalled_only (s : State) (x : AuxUnit) (inc : Bool) (ty : Byte) (d : List Byte) :
    Only (.aux :: journalParts) s (jrnPut { s with aux := x } inc ty d) :=
  (auxSet_only s x).trans ((jrnPut_only ..).mono (by decide))

theorem xcRun_only (s : State) (i : Fin 5) (pass : Bool) : Only (.aux :: journalParts) s (xcRun s i pass) := by
  unfold xcRun xcRunAfter
  dsimp only
  split
  · split
    · exact auxSet_only ..
    · split
      · exact auxSet_only ..
      · exact auxJournalled_only ..
  · split
    · exact auxJournalled_only ..
    · exact auxSet_only ..

/-! ## XC1 over its wells (07 R243; Tables 7-11, 7-12) -/

/-- One run of a well moves that well's bit of `XC_WELL.FAIL` and what XC1 counts well by well; the bits of the five checks stay. -/
theorem xc1Well_aux (s : State) (w : Well) (pass : Bool) : (xc1Well s w pass).aux =
    { s.aux with
      xcWell := putW s.aux.xcWell w (!pass), xcWellFault := (xc1Well s w pass).aux.xcWellFault,
      xcWellGood := (xc1Well s w pass).aux.xcWellGood, xcEver := (xc1Well s w pass).aux.xcEver } := by
  unfold xc1Well
  dsimp only
  split
  case isTrue hpass =>
    subst hpass
    split
    · rfl
    · split
      · rfl
      · rw [jrnPut_aux]
        rfl
  case isFalse hfail =>
    obtain rfl : pass = false := Bool.eq_false_iff.mpr hfail
    split
    · rw [jrnPut_aux]
      rfl
    · rfl

theorem xc1Well_xcWell (s : State) (w : Well) (pass : Bool) :
    (xc1Well s w pass).aux.xcWell = putW s.aux.xcWell w (!pass) := by rw [xc1Well_aux]

theorem xc1Well_xcFail (s : State) (w : Well) (pass : Bool) : (xc1Well s w pass).aux.xcFail = s.aux.xcFail := by
  rw [xc1Well_aux]

theorem xc1Well_xcFault (s : State) (w : Well) (pass : Bool) : (xc1Well s w pass).aux.xcFault = s.aux.xcFault := by
  rw [xc1Well_aux]

theorem xc1Well_xcGood (s : State) (w : Well) (pass : Bool) : (xc1Well s w pass).aux.xcGood = s.aux.xcGood := by
  rw [xc1Well_aux]

theorem xc1Well_only (s : State) (w : Well) (pass : Bool) : Only (.aux :: journalParts) s (xc1Well s w pass) := by
  unfold xc1Well
  dsimp only
  split
  · split
    · exact auxSet_only ..
    · split
      · exact auxSet_only ..
      · exact auxJournalled_only ..
  · split
    · exact auxJournalled_only ..
    · exact auxSet_only ..

/-- The wells that XC1 measures: the CELL-role ones not in the BUSBAR range. -/
def xc1Wells (s : State) : List Well := (wellList (cellMask s.cfg)).filter fun w => !isBusbarRange s.cfg w

/-- The run of a well, in µV, passes XC1. -/
def xc1Pass (v : List Nat) (w : Well) : Bool := decide (1194000 ≤ v.getD w.val 0) && decide (v.getD w.val 0 ≤ 1206000)

/-- XC1's runs, one well after the other. -/
def xc1Runs (s : State) (v : List Nat) : State := (xc1Wells s).foldl (fun s w => xc1Well s w (xc1Pass v w)) s

/-- The wells of this run. -/
def xc1Ran (s : State) : Wells := (xc1Wells s).foldl (fun m w => putW m w true) 0

/-- Bit 0 of a check word for a set of wells: some well stands in it. -/
def xc1Bit (m : Wells) : BitVec 5 := if m = 0 then 0 else 1

theorem xc1All_eq (s : State) (v : List Nat) : xc1All s v =
    let u := xc1Runs s v
    { u with aux.xcRan := u.aux.xcRan ||| 1, aux.xcFail := (u.aux.xcFail &&& 0x1E) ||| xc1Bit (u.aux.xcWell &&& xc1Ran s),
             aux.xcFault := (u.aux.xcFault &&& 0x1E) ||| xc1Bit u.aux.xcWellFault } := rfl

theorem xc1Runs_xcFail (s : State) (v : List Nat) : (xc1Runs s v).aux.xcFail = s.aux.xcFail :=
  foldl_keeps (·.aux.xcFail) _ (fun _ _ => xc1Well_xcFail ..) _ _

theorem xc1Runs_xcFault (s : State) (v : List Nat) : (xc1Runs s v).aux.xcFault = s.aux.xcFault :=
  foldl_keeps (·.aux.xcFault) _ (fun _ _ => xc1Well_xcFault ..) _ _

theorem xc1Runs_xcGood (s : State) (v : List Nat) : (xc1Runs s v).aux.xcGood = s.aux.xcGood :=
  foldl_keeps (·.aux.xcGood) _ (fun _ _ => xc1Well_xcGood ..) _ _

theorem xc1Runs_xcWell (s : State) (v : List Nat) : (xc1Runs s v).aux.xcWell =
    (xc1Wells s).foldl (fun m w => putW m w (!xc1Pass v w)) s.aux.xcWell :=
  (List.foldl_hom (g₁ := fun u w => xc1Well u w (xc1Pass v w)) (fun u : State => u.aux.xcWell) fun _ _ =>
    (xc1Well_xcWell ..).symm).symm

theorem xc1Runs_only (s : State) (v : List Nat) : Only (.aux :: journalParts) s (xc1Runs s v) :=
  Only.foldl _ (fun _ _ => xc1Well_only ..) _ _

theorem xc1All_only (s : State) (v : List Nat) : Only (.aux :: journalParts) s (xc1All s v) :=
  (xc1Runs_only s v).trans (only_aux (by decide) ..)

/-- A set that holds exactly the failing wells of a list is empty when none fails. -/
theorem xc1Bit_getLsbD_zero (m : Wells) (l : List Well) (f : Well → Bool) (h : ∀ w, hasW m w = (decide (w ∈ l) && f w)) :
    (xc1Bit m).getLsbD 0 = l.any f := by
  unfold xc1Bit
  split
  case isTrue h0 =>
    have hnone := (wells_eq_zero_iff m).mp h0
    refine Eq.symm (List.any_eq_false.mpr fun w hw => ?_)
    have hw' := (h w).symm.trans (hnone w)
    simpa [hw] using hw'
  case isFalse h0 =>
    obtain ⟨w, hw⟩ := not_forall.mp (mt (wells_eq_zero_iff m).mpr h0)
    have hw' := (h w).symm.trans (Bool.eq_true_of_not_eq_false hw)
    rw [Bool.and_eq_true, decide_eq_true_eq] at hw'
    exact Eq.symm (List.any_eq_true.mpr ⟨w, hw'⟩)

theorem xc1Ran_failed (s : State) (v : List Nat) (w : Well) : hasW ((xc1Runs s v).aux.xcWell &&& xc1Ran s) w =
    (decide (w ∈ xc1Wells s) && !xc1Pass v w) := by
  have hrun : hasW (xc1Ran s) w = decide (w ∈ xc1Wells s) := by
    rw [xc1Ran, hasW_foldl_putW, hasW_zero]
    by_cases h : w ∈ xc1Wells s
    · simp [h]
    · simp [h]
  have hand : hasW ((xc1Runs s v).aux.xcWell &&& xc1Ran s) w =
      (hasW (xc1Runs s v).aux.xcWell w && hasW (xc1Ran s) w) := BitVec.getLsbD_and
  rw [hand, hrun, xc1Runs_xcWell, hasW_foldl_putW]
  by_cases h : w ∈ xc1Wells s
  · simp [h]
  · simp [h]

/-- `FAIL` bit 0 tells whether some well of this run failed (07 Table 7-12). -/
theorem xc1All_fails (s : State) (v : List Nat) : (xc1All s v).aux.xcRan.getLsbD 0 = true ∧
    (xc1All s v).aux.xcFail.getLsbD 0 = (wellList (cellMask s.cfg)).any fun w => !isBusbarRange s.cfg w && !xc1Pass v w := by
  rw [xc1All_eq]
  refine ⟨by simp, ?_⟩
  dsimp only
  rw [BitVec.getLsbD_or, BitVec.getLsbD_and, xc1Bit_getLsbD_zero _ _ _ (xc1Ran_failed s v), xc1Wells, List.any_filter]
  simp

/-- XC1 leaves the bits and counts of the other four checks. -/
theorem xc1All_other (s : State) (v : List Nat) (i : Fin 5) (h : i ≠ 0) :
    (xc1All s v).aux.xcFail.getLsbD i.val = s.aux.xcFail.getLsbD i.val ∧
      (xc1All s v).aux.xcFault.getLsbD i.val = s.aux.xcFault.getLsbD i.val ∧
      (xc1All s v).aux.xcGood = s.aux.xcGood := by
  have hbits : ∀ i : Fin 5, i ≠ 0 → (0x1E : BitVec 5).getLsbD i.val = true ∧ (1 : BitVec 5).getLsbD i.val = false := by decide
  obtain ⟨hother, hone⟩ := hbits i h
  have hbit (m : Wells) : (xc1Bit m).getLsbD i.val = false := by
    unfold xc1Bit
    split
    · exact BitVec.getLsbD_zero
    · exact hone
  have hmask (x : BitVec 5) (m : Wells) : ((x &&& 0x1E) ||| xc1Bit m).getLsbD i.val = x.getLsbD i.val := by
    rw [BitVec.getLsbD_or, BitVec.getLsbD_and, hother, hbit, Bool.and_true, Bool.or_false]
  rw [xc1All_eq]
  refine ⟨?_, ?_, xc1Runs_xcGood s v⟩
  · exact (hmask _ _).trans (congrArg (·.getLsbD i.val) (xc1Runs_xcFail s v))
  · exact (hmask _ _).trans (congrArg (·.getLsbD i.val) (xc1Runs_xcFault s v))

/-! ## The runs as commands (07 R244, R246) -/

/-- Conditions, pauses and the switches follow a run; nothing that it has counted moves. -/
theorem pausesNoted_only (s : State) : Only [.bal, .prot, .chn, .host] s (balPauseNow (noteConditions s)) :=
  ((noteConditions_only s).mono (by decide)).trans ((balPauseNow_only _).mono (by decide))

theorem owEnd_acq (s : State) : (owEnd s).acq =
    { s.acq with ow := .idle, owForced := false, owBoot := false, dist := (owEnd s).acq.dist, distAt := (owEnd s).acq.distAt } := by
  unfold owEnd
  dsimp only
  split
  · rfl
  · split
    · rfl
    · rfl

theorem fwOn_congr {s t : State} (hrst : t.rst = s.rst) (hpw : t.pw = s.pw) (hclk : t.clk = s.clk)
    (hstop : t.core.fstop = s.core.fstop) : fwOn t = fwOn s := by
  simp only [fwOn, active, running, awake, hrst, hpw, hclk, hstop]

/-- A run is counted by its check's own bits and passes, and by whether the firmware runs. -/
theorem CheckRan.of_before {s u t : State} {i : Fin 5} {pass : Bool} (h : CheckRan u t i pass)
    (hfail : u.aux.xcFail.getLsbD i.val = s.aux.xcFail.getLsbD i.val)
    (hfault : u.aux.xcFault.getLsbD i.val = s.aux.xcFault.getLsbD i.val) (hgood : u.aux.xcGood = s.aux.xcGood)
    (hfw : fwOn u = fwOn s) : CheckRan s t i pass := by
  rwa [CheckRan, hfail, hfault, hgood, hfw] at h

theorem CheckRan.of_after {s t u : State} {i : Fin 5} {pass : Bool} (h : CheckRan s t i pass) (haux : u.aux = t.aux) :
    CheckRan s u i pass := by
  rwa [CheckRan, haux]

/-- A reading in µV passes XC2 (07 Table 7-11). -/
def xc2Pass (v : Nat) : Bool := decide (99600 ≤ v) && decide (v ≤ 100400)

/-- A reading of `VREFC` in µV passes XC4 (07 Table 7-11). -/
def xc4Pass (v : Nat) : Bool := decide (2485000 ≤ v) && decide (v ≤ 2515000)

/-- XC1 and XC2 begin: open spans are marked with what they disturb, and the firmware is told. -/
def xcBegun (s : State) : State := irqRaise (markSpans s (staleOf (usedMask s.cfg) true)) 38

/-- XC1 has run over its wells. -/
def xc1Done (s : State) (v : List Nat) : State := xc1All (xcBegun s) v

/-- XC1 and XC2 have run, and are due no more. -/
def xc1Xc2Done (s : State) (v1 : List Nat) (v2 : Nat) : State :=
  let u := xcRun (xc1Done s v1) 1 (xc2Pass v2)
  owEnd { u with acq.xcDue := false, acq.xcDone := some u.now }

theorem exec_xc1Xc2Run (s : State) (v1 : List Nat) (v2 : Nat) (ha : active s = true) (hd : s.acq.xcDue = true)
    (hx : s.acq.ow = .xc) (ho : s.acq.owStep = .over) :
    exec (.xc1Xc2Run v1 v2) s = .next (reclose (balPauseNow (noteConditions (xc1Xc2Done s v1 v2)))) := by
  show execXc1Xc2Run v1 v2 s = _
  unfold execXc1Xc2Run
  rw [if_neg (by simp [ha, xcReady, hd, hx, ho])]
  rfl

theorem xcBegun_only (s : State) : Only [.acq, .core] s (xcBegun s) :=
  ((markSpans_only ..).mono (by decide)).trans ((irqRaise_only ..).mono (by decide))

theorem xc1Done_only (s : State) (v : List Nat) : Only (.acq :: .aux :: .core :: journalParts) s (xc1Done s v) :=
  ((xcBegun_only s).mono (by decide)).trans ((xc1All_only ..).mono (by decide))

theorem xc1Done_fwOn (s : State) (v : List Nat) : fwOn (xc1Done s v) = fwOn s := by
  have hrst : (xc1Done s v).rst = s.rst := (xc1Done_only s v).same .rst (by decide)
  have hpw : (xc1Done s v).pw = s.pw := (xc1Done_only s v).same .pw (by decide)
  have hclk : (xc1Done s v).clk = s.clk := (xc1Done_only s v).same .clk (by decide)
  have hcore : (xc1Done s v).core = (xcBegun s).core :=
    (xc1All_only ..).same .core (by decide)
  exact fwOn_congr hrst hpw hclk (by rw [hcore]; rfl)

/-- XC2 is counted from the state before XC1. -/
theorem checkRan_after_xc1 (s t : State) (v : List Nat) (i : Fin 5) (pass : Bool) (hi : i ≠ 0)
    (h : CheckRan (xc1Done s v) t i pass) : CheckRan s t i pass := by
  obtain ⟨hfail, hfault, hgood⟩ := xc1All_other (xcBegun s) v i hi
  exact h.of_before hfail hfault hgood (xc1Done_fwOn s v)

theorem xc1Xc2Done_only (s : State) (v1 : List Nat) (v2 : Nat) :
    Only (.acq :: .aux :: .core :: journalParts) s (xc1Xc2Done s v1 v2) :=
  (xc1Done_only s v1).trans (((xcRun_only ..).mono (by decide)).trans
    ((only_acq (by decide) ..).trans ((owEnd_only _).mono (by decide))))

theorem xc1Xc2Done_aux (s : State) (v1 : List Nat) (v2 : Nat) : (xc1Xc2Done s v1 v2).aux =
    (xcRun (xc1Done s v1) 1 (xc2Pass v2)).aux := (owEnd_only _).same .aux (by decide)

theorem xc1Xc2Done_acq (s : State) (v1 : List Nat) (v2 : Nat) :
    (xc1Xc2Done s v1 v2).acq.ow = .idle ∧ (xc1Xc2Done s v1 v2).acq.owForced = false ∧
      (xc1Xc2Done s v1 v2).acq.xcDue = false ∧ (xc1Xc2Done s v1 v2).acq.xcDone = some s.now := by
  have hnow : (xcRun (xc1Done s v1) 1 (xc2Pass v2)).now = s.now :=
    Eq.trans ((xcRun_only (xc1Done s v1) _ _).same .now (by decide)) ((xc1Done_only s v1).same .now (by decide))
  rw [xc1Xc2Done, owEnd_acq]
  exact ⟨rfl, rfl, rfl, congrArg some hnow⟩

/-- XC2's run leaves XC1's own bit. -/
theorem xc1Xc2Done_xc1 (s : State) (v1 : List Nat) (v2 : Nat) :
    (xc1Xc2Done s v1 v2).aux.xcRan.getLsbD 0 = true ∧ (xc1Xc2Done s v1 v2).aux.xcFail.getLsbD 0 =
      ((wellList (cellMask s.cfg)).any fun w => !isBusbarRange s.cfg w && !xc1Pass v1 w) := by
  obtain ⟨hran, hfail, -⟩ := xcRun_other (xc1Done s v1) 1 (xc2Pass v2) (j := 0) (by decide)
  obtain ⟨hran1, hfail1⟩ := xc1All_fails (xcBegun s) v1
  rw [xc1Xc2Done_aux]
  exact ⟨hran.trans hran1, hfail.trans hfail1⟩

theorem xc1Xc2Run_completes (s : State) (v1 : List Nat) (v2 : Nat) (ha : active s = true) (hd : s.acq.xcDue = true)
    (hx : s.acq.ow = .xc) (ho : s.acq.owStep = .over) : Does (.xc1Xc2Run v1 v2) s fun t =>
      t.acq.ow = .idle ∧ t.acq.owForced = false ∧ t.acq.xcDue = false ∧ t.acq.xcDone = some s.now ∧
      t.aux.xcRan.getLsbD 0 = true ∧
      t.aux.xcFail.getLsbD 0 = ((wellList (cellMask s.cfg)).any fun w => !isBusbarRange s.cfg w && !xc1Pass v1 w) ∧
      CheckRan s t 1 (xc2Pass v2) ∧
      Only (.acq :: .aux :: .bal :: .prot :: .core :: journalParts) s t := by
  have hexec := exec_xc1Xc2Run s v1 v2 ha hd hx ho
  have hframe := (pausesNoted_only (xc1Xc2Done s v1 v2)).trans ((reclose_only _).mono (by decide))
  generalize reclose (balPauseNow (noteConditions (xc1Xc2Done s v1 v2))) = t at hexec hframe
  have hacq : t.acq = (xc1Xc2Done s v1 v2).acq := hframe.same .acq (by decide)
  have haux : t.aux = (xc1Xc2Done s v1 v2).aux := hframe.same .aux (by decide)
  have hrun := checkRan_xcRun (xc1Done s v1) 1 (xc2Pass v2)
  obtain ⟨how, hforced, hdue, hdone⟩ := xc1Xc2Done_acq s v1 v2
  obtain ⟨hran, hfail⟩ := xc1Xc2Done_xc1 s v1 v2
  rw [← hacq] at how hforced hdue hdone
  rw [← haux] at hran hfail
  exact ⟨t, hexec, how, hforced, hdue, hdone, hran, hfail,
    checkRan_after_xc1 s t v1 1 _ (by decide) (hrun.of_after (haux.trans (xc1Xc2Done_aux s v1 v2))),
    ((xc1Xc2Done_only s v1 v2).mono (by decide)).trans (hframe.mono (by decide))⟩

theorem xc1Xc2Run_idle (s : State) (v1 : List Nat) (v2 : Nat)
    (h : s.acq.xcDue = false ∨ s.acq.ow ≠ .xc ∨ s.acq.owStep ≠ .over) : Idle (.xc1Xc2Run v1 v2) s := by
  have hnot : xcReady s = false := by
    obtain h | h | h := h
    · simp [xcReady, h]
    · simp [xcReady, h]
    · simp [xcReady, h]
  show execXc1Xc2Run v1 v2 s = _
  unfold execXc1Xc2Run
  rw [if_pos (by simp [hnot])]

/-- XC4 has run. -/
def xc4Done (s : State) (v : Nat) : State := xcRun (irqRaise s 38) 3 (xc4Pass v)

theorem exec_xc4Run (s : State) (v : Nat) (ha : active s = true) :
    exec (.xc4Run v) s = .next (balPauseNow (noteConditions (xc4Done s v))) := by
  show execXc4Run v s = _
  unfold execXc4Run
  rw [if_neg (by simp [ha])]
  rfl

theorem xc4Run_completes (s : State) (v : Nat) (ha : active s = true) : Does (.xc4Run v) s fun t =>
    CheckRan s t 3 (xc4Pass v) ∧
      (∀ i, i ≠ 3 → t.aux.xcFail.getLsbD i = s.aux.xcFail.getLsbD i ∧ t.aux.xcFault.getLsbD i = s.aux.xcFault.getLsbD i) ∧
      t.acq = s.acq ∧ Only (.aux :: .bal :: .prot :: .core :: journalParts) s t := by
  have hframe := pausesNoted_only (xc4Done s v)
  have hdone : Only (.aux :: .core :: journalParts) s (xc4Done s v) :=
    ((irqRaise_only ..).mono (by decide)).trans ((xcRun_only ..).mono (by decide))
  have haux := hframe.same .aux (by decide)
  have hrun := checkRan_xcRun (irqRaise s 38) 3 (xc4Pass v)
  refine ⟨_, exec_xc4Run s v ha, ?_, fun i hi => ?_, ?_, ?_⟩
  · exact (hrun.of_after haux).of_before rfl rfl rfl rfl
  · obtain ⟨-, hfail, hfault⟩ := xcRun_other (irqRaise s 38) 3 (xc4Pass v) hi
    rw [haux]
    exact ⟨hfail, hfault⟩
  · exact Eq.trans (hframe.same .acq (by decide)) (hdone.same .acq (by decide))
  · exact (hdone.mono (by decide)).trans (hframe.mono (by decide))

theorem xc4Run_idle (s : State) (v : Nat) (h : active s = false) : Idle (.xc4Run v) s := by
  show execXc4Run v s = _
  unfold execXc4Run
  rw [if_pos (by simp [h])]

/-- Settles O20: a check starts by `owStart`, its sinks by `owNext`, and it ends by `checkClosed`; XC1 is counted well by well, and
every other check by `checkRan_xcRun`. -/
theorem openWireAndCrossChecks : Obligations.OpenWireAndCrossChecks :=
  ⟨⟨fun s ha hi hb hp hn ht hr => .of_begun (openWireStart_periodic s ha hi hb hp hn ht hr),
      fun s ha hi hd hb => ⟨_, openWireStart_after_startup s ha hi hd hb, owStart_begins s true true⟩,
      openWireStart_kept_from, openWireStart_too_early, fun s ha hi h => .of_begun (openWireForced_starts s ha hi h),
      openWireForced_too_early, owNext_sinks_on, fun s => not_imp_comm.mp (owSinks_of_off s), openWireDone_completes,
      openWireDone_idle⟩,
    xc1Xc2Run_completes, xc1Xc2Run_idle, xc4Run_completes, xc4Run_idle⟩

end Sys2Proof.Machine

/-! PROOFS. The thermistor cycle and the die sensors (07 R226 to R243; 03 R91; 08 R272; 09 R305). -/

namespace Sys2Proof.Machine

/-! ## A cycle and its phases (07 R229, R230) -/

theorem ntcCycleStart_begins (s : State) (ha : active s = true) (hr : s.aux.ntcRun = false) : Does .ntcCycleStart s fun t =>
    t.aux.ntcRun = true ∧ t.aux.ntcB = false ∧ t.aux.ntcIdx = 0 ∧ t.aux.ntcCfg = s.cfg.ntcCfg ∧ t.aux.ntcMp = chainMp s ∧
      t.aux.ntcAt = s.now ∧ t.aux.ntcFrame = s.aux.frame ∧ t.aux.tsa = true ∧ t.aux.tsb = false ∧ Only [.aux] s t := by
  have hexec : exec .ntcCycleStart s = .next (ntcStart s) := by
    show execNtcCycleStart s = _
    unfold execNtcCycleStart
    rw [if_neg (by simp [ha, hr])]
  exact ⟨_, hexec, rfl, rfl, rfl, rfl, rfl, rfl, rfl, rfl, rfl, only_aux (by decide) ..⟩

/-- Phase B follows a phase A that has made its nine conversions. -/
theorem ntcPhaseStart_begins (s : State) (ha : active s = true) (hr : s.aux.ntcRun = true) (hb : s.aux.ntcB = false)
    (hi : s.aux.ntcIdx = 9) : Does .ntcPhaseStart s fun t =>
    t.aux = { s.aux with ntcB := true, ntcIdx := 0, ntcFrame := s.aux.frame, tsa := false, tsb := true } ∧ Only [.aux] s t := by
  refine ⟨_, ?_, rfl, only_aux (by decide) ..⟩
  show execNtcPhaseStart s = _
  unfold execNtcPhaseStart
  rw [if_pos (by simp [ha, hr, hb, hi])]

/-! ## The conversion of a channel (07 R226, R228, R231) -/

/-- The code of a conversion, limited to 16 bits. -/
def ntcCode (code : Int) : Nat := (clampI 0 65535 code).toNat

/-- A code at an end of its range is marked as saturated. -/
def ntcSaturated (code : Int) : Bool := ntcCode code == 0 || ntcCode code == 65535

/-- A conversion has taken a slot of the frame; the next one of the phase is `i`. -/
def slotTaken (s : State) (i : Nat) : State := { s with aux.slots := s.aux.slots - 1, aux.ntcIdx := i }

/-- The code of channel `n` is stored for the phase that runs. -/
def ntcStored (s : State) (n : Fin 8) (code : Int) : State :=
  let u := slotTaken s (n.val + 1)
  if s.aux.ntcB then
    { u with aux.codeB := s.aux.codeB.set n (BitVec.ofNat 16 (ntcCode code)), aux.satB := putBit8 s.aux.satB n (ntcSaturated code) }
  else
    { u with aux.codeA := s.aux.codeA.set n (BitVec.ofNat 16 (ntcCode code)), aux.satA := putBit8 s.aux.satA n (ntcSaturated code) }

theorem exec_ntcConversion_channel (s : State) (code : Int) (h : s.aux.ntcIdx < 8) (ha : active s = true)
    (hr : s.aux.ntcRun = true) (hs : slotFree s = true) :
    exec (.ntcConversion code) s = .next (ntcStored s ⟨s.aux.ntcIdx, h⟩ code) := by
  show execNtcConversion code s = _
  unfold execNtcConversion
  rw [if_neg (by simp [ha, hr, hs]; omega)]
  dsimp only
  rw [dif_pos h]
  rfl

theorem ntcConversion_phaseA (s : State) (code : Int) (h : s.aux.ntcIdx < 8) (ha : active s = true) (hr : s.aux.ntcRun = true)
    (hs : slotFree s = true) (hb : s.aux.ntcB = false) : Does (.ntcConversion code) s fun t =>
    t.aux.ntcIdx = s.aux.ntcIdx + 1 ∧ t.aux.codeA[s.aux.ntcIdx] = BitVec.ofNat 16 (clampI 0 65535 code).toNat ∧
      t.aux.codeB = s.aux.codeB ∧ t.aux.slots = s.aux.slots - 1 ∧ Only [.aux] s t := by
  refine ⟨_, exec_ntcConversion_channel s code h ha hr hs, ?_⟩
  rw [ntcStored, if_neg (by simp [hb])]
  exact ⟨rfl, Vector.getElem_set_self h, rfl, rfl, only_aux (by decide) ..⟩

theorem ntcConversion_phaseB (s : State) (code : Int) (h : s.aux.ntcIdx < 8) (ha : active s = true) (hr : s.aux.ntcRun = true)
    (hs : slotFree s = true) (hb : s.aux.ntcB = true) : Does (.ntcConversion code) s fun t =>
    t.aux.ntcIdx = s.aux.ntcIdx + 1 ∧ t.aux.codeB[s.aux.ntcIdx] = BitVec.ofNat 16 (clampI 0 65535 code).toNat ∧
      t.aux.codeA = s.aux.codeA ∧ t.aux.slots = s.aux.slots - 1 ∧ Only [.aux] s t := by
  refine ⟨_, exec_ntcConversion_channel s code h ha hr hs, ?_⟩
  rw [ntcStored, if_pos hb]
  exact ⟨rfl, Vector.getElem_set_self h, rfl, rfl, only_aux (by decide) ..⟩

theorem ntcConversion_idle (s : State) (code : Int) (hs : slotFree s = false) : Idle (.ntcConversion code) s := by
  show execNtcConversion code s = _
  unfold execNtcConversion
  rw [if_pos (by simp [hs])]

/-! ## XC3 ends a phase (07 R231, R243, R246) -/

/-- A run of a check touches the five fields in which the checks are counted, and its failing bit follows the run. -/
theorem xcRunAfter_aux (s : State) (i : Fin 5) (pass before : Bool) : (xcRunAfter s i pass before).aux =
    { s.aux with
      xcRan := s.aux.xcRan ||| xcBit (i.val + 1),
      xcFail := if pass then s.aux.xcFail &&& ~~~ xcBit (i.val + 1) else s.aux.xcFail ||| xcBit (i.val + 1),
      xcEver := (xcRunAfter s i pass before).aux.xcEver, xcGood := (xcRunAfter s i pass before).aux.xcGood,
      xcFault := (xcRunAfter s i pass before).aux.xcFault } := by
  unfold xcRunAfter
  cases pass
  case true =>
    simp only [if_true]
    split
    · rfl
    · split
      · rfl
      · rw [jrnPut_aux]
  case false =>
    simp only [Bool.false_eq_true, if_false]
    split
    · rw [jrnPut_aux]
    · rfl

theorem xcRunAfter_xcFail (s : State) (i : Fin 5) (pass before : Bool) :
    (xcRunAfter s i pass before).aux.xcFail.getLsbD i.val = !pass := by
  rw [xcRunAfter_aux]
  cases pass with
  | true => exact andNot_xcBit_self ..
  | false => exact or_xcBit_self ..

/-- XC3 leaves the cycle as it is. -/
theorem xc3Run_aux (s : State) (b pass : Bool) : (xc3Run s b pass).aux =
    { s.aux with
      xcRan := (xc3Run s b pass).aux.xcRan, xcFail := (xc3Run s b pass).aux.xcFail,
      xcEver := (xc3Run s b pass).aux.xcEver, xcGood := (xc3Run s b pass).aux.xcGood,
      xcFault := (xc3Run s b pass).aux.xcFault, xc3Last := (xc3Run s b pass).aux.xc3Last } := by
  unfold xc3Run
  dsimp only
  rw [xcRunAfter_aux]

theorem xc3Run_xcFail (s : State) (b pass : Bool) : (xc3Run s b pass).aux.xcFail.getLsbD 2 = !pass :=
  xcRunAfter_xcFail s 2 pass (s.aux.xc3Last.getLsbD (b2n b))

/-- A code passes XC3 (07 Table 7-11). -/
def xc3Pass (code : Int) : Bool := decide (47490 ≤ code) && decide (code ≤ 52013)

/-- The limits of XC3 lie inside the 16 bits, so limiting the code moves no verdict. -/
theorem xc3Pass_eq (code : Int) : (decide (47490 ≤ ntcCode code) && decide (ntcCode code ≤ 52013)) = xc3Pass code := by
  unfold xc3Pass ntcCode clampI
  rw [Bool.eq_iff_iff]
  simp only [Bool.and_eq_true, decide_eq_true_eq]
  split
  · omega
  · split
    · omega
    · omega

/-- The verdict of a phase is noted, before XC3 is counted; that of phase B completes the cycle. -/
def phaseEnded (s : State) (pass : Bool) : State :=
  let u := slotTaken s 9
  if s.aux.ntcB then { u with aux.xc3B := pass, aux.ntcRun := false, aux.ntcDone := true, aux.tsb := false }
  else { u with aux.xc3A := pass }

theorem exec_ntcConversion_xc3 (s : State) (code : Int) (ha : active s = true) (hr : s.aux.ntcRun = true)
    (hs : slotFree s = true) (hi : s.aux.ntcIdx = 8) : exec (.ntcConversion code) s =
      .next (balPauseNow (noteConditions (xc3Run (irqRaise (phaseEnded s (xc3Pass code)) 37) s.aux.ntcB (xc3Pass code)))) := by
  have hlast : ¬ s.aux.ntcIdx < 8 := by omega
  show execNtcConversion code s = _
  unfold execNtcConversion
  rw [if_neg (by simp [ha, hr, hs, hi])]
  dsimp only
  rw [dif_neg hlast, ← xc3Pass_eq]
  rfl

/-- What follows a run of a check moves nothing of it. -/
theorem pausesNoted_aux (s : State) : (balPauseNow (noteConditions s)).aux = s.aux := (pausesNoted_only s).same .aux (by decide)

theorem ntcConversion_endsA (s : State) (code : Int) (ha : active s = true) (hr : s.aux.ntcRun = true) (hs : slotFree s = true)
    (hb : s.aux.ntcB = false) (hi : s.aux.ntcIdx = 8) : Does (.ntcConversion code) s fun t =>
    t.aux.ntcIdx = 9 ∧ t.aux.ntcRun = true ∧ t.aux.xc3A = xc3Pass code ∧ t.aux.xcFail.getLsbD 2 = !t.aux.xc3A := by
  refine ⟨_, exec_ntcConversion_xc3 s code ha hr hs hi, ?_⟩
  beta_reduce
  rw [pausesNoted_aux, xc3Run_xcFail, xc3Run_aux, irqRaise_aux, phaseEnded, if_neg (by simp [hb])]
  exact ⟨rfl, hr, rfl, rfl⟩

theorem ntcConversion_endsB (s : State) (code : Int) (ha : active s = true) (hr : s.aux.ntcRun = true) (hs : slotFree s = true)
    (hb : s.aux.ntcB = true) (hi : s.aux.ntcIdx = 8) : Does (.ntcConversion code) s fun t =>
    t.aux.ntcIdx = 9 ∧ t.aux.ntcRun = false ∧ t.aux.ntcDone = true ∧ t.aux.tsb = false ∧ t.aux.xc3B = xc3Pass code ∧
      t.aux.xcFail.getLsbD 2 = !t.aux.xc3B := by
  refine ⟨_, exec_ntcConversion_xc3 s code ha hr hs hi, ?_⟩
  beta_reduce
  rw [pausesNoted_aux, xc3Run_xcFail, xc3Run_aux, irqRaise_aux, phaseEnded, if_pos hb]
  exact ⟨rfl, rfl, rfl, rfl, rfl, rfl⟩

/-! ## The set is published (07 R236) -/

@[simp] theorem leBytes_length (n v : Nat) : (leBytes n v).length = n := by
  induction n generalizing v with
  | zero => rfl
  | succ n ih => rw [leBytes, List.length_cons, ih]

theorem wordsLe_length (l : List Word) : (wordsLe l).length = 4 * l.length := by
  simp [wordsLe, List.length_flatMap, Nat.mul_comm]

theorem ntcSetBytes_length (mp : Word) (count : BitVec 16) (patrol : Bool) (words : Vector Word 8) :
    (ntcSetBytes mp count patrol words.toList).length = 40 := by
  simp [ntcSetBytes, wordsLe_length]

theorem ntcFlagRecords_only (l : List (Fin 8)) (old : Fin 8 → Word) (s : State) : Only journalParts s (ntcFlagRecords l old s) := by
  induction l generalizing s with
  | nil => exact Only.refl ..
  | cons n l ih =>
    unfold ntcFlagRecords
    dsimp only
    split
    · exact ih s
    · exact (jrnPut_only ..).trans (ih _)

/-- The set of the complete cycle. -/
def ntcSet (s : State) : List Byte :=
  ntcSetBytes s.aux.ntcMp (s.aux.ntcCount + 1) false (Vector.ofFn (ntcWordAt s)).toList

/-- The set stands as the latest one, before the channels' changed flags are journalled. -/
def ntcPublished (s : State) : State :=
  { s with aux.ntcDone := false, aux.ntcCount := s.aux.ntcCount + 1, aux.ntcWord := Vector.ofFn (ntcWordAt s), aux.ntcPub := true,
           acq.ntcKept := (ntcSet s :: s.acq.ntcKept).take 2, acq.ntcRel := s.acq.ntcRel ++ [ntcSet s] }

theorem exec_ntcSetPublish (s : State) (hf : fwOn s = true) (hd : s.aux.ntcDone = true) : exec .ntcSetPublish s =
    .next (balPauseNow (ntcFlagRecords (List.finRange 8) (fun n => s.aux.ntcWord[n]) (ntcPublished s))) := by
  show execNtcSetPublish s = _
  unfold execNtcSetPublish
  rw [if_neg (by simp [hf, hd])]
  rfl

theorem ntcSetPublish_publishes (s : State) (hf : fwOn s = true) (hd : s.aux.ntcDone = true) : Does .ntcSetPublish s fun t =>
    t.aux.ntcDone = false ∧ t.aux.ntcCount = s.aux.ntcCount + 1 ∧ t.aux.ntcPub = true ∧
      (∀ n : Fin 8, t.aux.ntcWord[n] = ntcWordAt s n) ∧ (∃ b, t.acq.ntcRel = s.acq.ntcRel ++ [b] ∧ b.length = 40) ∧
      t.mem = s.mem ∧ t.core = s.core := by
  have hframe : Only (.bal :: journalParts) (ntcPublished s)
      (balPauseNow (ntcFlagRecords (List.finRange 8) (fun n => s.aux.ntcWord[n]) (ntcPublished s))) :=
    ((ntcFlagRecords_only ..).mono (by decide)).trans ((balPauseNow_only _).mono (by decide))
  have haux := hframe.same .aux (by decide)
  refine ⟨_, exec_ntcSetPublish s hf hd, ?_⟩
  beta_reduce
  rw [haux]
  exact ⟨rfl, rfl, rfl, fun n => Vector.getElem_ofFn n.isLt,
    ⟨ntcSet s, congrArg AcqUnit.ntcRel (hframe.same .acq (by decide)), ntcSetBytes_length ..⟩,
    hframe.same .mem (by decide), hframe.same .core (by decide)⟩

/-! ## `DIE_TMAX` (07 R242) -/

/-- The highest of a reading and some others is no lower than any of them. -/
theorem le_foldl_slt (d : Vector (BitVec 16) 4) (l : List (Fin 4)) (m : BitVec 16) :
    m.toInt ≤ (l.foldl (fun m j => if m.slt d[j] then d[j] else m) m).toInt ∧
      ∀ j ∈ l, d[j].toInt ≤ (l.foldl (fun m j => if m.slt d[j] then d[j] else m) m).toInt := by
  induction l generalizing m with
  | nil => exact ⟨le_refl _, nofun⟩
  | cons i l ih =>
    obtain ⟨hhead, htail⟩ := ih (if m.slt d[i] then d[i] else m)
    have hstep : m.toInt ≤ (if m.slt d[i] then d[i] else m).toInt ∧ d[i].toInt ≤ (if m.slt d[i] then d[i] else m).toInt := by
      split
      case isTrue h => exact ⟨(BitVec.slt_iff_toInt_lt.mp h).le, le_refl _⟩
      case isFalse h => exact ⟨le_refl _, not_lt.mp (mt BitVec.slt_iff_toInt_lt.mpr h)⟩
    refine ⟨hstep.1.trans hhead, fun j hj => ?_⟩
    obtain rfl | hj := List.mem_cons.mp hj
    · exact hstep.2.trans hhead
    · exact htail j hj

theorem le_dieMax (d : Vector (BitVec 16) 4) (seen : BitVec 4) (i : Fin 4) (h : seen.getLsbD i.val = true) :
    d[i].toInt ≤ (dieMax d seen).toInt := by
  have hmem : i ∈ (List.finRange 4).filter fun i => seen.getLsbD i.val := List.mem_filter.mpr ⟨List.mem_finRange i, h⟩
  unfold dieMax
  split
  case h_1 hnone => exact absurd (hnone ▸ hmem) List.not_mem_nil
  case h_2 j l hlist =>
    obtain ⟨hhead, htail⟩ := le_foldl_slt d l d[j]
    obtain rfl | hi := List.mem_cons.mp (hlist ▸ hmem)
    · exact hhead
    · exact htail i hi

/-! ## XC5 and the over-temperature (07 R243; 09 R305, R306) -/

theorem xc5Run_only (s : State) : Only (.aux :: journalParts) s (xc5Run s) := by
  unfold xc5Run
  split
  · exact xcRun_only ..
  · exact Only.refl ..

/-- XC5 leaves the readings, their maximum and the frames. -/
theorem xc5Run_aux (s : State) : (xc5Run s).aux =
    { s.aux with
      xcRan := (xc5Run s).aux.xcRan, xcFail := (xc5Run s).aux.xcFail, xcEver := (xc5Run s).aux.xcEver,
      xcGood := (xc5Run s).aux.xcGood, xcFault := (xc5Run s).aux.xcFault } := by
  unfold xc5Run
  split
  · rw [xcRun, xcRunAfter_aux]
  · rfl

theorem fwOn_of_only {l : List Part} {s t : State} (h : Only l s t) (hr : Part.rst ∉ l) (hp : Part.pw ∉ l) (hc : Part.clk ∉ l)
    (ho : Part.core ∉ l) : fwOn t = fwOn s :=
  fwOn_congr (h.same .rst hr) (h.same .pw hp) (h.same .clk hc) (congrArg CoreUnit.fstop (h.same .core ho))

/-- The over-temperature after a reading: raised at 135 °C, standing until 125 °C, and as it was while the core does not run. -/
def otAfter (s : State) : Bool :=
  if fwOn s then decide (8640 ≤ s.aux.tmax.toInt) || (s.aux.ot && decide (8000 < s.aux.tmax.toInt)) else s.aux.ot

theorem overTemp_aux (s : State) : (overTemp s).aux = { s.aux with ot := otAfter s } := by
  unfold overTemp otAfter
  dsimp only
  cases fwOn s
  case false => rfl
  case true =>
    rw [Bool.not_true, if_neg Bool.false_ne_true, if_pos rfl]
    split
    case isTrue h =>
      obtain ⟨-, hhigh⟩ : s.aux.ot = false ∧ 8640 ≤ s.aux.tmax.toInt := by simpa using h
      rw [jrnPut_aux, decide_eq_true hhigh, Bool.true_or]
    case isFalse hraise =>
      split
      case isTrue h =>
        obtain ⟨hot, hlow⟩ : s.aux.ot = true ∧ s.aux.tmax.toInt ≤ 8000 := by simpa using h
        rw [jrnPut_aux, decide_eq_false (by omega), decide_eq_false (by omega), Bool.and_false, Bool.or_false]
      case isFalse hend =>
        have hstays : (decide (8640 ≤ s.aux.tmax.toInt) || (s.aux.ot && decide (8000 < s.aux.tmax.toInt))) = s.aux.ot := by
          cases hot : s.aux.ot with
          | false => simpa [hot] using hraise
          | true => simpa [hot] using Or.inr hend
        rw [hstays]

theorem overTemp_only (s : State) : Only (.aux :: journalParts) s (overTemp s) := by
  unfold overTemp
  dsimp only
  split
  · exact Only.refl ..
  · split
    · exact auxJournalled_only ..
    · split
      · exact auxJournalled_only ..
      · exact Only.refl ..

/-! ## At 125 °C nothing conducts (03 R91; 08 R272) -/

theorem dieHot_of_only {l : List Part} {s t : State} (h : Only l s t) (hc : Part.cfg ∉ l) (ha : Part.aux ∉ l) :
    dieHot t = dieHot s := by
  have hcfg : t.cfg = s.cfg := h.same .cfg hc
  have haux : t.aux = s.aux := h.same .aux ha
  simp only [dieHot, extFet, hcfg, haux]

theorem balPauseNow_hot (s : State) (h : dieHot s = true) :
    (balPauseNow s).bal.closed = 0 ∧ (balPauseNow s).bal.testOn = 0 ∧ (balPauseNow s).bal.grant = 0 := by
  have hmark : dieHot (markPauses s) = true := (dieHot_of_only (markPauses_only s) (by decide) (by decide)).trans h
  have hdrop : dieHot (dropTest (markPauses s)) = true :=
    (dieHot_of_only (dropTest_only _) (by decide) (by decide)).trans hmark
  unfold balPauseNow dropHotTest
  dsimp only
  rw [if_pos hmark, if_pos hdrop]
  exact ⟨by simp [openWells], rfl, by simp⟩

/-! ## A reading (07 R228, R241, R242) -/

/-- The next frame has begun with the reading of its sensor. -/
def dieTaken (s : State) (n : Fin 4) (v : BitVec 16) : State :=
  dieTake (irqRaise { s with aux.frame := s.aux.frame + 1, aux.slots := 3 } 38) n v

/-- Its checks have followed. -/
def dieJudged (s : State) (n : Fin 4) (v : BitVec 16) : State := overTemp (xc5Run (dieTaken s n v))

theorem dieConversion_idle (s : State) (n : Fin 4) (v : BitVec 16) (h : s.aux.frame % 4 ≠ n.val) :
    Idle (.dieConversion n v) s := by
  show execDieConversion n v s = _
  unfold execDieConversion
  rw [if_pos (by simp [h])]

theorem exec_dieConversion (s : State) (n : Fin 4) (v : BitVec 16) (ha : active s = true) (hn : s.aux.frame % 4 = n.val) :
    exec (.dieConversion n v) s = .next (balPauseNow (noteConditions (dieJudged s n v))) := by
  show execDieConversion n v s = _
  unfold execDieConversion
  rw [if_neg (by simp [ha, hn])]
  rfl

theorem dieTaken_only (s : State) (n : Fin 4) (v : BitVec 16) : Only [.aux, .core] s (dieTaken s n v) :=
  (only_aux (by decide) ..).trans (((irqRaise_only ..).mono (by decide)).trans (only_aux (by decide) ..))

theorem dieTaken_dieSeen (s : State) (n : Fin 4) (v : BitVec 16) : (dieTaken s n v).aux.dieSeen.getLsbD n.val = true := by
  show (s.aux.dieSeen ||| 1#4 <<< n.val).getLsbD n.val = true
  rw [← BitVec.twoPow_eq, BitVec.getLsbD_or, BitVec.getLsbD_twoPow]
  simp

theorem dieTaken_fwOn (s : State) (n : Fin 4) (v : BitVec 16) : fwOn (dieTaken s n v) = fwOn s :=
  fwOn_congr rfl rfl rfl rfl

theorem dieJudged_only (s : State) (n : Fin 4) (v : BitVec 16) : Only (.aux :: journalParts) (dieTaken s n v) (dieJudged s n v) :=
  (xc5Run_only _).trans (overTemp_only _)

theorem dieJudged_aux (s : State) (n : Fin 4) (v : BitVec 16) : (dieJudged s n v).aux =
    { (xc5Run (dieTaken s n v)).aux with ot := otAfter (dieTaken s n v) } := by
  have hot : otAfter (xc5Run (dieTaken s n v)) = otAfter (dieTaken s n v) := by
    unfold otAfter
    rw [fwOn_of_only (xc5Run_only _) (by decide) (by decide) (by decide) (by decide), xc5Run_aux]
  rw [dieJudged, overTemp_aux, hot]

theorem otAfter_dieTaken (s : State) (n : Fin 4) (v : BitVec 16) : otAfter (dieTaken s n v) =
    if fwOn s then decide (8640 ≤ (dieTaken s n v).aux.tmax.toInt) ||
      (s.aux.ot && decide (8000 < (dieTaken s n v).aux.tmax.toInt)) else s.aux.ot := by
  rw [otAfter, dieTaken_fwOn]
  rfl

theorem dieConversion_reads (s : State) (n : Fin 4) (v : BitVec 16) (ha : active s = true) (hn : s.aux.frame % 4 = n.val) :
    Does (.dieConversion n v) s fun t =>
    t.aux.die = s.aux.die.set n v ∧ t.aux.dieSeen.getLsbD n.val = true ∧ t.aux.frame = s.aux.frame + 1 ∧ t.aux.slots = 3 ∧
      (∀ i : Fin 4, t.aux.dieSeen.getLsbD i.val = true → t.aux.die[i].toInt ≤ t.aux.tmax.toInt) ∧
      (fwOn s = true → 8640 ≤ t.aux.tmax.toInt → t.aux.ot = true) ∧
      (fwOn s = true → t.aux.tmax.toInt ≤ 8000 → t.aux.ot = false) ∧
      (8000 < t.aux.tmax.toInt → t.aux.tmax.toInt < 8640 → t.aux.ot = s.aux.ot) ∧
      (8000 ≤ t.aux.tmax.toInt → extFet s = false → t.bal.closed = 0 ∧ t.bal.testOn = 0 ∧ t.bal.grant = 0) ∧
      t.core = { s.core with ipend := t.core.ipend } ∧ t.mem = s.mem := by
  have hframe := pausesNoted_only (dieJudged s n v)
  have hjudged := dieJudged_only s n v
  have hcore : Same .core (dieTaken s n v) (balPauseNow (noteConditions (dieJudged s n v))) :=
    (hjudged.same .core (by decide)).trans (hframe.same .core (by decide))
  have hmem : Same .mem s (balPauseNow (noteConditions (dieJudged s n v))) :=
    ((dieTaken_only s n v).same .mem (by decide)).trans
      ((hjudged.same .mem (by decide)).trans (hframe.same .mem (by decide)))
  refine ⟨_, exec_dieConversion s n v ha hn, ?_⟩
  beta_reduce
  rw [pausesNoted_aux, dieJudged_aux, xc5Run_aux, otAfter_dieTaken]
  refine ⟨rfl, dieTaken_dieSeen s n v, rfl, rfl, fun i => le_dieMax _ _ i, fun hf hhigh => ?raised, fun hf hlow => ?ended,
    fun hlow hhigh => ?stays, fun hhot hint => ?opened, ?core, hmem⟩
  case raised =>
    dsimp only
    rw [if_pos hf, decide_eq_true hhigh, Bool.true_or]
  case ended =>
    dsimp only at hlow ⊢
    rw [if_pos hf, decide_eq_false (by omega), decide_eq_false (by omega), Bool.and_false, Bool.or_false]
  case stays =>
    dsimp only at hlow hhigh ⊢
    rw [decide_eq_false (by omega), decide_eq_true hlow, Bool.and_true, Bool.false_or, ite_self]
  case opened =>
    have hint' : extFet (dieJudged s n v) = false := by
      rw [extFet, hjudged.same .cfg (by decide)]
      exact hint
    have htmax : (dieJudged s n v).aux.tmax = (dieTaken s n v).aux.tmax := by rw [dieJudged_aux, xc5Run_aux]
    have hhot' : dieHot (dieJudged s n v) = true := by
      rw [dieHot, hint', htmax]
      exact decide_eq_true hhot
    exact balPauseNow_hot _ ((dieHot_of_only (noteConditions_only _) (by decide) (by decide)).trans hhot')
  case core =>
    rw [hcore]
    rfl

/-- Settles O21: the cycle's clauses follow its commands one by one, XC3 ending each phase; a die reading is judged by `dieJudged`, and
at 125 °C `balPauseNow` opens every switch. -/
theorem thermistorAndDieConversions : Obligations.ThermistorAndDieConversions :=
  ⟨⟨ntcCycleStart_begins, ntcPhaseStart_begins, ntcConversion_phaseA, ntcConversion_phaseB, ntcConversion_endsA,
      ntcConversion_endsB, ntcConversion_idle, ntcSetPublish_publishes⟩,
    dieConversion_reads, dieConversion_idle⟩

end Sys2Proof.Machine

/-! PROOFS. The short-circuit comparator and the start of the ramp (07 R212, R219 to R223; 09 R320, R328, R329, R905). -/

namespace Sys2Proof.Machine

/-! ## The gate when it leaves a state -/

theorem gateAnswers_gate (l : List Waiting) (s : State) :
    (gateAnswers l s).gate = { s.gate with waits := (gateAnswers l s).gate.waits } := by
  induction l generalizing s with
  | nil => rfl
  | cons w l ih =>
    unfold gateAnswers
    split
    · rw [ih, replyOk_gate]
    · rw [ih]

/-- Answering the waiting verbs moves no more of the gate than the list of those that still wait. -/
theorem gateNotify_gate (s : State) : (gateNotify s).gate = { s.gate with waits := (gateNotify s).gate.waits } := by
  rw [gateNotify, gateAnswers_gate]

/-- An armed gate turns off from RAMP or ON, or goes on turning off; no verb is answered, and the latch stays. -/
theorem gateTurnOff_armed (s : State) (ha : scArmed s = true) :
    (gateTurnOff s).gate.state = .turnoff ∧ (gateTurnOff s).gate.disc = s.gate.disc ∧
      (gateTurnOff s).gate.cause = s.gate.cause ∧ Only [.gate] s (gateTurnOff s) := by
  obtain (hramp | hon) | hoff : (s.gate.state = .ramp ∨ s.gate.state = .on) ∨ s.gate.state = .turnoff := by
    simpa [scArmed] using ha
  · simp only [gateTurnOff, hramp]
    exact ⟨trivial, trivial, trivial, only_gate (by decide) ..⟩
  · simp only [gateTurnOff, hon]
    exact ⟨trivial, trivial, trivial, only_gate (by decide) ..⟩
  · simp only [gateTurnOff, hoff]
    exact ⟨trivial, trivial, trivial, Only.refl ..⟩

/-! ## A gate fault latches (09 R328) -/

/-- A latched `DISCONNECT_FAULT` holds `FAULT_N` (09 R303, Table 9-2). -/
theorem ownFault_of_disc (s : State) (h : s.gate.disc = true) : ownFault s = true := by simp [ownFault, hwCond, h]

/-- The fault is latched, stored and recorded; the gate has not left its state yet. -/
def discRecorded (s : State) (c : BitVec 4) : State := jrnPut (irqRaise (latchDisc s c) 19) true 0x07 (discData s)

/-- TEST ends in FAULT; from every other state the gate turns off. -/
def gateFailed (s : State) : State :=
  match s.gate.state with
  | .test => gateNotify { s with gate.state := .fault, gate.cp := false, gate.testOk := false }
  | _ => gateTurnOff s

theorem discLatch_eq (s : State) (c : BitVec 4) (hd : s.gate.disc = false) :
    discLatch s c = noteConditions (tqImmediate (gateFailed (discRecorded s c)) 10) := by
  unfold discLatch
  dsimp only
  rw [if_neg (by simp [hd])]
  rfl

theorem discRecorded_gate (s : State) (c : BitVec 4) : (discRecorded s c).gate = (latchDisc s c).gate := by
  simp [discRecorded]

theorem discRecorded_only (s : State) (c : BitVec 4) : Only (.gate :: .store :: .core :: journalParts) s (discRecorded s c) :=
  ((latchDisc_only s c).mono (by decide)).trans (((irqRaise_only ..).mono (by decide)).trans ((jrnPut_only ..).mono (by decide)))

theorem discRecorded_store (s : State) (c : BitVec 4) :
    (discRecorded s c).store = { s.store with disc := some c, discAt := s.now } := by
  simp [discRecorded, latchDisc]

theorem gateFailed_test (s : State) (h : s.gate.state = .test) :
    gateFailed s = gateNotify { s with gate.state := .fault, gate.cp := false, gate.testOk := false } := by
  simp only [gateFailed, h]

theorem gateFailed_armed (s : State) (ha : scArmed s = true) : gateFailed s = gateTurnOff s := by
  have hnot : s.gate.state ≠ .test := by
    intro h
    simp [scArmed, h] at ha
  unfold gateFailed
  split
  · contradiction
  · rfl

/-- What a gate fault in an armed state leaves: the latch with its cause, the turn-off, and on the anchor no torque. -/
structure DiscTripped (s t : State) (c : BitVec 4) : Prop where
  disc : t.gate.disc = true
  state : t.gate.state = .turnoff
  cause : t.gate.cause = c
  store : t.store = { s.store with disc := some c, discAt := s.now }
  torque : isAnchor s = true → torqueOn s = true → t.tq.ten = false ∧ t.tq.rd = .removed

theorem discLatch_armed (s : State) (c : BitVec 4) (hd : s.gate.disc = false) (ha : scArmed s = true) :
    DiscTripped s (discLatch s c) c := by
  have hgate := discRecorded_gate s c
  have harmed : scArmed (discRecorded s c) = true := by
    rw [scArmed, hgate]
    exact ha
  obtain ⟨hstate, hdisc, hcause, honly⟩ := gateTurnOff_armed (discRecorded s c) harmed
  have hbefore : Only (.gate :: .store :: .core :: journalParts) s (gateTurnOff (discRecorded s c)) :=
    (discRecorded_only s c).trans (honly.mono (by decide))
  have htq : (gateTurnOff (discRecorded s c)).tq = s.tq := hbefore.same .tq (by decide)
  have hremoves (h : isAnchor s = true) (ht : torqueOn s = true) :=
    tqImmediate_removes (gateTurnOff (discRecorded s c)) 10 ((isAnchor_of_only hbefore (by decide)).trans h)
      (.inl (by rw [torqueOn, htq]; exact ht))
  rw [discLatch_eq s c hd, gateFailed_armed _ harmed]
  refine ⟨?_, ?_, ?_, ?_, fun h ht => ?_⟩
  · rw [noteConditions_gate, tqImmediate_gate, hdisc, hgate]
    rfl
  · rw [noteConditions_gate, tqImmediate_gate, hstate]
  · rw [noteConditions_gate, tqImmediate_gate, hcause, hgate]
    rfl
  · rw [noteConditions_store, tqImmediate_store]
    exact Eq.trans (honly.same .store (by decide)) (discRecorded_store s c)
  · rw [noteConditions_tq]
    exact hremoves h ht

/-- In TEST a gate fault goes to FAULT at once, the charge pump off. -/
theorem discLatch_test (s : State) (c : BitVec 4) (hd : s.gate.disc = false) (h : s.gate.state = .test) :
    (discLatch s c).gate.disc = true ∧ (discLatch s c).gate.cause = c ∧ (discLatch s c).gate.state = .fault ∧
      (discLatch s c).gate.cp = false := by
  have hgate := discRecorded_gate s c
  have htest : (discRecorded s c).gate.state = .test := by
    rw [hgate]
    exact h
  rw [discLatch_eq s c hd, gateFailed_test _ htest, noteConditions_gate, tqImmediate_gate, gateNotify_gate, hgate]
  exact ⟨rfl, rfl, rfl, rfl⟩

/-! ## A trip (07 R212, R219, R221; 09 R329, R905) -/

/-- The cause of a short-circuit trip by the state in which it comes. -/
def scCause (s : State) : BitVec 4 :=
  if s.gate.state == .on || (s.gate.state == .turnoff && s.gate.fromOn) then 2 else 1

theorem scCause_eq (s : State) :
    scCause s = if s.gate.state = .on ∨ (s.gate.state = .turnoff ∧ s.gate.fromOn = true) then 2 else 1 := by
  simp [scCause]

/-- On the run: marked in the spans that have not ended, then latched; in PATROL, or once it is decided, the trip wakes the device. -/
def scTripped (s : State) : State :=
  let u := discLatch (scMark s) (scCause s)
  if lowOrDecided u (· == .patrol) then wakeAlarm u 0x20 else u

theorem exec_scTrip_running (s : State) (hi : Bool) (hr : running s = true) (ha : scArmed s = true) (hx : scDir s hi = true) :
    exec (.scTrip hi) s = .next (scTripped s) := by
  have hmark : running (scMark s) = true := hr
  show execScTrip hi s = _
  unfold execScTrip
  rw [if_neg (by simp [ha, hx])]
  dsimp only
  rw [if_neg (by simp [hmark])]
  rfl

theorem exec_scTrip_held (s : State) (hi : Bool) (hr : running s = false) (ha : scArmed s = true) (hx : scDir s hi = true)
    (hd : s.gate.disc = false) : exec (.scTrip hi) s = .next (noteConditions (latchDisc (scMark s) (scCause s))) := by
  have hmark : running (scMark s) = false := hr
  have hfree : (scMark s).gate.disc = false := hd
  show execScTrip hi s = _
  unfold execScTrip
  rw [if_neg (by simp [ha, hx])]
  dsimp only
  rw [if_pos (by simp [hmark]), if_neg (by simp [hfree])]
  rfl

theorem scTrip_idle (s : State) (hi : Bool) (h : scArmed s = false ∨ scDir s hi = false) : Idle (.scTrip hi) s := by
  show execScTrip hi s = _
  unfold execScTrip
  rw [if_pos (by obtain h | h := h <;> simp [h])]

theorem scMark_only (s : State) : Only [.acq] s (scMark s) := (mapOpen_only ..).trans (only_acq (by decide) ..)

/-- The wake that a trip brings in PATROL. -/
theorem scTripped_wakes (s : State) : Only [.pw, .host, .sp, .np] (discLatch (scMark s) (scCause s)) (scTripped s) := by
  unfold scTripped
  dsimp only
  split
  · exact wakeAlarm_only ..
  · exact Only.refl ..

theorem scTrip_trips (s : State) (hi : Bool) (hr : running s = true) (ha : scArmed s = true) (hx : scDir s hi = true)
    (hd : s.gate.disc = false) : Does (.scTrip hi) s fun t =>
    t.gate.disc = true ∧ t.gate.state = .turnoff ∧ ownFault t = true ∧
      t.gate.cause = (if s.gate.state = .on ∨ (s.gate.state = .turnoff ∧ s.gate.fromOn = true) then 2 else 1) ∧
      t.store = { s.store with disc := some t.gate.cause, discAt := s.now } ∧
      t.acq = { s.acq with spans := s.acq.spans.map (fun sp => if spanOpen s sp then { sp with scTrip := true } else sp),
                           scAt := some s.now } ∧
      (isAnchor s = true → torqueOn s = true → s.tq.enabling = [] → t.tq.ten = false ∧ t.tq.rd = .removed) ∧
      Only (.acq :: .core :: .gate :: .store :: .prot :: .tq :: .pw :: journalParts) s t := by
  obtain ⟨hdisc, hstate, hcause, hstore, htorque⟩ := discLatch_armed (scMark s) (scCause s) hd ha
  have hlatch := discLatch_only (scMark s) (scCause s)
  have hwake := scTripped_wakes s
  have hgate : (scTripped s).gate = (discLatch (scMark s) (scCause s)).gate := hwake.same .gate (by decide)
  have htq : (scTripped s).tq = (discLatch (scMark s) (scCause s)).tq := hwake.same .tq (by decide)
  rw [← hgate] at hdisc hstate hcause
  rw [← htq] at htorque
  have hacq : (scTripped s).acq = (scMark s).acq := Eq.trans (hwake.same .acq (by decide)) (hlatch.same .acq (by decide))
  refine ⟨_, exec_scTrip_running s hi hr ha hx, hdisc, hstate, ownFault_of_disc _ hdisc, hcause.trans (scCause_eq s), ?store,
    hacq, fun h ht _ => htorque h ht, ?only⟩
  case store =>
    rw [hcause]
    exact Eq.trans (hwake.same .store (by decide)) hstore
  case only =>
    exact ((scMark_only s).mono (by decide)).trans ((hlatch.mono (by decide)).trans (hwake.mono (by decide)))

/-- While reset is held the latch stands without a record. -/
theorem scTrip_held (s : State) (hi : Bool) (hr : running s = false) (ha : scArmed s = true) (hx : scDir s hi = true)
    (hd : s.gate.disc = false) : Does (.scTrip hi) s fun t =>
    t.gate.disc = true ∧ t.gate.state = s.gate.state ∧ t.store = { s.store with disc := some t.gate.cause, discAt := s.now } ∧
      t.jrn = s.jrn ∧ Only [.acq, .gate, .store, .prot, .chn, .host] s t := by
  have hframe : Only [.acq, .gate, .store, .prot, .chn, .host] s (noteConditions (latchDisc (scMark s) (scCause s))) :=
    ((scMark_only s).mono (by decide)).trans
      (((latchDisc_only ..).mono (by decide)).trans ((noteConditions_only _).mono (by decide)))
  refine ⟨_, exec_scTrip_held s hi hr ha hx hd, ?_⟩
  beta_reduce
  rw [noteConditions_gate, noteConditions_store]
  exact ⟨rfl, rfl, rfl, hframe.same .jrn (by decide), hframe⟩

/-! ## The self-test and the ramp's start (07 R222, R223; 09 R320) -/

/-- Some enabled direction has not tripped in the self-test. -/
def scTestFails (s : State) (a b : Bool) : Bool := (scDir s true && !a) || (scDir s false && !b)

theorem exec_scSelfTestDone (s : State) (a b : Bool) (ha : active s = true) (ht : s.gate.state = .test) :
    exec (.scSelfTestDone a b) s =
      .next (if scTestFails s a b then discLatch s 8 else irqRaise { s with gate.testOk := true } 19) := by
  show execScSelfTestDone a b s = _
  unfold execScSelfTestDone
  rw [if_neg (by simp [ha, ht])]
  cases h : scTestFails s a b with
  | true => exact if_pos h
  | false => exact if_neg (Bool.eq_false_iff.mp h)

theorem scSelfTestDone_passes (s : State) (a b : Bool) (ha : active s = true) (ht : s.gate.state = .test)
    (hhigh : scDir s true = true → a = true) (hlow : scDir s false = true → b = true) : Does (.scSelfTestDone a b) s fun t =>
    t.gate = { s.gate with testOk := true } ∧ t.core = { s.core with ipend := t.core.ipend } ∧ Only [.gate, .core] s t := by
  have hpass : scTestFails s a b = false := by
    simp only [scTestFails, Bool.or_eq_false_iff, Bool.and_eq_false_imp, Bool.not_eq_false']
    exact ⟨hhigh, hlow⟩
  have hexec := exec_scSelfTestDone s a b ha ht
  rw [hpass, if_neg Bool.false_ne_true] at hexec
  exact ⟨_, hexec, rfl, rfl, (only_gate (by decide) ..).trans ((irqRaise_only ..).mono (by decide))⟩

theorem scSelfTestDone_fails (s : State) (a b : Bool) (ha : active s = true) (ht : s.gate.state = .test)
    (hd : s.gate.disc = false) (hmiss : (scDir s true = true ∧ a = false) ∨ (scDir s false = true ∧ b = false)) :
    Does (.scSelfTestDone a b) s fun t =>
      t.gate.disc = true ∧ t.gate.cause = 8 ∧ t.gate.state = .fault ∧ t.gate.cp = false ∧ ownFault t = true := by
  have hfail : scTestFails s a b = true := by simpa [scTestFails] using hmiss
  have hexec := exec_scSelfTestDone s a b ha ht
  rw [hfail, if_pos rfl] at hexec
  obtain ⟨hdisc, hcause, hstate, hcp⟩ := discLatch_test s 8 hd ht
  exact ⟨_, hexec, hdisc, hcause, hstate, hcp, ownFault_of_disc _ hdisc⟩

theorem gateRampStart_starts (s : State) (ha : active s = true) (ht : s.gate.state = .test) (hok : s.gate.testOk = true) :
    Does .gateRampStart s fun t =>
    t = { s with gate := { s.gate with state := .ramp, ck := 0, overs := 0,
                                       hold := fld s.cfg.gateCfg2 15 8 != 0 && s.prot.ovTrip != 0 } } := by
  refine ⟨noteHold { s with gate.state := .ramp, gate.ck := 0, gate.overs := 0 }, ?exec, by simp [noteHold]⟩
  show execGateRampStart s = _
  unfold execGateRampStart
  rw [if_pos (by simp [ha, ht, hok])]

theorem gateRampStart_idle (s : State) (h : s.gate.state ≠ .test ∨ s.gate.testOk = false) : Idle .gateRampStart s := by
  show execGateRampStart s = _
  unfold execGateRampStart
  rw [if_neg (by obtain h | h := h <;> simp [h])]

/-- Settles O24: a trip on the run by `discLatch_armed`, a failed self-test by `discLatch_test`. -/
theorem shortCircuitComparator : Obligations.ShortCircuitComparator :=
  ⟨scTrip_trips, scTrip_held, scTrip_idle, scSelfTestDone_passes, scSelfTestDone_fails, gateRampStart_starts,
    gateRampStart_idle⟩

end Sys2Proof.Machine

/-! PROOFS. Balancing frames, grants and the ends of requests (08). -/

namespace Sys2Proof.Machine

/-! ## Sets of wells under the bitwise operations -/

theorem hasW_and (a b : Wells) (w : Well) : hasW (a &&& b) w = (hasW a w && hasW b w) := BitVec.getLsbD_and

theorem hasW_or (a b : Wells) (w : Well) : hasW (a ||| b) w = (hasW a w || hasW b w) := BitVec.getLsbD_or

theorem hasW_compl (a : Wells) (w : Well) : hasW (~~~ a) w = !hasW a w := by simp [hasW]

theorem hasW_allOnes (w : Well) : hasW (BitVec.allOnes 18) w = true := by
  rw [hasW, BitVec.getLsbD_allOnes, decide_eq_true w.isLt]

theorem hasW_reqMask (s : State) (w : Well) : hasW (reqMask s) w = s.bal.wells[w].req := by
  rw [reqMask, hasW_foldl_putW, if_pos ((mem_wellList _ w).mpr (hasW_allOnes w))]

theorem hasW_pausedMask (s : State) (w : Well) :
    hasW (pausedMask s) w = (s.bal.wells[w].req && s.bal.wells[w].pause != 0) := by
  rw [pausedMask, hasW_foldl_putW, if_pos ((mem_wellList _ w).mpr (hasW_allOnes w))]

theorem hasW_runMask (s : State) (w : Well) (h : hasW (runMask s) w = true) :
    s.bal.wells[w].req = true ∧ s.bal.wells[w].pause = 0 := by
  rw [runMask, hasW_and, hasW_compl, hasW_reqMask, hasW_pausedMask, Bool.and_eq_true] at h
  obtain ⟨hreq, hpause⟩ := h
  rw [hreq, Bool.true_and, Bool.not_eq_true', bne_eq_false_iff_eq] at hpause
  exact ⟨hreq, hpause⟩

theorem hasW_of_getLsbD {m : Wells} {i : Nat} (h : m.getLsbD i = true) : ∃ hi : i < 18, hasW m ⟨i, hi⟩ = true :=
  ⟨BitVec.lt_of_getLsbD h, h⟩

/-! ## A grant's end, and the end of a set of requests (08 R261, R271, R272, R899) -/

theorem openWells_closed (s : State) (m : Wells) (i : Well) :
    hasW (openWells s m).bal.closed i = (hasW s.bal.closed i && !hasW m i) := by
  show hasW (s.bal.closed &&& ~~~ m) i = _
  rw [hasW_and, hasW_compl]

theorem balEnd_ends (s : State) (m : Wells) (code : BitVec 4) (i : Well) : (balEnd s m code).bal.wells[i] =
    if hasW m i && s.bal.wells[i].req then endWell s.bal.wells[i] code else s.bal.wells[i] := by
  rw [← hasW_reqMask, ← hasW_and]
  simp [balEnd]

theorem balEnd_closed (s : State) (m : Wells) (code : BitVec 4) (i : Well) :
    hasW (balEnd s m code).bal.closed i = (hasW s.bal.closed i && !(hasW m i && s.bal.wells[i].req)) := by
  show hasW (s.bal.closed &&& ~~~ (m &&& reqMask s)) i = _
  rw [hasW_and, hasW_compl, hasW_and, hasW_reqMask]

theorem balEnd_grant (s : State) (m : Wells) (code : BitVec 4) (i : Well) :
    hasW (balEnd s m code).bal.grant i = (hasW s.bal.grant i && !(hasW m i && s.bal.wells[i].req)) := by
  show hasW (s.bal.grant &&& ~~~ (m &&& reqMask s)) i = _
  rw [hasW_and, hasW_compl, hasW_and, hasW_reqMask]

theorem balEnd_keeps (s : State) (m : Wells) (code : BitVec 4) :
    (balEnd s m code).bal.frame = s.bal.frame ∧ (balEnd s m code).bal.testRun = s.bal.testRun := by
  rw [balEnd]
  exact ⟨rfl, rfl⟩

theorem balEnd_closed_of_open (s : State) (m : Wells) (code : BitVec 4) (h : s.bal.closed = 0) :
    (balEnd s m code).bal.closed = 0 :=
  (wells_eq_zero_iff _).mpr fun i => by rw [balEnd_closed, h, hasW_zero, Bool.false_and]

theorem balGrantExpire_opens (s : State) (w : Well) : Does (.balGrantExpire w) s fun t =>
    t.bal.grant = putW s.bal.grant w false ∧ hasW t.bal.closed w = false ∧
      (∀ i : Well, i ≠ w → hasW t.bal.closed i = hasW s.bal.closed i) ∧ t.bal.wells = s.bal.wells ∧ Only [.bal] s t := by
  have hclosed := openWells_closed s (wbit w)
  simp only [hasW_wbit] at hclosed
  refine ⟨_, rfl, rfl, ?_, fun i hi => ?_, rfl, (openWells_only ..).trans (only_bal (by decide) ..)⟩
  · exact (hclosed w).trans (by simp)
  · exact (hclosed i).trans (by simp [hi])

theorem exec_balTimeElapsed (s : State) (w : Well) : exec (.balTimeElapsed w) s =
    if active s && s.bal.wells[w].req then .next (balEnd s (wbit w) 1) else .next s := rfl

theorem balTimeElapsed_ends (s : State) (w : Well) (ha : active s = true) (hr : s.bal.wells[w].req = true) :
    Does (.balTimeElapsed w) s fun t =>
      t.bal.wells[w] = endWell s.bal.wells[w] 1 ∧ (∀ i, i ≠ w → t.bal.wells[i] = s.bal.wells[i]) ∧
        hasW t.bal.closed w = false ∧ hasW t.bal.grant w = false ∧
        (∀ i : Well, i ≠ w → hasW t.bal.closed i = hasW s.bal.closed i ∧ hasW t.bal.grant i = hasW s.bal.grant i) ∧
        Only [.bal] s t := by
  have hself : (hasW (wbit w) w && s.bal.wells[w].req) = true := by rw [hasW_wbit, decide_eq_true rfl, hr]; rfl
  have hother : ∀ i, i ≠ w → (hasW (wbit w) i && s.bal.wells[i].req) = false := fun i hi => by
    rw [hasW_wbit, decide_eq_false hi, Bool.false_and]
  refine ⟨_, (exec_balTimeElapsed s w).trans (if_pos (by rw [ha, hr]; rfl)), ?_, fun i hi => ?_, ?_, ?_, fun i hi => ⟨?_, ?_⟩,
    balEnd_only ..⟩
  · rw [balEnd_ends, if_pos hself]
  · rw [balEnd_ends, hother i hi, if_neg Bool.false_ne_true]
  · rw [balEnd_closed, hself, Bool.not_true, Bool.and_false]
  · rw [balEnd_grant, hself, Bool.not_true, Bool.and_false]
  · rw [balEnd_closed, hother i hi, Bool.not_false, Bool.and_true]
  · rw [balEnd_grant, hother i hi, Bool.not_false, Bool.and_true]

theorem balTimeElapsed_idle (s : State) (w : Well) (hr : s.bal.wells[w].req = false) : Idle (.balTimeElapsed w) s :=
  (exec_balTimeElapsed s w).trans (if_neg (by rw [hr, Bool.and_false]; exact Bool.false_ne_true))

/-! ## An entry queued behind other changes (22 R831) -/

/-- An operation that touches neither the journal nor what an entry is formed from leaves an entry to be queued as before it. -/
theorem jrnPut_gains {l : List Part} {s u : State} (h : Only l s u)
    (hl : ∀ p ∈ [Part.jrn, .now, .rst, .store, .cfg, .ph, .sch], p ∉ l) (inc : Bool) (ty : Byte) (d : List Byte)
    (hroom : jrnRoom s = true) : JournalGains s (jrnPut u inc ty d) inc ty d := by
  have hjrn : u.jrn = s.jrn := h.same .jrn (hl _ List.mem_cons_self)
  have hput := jrnPut_room u inc ty d (by rw [jrnRoom, hjrn]; exact hroom)
  rwa [mkEntry_of_only h fun p hp => hl p (List.mem_cons_of_mem _ hp), hjrn] at hput

/-! ## `T_BAL_LOSS` (08 Table 8-7; 23 R851) -/

/-- Every request has ended with the loss of the host. -/
def lossEnded (s : State) : State := balEnd { s with pw.balGone := true } (BitVec.allOnes 18) 4

theorem exec_balLossExpire (s : State) (ha : active s = true) (hg : s.pw.balGone = false) : exec .balLossExpire s =
    .next (if reqMask s != 0 then jrnPut (lossEnded s) false 0x45 [4, 0] else lossEnded s) := by
  show execBalLossExpire s = _
  unfold execBalLossExpire
  rw [if_neg (by simp [ha, hg])]
  rfl

theorem lossEnded_only (s : State) : Only [.pw, .bal] s (lossEnded s) :=
  (only_pw (by decide) ..).trans ((balEnd_only ..).mono (by decide))

theorem lossEnded_pw (s : State) : (lossEnded s).pw = { s.pw with balGone := true } :=
  (balEnd_only { s with pw.balGone := true } ..).same .pw (by decide)

theorem lossEnded_ends (s : State) (w : Well) :
    (lossEnded s).bal.wells[w] = if s.bal.wells[w].req then endWell s.bal.wells[w] 4 else s.bal.wells[w] := by
  rw [lossEnded, balEnd_ends, hasW_allOnes, Bool.true_and]

theorem lossEnded_closed (s : State) (w : Well) :
    hasW (lossEnded s).bal.closed w = (hasW s.bal.closed w && !s.bal.wells[w].req) := by
  rw [lossEnded, balEnd_closed, hasW_allOnes, Bool.true_and]

theorem lossEnded_req (s : State) (w : Well) : (lossEnded s).bal.wells[w].req = false := by
  rw [lossEnded_ends]
  split
  case isTrue => rfl
  case isFalse h => exact Bool.eq_false_iff.mpr h

theorem balLossExpire_ends (s : State) (ha : active s = true) (hg : s.pw.balGone = false) : Does .balLossExpire s fun t =>
    t.pw = { s.pw with balGone := true } ∧ (∀ w : Well, t.bal.wells[w].req = false) ∧
      (∀ w : Well, s.bal.wells[w].req = true → t.bal.wells[w] = endWell s.bal.wells[w] 4 ∧ hasW t.bal.closed w = false) ∧
      (reqMask s = 0 → t.jrn = s.jrn) ∧ (reqMask s ≠ 0 → jrnRoom s = true → JournalGains s t false 0x45 [4, 0]) ∧
      Only (.pw :: .bal :: journalParts) s t := by
  have hended := lossEnded_only s
  have hwell : ∀ w : Well, s.bal.wells[w].req = true →
      (lossEnded s).bal.wells[w] = endWell s.bal.wells[w] 4 ∧ hasW (lossEnded s).bal.closed w = false := fun w hw =>
    ⟨(lossEnded_ends s w).trans (if_pos hw), by rw [lossEnded_closed, hw, Bool.not_true, Bool.and_false]⟩
  refine ⟨_, exec_balLossExpire s ha hg, ?_⟩
  by_cases hreq : reqMask s = 0
  · rw [if_neg (by simp [hreq])]
    exact ⟨lossEnded_pw s, lossEnded_req s, hwell, fun _ => hended.same .jrn (by decide), absurd hreq, hended.mono (by decide)⟩
  · rw [if_pos (by simpa using hreq)]
    beta_reduce
    rw [jrnPut_bal, jrnPut_pw]
    refine ⟨lossEnded_pw s, lossEnded_req s, hwell, fun h => absurd h hreq, fun _ => jrnPut_gains hended (by decide) _ _ _,
      (hended.mono (by decide)).trans ((jrnPut_only ..).mono (by decide))⟩

theorem balLossExpire_idle (s : State) (hg : s.pw.balGone = true) : Idle .balLossExpire s := by
  show execBalLossExpire s = _
  unfold execBalLossExpire
  rw [if_pos (by simp [hg])]

/-! ## Which wells a frame keeps, and for how long (08 R262 to R264; 03 R90, R91) -/

/-- Wells taken out of a set one after the other, each under its own condition. -/
theorem hasW_foldl_drop (drop : Well → Bool) (l : List Well) (m : Wells) (v : Well) :
    hasW (l.foldl (fun r w => if drop w then putW r w false else r) m) v = (hasW m v && !(decide (v ∈ l) && drop v)) := by
  induction l generalizing m with
  | nil => simp
  | cons w l ih =>
    have hstep : hasW (if drop w then putW m w false else m) v = (hasW m v && !(decide (v = w) && drop v)) := by
      split
      case isTrue hd =>
        rw [hasW_putW]
        by_cases hv : v = w
        · simp [hv, hd]
        · simp [hv]
      case isFalse hd =>
        by_cases hv : v = w
        · simp [hv, hd]
        · simp [hv]
    rw [List.foldl_cons, ih, hstep, Bool.and_assoc, ← Bool.not_or, ← Bool.and_or_distrib_right]
    simp

theorem hasW_dropNeighbours (m : Wells) (frame : Nat) (w : Well) : hasW (dropNeighbours m frame) w =
    (hasW m w && !(hasNeighbour m w && (w.val + 1) % 2 == frame % 2)) := by
  rw [dropNeighbours, hasW_foldl_drop]
  cases h : hasW m w with
  | true => simp [mem_wellList, h]
  | false => rfl

/-- Of two requested neighbours, one has the parity that rests in the frame. -/
theorem dropNeighbours_apart (m : Wells) (frame i : Nat) :
    ¬ ((dropNeighbours m frame).getLsbD i = true ∧ (dropNeighbours m frame).getLsbD (i + 1) = true) := by
  rintro ⟨hlow, hhigh⟩
  obtain ⟨hi, hlow⟩ := hasW_of_getLsbD hlow
  obtain ⟨hj, hhigh⟩ := hasW_of_getLsbD hhigh
  rw [hasW_dropNeighbours] at hlow hhigh
  simp only [hasW, hasNeighbour, Bool.and_eq_true, Bool.not_eq_true', Bool.and_eq_false_imp, Bool.or_eq_true, decide_eq_true_eq,
    beq_eq_false_iff_ne, Nat.add_sub_cancel] at hlow hhigh
  obtain ⟨hmi, hlowOdd⟩ := hlow
  obtain ⟨hmj, hhighOdd⟩ := hhigh
  have h₁ := hlowOdd (.inr ⟨by omega, hmj⟩)
  have h₂ := hhighOdd (.inl ⟨by omega, hmi⟩)
  omega

theorem grantTime_le (s : State) (keep : Wells) : grantTime s keep ≤ frameCt := by
  unfold grantTime
  dsimp only
  split
  · exact Nat.le_refl _
  · split
    · exact Nat.zero_le _
    · split
      · exact Nat.le_refl _
      case isFalse hmore =>
        exact Nat.div_le_of_le_mul (by rw [Nat.mul_comm]; exact Nat.mul_le_mul_right _ (Nat.le_of_not_le hmore))

theorem pAllow_hot (t : Int) (h : 8000 ≤ t) : pAllow t = 0 := by
  unfold pAllow
  rw [if_neg (by omega), if_pos h]

theorem grantTime_hot (s : State) (keep : Wells) (he : extFet s = false) (h : 8000 ≤ s.aux.tmax.toInt) :
    grantTime s keep = 0 := by
  unfold grantTime
  rw [if_neg (by simp [he])]
  exact if_pos (pAllow_hot _ h)

/-! ## A frame (08 R257, R261 to R264, R269, R273) -/

theorem pauseBit_testWait : ∀ a b c d : Bool, (BitVec.ofNat 4 (b2n a + 2 * b2n b + 4 * b2n c + 8 * b2n d)).getLsbD 3 = d := by
  decide

theorem tested_of_not_paused (s : State) (w : Well) (h : pauseOf s w = 0) : tested s w = true := by
  have hwait := pauseBit_testWait (s.bal.wells[w].target && (fresh2s s s.acq.usable[w]).isNone) (hotPause s) (xcPause s w)
    (hasW (testWanted s ||| s.bal.testRun) w || !tested s w)
  change (pauseOf s w).getLsbD 3 = _ at hwait
  rw [h, show BitVec.getLsbD 0 3 = false from rfl, eq_comm, Bool.or_eq_false_iff] at hwait
  simpa using hwait.2

/-- What the last frame granted has ended, and the next one is counted. -/
def frameBegun (s : State) : State :=
  { openSwitches s with bal.frame := s.bal.frame + 1, bal.grant := 0, bal.grantCt := 0 }

/-- `BAL_RB` takes effect. -/
def rbTaken (s : State) : State := { s with bal.rbUse := s.cfg.balRb }

/-- A changed `BAL_RB` has ended the requests that it refuses (08 R254, R257). -/
def refusedEnded (s : State) : State :=
  if s.bal.rbUse != s.cfg.balRb then balEnd (rbTaken s) (wellsWhere (reqMask (rbTaken s)) (r254 (rbTaken s) (rbTaken s).bal.rbUse)) 9
  else rbTaken s

/-- The requests at their target have ended (08 R262). -/
def reachedEnded (s : State) : State := balEnd s (wellsWhere (reqMask s) (reached s)) 2

/-- The wells whose test has grown old wait for the next one (08 R273). -/
def frameDue (s : State) : State :=
  { s with bal.due := s.bal.due ||| wellsWhere (reqMask s) (fun w => !tested s w) }

/-- Every request is paused by the causes of this moment (08 R271). -/
def framePaused (s : State) : State :=
  { s with bal.wells := Vector.ofFn fun i =>
                      { s.bal.wells[i] with pause := if s.bal.wells[i].req then pauseOf s i else 0 } }

/-- The state in which the grants of a frame are decided. -/
def frameReady (s : State) : State := framePaused (frameDue (reachedEnded (refusedEnded s)))

/-- The wells that conduct in the frame (08 R264). -/
def frameKept (s : State) (frame : Nat) : Wells := if extFet s then runMask s else dropNeighbours (runMask s) frame

/-- They are granted their time. -/
def frameGranted (s : State) (frame : Nat) : State :=
  let g := grantTime s (frameKept s frame)
  { s with bal.grant := if g = 0 then 0 else frameKept s frame, bal.grantCt := g }

theorem balDecide_eq (s : State) (frame : Nat) :
    balDecide s frame = reclose (frameGranted (frameReady s) frame) := rfl

theorem exec_balFrame (s : State) (hr : running s = true) : exec .balFrame s =
    .next (if fwOn (frameBegun s) then balDecide (frameBegun s) s.bal.frame else frameBegun s) := by
  show execBalFrame s = _
  unfold execBalFrame
  rw [if_neg (by simp [hr])]
  rfl

/-! ### What each stage leaves -/

theorem frameBegun_only (s : State) : Only [.bal] s (frameBegun s) := by
  have h : frameBegun s = { s with bal := (frameBegun s).bal } := by
    unfold frameBegun openSwitches
    split <;> rfl
  rw [h]
  exact only_bal (by decide) ..

theorem frameBegun_testRun (s : State) : (frameBegun s).bal.testRun = s.bal.testRun := by
  unfold frameBegun openSwitches
  split <;> rfl

theorem frameBegun_closed (s : State) : (frameBegun s).bal.closed = 0 := openSwitches_closed s

theorem refusedEnded_only (s : State) : Only [.bal] s (refusedEnded s) := by
  have h : Only [.bal] s (rbTaken s) := only_bal (by decide) ..
  unfold refusedEnded
  split
  · exact h.trans (balEnd_only ..)
  · exact h

theorem refusedEnded_keeps (s : State) :
    (refusedEnded s).bal.frame = s.bal.frame ∧ (refusedEnded s).bal.testRun = s.bal.testRun := by
  unfold refusedEnded
  split
  · exact balEnd_keeps ..
  · exact ⟨rfl, rfl⟩

theorem refusedEnded_closed (s : State) (h : s.bal.closed = 0) : (refusedEnded s).bal.closed = 0 := by
  unfold refusedEnded
  split
  · exact balEnd_closed_of_open (rbTaken s) _ _ h
  · exact h

theorem frameReady_only (s : State) : Only [.bal] s (frameReady s) :=
  (refusedEnded_only s).trans ((balEnd_only ..).trans ((only_bal (by decide) ..).trans (only_bal (by decide) ..)))

theorem frameReady_keeps (s : State) :
    (frameReady s).bal.frame = s.bal.frame ∧ (frameReady s).bal.testRun = s.bal.testRun := by
  obtain ⟨hframe, htest⟩ := refusedEnded_keeps s
  rw [frameReady, framePaused, frameDue, reachedEnded]
  dsimp only
  rw [(balEnd_keeps ..).1, (balEnd_keeps ..).2]
  exact ⟨hframe, htest⟩

theorem frameReady_closed (s : State) (h : s.bal.closed = 0) : (frameReady s).bal.closed = 0 := by
  have hkept : (frameReady s).bal.closed = (reachedEnded (refusedEnded s)).bal.closed := by
    rw [frameReady, framePaused, frameDue]
  rw [hkept]
  exact balEnd_closed_of_open _ _ _ (refusedEnded_closed s h)

theorem framePaused_well (s : State) (w : Well) : (framePaused s).bal.wells[w] =
    { s.bal.wells[w] with pause := if s.bal.wells[w].req then pauseOf s w else 0 } := by
  simp [framePaused]

/-- A well that runs after the pauses are set has a test that is not too old. -/
theorem framePaused_runs (s : State) (w : Well) (h : hasW (runMask (framePaused s)) w = true) :
    tested (framePaused s) w = true := by
  obtain ⟨hreq, hpause⟩ := hasW_runMask _ w h
  rw [framePaused_well] at hreq hpause
  dsimp only at hreq hpause
  rw [if_pos hreq] at hpause
  have htested := tested_of_not_paused s w hpause
  unfold tested at htested ⊢
  rw [framePaused_well]
  exact htested

theorem hasW_frameKept (s : State) (frame : Nat) (w : Well) (h : hasW (frameKept s frame) w = true) :
    hasW (runMask s) w = true := by
  unfold frameKept at h
  split at h
  · exact h
  · rw [hasW_dropNeighbours, Bool.and_eq_true] at h
    exact h.1

theorem hasW_frameGranted (s : State) (frame : Nat) (w : Well) (h : hasW (frameGranted s frame).bal.grant w = true) :
    hasW (frameKept s frame) w = true := by
  unfold frameGranted at h
  dsimp only at h
  split at h
  · rw [hasW_zero] at h
    exact absurd h Bool.false_ne_true
  · exact h

theorem reclose_bal (s : State) :
    (reclose s).bal = { s.bal with closed := if mayClose s then s.bal.grant else s.bal.closed } := by
  unfold reclose
  split <;> rfl

theorem mayClose_iff (s : State) : mayClose s = true ↔ active s = true ∧ noSpan s = true ∧ s.sch.ticks = [] ∧ s.acq.req = none ∧
    s.acq.ow = .idle ∧ s.bal.testRun = 0 := by
  simp [mayClose, tickPending, and_assoc]

/-- The last frame's grants have ended and none is given. -/
theorem frameBegun_grant (s : State) : (frameBegun s).bal.grant = 0 ∧ (frameBegun s).bal.grantCt = 0 := ⟨rfl, rfl⟩

/-- The grants of a frame go only to tested wells that run, for at most the frame, and in internal mode to no neighbours and at 125 °C
to none. -/
def GrantsHold (s t : State) : Prop :=
  (∀ w : Well, hasW t.bal.grant w = true → t.bal.wells[w].req = true ∧ t.bal.wells[w].pause = 0 ∧ tested t w = true) ∧
    (extFet s = false → t.bal.grantCt ≤ frameCt ∧
      ∀ i, i < 17 → ¬ (t.bal.grant.getLsbD i = true ∧ t.bal.grant.getLsbD (i + 1) = true)) ∧
    (extFet s = false → 8000 ≤ s.aux.tmax.toInt → t.bal.grant = 0)

theorem grantsHold_of_none {s t : State} (hg : t.bal.grant = 0) (hc : t.bal.grantCt = 0) : GrantsHold s t := by
  refine ⟨fun w h => ?_, fun _ => ⟨hc ▸ Nat.zero_le _, fun i _ h => ?_⟩, fun _ _ => hg⟩
  · rw [hg, hasW_zero] at h
    exact absurd h Bool.false_ne_true
  · rw [hg] at h
    exact absurd h.1 (by simp)

theorem frameGranted_holds (s : State) (frame : Nat) (hp : ∀ w : Well, hasW (runMask s) w = true → tested s w = true) :
    GrantsHold s (frameGranted s frame) := by
  refine ⟨fun w h => ?_, fun he => ⟨grantTime_le .., fun i _ h => ?_⟩, fun he hhot => ?_⟩
  · have hrun := hasW_frameKept s frame w (hasW_frameGranted s frame w h)
    obtain ⟨hreq, hpause⟩ := hasW_runMask s w hrun
    exact ⟨hreq, hpause, hp w hrun⟩
  · obtain ⟨hi, hlow⟩ := hasW_of_getLsbD h.1
    obtain ⟨hj, hhigh⟩ := hasW_of_getLsbD h.2
    have hkept : frameKept s frame = dropNeighbours (runMask s) frame := if_neg (by simp [he])
    have hlow := hasW_frameGranted s frame _ hlow
    have hhigh := hasW_frameGranted s frame _ hhigh
    rw [hkept] at hlow hhigh
    exact dropNeighbours_apart (runMask s) frame i ⟨hlow, hhigh⟩
  · exact if_pos (grantTime_hot s _ he hhot)

theorem GrantsHold.of_before {s u t : State} (h : GrantsHold u t) (hcfg : u.cfg = s.cfg) (haux : u.aux = s.aux) :
    GrantsHold s t := by
  simpa only [GrantsHold, extFet, hcfg, haux] using h

theorem GrantsHold.reclose {s u : State} (h : GrantsHold s u) : GrantsHold s (reclose u) := by
  have hnow : (Machine.reclose u).now = u.now := (reclose_only u).same .now (by decide)
  simpa only [GrantsHold, tested, reclose_bal, hnow] using h

/-- The firmware has decided what a frame grants, and the switches have closed where they may. -/
theorem balDecide_holds (s : State) (frame : Nat) : GrantsHold s (balDecide s frame) :=
  have hready := frameReady_only s
  ((frameGranted_holds (frameReady s) frame (framePaused_runs _)).reclose).of_before (hready.same .cfg (by decide))
    (hready.same .aux (by decide))

theorem frameGranted_only (s : State) (frame : Nat) : Only [.bal] s (frameGranted s frame) := only_bal (by decide) ..

theorem balDecide_only (s : State) (frame : Nat) : Only [.bal] s (balDecide s frame) :=
  (frameReady_only s).trans ((frameGranted_only ..).trans (reclose_only _))

theorem balDecide_frame (s : State) (frame : Nat) : (balDecide s frame).bal.frame = s.bal.frame := by
  rw [balDecide_eq, reclose_bal]
  exact (frameReady_keeps s).1

/-- Where nothing holds the switches open, they close under the grants. -/
theorem balDecide_closed (s : State) (frame : Nat) (h : s.bal.closed = 0) :
    (balDecide s frame).bal.closed = 0 ∨ ((balDecide s frame).bal.closed = (balDecide s frame).bal.grant ∧ mayClose s = true) := by
  have hready : mayClose (frameGranted (frameReady s) frame) = mayClose s := by
    have hframe := (frameReady_only s).trans (frameGranted_only (frameReady s) frame)
    have hactive := active_of_only hframe (by decide) (by decide)
    have hnow : (frameGranted (frameReady s) frame).now = s.now := hframe.same .now (by decide)
    have hacq : (frameGranted (frameReady s) frame).acq = s.acq := hframe.same .acq (by decide)
    have hsch : (frameGranted (frameReady s) frame).sch = s.sch := hframe.same .sch (by decide)
    have htest : (frameGranted (frameReady s) frame).bal.testRun = s.bal.testRun := by
      rw [frameGranted, (frameReady_keeps s).2]
    simp only [mayClose, noSpan, spanOpen, tickPending, hactive, hnow, hacq, hsch, htest]
  rw [balDecide_eq, reclose_bal]
  rw [hready]
  cases hmay : mayClose s with
  | true => exact .inr ⟨rfl, rfl⟩
  | false => exact .inl (frameReady_closed s h)

theorem balFrame_grants (s : State) (hr : running s = true) : Does .balFrame s fun t =>
    t.bal.frame = s.bal.frame + 1 ∧
      (∀ w : Well, hasW t.bal.grant w = true →
        t.bal.wells[w].req = true ∧ t.bal.wells[w].pause = 0 ∧ tested t w = true) ∧
      (extFet s = false → t.bal.grantCt ≤ frameCt ∧
        ∀ i, i < 17 → ¬ (t.bal.grant.getLsbD i = true ∧ t.bal.grant.getLsbD (i + 1) = true)) ∧
      (extFet s = false → 8000 ≤ s.aux.tmax.toInt → t.bal.grant = 0) ∧ (fwOn s = false → t.bal.grant = 0) ∧
      (t.bal.closed = 0 ∨ (t.bal.closed = t.bal.grant ∧ noSpan s = true ∧ s.sch.ticks = [] ∧ s.acq.req = none ∧ s.acq.ow = .idle ∧
        s.bal.testRun = 0 ∧ fwOn s = true)) ∧
      Only [.bal] s t := by
  have hbegun := frameBegun_only s
  have hfw : fwOn (frameBegun s) = fwOn s := fwOn_of_only hbegun (by decide) (by decide) (by decide) (by decide)
  refine ⟨_, exec_balFrame s hr, ?_⟩
  rw [hfw]
  cases hon : fwOn s with
  | false =>
    obtain ⟨hgrant, hct⟩ := frameBegun_grant s
    obtain ⟨hruns, hapart, hhot⟩ : GrantsHold s (frameBegun s) := grantsHold_of_none hgrant hct
    exact ⟨rfl, hruns, hapart, hhot, fun _ => hgrant, .inl (frameBegun_closed s), hbegun⟩
  | true =>
    obtain ⟨hruns, hapart, hhot⟩ := (balDecide_holds (frameBegun s) s.bal.frame).of_before (hbegun.same .cfg (by decide))
      (hbegun.same .aux (by decide))
    refine ⟨balDecide_frame .., hruns, hapart, hhot, fun h => absurd h Bool.noConfusion, ?_, hbegun.trans (balDecide_only ..)⟩
    obtain hopen | ⟨hclosed, hmay⟩ := balDecide_closed (frameBegun s) s.bal.frame (frameBegun_closed s)
    · exact .inl hopen
    · obtain ⟨-, hspan, hticks, hreq, how, htest⟩ := (mayClose_iff _).mp hmay
      have hacq : (frameBegun s).acq = s.acq := hbegun.same .acq (by decide)
      have hnow : (frameBegun s).now = s.now := hbegun.same .now (by decide)
      have hsch : (frameBegun s).sch = s.sch := hbegun.same .sch (by decide)
      rw [frameBegun_testRun] at htest
      simp only [noSpan, spanOpen, hacq, hnow, hsch] at hspan hticks hreq how
      exact .inr ⟨hclosed, hspan, hticks, hreq, how, htest, rfl⟩

/-- Settles O22: a frame in the stages of `balDecide`, whose grants hold by `frameGranted_holds`; the ends of requests by `balEnd`. -/
theorem balancingFramesAndEnds : Obligations.BalancingFramesAndEnds :=
  ⟨balFrame_grants, balGrantExpire_opens, balTimeElapsed_ends, balTimeElapsed_idle, balLossExpire_ends, balLossExpire_idle⟩

end Sys2Proof.Machine

/-! PROOFS. Switch tests (08, 14). -/

namespace Sys2Proof.Machine

/-! ## A test starts (08 R268, R274, R275) -/

theorem openSwitches_wells (s : State) : (openSwitches s).bal.wells = s.bal.wells := by
  unfold openSwitches
  split <;> rfl

/-- The test of the wells that wait for one has begun, with every switch open. -/
def testBegun (s : State) : State :=
  let u := openSwitches s
  { u with bal.testRun := testWanted s, bal.due := 0, bal.testWait := !quietOk u, bal.testEven := (testWanted s &&& oddWells) == 0,
           bal.testAt := u.now, bal.testOn := 0 }

/-- A test may start. -/
def mayTest (s : State) : Bool :=
  fwOn s && noSpan s && !tickPending s && s.acq.req.isNone && s.acq.ow == .idle && s.bal.testRun == 0 && !dieHot s &&
    testWanted s != 0

theorem exec_switchTestStart (s : State) : exec .switchTestStart s = if mayTest s then .next (testBegun s) else .next s := rfl

theorem testBegun_only (s : State) : Only [.bal] s (testBegun s) := by
  have h : testBegun s = { s with bal := (testBegun s).bal } := by
    unfold testBegun openSwitches
    split <;> rfl
  rw [h]
  exact only_bal (by decide) ..

theorem switchTestStart_begins (s : State) (hf : fwOn s = true) (hn : noSpan s = true) (ht : s.sch.ticks = [])
    (hq : s.acq.req = none) (ho : s.acq.ow = .idle) (hr : s.bal.testRun = 0) (hd : dieHot s = false) (hw : testWanted s ≠ 0) :
    Does .switchTestStart s fun t =>
      t.bal.testRun = testWanted s ∧ t.bal.due = 0 ∧ t.bal.closed = 0 ∧ t.bal.testOn = 0 ∧ t.bal.testAt = s.now ∧
        t.bal.wells = s.bal.wells ∧ t.bal.testEven = (testWanted s &&& oddWells == 0) ∧ Only [.bal] s t := by
  have hmay : mayTest s = true := by
    simp only [mayTest, tickPending, hf, hn, ht, hq, ho, hr, hd, bne_iff_ne.mpr hw]
    rfl
  have hnow : (openSwitches s).now = s.now := (openSwitches_only s).same .now (by decide)
  exact ⟨_, (exec_switchTestStart s).trans (if_pos hmay), rfl, rfl, openSwitches_closed s, rfl, hnow, openSwitches_wells s, rfl,
    testBegun_only s⟩

theorem switchTestStart_idle (s : State)
    (h : noSpan s = false ∨ s.sch.ticks ≠ [] ∨ s.acq.req ≠ none ∨ dieHot s = true ∨ testWanted s = 0) :
    Idle .switchTestStart s := by
  have hmay : mayTest s = false := by
    obtain h | h | h | h | h := h
    · simp [mayTest, h]
    · simp [mayTest, tickPending, h]
    · simp [mayTest, h]
    · simp [mayTest, h]
    · simp [mayTest, h]
  exact (exec_switchTestStart s).trans (if_neg (Bool.eq_false_iff.mp hmay))

/-! ## Causes that have arisen pause their wells (08 R271, R272) -/

theorem hasW_foldl_or {α : Type} (f : α → Wells) (l : List α) (m : Wells) (w : Well) :
    hasW (l.foldl (fun m t => m ||| f t) m) w = (hasW m w || l.any fun t => hasW (f t) w) := by
  induction l generalizing m with
  | nil => simp
  | cons t l ih => rw [List.foldl_cons, ih, hasW_or, List.any_cons, Bool.or_assoc]

/-- A used CELL-role well whose test is due waits for it. -/
theorem hasW_testWanted_of_due (s : State) (w : Well) (hd : hasW s.bal.due w = true) (hc : hasW (cellMask s.cfg) w = true) :
    hasW (testWanted s) w = true := by
  rw [testWanted, hasW_and, hasW_foldl_or, hd, hc]
  rfl

theorem markPauses_well (s : State) (w : Well) : (markPauses s).bal.wells[w] =
    { s.bal.wells[w] with pause := if s.bal.wells[w].req then
        s.bal.wells[w].pause ||| (if hotPause s then 2 else 0) ||| (if xcPause s w then 4 else 0) |||
          (if hasW (testWanted s ||| s.bal.testRun) w then 8 else 0) else 0 } := by
  simp [markPauses]

theorem dropHotTest_bal (s : State) : (dropHotTest s).bal.wells = s.bal.wells ∧ (dropHotTest s).bal.closed = s.bal.closed ∧
    (dropHotTest s).bal.due = s.bal.due ||| (if dieHot s then s.bal.testRun else 0) := by
  unfold dropHotTest
  cases dieHot s with
  | true =>
    rw [if_pos rfl, if_pos rfl, dropTest]
    exact ⟨rfl, rfl, rfl⟩
  | false => simp

theorem pausedMask_congr {s t : State} (h : t.bal.wells = s.bal.wells) : pausedMask t = pausedMask s := by
  unfold pausedMask
  rw [h]

/-- The wells whose switches open. -/
def pausedNow (s : State) : Wells := if dieHot s then BitVec.allOnes 18 else pausedMask (markPauses s)

theorem balPauseNow_eq (s : State) : balPauseNow s =
    let u := dropHotTest (markPauses s)
    { openWells u (pausedNow s) with bal.grant := u.bal.grant &&& ~~~ (pausedNow s) } := by
  have hhot : dieHot (dropHotTest (markPauses s)) = dieHot s :=
    dieHot_of_only ((markPauses_only s).trans (dropHotTest_only _)) (by decide) (by decide)
  have hpaused : pausedMask (dropHotTest (markPauses s)) = pausedMask (markPauses s) :=
    pausedMask_congr (dropHotTest_bal _).1
  unfold balPauseNow pausedNow
  dsimp only
  rw [hhot, hpaused]

theorem balPauseNow_wells (s : State) : (balPauseNow s).bal.wells = (markPauses s).bal.wells := by
  rw [balPauseNow_eq]
  exact (dropHotTest_bal _).1

theorem balPauseNow_due (s : State) : (balPauseNow s).bal.due = s.bal.due ||| (if dieHot s then s.bal.testRun else 0) := by
  obtain ⟨-, -, hdue⟩ := dropHotTest_bal (markPauses s)
  rw [balPauseNow_eq]
  refine hdue.trans ?_
  rw [dieHot_of_only (markPauses_only s) (by decide) (by decide)]
  rfl

theorem balPauseNow_closed (s : State) (w : Well) (h : hasW (pausedNow s) w = true) :
    hasW (balPauseNow s).bal.closed w = false := by
  rw [balPauseNow_eq]
  exact (openWells_closed ..).trans (by rw [h, Bool.not_true, Bool.and_false])

/-- A well that waits for its test is paused, and its switch opens. -/
theorem balPauseNow_waits (s : State) (w : Well) (hr : s.bal.wells[w].req = true) (hw : hasW (testWanted s) w = true) :
    (balPauseNow s).bal.wells[w].req = true ∧ (balPauseNow s).bal.wells[w].pause.getLsbD 3 = true ∧
      hasW (balPauseNow s).bal.closed w = false := by
  have hbit : (markPauses s).bal.wells[w].pause.getLsbD 3 = true := by
    rw [markPauses_well]
    dsimp only
    rw [if_pos hr, BitVec.getLsbD_or, hasW_or, hw, Bool.true_or]
    exact Bool.or_true _
  have hreq : (markPauses s).bal.wells[w].req = true := by rw [markPauses_well]; exact hr
  have hpause : (markPauses s).bal.wells[w].pause ≠ 0 := fun h => by
    rw [h] at hbit
    exact absurd hbit (by decide)
  rw [balPauseNow_wells]
  refine ⟨hreq, hbit, balPauseNow_closed s w ?_⟩
  unfold pausedNow
  split
  · exact hasW_allOnes w
  · rw [hasW_pausedMask, hreq, bne_iff_ne.mpr hpause]
    rfl

theorem exec_switchTestPeriodic (s : State) : exec .switchTestPeriodic s =
    if active s then .next (balPauseNow { s with bal.due := s.bal.due ||| reqMask s }) else .next s := rfl

theorem switchTestPeriodic_pauses (s : State) (ha : active s = true) : Does .switchTestPeriodic s fun t =>
    t.bal.due = s.bal.due ||| reqMask s ||| (if dieHot s then s.bal.testRun else 0) ∧
      (∀ w : Well, s.bal.wells[w].req = true → hasW (cellMask s.cfg) w = true →
        t.bal.wells[w].req = true ∧ t.bal.wells[w].pause.getLsbD 3 = true ∧ hasW t.bal.closed w = false) ∧ Only [.bal] s t := by
  refine ⟨_, (exec_switchTestPeriodic s).trans (if_pos ha), balPauseNow_due _, fun w hr hc => ?_,
    (only_bal (by decide) ..).trans (balPauseNow_only _)⟩
  refine balPauseNow_waits { s with bal.due := s.bal.due ||| reqMask s } w hr (hasW_testWanted_of_due _ w ?_ hc)
  show hasW (s.bal.due ||| reqMask s) w = true
  rw [hasW_or, hasW_reqMask, hr, Bool.or_true]

/-! ## What a verdict leaves (08 R276 to R281) -/

/-- The verdict stands: a pass is stamped; a failure marks the well and has ended its request, an open failure every request. -/
def VerdictStands (now : Nat) (w : Well) (v : SwitchVerdict) (b : BalUnit) : Prop :=
  (∀ ron, v = .pass ron → b.wells[w].passAt = some now ∧ hasW b.testFail w = false ∧ ∀ n, ron = some n → b.wells[w].ron = n) ∧
    (v = .closedFail → hasW b.testFail w = true ∧ b.wells[w].req = false) ∧
    (v = .openFail → hasW b.testFail w = true ∧ hasW b.stuck w = true ∧ ∀ i : Well, b.wells[i].req = false)

/-- What a verdict has left of this well stays, and no request begins. -/
def KeepsVerdict (w : Well) (a b : BalUnit) : Prop :=
  b.wells[w].passAt = a.wells[w].passAt ∧ b.wells[w].ron = a.wells[w].ron ∧ hasW b.testFail w = hasW a.testFail w ∧
    hasW b.stuck w = hasW a.stuck w ∧ ∀ i : Well, a.wells[i].req = false → b.wells[i].req = false

theorem VerdictStands.kept {now : Nat} {w : Well} {v : SwitchVerdict} {a b : BalUnit} (h : VerdictStands now w v a)
    (k : KeepsVerdict w a b) : VerdictStands now w v b := by
  obtain ⟨hpass, hclosed, hopen⟩ := h
  obtain ⟨hat, hron, hfail, hstuck, hreq⟩ := k
  unfold VerdictStands
  rw [hat, hron, hfail, hstuck]
  refine ⟨hpass, fun hv => ?_, fun hv => ?_⟩
  · obtain ⟨hmark, hend⟩ := hclosed hv
    exact ⟨hmark, hreq w hend⟩
  · obtain ⟨hmark, hlatch, hend⟩ := hopen hv
    exact ⟨hmark, hlatch, fun i => hreq i (hend i)⟩

theorem KeepsVerdict.of_eq {w : Well} {a b : BalUnit} (hw : b.wells = a.wells) (hf : b.testFail = a.testFail)
    (hs : b.stuck = a.stuck) : KeepsVerdict w a b := by
  unfold KeepsVerdict
  rw [hw, hf, hs]
  exact ⟨rfl, rfl, rfl, rfl, fun _ h => h⟩

theorem KeepsVerdict.trans {w : Well} {a b c : BalUnit} (h : KeepsVerdict w a b) (k : KeepsVerdict w b c) :
    KeepsVerdict w a c := by
  obtain ⟨hat, hron, hfail, hstuck, hreq⟩ := h
  obtain ⟨kat, kron, kfail, kstuck, kreq⟩ := k
  exact ⟨kat.trans hat, kron.trans hron, kfail.trans hfail, kstuck.trans hstuck, fun i hi => kreq i (hreq i hi)⟩

theorem balEnd_req (s : State) (m : Wells) (code : BitVec 4) (i : Well) :
    (balEnd s m code).bal.wells[i].req = (s.bal.wells[i].req && !hasW m i) := by
  rw [balEnd_ends]
  cases hasW m i with
  | true =>
    cases hr : s.bal.wells[i].req with
    | true => rfl
    | false => exact hr
  | false => exact (Bool.and_true _).symm

theorem balEnd_testFail (s : State) (m : Wells) (code : BitVec 4) : (balEnd s m code).bal.testFail = s.bal.testFail := by
  rw [balEnd]

/-- The end of a request leaves what tests have found. -/
theorem balEnd_keepsVerdict (s : State) (m : Wells) (code : BitVec 4) (i : Well) :
    KeepsVerdict i s.bal (balEnd s m code).bal := by
  have hwell : (balEnd s m code).bal.wells[i].passAt = s.bal.wells[i].passAt ∧
      (balEnd s m code).bal.wells[i].ron = s.bal.wells[i].ron := by
    rw [balEnd_ends]
    split <;> exact ⟨rfl, rfl⟩
  refine ⟨hwell.1, hwell.2, by rw [balEnd_testFail], by rw [balEnd], fun j hj => ?_⟩
  rw [balEnd_req, hj, Bool.false_and]

/-! ## The verdict of one well -/

/-- The well's result is noted. -/
def resultNoted (s : State) (w : Well) (pass : Bool) : State :=
  { s with bal.btest := s.bal.btest.map fun t => btestNote t w pass, bal.testFail := putW s.bal.testFail w (!pass) }

/-- A pass is stamped, with the resistance that it measured. -/
def passStamped (s : State) (w : Well) (ron : Option Nat) : State :=
  { s with bal.wells := s.bal.wells.set w { s.bal.wells[w] with ron := ron.getD s.bal.wells[w].ron, passAt := some s.now } }

/-- A stuck switch has passed again, or has failed open. -/
def stuckSet (s : State) (w : Well) (b : Bool) : State := { s with bal.stuck := putW s.bal.stuck w b }

theorem switchResult_pass (s : State) (w : Well) (ron : Option Nat) : switchResult s w (.pass ron) =
    let u := passStamped (resultNoted s w true) w ron
    if inBtest s w && hasW s.bal.stuck w then jrnPut (stuckSet u w false) false 0x41 [4, BitVec.ofNat 8 (w.val + 1)] else u := rfl

theorem switchResult_closedFail (s : State) (w : Well) : switchResult s w .closedFail =
    jrnPut (balEnd (resultNoted s w false) (wbit w) 7) false 0x45 [7, BitVec.ofNat 8 (w.val + 1)] := rfl

theorem switchResult_openFail (s : State) (w : Well) : switchResult s w .openFail =
    jrnPut (stuckSet (balEnd (resultNoted s w false) (BitVec.allOnes 18) 7) w true) true 0x06 [BitVec.ofNat 8 (w.val + 1)] := rfl

theorem resultNoted_keeps (s : State) (w i : Well) (pass : Bool) (h : i ≠ w) :
    KeepsVerdict i s.bal (resultNoted s w pass).bal :=
  ⟨rfl, rfl, (hasW_putW ..).trans (if_neg h), rfl, fun _ hr => hr⟩

theorem passStamped_same (s : State) (w : Well) (ron : Option Nat) : (passStamped s w ron).bal.wells[w] =
    { s.bal.wells[w] with ron := ron.getD s.bal.wells[w].ron, passAt := some s.now } := by
  simp [passStamped]

theorem passStamped_other (s : State) (w i : Well) (ron : Option Nat) (h : i ≠ w) :
    (passStamped s w ron).bal.wells[i] = s.bal.wells[i] := by
  simp [passStamped, Vector.getElem_set_ne, Fin.val_ne_of_ne h.symm]

theorem passStamped_keeps (s : State) (w i : Well) (ron : Option Nat) (h : i ≠ w) :
    KeepsVerdict i s.bal (passStamped s w ron).bal := by
  have hwell := passStamped_other s w i ron h
  refine ⟨by rw [hwell], by rw [hwell], rfl, rfl, fun j hj => ?_⟩
  by_cases hjw : j = w
  · rw [hjw, passStamped_same]
    exact hjw ▸ hj
  · rwa [passStamped_other s w j ron hjw]

theorem stuckSet_keeps (s : State) (w i : Well) (b : Bool) (h : i ≠ w) : KeepsVerdict i s.bal (stuckSet s w b).bal :=
  ⟨rfl, rfl, rfl, (hasW_putW ..).trans (if_neg h), fun _ hr => hr⟩

/-- A verdict acts on its own well, and ends requests at most. -/
theorem switchResult_keeps (s : State) (w i : Well) (v : SwitchVerdict) (h : i ≠ w) :
    KeepsVerdict i s.bal (switchResult s w v).bal := by
  cases v with
  | pass ron =>
    have hkept := (resultNoted_keeps s w i true h).trans (passStamped_keeps (resultNoted s w true) w i ron h)
    rw [switchResult_pass]
    dsimp only
    split
    · rw [jrnPut_bal]
      exact hkept.trans (stuckSet_keeps _ w i false h)
    · exact hkept
  | closedFail =>
    rw [switchResult_closedFail, jrnPut_bal]
    exact (resultNoted_keeps s w i false h).trans (balEnd_keepsVerdict ..)
  | openFail =>
    rw [switchResult_openFail, jrnPut_bal]
    exact ((resultNoted_keeps s w i false h).trans (balEnd_keepsVerdict ..)).trans (stuckSet_keeps _ w i true h)

theorem resultNoted_testFail (s : State) (w : Well) (pass : Bool) : hasW (resultNoted s w pass).bal.testFail w = !pass :=
  (hasW_putW ..).trans (if_pos rfl)

theorem passStamped_stands (s : State) (w : Well) (ron : Option Nat) :
    VerdictStands s.now w (.pass ron) (passStamped (resultNoted s w true) w ron).bal := by
  unfold VerdictStands
  rw [passStamped_same]
  refine ⟨fun ron' hron => ?_, SwitchVerdict.noConfusion, SwitchVerdict.noConfusion⟩
  cases hron
  exact ⟨rfl, resultNoted_testFail s w true, fun n hn => by rw [hn]; rfl⟩

theorem switchResult_stands (s : State) (w : Well) (v : SwitchVerdict) : VerdictStands s.now w v (switchResult s w v).bal := by
  cases v with
  | pass ron =>
    obtain ⟨hpass, hclosed, hopen⟩ := passStamped_stands s w ron
    rw [switchResult_pass]
    dsimp only
    split
    · rw [jrnPut_bal]
      exact ⟨hpass, hclosed, SwitchVerdict.noConfusion⟩
    · exact ⟨hpass, hclosed, hopen⟩
  | closedFail =>
    rw [switchResult_closedFail, jrnPut_bal]
    have hfail : hasW (balEnd (resultNoted s w false) (wbit w) 7).bal.testFail w = true := by
      rw [balEnd_testFail, resultNoted_testFail, Bool.not_false]
    have hreq : (balEnd (resultNoted s w false) (wbit w) 7).bal.wells[w].req = false := by
      rw [balEnd_req, hasW_wbit, decide_eq_true rfl, Bool.not_true, Bool.and_false]
    exact ⟨fun _ => SwitchVerdict.noConfusion, fun _ => ⟨hfail, hreq⟩, SwitchVerdict.noConfusion⟩
  | openFail =>
    rw [switchResult_openFail, jrnPut_bal]
    have hfail : hasW (balEnd (resultNoted s w false) (BitVec.allOnes 18) 7).bal.testFail w = true := by
      rw [balEnd_testFail, resultNoted_testFail, Bool.not_false]
    have hreq : ∀ i : Well, (balEnd (resultNoted s w false) (BitVec.allOnes 18) 7).bal.wells[i].req = false := fun i => by
      rw [balEnd_req, hasW_allOnes, Bool.not_true, Bool.and_false]
    exact ⟨fun _ => SwitchVerdict.noConfusion, SwitchVerdict.noConfusion,
      fun _ => ⟨hfail, (hasW_putW ..).trans (if_pos rfl), hreq⟩⟩

/-! ## The verdicts of a test, one after the other -/

theorem switchResult_only (s : State) (w : Well) (v : SwitchVerdict) :
    Only (.bal :: journalParts) s (switchResult s w v) := by
  have hput : ∀ (u : State) (inc : Bool) (ty : Byte) (d : List Byte), Only (.bal :: journalParts) u (jrnPut u inc ty d) :=
    fun u inc ty d => (jrnPut_only u inc ty d).mono (by decide)
  have hended : ∀ m c, Only (.bal :: journalParts) s (balEnd (resultNoted s w false) m c) := fun m c =>
    (only_bal (by decide) ..).trans ((balEnd_only (resultNoted s w false) m c).mono (by decide))
  cases v with
  | pass ron =>
    have hstamped : Only (.bal :: journalParts) s (passStamped (resultNoted s w true) w ron) :=
      (only_bal (by decide) ..).trans (only_bal (by decide) (resultNoted s w true) _)
    rw [switchResult_pass]
    dsimp only
    split
    · exact hstamped.trans ((only_bal (by decide) ..).trans (hput ..))
    · exact hstamped
  | closedFail => exact (hended ..).trans (hput ..)
  | openFail => exact (hended ..).trans ((only_bal (by decide) ..).trans (hput ..))

/-- What a verdict is judged by, and the end of the test, stay. -/
theorem switchResult_unit (s : State) (w : Well) (v : SwitchVerdict) :
    (switchResult s w v).bal.rbUse = s.bal.rbUse ∧ (switchResult s w v).bal.testRun = s.bal.testRun := by
  cases v with
  | pass ron =>
    rw [switchResult_pass]
    dsimp only
    split
    · rw [jrnPut_bal]
      exact ⟨rfl, rfl⟩
    · exact ⟨rfl, rfl⟩
  | closedFail =>
    rw [switchResult_closedFail, jrnPut_bal, balEnd]
    exact ⟨rfl, rfl⟩
  | openFail =>
    rw [switchResult_openFail, jrnPut_bal, stuckSet, balEnd]
    exact ⟨rfl, rfl⟩

/-- The reading of a well, zero where the list gives none. -/
def readingAt (r : List SwitchReading) (w : Well) : SwitchReading := r.getD w.val { vc := 0, vo := 0, vd := 0, clipped := false }

theorem switchResults_cons (w : Well) (l : List Well) (r : List SwitchReading) (s : State) :
    switchResults (w :: l) r s = switchResults l r (switchResult s w (switchVerdict s w (readingAt r w))) := rfl

theorem switchVerdict_congr {s t : State} (hcfg : t.cfg = s.cfg) (hrb : t.bal.rbUse = s.bal.rbUse) (w : Well) (z : SwitchReading) :
    switchVerdict t w z = switchVerdict s w z := by
  simp only [switchVerdict, extFet, hcfg, hrb]

theorem switchResults_only (l : List Well) (r : List SwitchReading) (s : State) :
    Only (.bal :: journalParts) s (switchResults l r s) := by
  induction l generalizing s with
  | nil => exact Only.refl ..
  | cons w l ih => exact (switchResult_only ..).trans (ih _)

theorem switchResults_testRun (l : List Well) (r : List SwitchReading) (s : State) :
    (switchResults l r s).bal.testRun = s.bal.testRun := by
  induction l generalizing s with
  | nil => rfl
  | cons w l ih => exact (ih _).trans (switchResult_unit ..).2

theorem switchResults_keeps (l : List Well) (r : List SwitchReading) (s : State) (i : Well) (h : i ∉ l) :
    KeepsVerdict i s.bal (switchResults l r s).bal := by
  induction l generalizing s with
  | nil => exact .of_eq rfl rfl rfl
  | cons w l ih =>
    obtain ⟨hw, hl⟩ := List.ne_and_not_mem_of_not_mem_cons h
    exact (switchResult_keeps s w i _ hw).trans (ih _ hl)

/-- The verdict of every listed well stands at the end: the later ones act on other wells. -/
theorem switchResults_stand (l : List Well) (hl : l.Nodup) (r : List SwitchReading) (s : State) (w : Well) (hw : w ∈ l) :
    VerdictStands s.now w (switchVerdict s w (readingAt r w)) (switchResults l r s).bal := by
  induction l generalizing s with
  | nil => exact absurd hw List.not_mem_nil
  | cons x l ih =>
    obtain ⟨hx, hl⟩ := List.nodup_cons.mp hl
    rw [switchResults_cons]
    obtain rfl | hw := List.mem_cons.mp hw
    · exact (switchResult_stands s w _).kept (switchResults_keeps l r _ w hx)
    · have hframe := switchResult_only s x (switchVerdict s x (readingAt r x))
      have hstand := ih hl (switchResult s x (switchVerdict s x (readingAt r x))) hw
      rwa [switchVerdict_congr (hframe.same .cfg (by decide)) (switchResult_unit ..).1, hframe.same .now (by decide)] at hstand

/-! ## A test completes (08 R275 to R281; 14 R536) -/

theorem btestReply_only (s : State) (t : TestVerb) : Only replyParts s (btestReply s t) := replyOk_only ..

theorem btestAnswers_only (l : List TestVerb) (s : State) : Only (.bal :: replyParts) s (btestAnswers l s) := by
  induction l generalizing s with
  | nil => exact Only.refl ..
  | cons t l ih =>
    unfold btestAnswers
    split
    · exact ((btestReply_only s t).mono (by decide)).trans (ih _)
    · exact (only_bal (by decide) ..).trans (ih _)

theorem btestAnswers_bal (l : List TestVerb) (s : State) :
    (btestAnswers l s).bal = { s.bal with btest := (btestAnswers l s).bal.btest } := by
  induction l generalizing s with
  | nil => rfl
  | cons t l ih =>
    unfold btestAnswers
    split
    · exact (ih _).trans (by rw [show (btestReply s t).bal = s.bal from replyOk_bal ..])
    · exact ih _

theorem btestFinish_only (s : State) : Only (.bal :: replyParts) s (btestFinish s) :=
  (only_bal (by decide) ..).trans (btestAnswers_only ..)

theorem btestFinish_bal (s : State) : (btestFinish s).bal = { s.bal with btest := (btestFinish s).bal.btest } :=
  btestAnswers_bal s.bal.btest { s with bal.btest := [] }

/-- The test has ended; its verdicts are still to come. -/
def testTaken (s : State) : State := { dropTest s with bal.due := s.bal.due }

/-- Every verdict has been acted on. -/
def testJudged (s : State) (r : List SwitchReading) : State :=
  switchResults (wellList (s.bal.testRun &&& usedMask s.cfg)) r (testTaken s)

/-- The verbs whose tests are over are answered, and the switches close again where they may. -/
def testClosed (s : State) : State := reclose (btestFinish (noteConditions s))

theorem exec_switchTestDone (s : State) (r : List SwitchReading) (hf : fwOn s = true) (hr : s.bal.testRun ≠ 0)
    (ho : testOver s = true) : exec (.switchTestDone r) s = .next (testClosed (testJudged s r)) := by
  show execSwitchTestDone r s = _
  unfold execSwitchTestDone
  rw [if_neg (by rw [hf, ho, beq_eq_false_iff_ne.mpr hr]; decide)]
  rfl

theorem testTaken_only (s : State) : Only [.bal] s (testTaken s) := (dropTest_only s).trans (only_bal (by decide) ..)

theorem testClosed_only (s : State) : Only (.bal :: .prot :: journalParts) s (testClosed s) :=
  ((noteConditions_only s).mono (by decide)).trans
    (((btestFinish_only _).mono (by decide)).trans ((reclose_only _).mono (by decide)))

theorem testClosed_bal (s : State) : (testClosed s).bal.testRun = s.bal.testRun ∧ (testClosed s).bal.wells = s.bal.wells ∧
    (testClosed s).bal.testFail = s.bal.testFail ∧ (testClosed s).bal.stuck = s.bal.stuck := by
  have hverbs := btestFinish_bal (noteConditions s)
  rw [noteConditions_bal] at hverbs
  rw [testClosed, reclose_bal, hverbs]
  exact ⟨rfl, rfl, rfl, rfl⟩

theorem testClosed_keeps (s : State) (w : Well) : KeepsVerdict w s.bal (testClosed s).bal := by
  obtain ⟨-, hwells, hfail, hstuck⟩ := testClosed_bal s
  exact .of_eq hwells hfail hstuck

theorem wellList_nodup (m : Wells) : (wellList m).Nodup := (List.nodup_finRange 18).filter _

theorem testJudged_stands (s : State) (r : List SwitchReading) (w : Well) (hw : hasW (s.bal.testRun &&& usedMask s.cfg) w = true) :
    VerdictStands s.now w (switchVerdict s w (readingAt r w)) (testJudged s r).bal := by
  have hstand := switchResults_stand _ (wellList_nodup _) r (testTaken s) w ((mem_wellList ..).mpr hw)
  have htaken := testTaken_only s
  have hrb : (testTaken s).bal.rbUse = s.bal.rbUse := by rw [testTaken, dropTest]
  rwa [switchVerdict_congr (htaken.same .cfg (by decide)) hrb, htaken.same .now (by decide)] at hstand

theorem switchTestDone_judges (s : State) (r : List SwitchReading) (hf : fwOn s = true) (hr : s.bal.testRun ≠ 0)
    (ho : testOver s = true) : Does (.switchTestDone r) s fun t =>
      t.bal.testRun = 0 ∧
      (∀ w : Well, hasW (s.bal.testRun &&& usedMask s.cfg) w = true →
        let v := switchVerdict s w (r.getD w.val { vc := 0, vo := 0, vd := 0, clipped := false })
        (∀ ron, v = .pass ron → t.bal.wells[w].passAt = some s.now ∧ hasW t.bal.testFail w = false ∧
          ∀ n, ron = some n → t.bal.wells[w].ron = n) ∧
        (v = .closedFail → hasW t.bal.testFail w = true ∧ t.bal.wells[w].req = false) ∧
        (v = .openFail → hasW t.bal.testFail w = true ∧ hasW t.bal.stuck w = true ∧ ∀ i : Well, t.bal.wells[i].req = false)) ∧
      Only (.bal :: .prot :: journalParts) s t := by
  refine ⟨_, exec_switchTestDone s r hf hr ho, ?_, fun w hw => ?_, ?_⟩
  · exact (testClosed_bal _).1.trans (switchResults_testRun ..)
  · exact (testJudged_stands s r w hw).kept (testClosed_keeps _ w)
  · exact ((testTaken_only s).mono (by decide)).trans (((switchResults_only ..).mono (by decide)).trans (testClosed_only _))

theorem switchTestDone_idle (s : State) (r : List SwitchReading) (h : s.bal.testRun = 0 ∨ testOver s = false) :
    Idle (.switchTestDone r) s := by
  show execSwitchTestDone r s = _
  unfold execSwitchTestDone
  rw [if_pos (by obtain h | h := h <;> simp [h])]

/-! ## `BAL_TEST` times out (14 R536) -/

theorem placeOut_pair (s : State) (i : Fin 4) (b : List Byte) :
    (placeOut s i b).mbx.pairs[i] = { s.mbx.pairs[i] with outb := b, full := true, flight := false } := by
  simp [placeOut]

/-- A delivered reply is the last one, and a message of the host port finds it in its pair. -/
theorem deliver_mbx (s : State) (m : Msg) (b : List Byte) : (deliver s m b).mbx.lastReply = b ∧
    (m.src = none → (deliver s m b).mbx.pairs[m.mbx].outb = b ∧ (deliver s m b).mbx.pairs[m.mbx].full = true ∧
      (deliver s m b).mbx.pairs[m.mbx].flight = false) := by
  cases hsrc : m.src with
  | none =>
    have h : deliver s m b = placeOut { s with mbx.lastReply := b } m.mbx b := by simp only [deliver, hsrc]
    rw [h, placeOut_pair]
    exact ⟨rfl, fun _ => ⟨rfl, rfl, rfl⟩⟩
  | some src =>
    refine ⟨?_, fun h => nomatch h⟩
    simp only [deliver, hsrc]
    split
    · rfl
    · cases m.port <;> rfl

theorem reply_of_noWaiters (s : State) (verb : BitVec 16) (m : Msg) (err env : Bool) (payload : List Byte)
    (h : noWaiters s verb m = true) : HostReply s (reply s verb m err env payload) verb m err env payload := by
  have hnone : s.mbx.dups.filter (isDup verb m) = [] := by
    simpa [noWaiters, List.filter_eq_nil_iff] using h
  unfold reply
  dsimp only
  rw [hnone, List.foldl_nil]
  exact deliver_mbx ..

theorem exec_balTestTimeout (s : State) (x : TestVerb) (l : List TestVerb) (ha : active s = true) (hb : s.bal.btest = x :: l) :
    exec .balTestTimeout s = .next (btestReply { s with bal.btest := l } x) := by
  show execBalTestTimeout s = _
  simp only [execBalTestTimeout, hb, ha, if_true]

theorem balTestTimeout_answers (s : State) (x : TestVerb) (l : List TestVerb) (ha : active s = true) (hb : s.bal.btest = x :: l)
    (hn : noWaiters s x.w.verb x.w.msg = true) : Does .balTestTimeout s fun t =>
      t.bal = { s.bal with btest := l } ∧
        HostReply s t x.w.verb x.w.msg false false
          (leBytes 4 x.pass.toNat ++ leBytes 4 x.other.toNat ++ leBytes 4 x.todo.toNat) ∧ Only (.bal :: replyParts) s t :=
  ⟨_, exec_balTestTimeout s x l ha hb, replyOk_bal .., reply_of_noWaiters { s with bal.btest := l } _ _ _ _ _ hn,
    (only_bal (by decide) ..).trans ((replyOk_only ..).mono (by decide))⟩

/-- Settles O23: start and pause by what each leaves of the balancing unit; the end by `switchResults_stand`, each verdict in turn
acting on its own well. -/
theorem switchTests : Obligations.SwitchTests :=
  ⟨switchTestStart_begins, switchTestStart_idle, switchTestPeriodic_pauses, switchTestDone_judges, switchTestDone_idle,
    balTestTimeout_answers⟩

end Sys2Proof.Machine

/-! PROOFS. The gate's checkpoints, its VDS samples, the OV hold-off and the turn-off (09 R321 to R325, R330, R904). -/

namespace Sys2Proof.Machine

/-! ## A gate fault on the way to ON or in ON, and a later one that joins it (09 R325, R328, R330) -/

theorem gateTurnOff_fromOn (s : State) (h : s.gate.state = .ramp ∨ s.gate.state = .on) :
    (gateTurnOff s).gate.fromOn = (s.gate.state == .on) := by
  obtain h | h := h <;> simp [gateTurnOff, h]

/-- The turn-off that a gate fault starts remembers whether the gate was in ON. -/
theorem discLatch_fromOn (s : State) (c : BitVec 4) (hd : s.gate.disc = false) (h : s.gate.state = .ramp ∨ s.gate.state = .on) :
    (discLatch s c).gate.fromOn = (s.gate.state == .on) := by
  have hstate : (discRecorded s c).gate.state = s.gate.state := (congrArg GateUnit.state (discRecorded_gate s c)).trans rfl
  have harmed : scArmed (discRecorded s c) = true := by
    rw [scArmed, hstate]
    obtain h | h := h <;> simp [h]
  rw [discLatch_eq s c hd, gateFailed_armed _ harmed, noteConditions_gate, tqImmediate_gate,
    gateTurnOff_fromOn _ (hstate.symm ▸ h), hstate]

/-- A fault that finds the latch leaves the gate's course alone, and a cause that is not lower leaves the first. -/
theorem discLatch_again (s : State) (c : BitVec 4) (hd : s.gate.disc = true) :
    (discLatch s c).gate.state = s.gate.state ∧ (discLatch s c).gate.disc = true ∧
      (s.gate.cause.toNat ≤ c.toNat → (discLatch s c).gate.cause = s.gate.cause) ∧
      Only [.gate, .store, .jrn] s (discLatch s c) := by
  unfold discLatch
  dsimp only
  rw [if_pos hd]
  split
  · refine ⟨rfl, hd, fun hc => if_neg fun h => absurd h.2 (Nat.not_lt.mpr hc), ?_⟩
    exact Only.of fun p => by
      cases p
      case gate | store | jrn => exact .inl (by decide)
      all_goals exact .inr rfl
  · exact ⟨rfl, hd, fun _ => rfl, Only.refl ..⟩

/-- What arises together with the latch joins its list of causes. -/
theorem discLatch_joins (s : State) (c : BitVec 4) (hd : s.gate.disc = true) (hnow : s.gate.discAt = s.now) :
    (discLatch s c).gate.causes = s.gate.causes ||| (1#16 <<< (c.toNat - 1)) := by
  unfold discLatch
  dsimp only
  rw [if_pos hd, if_pos (by omega)]

/-! ## Checkpoints (09 R321, R322, R329, R330) -/

/-- The sensed VDS lies above the limit of the next checkpoint. -/
def ckMissed (s : State) (vds : Int) : Bool := decide (ckLimit s.cfg (s.gate.ck + 1) < vds)

/-- The cause that the next checkpoint latches. -/
def ckCause (s : State) : BitVec 4 := BitVec.ofNat 4 (2 + (s.gate.ck + 1))

/-- The fourth checkpoint has passed: the gate is ON, and the verbs that waited for it are answered. -/
def rampDone (s : State) : State := gateNotify (noteHold (irqRaise { s with gate.ck := 4, gate.state := .on, gate.overs := 0 } 19))

theorem latchedNow_iff (s : State) :
    latchedNow s = true ↔ s.gate.state = .turnoff ∧ s.gate.disc = true ∧ s.gate.discAt = s.now := by
  simp [latchedNow, and_assoc]

theorem latchedNow_of_not_turnoff (s : State) (h : s.gate.state ≠ .turnoff) : latchedNow s = false :=
  Bool.eq_false_iff.mpr fun hl => h ((latchedNow_iff s).mp hl).1

theorem ckCause_toNat (s : State) (hk : s.gate.ck < 4) : (ckCause s).toNat = 3 + s.gate.ck := by
  simp only [ckCause, BitVec.toNat_ofNat]
  omega

theorem exec_gateCheckpoint_ramp (s : State) (vds : Int) (sc : Bool) (hr : running s = true) (hs : s.gate.state = .ramp) :
    exec (.gateCheckpoint vds sc) s = .next (
      let u := { s with gate.vds := vds }
      if sc then
        if ckMissed s vds then discLatch (discLatch (scMark u) 1) (ckCause s) else discLatch (scMark u) 1
      else if ckMissed s vds then discLatch u (ckCause s)
      else if s.gate.ck + 1 < 4 then { u with gate.ck := s.gate.ck + 1 }
      else rampDone u) := by
  have hl : latchedNow s = false := latchedNow_of_not_turnoff s (by simp [hs])
  show execGateCheckpoint vds sc s = _
  unfold execGateCheckpoint
  dsimp only
  rw [if_neg (by simp [hl]), if_neg (by simp [hr, hs])]
  cases sc with
  | true => rfl
  | false =>
    simp only [Bool.false_eq_true, if_false, apply_ite Host.Outcome.next]
    rfl

theorem ckMissed_of_lt {s : State} {vds : Int} (h : ckLimit s.cfg (s.gate.ck + 1) < vds) : ckMissed s vds = true := decide_eq_true h

theorem ckMissed_of_le {s : State} {vds : Int} (h : vds ≤ ckLimit s.cfg (s.gate.ck + 1)) : ckMissed s vds = false :=
  decide_eq_false (Int.not_lt.mpr h)

theorem scArmed_of_ramp {s : State} (h : s.gate.state = .ramp) : scArmed s = true := by simp [scArmed, h]

theorem scArmed_of_on {s : State} (h : s.gate.state = .on) : scArmed s = true := by simp [scArmed, h]

theorem gateCheckpoint_passes (s : State) (vds : Int) (hr : running s = true) (hs : s.gate.state = .ramp) (hk : s.gate.ck < 3)
    (hv : vds ≤ ckLimit s.cfg (s.gate.ck + 1)) : Does (.gateCheckpoint vds false) s fun t =>
      t = { s with gate := { s.gate with vds := vds, ck := s.gate.ck + 1 } } := by
  refine ⟨_, exec_gateCheckpoint_ramp s vds false hr hs, ?_⟩
  dsimp only
  rw [if_neg Bool.false_ne_true, ckMissed_of_le hv, if_neg Bool.false_ne_true, if_pos (by omega)]

theorem rampDone_on (s : State) :
    (rampDone s).gate.state = .on ∧ (rampDone s).gate.vds = s.gate.vds ∧ (rampDone s).gate.disc = s.gate.disc ∧
      (rampDone s).core = { s.core with ipend := (rampDone s).core.ipend } ∧ Only (.gate :: .core :: replyParts) s (rampDone s) := by
  have hcore : (rampDone s).core = { s.core with ipend := (rampDone s).core.ipend } := by
    rw [rampDone, gateNotify_core]
    rfl
  have hgate := gateNotify_gate (noteHold (irqRaise { s with gate.ck := 4, gate.state := .on, gate.overs := 0 } 19))
  refine ⟨?_, ?_, ?_, hcore, ?_⟩
  · rw [rampDone, hgate]
    rfl
  · rw [rampDone, hgate]
    rfl
  · rw [rampDone, hgate]
    rfl
  · exact (only_gate (by decide) s _).trans (((irqRaise_only _ 19).mono (by decide)).trans
      ((only_gate (by decide) _ _).trans ((gateNotify_only _).mono (by decide))))

theorem gateCheckpoint_completes (s : State) (vds : Int) (hr : running s = true) (hs : s.gate.state = .ramp) (hk : s.gate.ck = 3)
    (hv : vds ≤ ckLimit s.cfg 4) : Does (.gateCheckpoint vds false) s fun t =>
      t.gate.state = .on ∧ t.gate.vds = vds ∧ t.gate.disc = s.gate.disc ∧ t.core = { s.core with ipend := t.core.ipend } ∧
        Only (.gate :: .core :: replyParts) s t := by
  have hpass : ckMissed s vds = false := ckMissed_of_le (by rw [hk]; exact hv)
  have hexec := exec_gateCheckpoint_ramp s vds false hr hs
  dsimp only at hexec
  rw [if_neg Bool.false_ne_true, hpass, if_neg Bool.false_ne_true, if_neg (by omega)] at hexec
  obtain ⟨hstate, hvds, hdisc, hcore, honly⟩ := rampDone_on { s with gate.vds := vds }
  exact ⟨_, hexec, hstate, hvds, hdisc, hcore, (only_gate (by decide) s _).trans honly⟩

theorem gateCheckpoint_latches (s : State) (vds : Int) (hr : running s = true) (hs : s.gate.state = .ramp) (_ : s.gate.ck < 4)
    (hd : s.gate.disc = false) (hv : ckLimit s.cfg (s.gate.ck + 1) < vds) : Does (.gateCheckpoint vds false) s fun t =>
      t.gate.state = .turnoff ∧ t.gate.fromOn = false ∧ t.gate.disc = true ∧ t.gate.cause = BitVec.ofNat 4 (3 + s.gate.ck) ∧
        ownFault t = true ∧ t.store = { s.store with disc := some t.gate.cause, discAt := s.now } := by
  have hexec := exec_gateCheckpoint_ramp s vds false hr hs
  dsimp only at hexec
  rw [if_neg Bool.false_ne_true, ckMissed_of_lt hv, if_pos rfl] at hexec
  let u : State := { s with gate.vds := vds }
  obtain ⟨hdisc, hstate, hcause, hstore, -⟩ := discLatch_armed u (ckCause s) hd (scArmed_of_ramp hs)
  have hfrom := discLatch_fromOn u (ckCause s) hd (.inl hs)
  refine ⟨_, hexec, hstate, ?_, hdisc, ?_, ownFault_of_disc _ hdisc, ?_⟩
  · rw [hfrom]
    simp [u, hs]
  · rw [hcause, ckCause, show 2 + (s.gate.ck + 1) = 3 + s.gate.ck by omega]
  · rw [hcause]
    exact hstore

/-- A checkpoint missed at the very moment of a latch that ended the ramp joins its causes. -/
theorem gateCheckpoint_joins (s : State) (vds : Int) (hr : running s = true) (hl : latchedNow s = true)
    (hf : s.gate.fromOn = false) (hk : s.gate.ck < 4) (hv : ckLimit s.cfg (s.gate.ck + 1) < vds) :
    Does (.gateCheckpoint vds false) s fun t =>
      t.gate.state = .turnoff ∧ t.gate.disc = true ∧ t.gate.causes = s.gate.causes ||| (1#16 <<< (2 + s.gate.ck)) ∧
        Only [.gate, .store, .jrn] s t := by
  obtain ⟨hstate, hdisc, hnow⟩ := (latchedNow_iff s).mp hl
  have hexec : exec (.gateCheckpoint vds false) s = .next (discLatch s (ckCause s)) := by
    show execGateCheckpoint vds false s = _
    unfold execGateCheckpoint
    dsimp only
    rw [if_pos]
    · rfl
    · simp [hr, hl, hf, hv]
      omega
  obtain ⟨hkeeps, hlatched, -, honly⟩ := discLatch_again s (ckCause s) hdisc
  refine ⟨_, hexec, hkeeps.trans hstate, hlatched, ?_, honly⟩
  rw [discLatch_joins s _ hdisc hnow, ckCause_toNat s hk, show 3 + s.gate.ck - 1 = 2 + s.gate.ck by omega]

/-- A short-circuit trip of the same cycle is the cause, also where the checkpoint is missed as well. -/
theorem gateCheckpoint_scTrip (s : State) (vds : Int) (hr : running s = true) (hs : s.gate.state = .ramp) (hk : s.gate.ck < 4)
    (hd : s.gate.disc = false) : Does (.gateCheckpoint vds true) s fun t =>
      t.gate.state = .turnoff ∧ t.gate.disc = true ∧ t.gate.cause = 1 := by
  let u : State := scMark { s with gate.vds := vds }
  obtain ⟨hdisc, hstate, hcause, -, -⟩ := discLatch_armed u 1 hd (scArmed_of_ramp hs)
  refine ⟨_, exec_gateCheckpoint_ramp s vds true hr hs, ?_⟩
  dsimp only
  rw [if_pos rfl]
  cases ckMissed s vds with
  | false => exact ⟨hstate, hdisc, hcause⟩
  | true =>
    obtain ⟨hkeeps, hlatched, hfirst, -⟩ := discLatch_again (discLatch u 1) (ckCause s) hdisc
    have hle : (discLatch u 1).gate.cause.toNat ≤ (ckCause s).toNat := by
      rw [hcause, ckCause_toNat s hk]
      show 1 ≤ 3 + s.gate.ck
      omega
    exact ⟨hkeeps.trans hstate, hlatched, (hfirst hle).trans hcause⟩

/-! ## Samples in ON (09 R323) -/

theorem exec_gateVdsSample_on (s : State) (vds : Int) (ha : active s = true) (hs : s.gate.state = .on) :
    exec (.gateVdsSample vds) s = .next (
      let u := { s with gate.vds := vds }
      if vds ≤ ckLimit s.cfg 4 then { u with gate.overs := 0 }
      else if s.gate.overs + 1 < 2 then { u with gate.overs := s.gate.overs + 1 }
      else discLatch u 7) := by
  have hl : latchedNow s = false := latchedNow_of_not_turnoff s (by simp [hs])
  show execGateVdsSample vds s = _
  unfold execGateVdsSample
  rw [if_neg (by simp [hl]), if_neg (by simp [ha, hs])]
  dsimp only
  split
  · rfl
  · split <;> rfl

theorem gateVdsSample_below (s : State) (vds : Int) (ha : active s = true) (hs : s.gate.state = .on) (hv : vds ≤ ckLimit s.cfg 4) :
    Does (.gateVdsSample vds) s fun t => t = { s with gate := { s.gate with vds := vds, overs := 0 } } := by
  refine ⟨_, exec_gateVdsSample_on s vds ha hs, ?_⟩
  dsimp only
  rw [if_pos hv]

theorem gateVdsSample_first_over (s : State) (vds : Int) (ha : active s = true) (hs : s.gate.state = .on)
    (hv : ckLimit s.cfg 4 < vds) (ho : s.gate.overs = 0) :
    Does (.gateVdsSample vds) s fun t => t = { s with gate := { s.gate with vds := vds, overs := 1 } } := by
  refine ⟨_, exec_gateVdsSample_on s vds ha hs, ?_⟩
  dsimp only
  rw [if_neg (Int.not_le.mpr hv), ho, if_pos (by decide)]

theorem gateVdsSample_latches (s : State) (vds : Int) (ha : active s = true) (hs : s.gate.state = .on)
    (hv : ckLimit s.cfg 4 < vds) (ho : 1 ≤ s.gate.overs) (hd : s.gate.disc = false) : Does (.gateVdsSample vds) s fun t =>
      t.gate.state = .turnoff ∧ t.gate.fromOn = true ∧ t.gate.disc = true ∧ t.gate.cause = 7 ∧ ownFault t = true := by
  have hexec := exec_gateVdsSample_on s vds ha hs
  dsimp only at hexec
  rw [if_neg (Int.not_le.mpr hv), if_neg (by omega)] at hexec
  let u : State := { s with gate.vds := vds }
  obtain ⟨hdisc, hstate, hcause, -, -⟩ := discLatch_armed u 7 hd (scArmed_of_on hs)
  refine ⟨_, hexec, hstate, ?_, hdisc, hcause, ownFault_of_disc _ hdisc⟩
  rw [discLatch_fromOn u 7 hd (.inr hs)]
  simp [u, hs]

/-! ## The two stages of a turn-off (09 R325) -/

/-- After the second stage the gate is clamped. -/
def gateClamped (s : State) : State :=
  gateNotify (irqRaise { s with gate.state := if s.gate.disc then .fault else .off, gate.stage2 := false } 19)

theorem exec_gateTurnoffStageEnd (s : State) (h : s.gate.state = .turnoff) :
    exec .gateTurnoffStageEnd s = .next (if s.gate.stage2 then gateClamped s else { s with gate.stage2 := true }) := by
  show execGateTurnoffStageEnd s = _
  unfold execGateTurnoffStageEnd
  rw [if_neg (by simp [h])]
  cases s.gate.stage2 <;> rfl

theorem gateTurnoffStageEnd_first (s : State) (h : s.gate.state = .turnoff) (h2 : s.gate.stage2 = false) :
    Does .gateTurnoffStageEnd s fun t => t = { s with gate := { s.gate with stage2 := true } } :=
  ⟨_, exec_gateTurnoffStageEnd s h, by rw [h2, if_neg Bool.false_ne_true]⟩

theorem gateTurnoffStageEnd_second (s : State) (h : s.gate.state = .turnoff) (h2 : s.gate.stage2 = true) :
    Does .gateTurnoffStageEnd s fun t =>
      t.gate.state = (if s.gate.disc then .fault else .off) ∧ t.gate.stage2 = false ∧ t.gate.disc = s.gate.disc ∧
        Only (.gate :: .core :: replyParts) s t := by
  have hexec := exec_gateTurnoffStageEnd s h
  rw [h2, if_pos rfl] at hexec
  have hgate : (gateClamped s).gate = _ := gateNotify_gate _
  refine ⟨_, hexec, ?_, ?_, ?_, ?_⟩
  · rw [hgate]
    rfl
  · rw [hgate]
    rfl
  · rw [hgate]
    rfl
  · exact (only_gate (by decide) s _).trans (((irqRaise_only _ 19).mono (by decide)).trans ((gateNotify_only _).mono (by decide)))

/-! ## The OV hold-off (09 R904) -/

theorem ovHoldoffExpire_latches (s : State) (hh : s.gate.hold = true) (hs : s.gate.state = .on) (hd : s.gate.disc = false) :
    Does .ovHoldoffExpire s fun t =>
      t.gate.state = .turnoff ∧ t.gate.disc = true ∧ t.gate.cause = 9 ∧ ownFault t = true := by
  have hexec : exec .ovHoldoffExpire s = .next (discLatch s 9) := if_pos (by simp [hh, hs])
  obtain ⟨hdisc, hstate, hcause, -, -⟩ := discLatch_armed s 9 hd (scArmed_of_on hs)
  exact ⟨_, hexec, hstate, hdisc, hcause, ownFault_of_disc _ hdisc⟩

theorem ovHoldoffExpire_idle (s : State) (hh : s.gate.hold = false) (hl : latchedNow s = false) : Idle .ovHoldoffExpire s :=
  if_neg (by simp [hh, hl])

/-- Settles O25: a missed checkpoint, a second sample above the limit and the hold-off latch by `discLatch_armed`, a fault that finds the
latch joins it by `discLatch_joins`. -/
theorem gateCheckpointsSamplesTurnoff : Obligations.GateCheckpointsSamplesTurnoff :=
  ⟨gateCheckpoint_passes, gateCheckpoint_completes, gateCheckpoint_latches, gateCheckpoint_joins, gateCheckpoint_scTrip,
    gateVdsSample_below, gateVdsSample_first_over, gateVdsSample_latches, gateTurnoffStageEnd_first, gateTurnoffStageEnd_second,
    ovHoldoffExpire_latches, ovHoldoffExpire_idle⟩

end Sys2Proof.Machine

/-! PROOFS. The OV and UV comparators: crossing, trip and release (09 R289 to R292, R297, R298; 04 R117). -/

namespace Sys2Proof.Machine

/-! ## The sets of the comparators -/

theorem cmpTripped_putTrip (s : State) (w v : Well) (uv x b : Bool) :
    cmpTripped (putTrip s w uv b) v x = if v = w ∧ x = uv then b else cmpTripped s v x := by
  cases uv <;> cases x <;> simp [putTrip, cmpTripped, hasW_putW]

theorem cmpDeg_putDeg (s : State) (w v : Well) (uv x b : Bool) :
    cmpDeg (putDeg s w uv b) v x = if v = w ∧ x = uv then b else cmpDeg s v x := by
  cases uv <;> cases x <;> simp [putDeg, cmpDeg, hasW_putW]

@[simp] theorem cmpDeg_putTrip (s : State) (w v : Well) (uv x b : Bool) : cmpDeg (putTrip s w uv b) v x = cmpDeg s v x := by
  cases uv <;> rfl

@[simp] theorem cmpTripped_putDeg (s : State) (w v : Well) (uv x b : Bool) :
    cmpTripped (putDeg s w uv b) v x = cmpTripped s v x := by cases uv <;> rfl

theorem putTrip_only (s : State) (w : Well) (uv b : Bool) : Only [.prot] s (putTrip s w uv b) := by
  cases uv <;> exact only_prot (by decide) ..

theorem putDeg_only (s : State) (w : Well) (uv b : Bool) : Only [.prot] s (putDeg s w uv b) := by
  cases uv <;> exact only_prot (by decide) ..

theorem noteHold_only (s : State) : Only [.gate] s (noteHold s) := only_gate (by decide) ..

theorem heldNote_only (s : State) (w : Well) (uv trip : Bool) : Only [.prot] s (heldNote s w uv trip) := only_prot (by decide) ..

theorem running_of_only {l : List Part} {s t : State} (h : Only l s t) (hr : Part.rst ∉ l) : running t = running s := by
  have hrst : t.rst = s.rst := h.same .rst hr
  simp only [running, hrst]

theorem ne_zero_of_hasW {m : Wells} {w : Well} (h : hasW m w = true) : m ≠ 0 := by
  rintro rfl
  exact Bool.false_ne_true ((hasW_zero w).symm.trans h)

/-- A tripped comparator holds `FAULT_N` (09 R303, Table 9-2). -/
theorem ownFault_of_tripped (s : State) (w : Well) (uv : Bool) (h : cmpTripped s w uv = true) : ownFault s = true := by
  cases uv with
  | true =>
    have hne : (s.prot.uvTrip != 0) = true := bne_iff_ne.mpr (ne_zero_of_hasW h)
    simp only [ownFault, hwCond, hne, Bool.or_true, Bool.true_or]
  | false =>
    have hne : (s.prot.ovTrip != 0) = true := bne_iff_ne.mpr (ne_zero_of_hasW h)
    simp only [ownFault, hwCond, hne, Bool.true_or]

/-! ### Everything the comparators and their tests hold -/

/-- The protection units agree but for the fault field last noted, the waiting `CMP_TEST` verbs and what a held reset has noted. -/
def SameComparators (s t : State) : Prop :=
  t.prot = { s.prot with flt := t.prot.flt, ctest := t.prot.ctest, heldEvents := t.prot.heldEvents }

theorem SameComparators.of_eq {s t : State} (h : t.prot = s.prot) : SameComparators s t := by rw [SameComparators, h]

theorem SameComparators.of_only {l : List Part} {s t : State} (h : Only l s t) (hp : Part.prot ∉ l) : SameComparators s t :=
  .of_eq (h.same .prot hp)

theorem SameComparators.trans {s t u : State} (h : SameComparators s t) (k : SameComparators t u) : SameComparators s u := by
  rw [SameComparators, k, h]

theorem noteConditions_sameComparators (s : State) : SameComparators s (noteConditions s) := by
  rw [SameComparators, noteConditions_prot]

theorem heldNote_sameComparators (s : State) (w : Well) (uv trip : Bool) : SameComparators s (heldNote s w uv trip) := rfl

theorem SameComparators.tripped {s t : State} (h : SameComparators s t) (w : Well) (uv : Bool) :
    cmpTripped t w uv = cmpTripped s w uv := by
  unfold cmpTripped
  rw [h]

theorem SameComparators.deg {s t : State} (h : SameComparators s t) (w : Well) (uv : Bool) : cmpDeg t w uv = cmpDeg s w uv := by
  unfold cmpDeg
  rw [h]

/-! ## What is recorded stays queued (22 R831) -/

/-- An incident entry gives way to none: the queue discards routine entries only. -/
theorem mem_of_dropRoutine {x d : JEntry} (hx : x.inc = true) {l q : List JEntry} (h : dropRoutine l = some (d, q)) (hm : x ∈ l) :
    x ∈ q := by
  induction l generalizing q with
  | nil => cases hm
  | cons e l ih =>
    unfold dropRoutine at h
    split at h
    case isTrue he =>
      obtain rfl | htail := List.mem_cons.mp hm
      · simp [hx] at he
      · cases h
        exact htail
    case isFalse =>
      split at h
      case h_1 => cases h
      case h_2 d' q' hq =>
        cases h
        obtain rfl | htail := List.mem_cons.mp hm
        · exact List.mem_cons_self
        · exact List.mem_cons_of_mem _ (ih hq htail)

theorem noteDiscard_queue (s : State) (e : JEntry) : (noteDiscard s e).jrn.queue = s.jrn.queue := by
  unfold noteDiscard
  dsimp only
  split
  · rfl
  · rw [replyErr_jrn]

theorem jrnPut_keeps_incident (s : State) (inc : Bool) (ty : Byte) (data : List Byte) {x : JEntry} (hx : x.inc = true)
    (hm : x ∈ s.jrn.queue) : x ∈ (jrnPut s inc ty data).jrn.queue := by
  unfold jrnPut jrnQueue
  split
  · exact List.mem_append_left _ hm
  · split
    case h_1 d q hq =>
      rw [noteDiscard_queue]
      exact List.mem_append_left _ (mem_of_dropRoutine hx hq hm)
    case h_2 =>
      split
      · exact List.mem_append_left _ hm
      · rwa [noteDiscard_queue]

theorem tqRemove_keeps_incident (s : State) (c : Nat) (d : RdState) {x : JEntry} (hx : x.inc = true) (hm : x ∈ s.jrn.queue) :
    x ∈ (tqRemove s c d).jrn.queue := by
  have hjrn : (tqRemove s c d).jrn = _ := (rdnAnswers_only ..).same .jrn (by decide)
  rw [hjrn]
  exact jrnPut_keeps_incident _ _ _ _ hx hm

theorem endEnabling_keeps_incident (s : State) (c : Nat) {x : JEntry} (hx : x.inc = true) (hm : x ∈ s.jrn.queue) :
    x ∈ (endEnabling s c).jrn.queue := by
  have hjrn : (endEnabling s c).jrn = _ := foldl_keeps (·.jrn) _ (fun _ _ => replyErr_jrn ..) _ _
  rw [hjrn]
  exact tqRemove_keeps_incident _ _ _ hx hm

theorem tqImmediate_keeps_incident (s : State) (c : Nat) {x : JEntry} (hx : x.inc = true) (hm : x ∈ s.jrn.queue) :
    x ∈ (tqImmediate s c).jrn.queue := by
  unfold tqImmediate
  split
  · exact hm
  · split
    · exact endEnabling_keeps_incident s c hx hm
    · split
      · exact tqRemove_keeps_incident s c _ hx hm
      · exact hm

/-! ## Crossings (09 R289, R298) -/

theorem comparatorCrossing_runs_deglitch (s : State) (w : Well) (uv b : Bool) (hon : cmpOn s w = true)
    (hu : underTest s w uv = false) (ht : cmpTripped s w uv = false) : Does (.comparatorCrossing w uv b) s fun t =>
      cmpDeg t w uv = b ∧ (∀ w' uv', (w' ≠ w ∨ uv' ≠ uv) → cmpDeg t w' uv' = cmpDeg s w' uv') ∧
        (∀ w' uv', cmpTripped t w' uv' = cmpTripped s w' uv') ∧ Only [.prot] s t := by
  refine ⟨putDeg s w uv b, ?_, ?_, fun v x hne => ?_, fun v x => cmpTripped_putDeg .., putDeg_only ..⟩
  · show execComparatorCrossing w uv b s = _
    unfold execComparatorCrossing
    rw [if_neg (by simp [hon, ht]), if_neg (by simp [hu])]
  · rw [cmpDeg_putDeg, if_pos ⟨rfl, rfl⟩]
  · rw [cmpDeg_putDeg, if_neg fun h => hne.elim (· h.1) (· h.2)]

theorem comparatorCrossing_idle (s : State) (w : Well) (uv b : Bool) (h : cmpOn s w = false ∨ cmpTripped s w uv = true) :
    Idle (.comparatorCrossing w uv b) s := by
  show execComparatorCrossing w uv b s = _
  unfold execComparatorCrossing
  rw [if_pos (by obtain h | h := h <;> simp [h])]

/-- During its test the comparator's crossing is kept for the end of the window. -/
theorem comparatorCrossing_under_test (s : State) (w : Well) (uv b : Bool) (x : CmpTest) (hon : cmpOn s w = true)
    (ht : cmpTripped s w uv = false) (hu : underTest s w uv = true) (hx : s.prot.test = some x) :
    Does (.comparatorCrossing w uv b) s fun t => t = { s with prot := { s.prot with test := some { x with cross := b } } } := by
  refine ⟨_, ?_, rfl⟩
  show execComparatorCrossing w uv b s = _
  unfold execComparatorCrossing
  rw [if_neg (by simp [hon, ht]), if_pos hu, hx]
  rfl

/-! ## Trips (09 R289 to R292) -/

/-- The comparator is tripped, its deglitch is over, and the open spans show the trip. -/
def tripMarked (s : State) (w : Well) (uv : Bool) : State :=
  mapOpen (noteHold (putDeg (putTrip s w uv true) w uv false)) fun sp => { sp with trip := putW sp.trip w true }

/-- The trip is taken up: by the firmware, or while reset is held for the release. -/
def tripDone (s : State) (w : Well) (uv : Bool) : State :=
  noteConditions (if running s then tripNoted (tripMarked s w uv) w uv else heldNote (tripMarked s w uv) w uv true)

theorem tripMarked_only (s : State) (w : Well) (uv : Bool) : Only [.prot, .gate, .acq] s (tripMarked s w uv) :=
  ((putTrip_only ..).mono (by decide)).trans (((putDeg_only ..).mono (by decide)).trans
    (((noteHold_only _).mono (by decide)).trans ((mapOpen_only ..).mono (by decide))))

theorem tripMarked_tripped (s : State) (w v : Well) (uv x : Bool) :
    cmpTripped (tripMarked s w uv) v x = if v = w ∧ x = uv then true else cmpTripped s v x :=
  (cmpTripped_putDeg ..).trans (cmpTripped_putTrip ..)

theorem tripMarked_deg (s : State) (w v : Well) (uv x : Bool) :
    cmpDeg (tripMarked s w uv) v x = if v = w ∧ x = uv then false else cmpDeg s v x :=
  (cmpDeg_putDeg ..).trans (by rw [cmpDeg_putTrip])

theorem tripMarked_acq (s : State) (w : Well) (uv : Bool) : (tripMarked s w uv).acq = { s.acq with
    spans := s.acq.spans.map fun sp => if spanOpen s sp then { sp with trip := putW sp.trip w true } else sp } := by
  cases uv <;> rfl

theorem tripMarked_heldEvents (s : State) (w : Well) (uv : Bool) : (tripMarked s w uv).prot.heldEvents = s.prot.heldEvents := by
  cases uv <;> rfl

theorem exec_comparatorTrip (s : State) (w : Well) (uv : Bool) (hon : cmpOn s w = true) (hu : underTest s w uv = false)
    (ht : cmpTripped s w uv = false) (hd : cmpDeg s w uv = true) : exec (.comparatorTrip w uv) s = .next (tripDone s w uv) := by
  have hrun : running (tripMarked s w uv) = running s := running_of_only (tripMarked_only s w uv) (by decide)
  show execComparatorTrip w uv s = _
  unfold execComparatorTrip
  rw [if_neg (by simp [hon]), if_neg (by simp [hu]), if_neg (by simp [ht, hd]), tripDone, ← hrun]
  rfl

theorem comparatorTrip_idle (s : State) (w : Well) (uv : Bool) (hu : underTest s w uv = false) (hd : cmpDeg s w uv = false) :
    Idle (.comparatorTrip w uv) s := by
  show execComparatorTrip w uv s = _
  unfold execComparatorTrip
  cases cmpOn s w with
  | false => exact if_pos rfl
  | true => rw [if_neg (by decide), if_neg (by simp [hu]), if_pos (by simp [hd])]

/-- Under test the trip only passes the test (R297). -/
theorem comparatorTrip_under_test (s : State) (w : Well) (uv : Bool) (x : CmpTest) (hon : cmpOn s w = true)
    (hu : underTest s w uv = true) (hx : s.prot.test = some x) : Does (.comparatorTrip w uv) s fun t =>
      t = { s with prot := { s.prot with test := some { x with tripped := true } } } := by
  refine ⟨_, ?_, rfl⟩
  show execComparatorTrip w uv s = _
  unfold execComparatorTrip
  rw [if_neg (by simp [hon]), if_pos hu, hx]
  rfl

/-! ### What the firmware does at a trip (09 R291; 08 Table 8-7; 16 cause 8; 23 R848) -/

/-- A UV trip ends the well's balancing and removes torque. -/
def tripActed (s : State) (w : Well) (uv : Bool) : State := if uv then tqImmediate (balEnd s (wbit w) 6) 8 else s

/-- In PATROL or SLEEP, or once one is decided, the trip wakes the device. -/
def tripWakes (s : State) (uv : Bool) : State :=
  if lowOrDecided s (fun p => p == .patrol || p == .sleep) then wakeAlarm s (if uv then 0x10 else 0x08) else s

theorem tripNoted_eq (s : State) (w : Well) (uv : Bool) :
    tripNoted s w uv = tripWakes (irqRaise (tripActed (tripRecord s w uv true) w uv) 20) uv := rfl

theorem tripActed_only (s : State) (w : Well) (uv : Bool) : Only (.bal :: .tq :: journalParts) s (tripActed s w uv) := by
  cases uv with
  | true => exact ((balEnd_only ..).mono (by decide)).trans ((tqImmediate_only ..).mono (by decide))
  | false => exact Only.refl ..

theorem tripWakes_only (s : State) (uv : Bool) : Only [.pw, .host, .sp, .np] s (tripWakes s uv) := by
  unfold tripWakes
  split
  · exact wakeAlarm_only ..
  · exact Only.refl ..

/-- After the record and what it acts on, only an interrupt and a wake follow. -/
theorem tripNoted_ends (s : State) (w : Well) (uv : Bool) :
    Only [.core, .pw, .host, .sp, .np] (tripActed (tripRecord s w uv true) w uv) (tripNoted s w uv) := by
  rw [tripNoted_eq]
  exact ((irqRaise_only _ 20).mono (by decide)).trans ((tripWakes_only ..).mono (by decide))

theorem tripNoted_only (s : State) (w : Well) (uv : Bool) :
    Only (.bal :: .tq :: .core :: .pw :: journalParts) s (tripNoted s w uv) :=
  ((tripRecord_only ..).mono (by decide)).trans (((tripActed_only ..).mono (by decide)).trans
    ((tripNoted_ends ..).mono (by decide)))

theorem tripActed_keeps_incident (s : State) (w : Well) (uv : Bool) {x : JEntry} (hx : x.inc = true) (hm : x ∈ s.jrn.queue) :
    x ∈ (tripActed s w uv).jrn.queue := by
  cases uv with
  | true => exact tqImmediate_keeps_incident _ 8 hx (by rwa [balEnd_jrn])
  | false => exact hm

/-- The trip is an incident record with its threshold in force. -/
theorem tripNoted_records (s : State) (w : Well) (uv : Bool) :
    mkEntry s true 0x03 ([BitVec.ofNat 8 (w.val + 1), BitVec.ofNat 8 (b2n uv)] ++
      leBytes 2 (if uv then fld s.cfg.cmpCfg 25 16 else fld s.cfg.cmpCfg 9 0)) ∈ (tripNoted s w uv).jrn.queue := by
  have hjrn : (tripNoted s w uv).jrn = _ := (tripNoted_ends s w uv).same .jrn (by decide)
  rw [hjrn]
  exact tripActed_keeps_incident _ w uv rfl (jrnPut_incident_mem ..)

theorem tripNoted_uv_ends_balancing (s : State) (w : Well) : (tripNoted s w true).bal.wells[w].req = false := by
  have hbal : (tripNoted s w true).bal = (balEnd (tripRecord s w true true) (wbit w) 6).bal :=
    Eq.trans ((tripNoted_ends s w true).same .bal (by decide)) (tqImmediate_bal _ 8)
  rw [hbal, balEnd_req, hasW_wbit, decide_eq_true rfl, Bool.not_true, Bool.and_false]

/-- An OV trip does nothing to balancing or torque. -/
theorem tripNoted_ov_keeps (s : State) (w : Well) : (tripNoted s w false).bal = s.bal ∧ (tripNoted s w false).tq = s.tq := by
  have hrec := tripRecord_only s w false true
  have hend := tripNoted_ends s w false
  exact ⟨Eq.trans (hend.same .bal (by decide)) (hrec.same .bal (by decide)),
    Eq.trans (hend.same .tq (by decide)) (hrec.same .tq (by decide))⟩

/-! ### What a trip leaves -/

theorem tripDone_of_running (s : State) (w : Well) (uv : Bool) (hr : running s = true) :
    tripDone s w uv = noteConditions (tripNoted (tripMarked s w uv) w uv) := by rw [tripDone, if_pos hr]

theorem tripDone_of_held (s : State) (w : Well) (uv : Bool) (hr : running s = false) :
    tripDone s w uv = noteConditions (heldNote (tripMarked s w uv) w uv true) := by
  rw [tripDone, hr, if_neg Bool.false_ne_true]

theorem tripDone_after (s : State) (w : Well) (uv : Bool) :
    Only (.prot :: .bal :: .tq :: .core :: .pw :: journalParts) (tripMarked s w uv) (tripDone s w uv) := by
  cases hr : running s with
  | true =>
    rw [tripDone_of_running s w uv hr]
    exact ((tripNoted_only ..).mono (by decide)).trans ((noteConditions_only _).mono (by decide))
  | false =>
    rw [tripDone_of_held s w uv hr]
    exact ((heldNote_only ..).mono (by decide)).trans ((noteConditions_only _).mono (by decide))

theorem tripDone_sameComparators (s : State) (w : Well) (uv : Bool) : SameComparators (tripMarked s w uv) (tripDone s w uv) := by
  refine SameComparators.trans ?_ (noteConditions_sameComparators _)
  split
  · exact .of_only (tripNoted_only ..) (by decide)
  · exact heldNote_sameComparators ..

theorem tripDone_held (s : State) (w : Well) (uv : Bool) (hr : running s = false) :
    (tripDone s w uv).prot.heldEvents = s.prot.heldEvents ++ [(w, uv, true)] := by
  rw [tripDone_of_held s w uv hr, noteConditions_prot, ← tripMarked_heldEvents s w uv]
  rfl

theorem tripDone_records (s : State) (w : Well) (uv : Bool) (hr : running s = true) :
    mkEntry s true 0x03 ([BitVec.ofNat 8 (w.val + 1), BitVec.ofNat 8 (b2n uv)] ++
      leBytes 2 (if uv then fld s.cfg.cmpCfg 25 16 else fld s.cfg.cmpCfg 9 0)) ∈ (tripDone s w uv).jrn.queue := by
  have hcfg : (tripMarked s w uv).cfg = s.cfg := (tripMarked_only s w uv).same .cfg (by decide)
  rw [tripDone_of_running s w uv hr, noteConditions_jrn, ← mkEntry_of_only (tripMarked_only s w uv) (by decide), ← hcfg]
  exact tripNoted_records ..

theorem tripDone_uv_ends_balancing (s : State) (w : Well) (hr : running s = true) :
    (tripDone s w true).bal.wells[w].req = false := by
  rw [tripDone_of_running s w true hr, noteConditions_bal]
  exact tripNoted_uv_ends_balancing ..

theorem tripDone_ov_keeps (s : State) (w : Well) : (tripDone s w false).bal = s.bal ∧ (tripDone s w false).tq = s.tq := by
  have hmark := tripMarked_only s w false
  have hbal : (tripMarked s w false).bal = s.bal := hmark.same .bal (by decide)
  have htq : (tripMarked s w false).tq = s.tq := hmark.same .tq (by decide)
  rw [← hbal, ← htq]
  cases hr : running s with
  | true =>
    rw [tripDone_of_running s w false hr, noteConditions_bal, noteConditions_tq]
    exact tripNoted_ov_keeps ..
  | false =>
    rw [tripDone_of_held s w false hr, noteConditions_bal, noteConditions_tq]
    exact ⟨rfl, rfl⟩

theorem comparatorTrip_trips (s : State) (w : Well) (uv : Bool) (hon : cmpOn s w = true) (hu : underTest s w uv = false)
    (ht : cmpTripped s w uv = false) (hd : cmpDeg s w uv = true) : Does (.comparatorTrip w uv) s fun t =>
    cmpTripped t w uv = true ∧ cmpDeg t w uv = false ∧ ownFault t = true ∧
      (∀ w' uv', (w' ≠ w ∨ uv' ≠ uv) → cmpTripped t w' uv' = cmpTripped s w' uv' ∧ cmpDeg t w' uv' = cmpDeg s w' uv') ∧
      t.acq = { s.acq with
        spans := s.acq.spans.map fun sp => if spanOpen s sp then { sp with trip := putW sp.trip w true } else sp } ∧
      (running s = false → t.prot.heldEvents = s.prot.heldEvents ++ [(w, uv, true)]) ∧
      (running s = true → mkEntry s true 0x03 ([BitVec.ofNat 8 (w.val + 1), BitVec.ofNat 8 (b2n uv)] ++
        leBytes 2 (if uv then fld s.cfg.cmpCfg 25 16 else fld s.cfg.cmpCfg 9 0)) ∈ t.jrn.queue) ∧
      (running s = true → uv = true → t.bal.wells[w].req = false) ∧ (uv = false → t.bal = s.bal ∧ t.tq = s.tq) ∧
      Only (.prot :: .gate :: .acq :: .bal :: .tq :: .core :: .pw :: journalParts) s t := by
  have hafter := tripDone_after s w uv
  have hsame := tripDone_sameComparators s w uv
  have htripped (v : Well) (x : Bool) := (hsame.tripped v x).trans (tripMarked_tripped s w v uv x)
  have hdeg (v : Well) (x : Bool) := (hsame.deg v x).trans (tripMarked_deg s w v uv x)
  have hself : cmpTripped (tripDone s w uv) w uv = true := (htripped w uv).trans (if_pos ⟨rfl, rfl⟩)
  refine ⟨_, exec_comparatorTrip s w uv hon hu ht hd, hself, (hdeg w uv).trans (if_pos ⟨rfl, rfl⟩), ownFault_of_tripped _ w uv hself,
    fun v x hne => ?others, Eq.trans (hafter.same .acq (by decide)) (tripMarked_acq s w uv), tripDone_held s w uv,
    tripDone_records s w uv, fun hr huv => ?uv, fun huv => ?ov, ?only⟩
  case others =>
    have hn : ¬(v = w ∧ x = uv) := fun h => hne.elim (· h.1) (· h.2)
    exact ⟨(htripped v x).trans (if_neg hn), (hdeg v x).trans (if_neg hn)⟩
  case uv =>
    subst huv
    exact tripDone_uv_ends_balancing s w hr
  case ov =>
    subst huv
    exact tripDone_ov_keeps s w
  case only => exact ((tripMarked_only s w uv).mono (by decide)).trans (hafter.mono (by decide))

/-! ## Releases (09 R289, R291) -/

/-- The comparator is released; spans that have already begun will show that it was tripped. -/
def tripReleased (s : State) (w : Well) (uv : Bool) : State :=
  let u := noteHold (putTrip s w uv false)
  { u with prot.relAt := noteAt (wbit w) u.now u.prot.relAt }

/-- The release is taken up: as a routine record, or while reset is held for the release of reset. -/
def tripReleaseDone (s : State) (w : Well) (uv : Bool) : State :=
  noteConditions (if running s then irqRaise (tripRecord (tripReleased s w uv) w uv false) 20
    else heldNote (tripReleased s w uv) w uv false)

theorem tripReleased_only (s : State) (w : Well) (uv : Bool) : Only [.prot, .gate] s (tripReleased s w uv) :=
  ((putTrip_only ..).mono (by decide)).trans (((noteHold_only _).mono (by decide)).trans (only_prot (by decide) _ _))

theorem tripReleased_tripped (s : State) (w v : Well) (uv x : Bool) :
    cmpTripped (tripReleased s w uv) v x = if v = w ∧ x = uv then false else cmpTripped s v x := by
  rw [← cmpTripped_putTrip]
  simp only [cmpTripped, tripReleased, noteHold]

theorem tripReleased_heldEvents (s : State) (w : Well) (uv : Bool) :
    (tripReleased s w uv).prot.heldEvents = s.prot.heldEvents := by
  cases uv <;> rfl

theorem exec_comparatorRelease (s : State) (w : Well) (uv : Bool) (ht : cmpTripped s w uv = true) :
    exec (.comparatorRelease w uv) s = .next (tripReleaseDone s w uv) := by
  have hrun : running (tripReleased s w uv) = running s := running_of_only (tripReleased_only s w uv) (by decide)
  show execComparatorRelease w uv s = _
  unfold execComparatorRelease
  rw [if_neg (by simp [ht]), tripReleaseDone, ← hrun]
  rfl

theorem tripReleaseDone_sameComparators (s : State) (w : Well) (uv : Bool) :
    SameComparators (tripReleased s w uv) (tripReleaseDone s w uv) := by
  refine SameComparators.trans ?_ (noteConditions_sameComparators _)
  split
  · exact (SameComparators.of_only (tripRecord_only ..) (by decide)).trans (.of_only (irqRaise_only _ 20) (by decide))
  · exact heldNote_sameComparators ..

theorem tripReleaseDone_only (s : State) (w : Well) (uv : Bool) :
    Only (.prot :: .gate :: .core :: journalParts) s (tripReleaseDone s w uv) := by
  refine ((tripReleased_only s w uv).mono (by decide)).trans (Only.trans ?_ ((noteConditions_only _).mono (by decide)))
  split
  · exact ((tripRecord_only ..).mono (by decide)).trans ((irqRaise_only _ 20).mono (by decide))
  · exact (heldNote_only ..).mono (by decide)

theorem tripReleaseDone_records (s : State) (w : Well) (uv : Bool) (hr : running s = true) (hroom : jrnRoom s = true) :
    JournalGains s (tripReleaseDone s w uv) false 0x41 [1, BitVec.ofNat 8 (w.val + 1)] := by
  have hjrn : (tripReleaseDone s w uv).jrn = (jrnPut (tripReleased s w uv) false 0x41 [1, BitVec.ofNat 8 (w.val + 1)]).jrn := by
    rw [tripReleaseDone, if_pos hr, noteConditions_jrn, irqRaise_jrn]
    rfl
  exact hjrn.trans (jrnPut_gains (tripReleased_only s w uv) (by decide) _ _ _ hroom)

theorem tripReleaseDone_held (s : State) (w : Well) (uv : Bool) (hr : running s = false) :
    (tripReleaseDone s w uv).prot.heldEvents = s.prot.heldEvents ++ [(w, uv, false)] := by
  rw [tripReleaseDone, hr, if_neg Bool.false_ne_true, noteConditions_prot, ← tripReleased_heldEvents s w uv]
  rfl

theorem comparatorRelease_releases (s : State) (w : Well) (uv : Bool) (ht : cmpTripped s w uv = true) :
    Does (.comparatorRelease w uv) s fun t =>
      cmpTripped t w uv = false ∧ (∀ w' uv', (w' ≠ w ∨ uv' ≠ uv) → cmpTripped t w' uv' = cmpTripped s w' uv') ∧
      (running s = true → jrnRoom s = true → JournalGains s t false 0x41 [1, BitVec.ofNat 8 (w.val + 1)]) ∧
      (running s = false → t.prot.heldEvents = s.prot.heldEvents ++ [(w, uv, false)]) ∧
      Only (.prot :: .gate :: .core :: journalParts) s t := by
  have htripped (v : Well) (x : Bool) :=
    ((tripReleaseDone_sameComparators s w uv).tripped v x).trans (tripReleased_tripped s w v uv x)
  exact ⟨_, exec_comparatorRelease s w uv ht, (htripped w uv).trans (if_pos ⟨rfl, rfl⟩),
    fun v x hne => (htripped v x).trans (if_neg fun h => hne.elim (· h.1) (· h.2)), tripReleaseDone_records s w uv,
    tripReleaseDone_held s w uv, tripReleaseDone_only s w uv⟩

theorem comparatorRelease_idle (s : State) (w : Well) (uv : Bool) (ht : cmpTripped s w uv = false) :
    Idle (.comparatorRelease w uv) s := if_pos (by simp [ht])

/-- Settles O26: a trip leaves the sets of `tripMarked` and takes it up by `tripDone`, a release those of `tripReleased` and `tripReleaseDone`;
the operations between touch no comparator (`SameComparators`). -/
theorem comparatorsTripAndRelease : Obligations.ComparatorsTripAndRelease :=
  ⟨comparatorCrossing_runs_deglitch, comparatorCrossing_idle, comparatorCrossing_under_test, comparatorTrip_idle,
    comparatorTrip_trips, comparatorTrip_under_test, comparatorRelease_releases, comparatorRelease_idle⟩

end Sys2Proof.Machine

/-! PROOFS. The comparators' self-tests (09 R294 to R302, R900 to R903). -/

namespace Sys2Proof.Machine

/-! ## What each set of a test's bookkeeping holds after a change -/

theorem cmpFaulty_putFault (s : State) (w : Well) (uv b : Bool) : cmpFaulty (putFault s w uv b) w uv = b := by
  cases uv <;> simp [putFault, cmpFaulty, hasW_putW]

theorem toRedo_putRedo (s : State) (w : Well) (uv b : Bool) : toRedo (putRedo s w uv b) w uv = b := by
  cases uv <;> simp [putRedo, toRedo, hasW_putW]

theorem owed_putOwe (s : State) (w : Well) (uv b : Bool) : owed (putOwe s w uv b) w uv = b := by
  cases uv <;> simp [putOwe, owed, hasW_putW]

theorem again_putAgain (s : State) (w : Well) (uv b : Bool) :
    hasW (if uv then (putAgain s w uv b).prot.againUv else (putAgain s w uv b).prot.againOv) w = b := by
  cases uv <;> simp [putAgain, hasW_putW]

theorem putFault_only (s : State) (w : Well) (uv b : Bool) : Only [.prot] s (putFault s w uv b) := by
  cases uv <;> exact only_prot (by decide) ..

theorem putRedo_only (s : State) (w : Well) (uv b : Bool) : Only [.prot] s (putRedo s w uv b) := by
  cases uv <;> exact only_prot (by decide) ..

theorem putOwe_only (s : State) (w : Well) (uv b : Bool) : Only [.prot] s (putOwe s w uv b) := by
  cases uv <;> exact only_prot (by decide) ..

theorem putAgain_only (s : State) (w : Well) (uv b : Bool) : Only [.prot] s (putAgain s w uv b) := by
  cases uv <;> exact only_prot (by decide) ..

theorem turnOn_only (s : State) (w : Well) (uv : Bool) : Only [.prot] s (turnOn s w uv) := by
  unfold turnOn
  dsimp only
  split <;> exact only_prot (by decide) ..

/-- A comparator fault holds `FAULT_N` (09 R303, Table 9-2). -/
theorem ownFault_of_faulty (s : State) (w : Well) (uv : Bool) (h : cmpFaulty s w uv = true) : ownFault s = true := by
  cases uv with
  | true =>
    have hne : (s.prot.uvFault != 0) = true := bne_iff_ne.mpr (ne_zero_of_hasW h)
    simp only [ownFault, hwCond, hne, Bool.or_true, Bool.true_or]
  | false =>
    have hne : (s.prot.ovFault != 0) = true := bne_iff_ne.mpr (ne_zero_of_hasW h)
    simp only [ownFault, hwCond, hne, Bool.or_true, Bool.true_or]

theorem SameComparators.redo {s t : State} (h : SameComparators s t) (w : Well) (uv : Bool) : toRedo t w uv = toRedo s w uv := by
  unfold toRedo
  rw [h]

theorem SameComparators.owe {s t : State} (h : SameComparators s t) (w : Well) (uv : Bool) : owed t w uv = owed s w uv := by
  unfold owed
  rw [h]

/-! ### The comparators themselves, and the test that runs: no bookkeeping touches them -/

/-- The comparators and the test that runs are the same in both states. -/
def SameInputs (s t : State) : Prop :=
  t.prot.test = s.prot.test ∧ (∀ w uv, cmpTripped t w uv = cmpTripped s w uv) ∧ ∀ w uv, cmpDeg t w uv = cmpDeg s w uv

/-- The standing comparator faults are the same in both states. -/
def SameFaults (s t : State) : Prop := t.prot.ovFault = s.prot.ovFault ∧ t.prot.uvFault = s.prot.uvFault

theorem SameInputs.refl (s : State) : SameInputs s s := ⟨rfl, fun _ _ => rfl, fun _ _ => rfl⟩

theorem SameInputs.trans {s t u : State} (h : SameInputs s t) (k : SameInputs t u) : SameInputs s u := by
  obtain ⟨htest, htrip, hdeg⟩ := h
  obtain ⟨ktest, ktrip, kdeg⟩ := k
  exact ⟨ktest.trans htest, fun w uv => (ktrip w uv).trans (htrip w uv), fun w uv => (kdeg w uv).trans (hdeg w uv)⟩

theorem SameFaults.refl (s : State) : SameFaults s s := ⟨rfl, rfl⟩

theorem SameFaults.trans {s t u : State} (h : SameFaults s t) (k : SameFaults t u) : SameFaults s u :=
  ⟨k.1.trans h.1, k.2.trans h.2⟩

theorem SameFaults.faulty {s t : State} (h : SameFaults s t) (w : Well) (uv : Bool) : cmpFaulty t w uv = cmpFaulty s w uv := by
  obtain ⟨hov, huv⟩ := h
  rw [cmpFaulty, cmpFaulty, hov, huv]

theorem SameComparators.inputs {s t : State} (h : SameComparators s t) : SameInputs s t :=
  ⟨by rw [h], h.tripped, h.deg⟩

theorem SameComparators.faults {s t : State} (h : SameComparators s t) : SameFaults s t := ⟨by rw [h], by rw [h]⟩

theorem putFault_inputs (s : State) (w : Well) (uv b : Bool) : SameInputs s (putFault s w uv b) := by
  cases uv <;> exact SameInputs.refl s

theorem putRedo_inputs (s : State) (w : Well) (uv b : Bool) : SameInputs s (putRedo s w uv b) := by
  cases uv <;> exact SameInputs.refl s

theorem putOwe_inputs (s : State) (w : Well) (uv b : Bool) : SameInputs s (putOwe s w uv b) := by
  cases uv <;> exact SameInputs.refl s

theorem putAgain_inputs (s : State) (w : Well) (uv b : Bool) : SameInputs s (putAgain s w uv b) := by
  cases uv <;> exact SameInputs.refl s

theorem turnOn_inputs (s : State) (w : Well) (uv : Bool) : SameInputs s (turnOn s w uv) := by
  unfold turnOn
  dsimp only
  split <;> exact SameInputs.refl s

theorem putRedo_faults (s : State) (w : Well) (uv b : Bool) : SameFaults s (putRedo s w uv b) := by
  cases uv <;> exact SameFaults.refl s

theorem putOwe_faults (s : State) (w : Well) (uv b : Bool) : SameFaults s (putOwe s w uv b) := by
  cases uv <;> exact SameFaults.refl s

theorem putAgain_faults (s : State) (w : Well) (uv b : Bool) : SameFaults s (putAgain s w uv b) := by
  cases uv <;> exact SameFaults.refl s

theorem turnOn_faults (s : State) (w : Well) (uv : Bool) : SameFaults s (turnOn s w uv) := by
  unfold turnOn
  dsimp only
  split <;> exact SameFaults.refl s

@[simp] theorem owed_putAgain (s : State) (w : Well) (uv b : Bool) : owed (putAgain s w uv b) w uv = owed s w uv := by
  cases uv <;> rfl

@[simp] theorem owed_putRedo (s : State) (w : Well) (uv b : Bool) : owed (putRedo s w uv b) w uv = owed s w uv := by
  cases uv <;> rfl

/-! ## `CMP_TEST` verbs are answered (14 Table 14-7) -/

theorem ctestAnswers_only (l : List TestVerb) (s : State) : Only (.prot :: replyParts) s (ctestAnswers l s) := by
  induction l generalizing s with
  | nil => exact Only.refl ..
  | cons t l ih =>
    unfold ctestAnswers
    split
    · exact ((replyOk_only ..).mono (by decide)).trans (ih _)
    · exact (only_prot (by decide) ..).trans (ih _)

theorem ctestAnswers_sameComparators (l : List TestVerb) (s : State) : SameComparators s (ctestAnswers l s) := by
  induction l generalizing s with
  | nil => exact .of_eq rfl
  | cons t l ih =>
    unfold ctestAnswers
    split
    · exact (SameComparators.of_only (replyOk_only ..) (by decide)).trans (ih _)
    · exact SameComparators.trans rfl (ih _)

theorem ctestFinish_only (s : State) : Only (.prot :: replyParts) s (ctestFinish s) :=
  (only_prot (by decide) ..).trans (ctestAnswers_only ..)

theorem ctestFinish_sameComparators (s : State) : SameComparators s (ctestFinish s) :=
  SameComparators.trans rfl (ctestAnswers_sameComparators ..)

/-! ## A result (09 R302, R902) -/

/-- Who asked for the test has its result. -/
def originNoted (s : State) (w : Well) (uv : Bool) (o : TestOrigin) (r : CmpResult) : State :=
  match o with
  | .verb => { s with prot.ctest := s.prot.ctest.map fun t => ctestNote t w uv r }
  | .startup => putAgain (putOwe s w uv false) w uv false
  | .periodic => turnOn s w uv

/-- A fault that does not stand yet is raised and recorded. -/
def faultRaised (s : State) (w : Well) (uv : Bool) : State :=
  if cmpFaulty s w uv then s
  else jrnPut (putFault s w uv true) true 0x04 [BitVec.ofNat 8 (w.val + 1), BitVec.ofNat 8 (b2n uv)]

/-- What the result says of the comparator. -/
def verdictNoted (s : State) (w : Well) (uv : Bool) (o : TestOrigin) (blind : Bool) (r : CmpResult) : State :=
  match r with
  | .passed => putRedo (if o == .verb then putFault s w uv false else s) w uv false
  | .skipped => putRedo s w uv false
  | .failed => if blind then putRedo s w uv true else faultRaised (putRedo s w uv false) w uv

theorem cmpResult_eq (s : State) (w : Well) (uv : Bool) (o : TestOrigin) (blind : Bool) (r : CmpResult) :
    cmpResult s w uv o blind r = ctestFinish (noteConditions (verdictNoted (originNoted s w uv o r) w uv o blind r)) := by
  cases o <;> cases r <;> rfl

/-- Nothing after the verdict touches the comparators or the sets of their tests. -/
theorem cmpResult_sameComparators (s : State) (w : Well) (uv : Bool) (o : TestOrigin) (blind : Bool) (r : CmpResult) :
    SameComparators (verdictNoted (originNoted s w uv o r) w uv o blind r) (cmpResult s w uv o blind r) := by
  rw [cmpResult_eq]
  exact (noteConditions_sameComparators _).trans (ctestFinish_sameComparators _)

theorem originNoted_only (s : State) (w : Well) (uv : Bool) (o : TestOrigin) (r : CmpResult) :
    Only [.prot] s (originNoted s w uv o r) := by
  cases o with
  | startup => exact (putOwe_only ..).trans (putAgain_only ..)
  | periodic => exact turnOn_only ..
  | verb => exact only_prot (by decide) ..

theorem originNoted_inputs (s : State) (w : Well) (uv : Bool) (o : TestOrigin) (r : CmpResult) :
    SameInputs s (originNoted s w uv o r) := by
  cases o with
  | startup => exact (putOwe_inputs ..).trans (putAgain_inputs ..)
  | periodic => exact turnOn_inputs ..
  | verb => exact SameInputs.refl s

theorem originNoted_faults (s : State) (w : Well) (uv : Bool) (o : TestOrigin) (r : CmpResult) :
    SameFaults s (originNoted s w uv o r) := by
  cases o with
  | startup => exact (putOwe_faults ..).trans (putAgain_faults ..)
  | periodic => exact turnOn_faults ..
  | verb => exact SameFaults.refl s

theorem faultRaised_only (s : State) (w : Well) (uv : Bool) : Only (.prot :: journalParts) s (faultRaised s w uv) := by
  unfold faultRaised
  split
  · exact Only.refl ..
  · exact ((putFault_only ..).mono (by decide)).trans ((jrnPut_only ..).mono (by decide))

theorem jrnPut_sameComparators (s : State) (inc : Bool) (ty : Byte) (d : List Byte) : SameComparators s (jrnPut s inc ty d) :=
  .of_only (jrnPut_only ..) (by decide)

theorem faultRaised_inputs (s : State) (w : Well) (uv : Bool) : SameInputs s (faultRaised s w uv) := by
  unfold faultRaised
  split
  · exact SameInputs.refl s
  · exact (putFault_inputs ..).trans (jrnPut_sameComparators ..).inputs

theorem faultRaised_faulty (s : State) (w : Well) (uv : Bool) : cmpFaulty (faultRaised s w uv) w uv = true := by
  unfold faultRaised
  split
  · assumption
  · rw [(jrnPut_sameComparators ..).faults.faulty, cmpFaulty_putFault]

theorem faultRaised_records (s : State) (w : Well) (uv : Bool) (h : cmpFaulty s w uv = false) :
    mkEntry s true 0x04 [BitVec.ofNat 8 (w.val + 1), BitVec.ofNat 8 (b2n uv)] ∈ (faultRaised s w uv).jrn.queue := by
  rw [faultRaised, h, if_neg Bool.false_ne_true, ← mkEntry_of_only (putFault_only s w uv true) (by decide)]
  exact jrnPut_incident_mem ..

theorem verdictNoted_inputs (s : State) (w : Well) (uv : Bool) (o : TestOrigin) (blind : Bool) (r : CmpResult) :
    SameInputs s (verdictNoted s w uv o blind r) := by
  cases r with
  | passed =>
    refine SameInputs.trans ?_ (putRedo_inputs ..)
    split
    · exact putFault_inputs ..
    · exact SameInputs.refl s
  | skipped => exact putRedo_inputs ..
  | failed =>
    cases blind with
    | true => exact putRedo_inputs ..
    | false => exact (putRedo_inputs ..).trans (faultRaised_inputs ..)

theorem cmpResult_inputs (s : State) (w : Well) (uv : Bool) (o : TestOrigin) (blind : Bool) (r : CmpResult) :
    SameInputs s (cmpResult s w uv o blind r) :=
  (originNoted_inputs ..).trans ((verdictNoted_inputs ..).trans (cmpResult_sameComparators ..).inputs)

theorem verdictNoted_only (s : State) (w : Well) (uv : Bool) (o : TestOrigin) (blind : Bool) (r : CmpResult) :
    Only (.prot :: journalParts) s (verdictNoted s w uv o blind r) := by
  cases r with
  | passed =>
    refine Only.trans ?_ ((putRedo_only ..).mono (by decide))
    split
    · exact (putFault_only ..).mono (by decide)
    · exact Only.refl ..
  | skipped => exact (putRedo_only ..).mono (by decide)
  | failed =>
    cases blind with
    | true => exact (putRedo_only ..).mono (by decide)
    | false => exact ((putRedo_only ..).mono (by decide)).trans (faultRaised_only ..)

/-- Only a failure that is a fault is recorded. -/
theorem verdictNoted_unrecorded (s : State) (w : Well) (uv : Bool) (o : TestOrigin) (blind : Bool) (r : CmpResult)
    (h : r ≠ .failed) : Only [.prot] s (verdictNoted s w uv o blind r) := by
  cases r with
  | passed =>
    refine Only.trans ?_ (putRedo_only ..)
    split
    · exact putFault_only ..
    · exact Only.refl ..
  | skipped => exact putRedo_only ..
  | failed => exact absurd rfl h

/-- What follows the verdict: conditions noted, verbs answered. -/
theorem cmpResult_after (s : State) (w : Well) (uv : Bool) (o : TestOrigin) (blind : Bool) (r : CmpResult) :
    Only (.prot :: replyParts) (verdictNoted (originNoted s w uv o r) w uv o blind r) (cmpResult s w uv o blind r) := by
  rw [cmpResult_eq]
  exact ((noteConditions_only _).mono (by decide)).trans (ctestFinish_only _)

theorem cmpResult_only (s : State) (w : Well) (uv : Bool) (o : TestOrigin) (blind : Bool) (r : CmpResult) :
    Only (.prot :: journalParts) s (cmpResult s w uv o blind r) :=
  ((originNoted_only ..).mono (by decide)).trans ((verdictNoted_only ..).trans ((cmpResult_after ..).mono (by decide)))

theorem cmpResult_unrecorded (s : State) (w : Well) (uv : Bool) (o : TestOrigin) (blind : Bool) (r : CmpResult)
    (h : r ≠ .failed) : Only (.prot :: replyParts) s (cmpResult s w uv o blind r) :=
  ((originNoted_only ..).mono (by decide)).trans
    (((verdictNoted_unrecorded _ w uv o blind r h).mono (by decide)).trans (cmpResult_after ..))

/-! ### The results one by one -/

/-- A pass clears the wish to repeat, and under `CMP_TEST` the fault. -/
theorem cmpResult_passed (s : State) (w : Well) (uv : Bool) (o : TestOrigin) (blind : Bool) :
    toRedo (cmpResult s w uv o blind .passed) w uv = false ∧
      cmpFaulty (cmpResult s w uv o blind .passed) w uv = (if o = .verb then false else cmpFaulty s w uv) := by
  have hsame := cmpResult_sameComparators s w uv o blind .passed
  refine ⟨(hsame.redo w uv).trans (toRedo_putRedo ..), ?_⟩
  rw [hsame.faults.faulty]
  refine ((putRedo_faults _ w uv false).faulty w uv).trans ?_
  rw [← (originNoted_faults s w uv o .passed).faulty]
  cases o with
  | verb => exact cmpFaulty_putFault ..
  | startup => rfl
  | periodic => rfl

theorem cmpResult_skipped_faults (s : State) (w : Well) (uv : Bool) (o : TestOrigin) (blind : Bool) :
    SameFaults s (cmpResult s w uv o blind .skipped) :=
  (originNoted_faults ..).trans ((putRedo_faults ..).trans (cmpResult_sameComparators s w uv o blind .skipped).faults)

theorem cmpResult_skipped_startup (s : State) (w : Well) (uv blind : Bool) :
    owed (cmpResult s w uv .startup blind .skipped) w uv = false := by
  rw [(cmpResult_sameComparators ..).owe]
  show owed (putRedo (putAgain (putOwe s w uv false) w uv false) w uv false) w uv = false
  rw [owed_putRedo, owed_putAgain, owed_putOwe]

/-- A failure made before the first result is no fault; the test is repeated (R902). -/
theorem cmpResult_failed_blind (s : State) (w : Well) (uv : Bool) (o : TestOrigin) :
    toRedo (cmpResult s w uv o true .failed) w uv = true ∧ SameFaults s (cmpResult s w uv o true .failed) := by
  have hsame := cmpResult_sameComparators s w uv o true .failed
  exact ⟨(hsame.redo w uv).trans (toRedo_putRedo ..),
    (originNoted_faults ..).trans ((putRedo_faults ..).trans hsame.faults)⟩

theorem cmpResult_failed (s : State) (w : Well) (uv : Bool) (o : TestOrigin) :
    cmpFaulty (cmpResult s w uv o false .failed) w uv = true :=
  ((cmpResult_sameComparators s w uv o false .failed).faults.faulty w uv).trans (faultRaised_faulty ..)

theorem cmpResult_failed_records (s : State) (w : Well) (uv : Bool) (o : TestOrigin) (h : cmpFaulty s w uv = false) :
    mkEntry s true 0x04 [BitVec.ofNat 8 (w.val + 1), BitVec.ofNat 8 (b2n uv)] ∈
      (cmpResult s w uv o false .failed).jrn.queue := by
  let u := putRedo (originNoted s w uv o .failed) w uv false
  have hframe : Only [.prot] s u := (originNoted_only ..).trans (putRedo_only ..)
  have hfree : cmpFaulty u w uv = false := (((originNoted_faults ..).trans (putRedo_faults ..)).faulty w uv).trans h
  have hjrn : (cmpResult s w uv o false .failed).jrn = (faultRaised u w uv).jrn :=
    (cmpResult_after s w uv o false .failed).same .jrn (by decide)
  rw [hjrn, ← mkEntry_of_only hframe (by decide)]
  exact faultRaised_records u w uv hfree

/-! ## A well that is passed over (09 R903) -/

theorem passOver_sameOrAnswered (s : State) (w : Well) (uv : Bool) :
    let u := putAgain (putRedo (putOwe s w uv false) w uv false) w uv false
    SameComparators u (passOver s w uv) ∧ Only (.prot :: replyParts) u (passOver s w uv) := by
  unfold passOver
  dsimp only
  split
  · exact ⟨SameComparators.trans rfl (ctestFinish_sameComparators _), (only_prot (by decide) ..).trans (ctestFinish_only _)⟩
  · exact ⟨.of_eq rfl, Only.refl ..⟩

theorem passOver_keeps (s : State) (w : Well) (uv : Bool) :
    SameInputs s (passOver s w uv) ∧ SameFaults s (passOver s w uv) ∧ Only (.prot :: replyParts) s (passOver s w uv) := by
  obtain ⟨hsame, honly⟩ := passOver_sameOrAnswered s w uv
  refine ⟨?_, ?_, ?_⟩
  · exact (putOwe_inputs ..).trans ((putRedo_inputs ..).trans ((putAgain_inputs ..).trans hsame.inputs))
  · exact (putOwe_faults ..).trans ((putRedo_faults ..).trans ((putAgain_faults ..).trans hsame.faults))
  · exact ((putOwe_only ..).mono (by decide)).trans
      (((putRedo_only ..).mono (by decide)).trans (((putAgain_only ..).mono (by decide)).trans honly))

/-! ## A test is about to start (09 R294, R300, R901, R902) -/

/-- The test is skipped; a start-up test that is to be made again once more is noted (R902). -/
def testSkipped (s : State) (w : Well) (uv : Bool) (o : TestOrigin) (again : Bool) : State :=
  let u := cmpResult s w uv o (lastCode s w).isNone .skipped
  if again then putAgain u w uv true else u

/-- The test runs. -/
def testStarted (s : State) (w : Well) (uv : Bool) (o : TestOrigin) : State :=
  { s with prot.test := some { w := w, uv := uv, origin := o, tripped := false, blind := (lastCode s w).isNone, cross := false } }

theorem exec_cmpSelfTestStart_passedOver (s : State) (w : Well) (uv : Bool) (ha : active s = true) (hn : s.prot.test = none)
    (hc : hasW (cellMask s.cfg) w = false) : exec (.cmpSelfTestStart w uv) s = .next (passOver s w uv) := by
  show execCmpSelfTestStart w uv s = _
  unfold execCmpSelfTestStart
  rw [if_neg (by simp [ha, hn]), if_pos (by simp [hc])]

theorem cmpSelfTestStart_unasked (s : State) (w : Well) (uv : Bool) (ha : active s = true) (hn : s.prot.test = none)
    (hc : hasW (cellMask s.cfg) w = true) (ho : testOrigin s w uv = none) : Idle (.cmpSelfTestStart w uv) s := by
  show execCmpSelfTestStart w uv s = _
  unfold execCmpSelfTestStart
  rw [if_neg (by simp [ha, hn]), if_neg (by simp [hc]), ho]

theorem exec_cmpSelfTestStart_asked (s : State) (w : Well) (uv : Bool) (o : TestOrigin) (ha : active s = true)
    (hn : s.prot.test = none) (hc : hasW (cellMask s.cfg) w = true) (ho : testOrigin s w uv = some o) :
    exec (.cmpSelfTestStart w uv) s = .next (
      if cmpTripped s w uv || cmpDeg s w uv then testSkipped s w uv o (o == .startup)
      else if skipByResult s w uv then
        testSkipped s w uv o (o == .startup && hasW (if uv then s.prot.againUv else s.prot.againOv) w)
      else testStarted s w uv o) := by
  show execCmpSelfTestStart w uv s = _
  unfold execCmpSelfTestStart
  rw [if_neg (by simp [ha, hn]), if_neg (by simp [hc]), ho]
  simp only [apply_ite Host.Outcome.next, testSkipped, testStarted]

theorem testSkipped_keeps (s : State) (w : Well) (uv : Bool) (o : TestOrigin) (again : Bool) :
    SameInputs s (testSkipped s w uv o again) ∧ SameFaults s (testSkipped s w uv o again) ∧
      Only (.prot :: replyParts) s (testSkipped s w uv o again) := by
  have hin := cmpResult_inputs s w uv o (lastCode s w).isNone .skipped
  have hfaults := cmpResult_skipped_faults s w uv o (lastCode s w).isNone
  have honly := cmpResult_unrecorded s w uv o (lastCode s w).isNone .skipped (by decide)
  cases again with
  | true => exact ⟨hin.trans (putAgain_inputs ..), hfaults.trans (putAgain_faults ..),
      honly.trans ((putAgain_only ..).mono (by decide))⟩
  | false => exact ⟨hin, hfaults, honly⟩

theorem cmpSelfTestStart_runs (s : State) (w : Well) (uv : Bool) (ha : active s = true) (hn : s.prot.test = none)
    (hc : hasW (cellMask s.cfg) w = true) (ht : cmpTripped s w uv = false) (hd : cmpDeg s w uv = false)
    (hs : skipByResult s w uv = false) :
    (∀ o, testOrigin s w uv = some o → Does (.cmpSelfTestStart w uv) s fun t =>
      t = { s with prot := { s.prot with
        test := some { w := w, uv := uv, origin := o, tripped := false, blind := (lastCode s w).isNone, cross := false } } }) ∧
    (testOrigin s w uv = none → Idle (.cmpSelfTestStart w uv) s) := by
  refine ⟨fun o ho => ⟨_, exec_cmpSelfTestStart_asked s w uv o ha hn hc ho, ?_⟩, cmpSelfTestStart_unasked s w uv ha hn hc⟩
  rw [if_neg (by simp [ht, hd]), if_neg (by simp [hs])]
  rfl

theorem cmpSelfTestStart_owes_again (s : State) (w : Well) (uv : Bool) (ha : active s = true) (hn : s.prot.test = none)
    (hc : hasW (cellMask s.cfg) w = true) (ho : testOrigin s w uv = some .startup)
    (hb : cmpTripped s w uv = true ∨ cmpDeg s w uv = true) : Does (.cmpSelfTestStart w uv) s fun t =>
      owed t w uv = false ∧ hasW (if uv then t.prot.againUv else t.prot.againOv) w = true := by
  have hexec := exec_cmpSelfTestStart_asked s w uv .startup ha hn hc ho
  rw [if_pos (by simpa using hb)] at hexec
  exact ⟨_, hexec, (owed_putAgain ..).trans (cmpResult_skipped_startup ..), again_putAgain ..⟩

theorem cmpSelfTestStart_skips (s : State) (w : Well) (uv : Bool) (ha : active s = true) (hn : s.prot.test = none)
    (h : hasW (cellMask s.cfg) w = false ∨ cmpTripped s w uv = true ∨ cmpDeg s w uv = true ∨ skipByResult s w uv = true) :
    Does (.cmpSelfTestStart w uv) s fun t =>
      t.prot.test = none ∧ (∀ w' uv', cmpFaulty t w' uv' = cmpFaulty s w' uv' ∧ cmpTripped t w' uv' = cmpTripped s w' uv') ∧
        Only (.prot :: replyParts) s t := by
  have hdone (t : State) (hk : SameInputs s t ∧ SameFaults s t ∧ Only (.prot :: replyParts) s t) :
      t.prot.test = none ∧ (∀ w' uv', cmpFaulty t w' uv' = cmpFaulty s w' uv' ∧ cmpTripped t w' uv' = cmpTripped s w' uv') ∧
        Only (.prot :: replyParts) s t := by
    obtain ⟨⟨htest, htrip, -⟩, hfaults, honly⟩ := hk
    exact ⟨htest.trans hn, fun v x => ⟨hfaults.faulty v x, htrip v x⟩, honly⟩
  cases hc : hasW (cellMask s.cfg) w with
  | false => exact ⟨_, exec_cmpSelfTestStart_passedOver s w uv ha hn hc, hdone _ (passOver_keeps ..)⟩
  | true =>
    cases ho : testOrigin s w uv with
    | none =>
      exact ⟨s, cmpSelfTestStart_unasked s w uv ha hn hc ho, hdone s ⟨SameInputs.refl s, SameFaults.refl s, Only.refl ..⟩⟩
    | some o =>
      refine ⟨_, exec_cmpSelfTestStart_asked s w uv o ha hn hc ho, hdone _ ?_⟩
      split
      · exact testSkipped_keeps ..
      case isFalse hfree =>
        have hskip : skipByResult s w uv = true := by
          simp only [Bool.or_eq_true, not_or] at hfree
          obtain h | h | h | h := h
          · exact absurd (hc.symm.trans h) Bool.noConfusion
          · exact absurd h hfree.1
          · exact absurd h hfree.2
          · exact h
        rw [if_pos hskip]
        exact testSkipped_keeps ..

/-! ## The window ends (09 R295, R296, R298) -/

/-- The test is over; a crossing that began in its window starts its deglitch. -/
def windowClosed (s : State) (x : CmpTest) : State := putDeg { s with prot.test := none } x.w x.uv (x.cross && cmpOn s x.w)

theorem windowClosed_only (s : State) (x : CmpTest) : Only [.prot] s (windowClosed s x) :=
  (only_prot (by decide) ..).trans (putDeg_only ..)

theorem windowClosed_test (s : State) (x : CmpTest) : (windowClosed s x).prot.test = none := by
  unfold windowClosed putDeg
  split <;> rfl

theorem windowClosed_deg (s : State) (x : CmpTest) : cmpDeg (windowClosed s x) x.w x.uv = (x.cross && cmpOn s x.w) := by
  rw [windowClosed, cmpDeg_putDeg, if_pos ⟨rfl, rfl⟩]

theorem windowClosed_faults (s : State) (x : CmpTest) : SameFaults s (windowClosed s x) := by
  unfold windowClosed putDeg
  split <;> exact SameFaults.refl s

/-- The result of a test whose window is over. -/
def windowJudged (s : State) (x : CmpTest) : State :=
  cmpResult (irqRaise (windowClosed s x) 20) x.w x.uv x.origin x.blind (if x.tripped then .passed else .failed)

theorem exec_cmpTestWindowEnd (s : State) (x : CmpTest) (ha : active s = true) (hx : s.prot.test = some x) :
    exec .cmpTestWindowEnd s =
      .next (if hasW (cellMask s.cfg) x.w then windowJudged s x else passOver (windowClosed s x) x.w x.uv) := by
  have hact : active (windowClosed s x) = true := (active_of_only (windowClosed_only s x) (by decide) (by decide)).trans ha
  have hcfg : (windowClosed s x).cfg = s.cfg := (windowClosed_only s x).same .cfg (by decide)
  show execCmpTestWindowEnd s = _
  unfold execCmpTestWindowEnd
  rw [hx]
  change (if !active (windowClosed s x) then Host.Outcome.next (windowClosed s x)
    else if !hasW (cellMask (windowClosed s x).cfg) x.w then .next (passOver (windowClosed s x) x.w x.uv)
    else .next (windowJudged s x)) = _
  rw [if_neg (by simp [hact]), hcfg]
  cases hasW (cellMask s.cfg) x.w <;> rfl

theorem exec_cmpTestWindowEnd_judged (s : State) (x : CmpTest) (ha : active s = true) (hx : s.prot.test = some x)
    (hc : hasW (cellMask s.cfg) x.w = true) : exec .cmpTestWindowEnd s = .next (windowJudged s x) := by
  rw [exec_cmpTestWindowEnd s x ha hx, if_pos hc]

/-- Before the verdict the test is over and only its deglitch has changed. -/
theorem windowNoted_inputs (s : State) (x : CmpTest) :
    SameInputs (windowClosed s x) (irqRaise (windowClosed s x) 20) := SameInputs.refl _

theorem windowNoted_only (s : State) (x : CmpTest) : Only [.prot, .core] s (irqRaise (windowClosed s x) 20) :=
  ((windowClosed_only s x).mono (by decide)).trans ((irqRaise_only _ 20).mono (by decide))

theorem windowJudged_inputs (s : State) (x : CmpTest) : SameInputs (windowClosed s x) (windowJudged s x) :=
  (windowNoted_inputs s x).trans (cmpResult_inputs ..)

theorem windowJudged_test (s : State) (x : CmpTest) : (windowJudged s x).prot.test = none :=
  (windowJudged_inputs s x).1.trans (windowClosed_test s x)

theorem cmpTestWindowEnd_passes (s : State) (x : CmpTest) (ha : active s = true) (hx : s.prot.test = some x)
    (hc : hasW (cellMask s.cfg) x.w = true) (ht : x.tripped = true) : Does .cmpTestWindowEnd s fun t =>
    t.prot.test = none ∧ toRedo t x.w x.uv = false ∧
      cmpFaulty t x.w x.uv = (if x.origin = .verb then false else cmpFaulty s x.w x.uv) ∧
      cmpDeg t x.w x.uv = (x.cross && cmpOn s x.w) ∧ Only (.prot :: .core :: replyParts) s t := by
  have hjudged : windowJudged s x = cmpResult (irqRaise (windowClosed s x) 20) x.w x.uv x.origin x.blind .passed := by
    rw [windowJudged, if_pos ht]
  obtain ⟨hredo, hfaulty⟩ := cmpResult_passed (irqRaise (windowClosed s x) 20) x.w x.uv x.origin x.blind
  obtain ⟨-, -, hdeg⟩ := windowJudged_inputs s x
  refine ⟨_, exec_cmpTestWindowEnd_judged s x ha hx hc, windowJudged_test s x, ?_, ?_,
    (hdeg _ _).trans (windowClosed_deg s x), ?_⟩
  · rw [hjudged, hredo]
  · rw [hjudged, hfaulty, ← (windowClosed_faults s x).faulty]
    rfl
  · rw [hjudged]
    exact ((windowNoted_only s x).mono (by decide)).trans ((cmpResult_unrecorded _ _ _ _ _ .passed (by decide)).mono (by decide))

theorem windowJudged_failed (s : State) (x : CmpTest) (ht : x.tripped = false) :
    windowJudged s x = cmpResult (irqRaise (windowClosed s x) 20) x.w x.uv x.origin x.blind .failed := by
  rw [windowJudged, ht, if_neg Bool.false_ne_true]

theorem cmpTestWindowEnd_fails (s : State) (x : CmpTest) (ha : active s = true) (hx : s.prot.test = some x)
    (hc : hasW (cellMask s.cfg) x.w = true) (ht : x.tripped = false) (hb : x.blind = false) : Does .cmpTestWindowEnd s fun t =>
      t.prot.test = none ∧ cmpFaulty t x.w x.uv = true ∧ ownFault t = true ∧
        (cmpFaulty s x.w x.uv = false →
          mkEntry s true 0x04 [BitVec.ofNat 8 (x.w.val + 1), BitVec.ofNat 8 (b2n x.uv)] ∈ t.jrn.queue) ∧
        Only (.prot :: .core :: journalParts) s t := by
  let u := irqRaise (windowClosed s x) 20
  have hjudged : windowJudged s x = cmpResult u x.w x.uv x.origin false .failed := by rw [windowJudged_failed s x ht, hb]
  have hfaulty : cmpFaulty (windowJudged s x) x.w x.uv = true := by
    rw [hjudged]
    exact cmpResult_failed ..
  refine ⟨_, exec_cmpTestWindowEnd_judged s x ha hx hc, windowJudged_test s x, hfaulty, ownFault_of_faulty _ _ _ hfaulty,
    fun hfree => ?_, ?_⟩
  · rw [hjudged, ← mkEntry_of_only (windowNoted_only s x) (by decide)]
    exact cmpResult_failed_records u x.w x.uv x.origin (((windowClosed_faults s x).faulty _ _).trans hfree)
  · exact ((windowNoted_only s x).mono (by decide)).trans ((cmpResult_only ..).mono (by decide))

theorem cmpTestWindowEnd_fails_blind (s : State) (x : CmpTest) (ha : active s = true) (hx : s.prot.test = some x)
    (hc : hasW (cellMask s.cfg) x.w = true) (ht : x.tripped = false) (hb : x.blind = true) : Does .cmpTestWindowEnd s fun t =>
      t.prot.test = none ∧ toRedo t x.w x.uv = true ∧ cmpFaulty t x.w x.uv = cmpFaulty s x.w x.uv := by
  obtain ⟨hredo, hfaults⟩ := cmpResult_failed_blind (irqRaise (windowClosed s x) 20) x.w x.uv x.origin
  refine ⟨_, exec_cmpTestWindowEnd_judged s x ha hx hc, windowJudged_test s x, ?_⟩
  rw [windowJudged_failed s x ht, hb]
  exact ⟨hredo, ((windowClosed_faults s x).trans hfaults).faulty _ _⟩

/-- The comparators of a well that is no used CELL-role well do not run (06 R184). -/
theorem cmpOn_of_unused (s : State) (w : Well) (h : hasW (cellMask s.cfg) w = false) : cmpOn s w = false := by
  simp [cmpOn, h]

theorem cmpTestWindowEnd_passes_over (s : State) (x : CmpTest) (ha : active s = true) (hx : s.prot.test = some x)
    (hc : hasW (cellMask s.cfg) x.w = false) : Does .cmpTestWindowEnd s fun t =>
    t.prot.test = none ∧ cmpDeg t x.w x.uv = false ∧ (∀ w' uv', cmpFaulty t w' uv' = cmpFaulty s w' uv') ∧
      Only (.prot :: replyParts) s t := by
  have hexec := exec_cmpTestWindowEnd s x ha hx
  rw [hc, if_neg Bool.false_ne_true] at hexec
  obtain ⟨⟨htest, -, hdeg⟩, hfaults, honly⟩ := passOver_keeps (windowClosed s x) x.w x.uv
  refine ⟨_, hexec, htest.trans (windowClosed_test s x), ?_, ((windowClosed_faults s x).trans hfaults).faulty,
    ((windowClosed_only s x).mono (by decide)).trans honly⟩
  rw [hdeg, windowClosed_deg, cmpOn_of_unused s x.w hc, Bool.and_false]

theorem cmpTestWindowEnd_idle (s : State) (hn : s.prot.test = none) : Idle .cmpTestWindowEnd s := by
  show execCmpTestWindowEnd s = _
  unfold execCmpTestWindowEnd
  rw [hn]

/-- Settles O27: a test starts, is skipped or is passed over by `testStarted`, `testSkipped` and `passOver`; the end of its window by what
`cmpResult` makes of each result. -/
theorem comparatorSelfTests : Obligations.ComparatorSelfTests :=
  ⟨cmpSelfTestStart_runs, cmpSelfTestStart_owes_again, cmpSelfTestStart_skips, cmpTestWindowEnd_passes, cmpTestWindowEnd_fails,
    cmpTestWindowEnd_fails_blind, cmpTestWindowEnd_passes_over, cmpTestWindowEnd_idle⟩

end Sys2Proof.Machine

/-! PROOFS. FAULT frames, their repeats, and the ageing of LIVE (09 R312; 11 R416, R433; 12 R470). -/

namespace Sys2Proof.Machine

/-! ## A FAULT frame is sent -/

theorem sendFrame_link_only (s : State) (p : Port) (ty : BitVec 4) (d : BitVec 7) (b : List Byte) :
    Only [.chn, .sp, .np] s (sendFrame s p ty d b) :=
  ((originate_only s ty d b).mono (by decide)).trans ((enqueueTx_only ..).mono (by decide))

/-- The frame goes south, and on an orphan of a ring a second one north. -/
theorem sendFaultFrame_eq (s : State) : sendFaultFrame s =
    if s.tim.orphaned && s.chn.ring then
      sendFrame (sendFrame s .south 4 0 (leBytes 4 (protStat s).toNat)) .north 4 0 (leBytes 4 (protStat s).toNat)
    else sendFrame s .south 4 0 (leBytes 4 (protStat s).toNat) := rfl

theorem sendFaultFrame_only (s : State) : Only [.chn, .sp, .np] s (sendFaultFrame s) := by
  rw [sendFaultFrame_eq]
  split
  · exact (sendFrame_link_only ..).trans (sendFrame_link_only ..)
  · exact sendFrame_link_only ..

theorem sendFaultFrame_south (s : State) : ∃ f, (sendFaultFrame s).sp.txq = s.sp.txq ++ [f] ∧ f.type = 4 ∧ f.dst = 0 ∧
    f.src = s.chn.addr ∧ f.lseq = s.chn.lseq ∧ f.payload = leBytes 4 (protStat s).toNat := by
  refine ⟨(originate s 4 0 (leBytes 4 (protStat s).toNat)).2, ?_, rfl, rfl, rfl, rfl, rfl⟩
  rw [sendFaultFrame_eq]
  split <;> rfl

theorem sendFaultFrame_orphan (s : State) (h : (s.tim.orphaned && s.chn.ring) = true) :
    ∃ f, (sendFaultFrame s).np.txq = s.np.txq ++ [f] ∧ f.type = 4 ∧ f.payload = leBytes 4 (protStat s).toNat := by
  rw [sendFaultFrame_eq, if_pos h]
  exact ⟨_, rfl, rfl, rfl⟩

theorem sendFaultFrame_south_only (s : State) (h : (s.tim.orphaned && s.chn.ring) = false) :
    (sendFaultFrame s).np = s.np ∧ (sendFaultFrame s).chn.lseq = s.chn.lseq + 1 := by
  rw [sendFaultFrame_eq, h, if_neg Bool.false_ne_true]
  exact ⟨rfl, rfl⟩

/-- Sending leaves the timer and the count of the repeats. -/
theorem sendFaultFrame_timer (s : State) :
    (sendFaultFrame s).chn.fltTimer = s.chn.fltTimer ∧ (sendFaultFrame s).chn.fltRep = s.chn.fltRep := by
  rw [sendFaultFrame_eq]
  split <;> exact ⟨rfl, rfl⟩

theorem exec_faultFrameTimer (s : State) : exec .faultFrameTimer s =
    if active s && s.chn.fltTimer && s.chn.addr != 0x7F then
      .next (sendFaultFrame { s with chn.fltTimer := false, chn.fltRep := 4 })
    else .next s := rfl

theorem exec_faultFrameRepeat (s : State) : exec .faultFrameRepeat s =
    if active s && s.chn.fltRep != 0 && s.chn.addr != 0x7F then
      .next (sendFaultFrame { s with chn.fltRep := s.chn.fltRep - 1 })
    else .next s := rfl

theorem faultFrameTimer_sends (s : State) (ha : active s = true) (ht : s.chn.fltTimer = true) (hn : s.chn.addr ≠ 0x7F) :
    Does .faultFrameTimer s fun t => t.chn.fltTimer = false ∧ t.chn.fltRep = 4 ∧
      (∃ f, t.sp.txq = s.sp.txq ++ [f] ∧ f.type = 4 ∧ f.dst = 0 ∧ f.src = s.chn.addr ∧ f.lseq = s.chn.lseq ∧
        f.payload = leBytes 4 (protStat s).toNat) ∧
      ((s.tim.orphaned && s.chn.ring) = true →
        ∃ f, t.np.txq = s.np.txq ++ [f] ∧ f.type = 4 ∧ f.payload = leBytes 4 (protStat s).toNat) ∧
      ((s.tim.orphaned && s.chn.ring) = false → t.np = s.np ∧ t.chn.lseq = s.chn.lseq + 1) ∧ Only [.chn, .sp, .np] s t := by
  let u : State := { s with chn.fltTimer := false, chn.fltRep := 4 }
  obtain ⟨htimer, hrep⟩ := sendFaultFrame_timer u
  refine ⟨sendFaultFrame u, ?_, htimer, hrep, sendFaultFrame_south u, sendFaultFrame_orphan u, sendFaultFrame_south_only u, ?_⟩
  · rw [exec_faultFrameTimer, if_pos (by rw [ha, ht, bne_iff_ne.mpr hn]; rfl)]
  · exact (only_chn (by decide) s u.chn).trans (sendFaultFrame_only u)

theorem faultFrameTimer_idle (s : State) (h : s.chn.fltTimer = false ∨ s.chn.addr = 0x7F) : Idle .faultFrameTimer s :=
  (exec_faultFrameTimer s).trans (if_neg (by obtain h | h := h <;> simp [h]))

theorem faultFrameRepeat_sends (s : State) (ha : active s = true) (hr : s.chn.fltRep ≠ 0) (hn : s.chn.addr ≠ 0x7F) :
    Does .faultFrameRepeat s fun t => t.chn.fltRep = s.chn.fltRep - 1 ∧
      (∃ f, t.sp.txq = s.sp.txq ++ [f] ∧ f.type = 4 ∧ f.payload = leBytes 4 (protStat s).toNat) ∧ Only [.chn, .sp, .np] s t := by
  let u : State := { s with chn.fltRep := s.chn.fltRep - 1 }
  obtain ⟨-, hrep⟩ := sendFaultFrame_timer u
  obtain ⟨f, hqueue, htype, -, -, -, hpayload⟩ := sendFaultFrame_south u
  refine ⟨sendFaultFrame u, ?_, hrep, ⟨f, hqueue, htype, hpayload⟩, ?_⟩
  · rw [exec_faultFrameRepeat, if_pos (by rw [ha, bne_iff_ne.mpr hr, bne_iff_ne.mpr hn]; rfl)]
  · exact (only_chn (by decide) s u.chn).trans (sendFaultFrame_only u)

theorem faultFrameRepeat_idle (s : State) (h : s.chn.fltRep = 0 ∨ s.chn.addr = 0x7F) : Idle .faultFrameRepeat s :=
  (exec_faultFrameRepeat s).trans (if_neg (by obtain h | h := h <;> simp [h]))

/-! ## A bit leaves LIVE (12 R470) -/

/-- The fault fields heard, with one bit aged out. -/
def fltAged (s : State) (b : Fin 4) : State :=
  { s with chn.flts := s.chn.flts.map fun f => (f.1 &&& ~~~ (1#4 <<< b.val), f.2) }

theorem exec_hostFltLiveAgeOut (s : State) (b : Fin 4) (hr : running s = true) (hh : isHead s = true) :
    exec (.hostFltLiveAgeOut b) s = .next (updateLive (fltAged s b)) := if_pos (by simp [hr, hh])

theorem updateLive_live (s : State) : (updateLive s).host.live = liveFlt s := rfl

theorem getLsbD_foldl_or {α : Type} {n : Nat} (f : α → BitVec n) (l : List α) (r : BitVec n) (i : Nat) :
    (l.foldl (fun r x => r ||| f x) r).getLsbD i = (r.getLsbD i || l.any fun x => (f x).getLsbD i) := by
  induction l generalizing r with
  | nil => simp
  | cons x l ih => rw [List.foldl_cons, ih, BitVec.getLsbD_or, List.any_cons, Bool.or_assoc]

/-- A bit is heard where some field of the last 10 ms carries it. -/
theorem heardFlt_getLsbD (s : State) (i : Nat) : (heardFlt s).getLsbD i =
    (s.chn.flts.filter fun f => decide (s.now - f.2 ≤ 10 * ctPerMs)).any fun f => f.1.getLsbD i := by
  rw [heardFlt, getLsbD_foldl_or, show (0 : BitVec 4).getLsbD i = false from BitVec.getLsbD_zero, Bool.false_or]

theorem getLsbD_clear (x : BitVec 4) (b : Fin 4) (i : Nat) :
    (x &&& ~~~ (1#4 <<< b.val)).getLsbD i = (x.getLsbD i && decide (i ≠ b.val)) := by
  by_cases hi : i < 4
  · have hbit : (1#4 <<< b.val).getLsbD i = decide (i = b.val) := by
      rw [← BitVec.twoPow_eq, BitVec.getLsbD_twoPow, decide_eq_true b.isLt, Bool.true_and]
      exact decide_eq_decide.mpr eq_comm
    rw [BitVec.getLsbD_and, BitVec.getLsbD_not, hbit]
    simp [hi]
  · rw [BitVec.getLsbD_of_ge _ _ (by omega), BitVec.getLsbD_of_ge _ _ (by omega), Bool.false_and]

/-- Ageing takes the bit out of every field heard, and leaves the others. -/
theorem heardFlt_fltAged (s : State) (b : Fin 4) (i : Nat) :
    (heardFlt (fltAged s b)).getLsbD i = ((heardFlt s).getLsbD i && decide (i ≠ b.val)) := by
  rw [heardFlt_getLsbD, heardFlt_getLsbD]
  simp only [fltAged, List.filter_map, List.any_map, Function.comp_def, getLsbD_clear]
  by_cases h : i = b.val
  · simp [h]
  · simp [h]

theorem liveFlt_of_head (s : State) (h : isHead s = true) : liveFlt s = ownFlt s ||| heardFlt s := if_pos h

/-- At the head a bit of LIVE that is aged out is that of the device itself. -/
theorem liveFlt_fltAged (s : State) (b : Fin 4) (hh : isHead s = true) (i : Nat) : (liveFlt (fltAged s b)).getLsbD i =
    ((ownFlt s).getLsbD i || ((heardFlt s).getLsbD i && decide (i ≠ b.val))) := by
  rw [liveFlt_of_head (fltAged s b) hh, BitVec.getLsbD_or, heardFlt_fltAged]
  rfl

theorem hostFltLiveAgeOut_ages (s : State) (b : Fin 4) (hr : running s = true) (hh : isHead s = true) :
    Does (.hostFltLiveAgeOut b) s fun t => t.host.live.getLsbD b.val = (ownFlt s).getLsbD b.val ∧
      (∀ i, i ≠ b.val → t.host.live.getLsbD i = (liveFlt s).getLsbD i) ∧ Only [.chn, .host] s t := by
  refine ⟨_, exec_hostFltLiveAgeOut s b hr hh, ?_, fun i hi => ?_, ?_⟩
  · rw [updateLive_live, liveFlt_fltAged s b hh]
    simp
  · rw [updateLive_live, liveFlt_fltAged s b hh, liveFlt_of_head s hh, BitVec.getLsbD_or]
    simp [hi]
  · exact (only_chn (by decide) s (fltAged s b).chn).trans ((updateLive_only _).mono (by decide))

/-- Settles O28: timer and repeat by what `sendFaultFrame` queues, the ageing bit by bit (`liveFlt_fltAged`). -/
theorem faultFramesAndLiveBits : Obligations.FaultFramesAndLiveBits :=
  ⟨faultFrameTimer_sends, faultFrameTimer_idle, faultFrameRepeat_sends, faultFrameRepeat_idle, hostFltLiveAgeOut_ages⟩

end Sys2Proof.Machine

/-! PROOFS. The gate and protection verbs (09 R301, R319, R320, R326, R333, R334; 14 R535 to R538). -/

namespace Sys2Proof.Machine

/-! ## A verb that passes the first steps of check 7 runs its own part (13 R483; 14 R513) -/

theorem entered_only (s : State) (v : VerbRow) (m : Msg) : Only [.safe] (hostActivity s) (entered s v m) := by
  unfold entered
  dsimp only
  split
  · exact Only.of fun p => by
      cases p
      case safe => exact .inl (by decide)
      all_goals exact .inr rfl
  · exact Only.refl ..

theorem entered_of_opn (s : State) (v : VerbRow) (m : Msg) (h : v.priv = .opn) : entered s v m = hostActivity s := by
  simp [entered, h]

/-- Host activity at the same moment changes nothing more. -/
theorem hostActivity_entered (s : State) (v : VerbRow) (m : Msg) : hostActivity (entered s v m) = entered s v m := by
  unfold entered
  dsimp only
  split <;> rfl

theorem placeOk_hostActivity (s : State) (p : Place) (m : Msg) : placeOk (hostActivity s) p m = placeOk s p m := by
  cases p <;> rfl

theorem verbFits_iff (s : State) (v : VerbRow) (m : Msg) : verbFits s v m = true ↔
    fwRuns s = true ∧ placeOk s v.place m = true ∧ (m.bcast = false ∨ v.bc = true) ∧ m.env = false ∧ lenOk v m = true ∧
      v.priv ≠ .safe ∧ (v.priv ≠ .pw ∨ s.safe.sess[m.mbx].isSome = true) ∧ noWaiters s v.code m = true := by
  simp only [verbFits, Bool.and_eq_true, Bool.or_eq_true, Bool.not_eq_true', bne_iff_ne, and_assoc]

theorem enterVerb_of_fits (s : State) (v : VerbRow) (m : Msg) (body : State → Waiting → State) (h : verbFits s v m = true) :
    enterVerb (hostActivity s) v m body = body (entered s v m) (waitOf v m) := by
  obtain ⟨-, hplace, hbcast, henv, hlen, hsafe, hsession, -⟩ := (verbFits_iff s v m).mp h
  have hkept : (m.env || !lenOk v m) = false := by simp [henv, hlen]
  unfold enterVerb
  rw [placeOk_hostActivity, hplace, if_neg (by decide), if_neg (by obtain hb | hb := hbcast <;> simp [hb])]
  cases hpriv : v.priv with
  | opn =>
    show afterPriv v m (fun s => body s (waitOf v m)) (hostActivity s) = _
    rw [afterPriv, hkept, if_neg Bool.false_ne_true, entered_of_opn s v m hpriv]
  | pw =>
    have hopen : (hostActivity s).safe.sess[m.mbx].isNone = false := by
      have hsome : s.safe.sess[m.mbx].isSome = true := hsession.resolve_left fun h => h hpriv
      exact Option.isNone_eq_false_iff.mpr hsome
    show withSession (hostActivity s) v m (afterPriv v m fun s => body s (waitOf v m)) = _
    rw [withSession, hopen, if_neg Bool.false_ne_true, afterPriv, hkept, if_neg Bool.false_ne_true, entered, if_pos hpriv]
  | safe => exact absurd hpriv hsafe

/-- A verb's command, where the verb fits, is its own part in the state it has entered. -/
theorem verb_runs {c : Instr} {s : State} {v : VerbRow} {m : Msg} {body : State → Waiting → State} {f : Msg → State → State}
    (h : verbFits s v m = true) (hc : exec c s = verbStep f m s) (hf : f m (hostActivity s) = enterVerb (hostActivity s) v m body) :
    exec c s = .next (body (entered s v m) (waitOf v m)) := by
  obtain ⟨hfw, -⟩ := (verbFits_iff s v m).mp h
  rw [hc, verbStep, if_pos hfw, hf, enterVerb_of_fits s v m body h]

/-! ## Replies (13 R474, R483, R484) -/

/-- A reply is formed from the device's address alone. -/
theorem HostReply.of_addr {s u t : State} {verb : BitVec 16} {m : Msg} {err env : Bool} {b : List Byte}
    (h : HostReply u t verb m err env b) (ha : u.chn.addr = s.chn.addr) : HostReply s t verb m err env b := by
  have hbody : replyBody u verb m err env b = replyBody s verb m err env b := by rw [replyBody, replyBody, ha]
  rwa [HostReply, hbody] at h

theorem noWaiters_of_mbx {s u : State} {verb : BitVec 16} {m : Msg} (h : u.mbx = s.mbx) (hn : noWaiters s verb m = true) :
    noWaiters u verb m = true := by
  rwa [noWaiters, h]

theorem noWaiters_of_fits {s : State} {v : VerbRow} {m : Msg} (h : verbFits s v m = true) :
    noWaiters (entered s v m) v.code m = true := by
  obtain ⟨-, -, -, -, -, -, -, hn⟩ := (verbFits_iff s v m).mp h
  exact noWaiters_of_mbx ((entered_only s v m).same .mbx (by decide)) hn

theorem entered_addr (s : State) (v : VerbRow) (m : Msg) : (entered s v m).chn.addr = s.chn.addr :=
  congrArg ChnUnit.addr ((entered_only s v m).same .chn (by decide))

/-- An error reply of a verb that has entered. -/
theorem refuses_entered {s : State} {v : VerbRow} {m : Msg} (h : verbFits s v m = true) (code detail : Nat) :
    Refuses (entered s v m) (replyErr (entered s v m) v.code m code detail) v m code detail := by
  refine ⟨reply_of_noWaiters _ _ _ _ _ _ (noWaiters_of_fits h), ?_⟩
  rw [hostActivity_entered]
  exact replyErr_only ..

/-- A verb without privilege enters with the host's activity alone. -/
theorem refuses_of_opn {s : State} {v : VerbRow} {m : Msg} (h : verbFits s v m = true) (hp : v.priv = .opn) (code detail : Nat) :
    Refuses s (replyErr (entered s v m) v.code m code detail) v m code detail := by
  obtain ⟨hreply, honly⟩ := refuses_entered h code detail
  rw [hostActivity_entered, entered_of_opn s v m hp] at honly
  exact ⟨hreply.of_addr (entered_addr s v m), by rwa [entered_of_opn s v m hp]⟩

/-! ### A reply and an entry of the journal leave the address, and no message's duplicates begin to wait -/

@[simp] theorem deliver_addr (s : State) (m : Msg) (b : List Byte) : (deliver s m b).chn.addr = s.chn.addr := by
  unfold deliver
  split
  · rfl
  · split
    · rfl
    · cases m.port <;> rfl

@[simp] theorem deliver_dups (s : State) (m : Msg) (b : List Byte) : (deliver s m b).mbx.dups = s.mbx.dups := by
  unfold deliver
  split
  · rfl
  · split
    · rfl
    · cases m.port <;> rfl

theorem reply_addr (s : State) (v : BitVec 16) (m : Msg) (e n : Bool) (b : List Byte) :
    (reply s v m e n b).chn.addr = s.chn.addr :=
  (foldl_keeps (·.chn.addr) _ (fun _ _ => deliver_addr ..) _ _).trans (deliver_addr ..)

theorem reply_dups (s : State) (v : BitVec 16) (m : Msg) (e n : Bool) (b : List Byte) :
    (reply s v m e n b).mbx.dups = s.mbx.dups.filter fun d => !isDup v m d :=
  (foldl_keeps (·.mbx.dups) _ (fun _ _ => deliver_dups ..) _ _).trans (deliver_dups ..)

/-- A reply to one message takes duplicates away and adds none. -/
theorem noWaiters_reply (s : State) (v w : BitVec 16) (m x : Msg) (e n : Bool) (b : List Byte) (h : noWaiters s w x = true) :
    noWaiters (reply s v m e n b) w x = true := by
  simp only [noWaiters, reply_dups, Bool.not_eq_true', List.any_eq_false] at h ⊢
  exact fun d hd => h d (List.mem_of_mem_filter hd)

/-- A property that a change of the journal and an error reply keep is kept by a new entry. -/
theorem jrnPut_keeps (P : State → Prop) (hj : ∀ s (j : JrnUnit), P s → P { s with jrn := j })
    (hr : ∀ s v m c d, P s → P (replyErr s v m c d)) (s : State) (inc : Bool) (ty : Byte) (data : List Byte) (h : P s) :
    P (jrnPut s inc ty data) := by
  have hdiscard (u : State) (e : JEntry) (hu : P u) : P (noteDiscard u e) := by
    unfold noteDiscard
    dsimp only
    split
    · exact hj u _ hu
    · exact hr _ _ _ _ _ (hj u _ hu)
  unfold jrnPut jrnQueue
  split
  · exact hj s _ h
  · split
    · exact hdiscard _ _ (hj s _ h)
    · split
      · exact hj s _ h
      · exact hdiscard s _ h

theorem jrnPut_addr (s : State) (inc : Bool) (ty : Byte) (d : List Byte) : (jrnPut s inc ty d).chn.addr = s.chn.addr :=
  jrnPut_keeps (fun u => u.chn.addr = s.chn.addr) (fun _ _ h => h) (fun u _ _ _ _ h => (reply_addr u ..).trans h) s inc ty d rfl

theorem noWaiters_jrnPut (s : State) (inc : Bool) (ty : Byte) (d : List Byte) (verb : BitVec 16) (m : Msg)
    (h : noWaiters s verb m = true) : noWaiters (jrnPut s inc ty d) verb m = true :=
  jrnPut_keeps (fun u => noWaiters u verb m = true) (fun _ _ h => h) (fun _ _ _ _ _ h => noWaiters_reply _ _ _ _ _ _ _ _ h)
    s inc ty d h

theorem noteConditions_addr (s : State) : (noteConditions s).chn.addr = s.chn.addr := by
  unfold noteConditions
  dsimp only
  refine (congrArg ChnUnit.addr ((updateLive_only _).same .chn (by decide))).trans ?_
  split <;> rfl

/-! ## `GATE_ON` (09 R319, R320) -/

theorem firstBad_badIf_cons (b : Bool) (n : Nat) (l : List (Option Nat)) :
    firstBad (badIf b n :: l) = none ↔ b = false ∧ firstBad l = none := by
  cases b <;> simp [badIf, firstBad]

theorem gateOnRefusal_none_iff (s : State) : gateOnRefusal s = none ↔
    (bitOf s.cfg.gateCfg2 16 = true ∧ s.gate.disc = false ∧ s.prot.everRel = true ∧ s.pw.state = .active ∧ s.gate.state = .off) := by
  simp only [gateOnRefusal, firstBad_badIf_cons]
  simp [firstBad]

/-- The tests of `GATE_ON` read nothing that the entry of a verb changes. -/
theorem gateOnRefusal_entered (s : State) (v : VerbRow) (m : Msg) : gateOnRefusal (entered s v m) = gateOnRefusal s := by
  unfold entered
  dsimp only
  split <;> rfl

/-- TEST begins, with the charge pump on and the verb waiting. -/
def gateTestBegun (s : State) (w : Waiting) : State :=
  { s with gate.state := .test, gate.cp := true, gate.testOk := false, gate.waits := s.gate.waits ++ [w] }

theorem exec_gateOn_begins (s : State) (m : Msg) (h : verbFits s rowGateOn m = true) (hr : gateOnRefusal s = none) :
    exec (.gateOn m) s = .next (gateTestBegun (entered s rowGateOn m) (waitOf rowGateOn m)) := by
  have hexec := verb_runs h (c := .gateOn m) rfl rfl
  dsimp only at hexec
  rw [hexec, gateOnRefusal_entered, hr]
  rfl

theorem exec_gateOn_refuses (s : State) (m : Msg) (d : Nat) (h : verbFits s rowGateOn m = true) (hr : gateOnRefusal s = some d) :
    exec (.gateOn m) s = .next (errState (entered s rowGateOn m) rowGateOn m d) := by
  have hexec := verb_runs h (c := .gateOn m) rfl rfl
  dsimp only at hexec
  rw [hexec, gateOnRefusal_entered, hr]

theorem gateOn_begins_test (s : State) (m : Msg) (h : verbFits s rowGateOn m = true) (hr : gateOnRefusal s = none) :
    Does (.gateOn m) s fun t =>
      t.gate = { s.gate with state := .test, cp := true, testOk := false, waits := s.gate.waits ++ [waitOf rowGateOn m] } ∧
        t.mbx = s.mbx ∧ Only [.gate, .safe] (hostActivity s) t :=
  ⟨_, exec_gateOn_begins s m h hr, rfl, rfl,
    ((entered_only s rowGateOn m).mono (by decide)).trans (only_gate (by decide) (entered s rowGateOn m) _)⟩

theorem gateOn_refuses (s : State) (m : Msg) (d : Nat) (h : verbFits s rowGateOn m = true) (hr : gateOnRefusal s = some d) :
    Does (.gateOn m) s fun t => Refuses (entered s rowGateOn m) t rowGateOn m 8 d :=
  ⟨_, exec_gateOn_refuses s m d h hr, refuses_entered h 8 d⟩

/-! ## `GATE_OFF` (09 R326; 14 R538) -/

/-- A single verb that the gate's state does not settle goes on waiting. -/
theorem gateNotify_waits (s : State) (w : Waiting) (hw : s.gate.waits = [w]) (hs : gateSettled w.verb s.gate.state = false) :
    gateNotify s = s := by
  rw [gateNotify, hw]
  unfold gateAnswers
  rw [if_neg (by simp [hs]), gateAnswers, List.nil_append, ← hw]

theorem gateNotify_answers (s : State) (w : Waiting) (hw : s.gate.waits = [w]) (hs : gateSettled w.verb s.gate.state = true) :
    gateNotify s = replyOk { s with gate.waits := [] } w.verb w.msg (gateReply s) := by
  rw [gateNotify, hw]
  unfold gateAnswers
  rw [if_pos hs]
  rfl

theorem exec_gateOff (s : State) (m : Msg) (h : verbFits s rowGateOff m = true) : exec (.gateOff m) s =
    .next (gateNotify (gateTurnOff { hostActivity s with gate.waits := s.gate.waits ++ [waitOf rowGateOff m] })) :=
  verb_runs h (c := .gateOff m) rfl rfl

theorem gateOff_turns_off (s : State) (m : Msg) (h : verbFits s rowGateOff m = true) (hs : s.gate.state = .ramp ∨ s.gate.state = .on)
    (hw : s.gate.waits = []) : Does (.gateOff m) s fun t =>
      t = { hostActivity s with
        gate := { s.gate with state := .turnoff, fromOn := s.gate.state == .on, stage2 := false, cp := false, hold := false,
                              waits := [waitOf rowGateOff m] } } := by
  have hexec := exec_gateOff s m h
  rw [hw, List.nil_append] at hexec
  have hoff : gateTurnOff { hostActivity s with gate.waits := [waitOf rowGateOff m] } = { hostActivity s with
      gate := { s.gate with state := .turnoff, fromOn := s.gate.state == .on, stage2 := false, cp := false, hold := false,
                            waits := [waitOf rowGateOff m] } } := by
    obtain hs | hs := hs <;> simp [gateTurnOff, hostActivity, hs]
  rw [hoff, gateNotify_waits _ (waitOf rowGateOff m) rfl rfl] at hexec
  exact ⟨_, hexec, rfl⟩

theorem gateOff_when_off (s : State) (m : Msg) (h : verbFits s rowGateOff m = true) (hs : s.gate.state = .off ∨ s.gate.state = .fault)
    (hw : s.gate.waits = []) : Does (.gateOff m) s fun t =>
      t.gate = s.gate ∧ Replies s t rowGateOff m (gateReply s) ∧ Only replyParts (hostActivity s) t := by
  let u : State := { hostActivity s with gate.waits := [waitOf rowGateOff m] }
  have hexec := exec_gateOff s m h
  rw [hw, List.nil_append] at hexec
  have hoff : gateTurnOff u = u := by obtain hs | hs := hs <;> simp [gateTurnOff, u, hostActivity, hs]
  have hsettled : gateSettled rowGateOff.code u.gate.state = true := by
    obtain hs | hs := hs <;> simp [gateSettled, u, hostActivity, hs]
  have hempty : { u with gate.waits := [] } = hostActivity s := by
    rw [← hw]
    rfl
  rw [hoff, gateNotify_answers u (waitOf rowGateOff m) rfl hsettled, hempty] at hexec
  exact ⟨_, hexec, replyOk_gate .., (reply_of_noWaiters (hostActivity s) _ _ _ _ _ (noWaiters_of_fits h)).of_addr rfl,
    replyOk_only ..⟩

/-! ## `GATE_REARM` (09 R333, R334) -/

/-- The latch is cleared, in the store too, and the clearing recorded. -/
def gateRearmed (s : State) : State :=
  noteConditions (jrnPut { s with
    gate.disc := false, gate.cause := 0, gate.causes := 0, store.disc := none,
    gate.state := if s.gate.state == .fault then .off else s.gate.state } false 0x41 [5, 0])

theorem exec_gateRearm (s : State) (m : Msg) (h : verbFits s rowGateRearm m = true) : exec (.gateRearm m) s = .next (
    let u := entered s rowGateRearm m
    if s.gate.disc && decide (s.now - s.gate.discAt < 500 * ctPerMs) then errState u rowGateRearm m 0x14
    else if !s.gate.disc then errState u rowGateRearm m 0x15
    else replyOk (gateRearmed u) rowGateRearm.code m []) :=
  verb_runs h (c := .gateRearm m) rfl rfl

theorem gateRearmed_gate (s : State) : (gateRearmed s).gate =
    { s.gate with disc := false, cause := 0, causes := 0,
                  state := if s.gate.state == .fault then .off else s.gate.state } := by
  rw [gateRearmed, noteConditions_gate, jrnPut_gate]

theorem gateRearmed_store (s : State) : (gateRearmed s).store = { s.store with disc := none } := by
  rw [gateRearmed, noteConditions_store, jrnPut_store]

theorem gateRearmed_only (s : State) : Only (.gate :: .store :: .prot :: journalParts) s (gateRearmed s) :=
  (Only.of fun p => by
    cases p
    case gate | store => exact .inl (by decide)
    all_goals exact .inr rfl).trans
      (((jrnPut_only ..).mono (by decide)).trans ((noteConditions_only _).mono (by decide)))

theorem gateRearmed_addr (s : State) : (gateRearmed s).chn.addr = s.chn.addr :=
  (noteConditions_addr _).trans (jrnPut_addr ..)

theorem noWaiters_gateRearmed (s : State) (verb : BitVec 16) (m : Msg) (h : noWaiters s verb m = true) :
    noWaiters (gateRearmed s) verb m = true :=
  noWaiters_of_mbx (noteConditions_mbx _) (noWaiters_jrnPut _ _ _ _ _ _ h)

theorem gateRearm_clears (s : State) (m : Msg) (h : verbFits s rowGateRearm m = true) (hd : s.gate.disc = true)
    (ht : 500 * ctPerMs ≤ s.now - s.gate.discAt) : Does (.gateRearm m) s fun t =>
      t.gate = { s.gate with disc := false, cause := 0, causes := 0,
                             state := if s.gate.state == .fault then .off else s.gate.state } ∧
        t.store = { s.store with disc := none } ∧ Replies s t rowGateRearm m [] ∧
        Only (.gate :: .store :: .safe :: .prot :: journalParts) (hostActivity s) t := by
  let u := entered s rowGateRearm m
  have hexec := exec_gateRearm s m h
  dsimp only at hexec
  rw [if_neg (by simp [hd, ht]), if_neg (by simp [hd])] at hexec
  have hreply := reply_of_noWaiters (gateRearmed u) rowGateRearm.code m false false []
    (noWaiters_gateRearmed u _ _ (noWaiters_of_fits h))
  refine ⟨_, hexec, ?_, ?_, hreply.of_addr ((gateRearmed_addr u).trans (entered_addr ..)), ?_⟩
  · exact (replyOk_gate ..).trans (gateRearmed_gate u)
  · exact (replyOk_store ..).trans (gateRearmed_store u)
  · exact ((entered_only s rowGateRearm m).mono (by decide)).trans
      (((gateRearmed_only u).mono (by decide)).trans ((replyOk_only ..).mono (by decide)))

theorem gateRearm_too_soon (s : State) (m : Msg) (h : verbFits s rowGateRearm m = true) (hd : s.gate.disc = true)
    (ht : s.now - s.gate.discAt < 500 * ctPerMs) :
    Does (.gateRearm m) s fun t => Refuses (entered s rowGateRearm m) t rowGateRearm m 8 0x14 := by
  have hexec := exec_gateRearm s m h
  dsimp only at hexec
  rw [if_pos (by simp [hd, ht])] at hexec
  exact ⟨_, hexec, refuses_entered h 8 0x14⟩

theorem gateRearm_without_latch (s : State) (m : Msg) (h : verbFits s rowGateRearm m = true) (hd : s.gate.disc = false) :
    Does (.gateRearm m) s fun t => Refuses (entered s rowGateRearm m) t rowGateRearm m 8 0x15 := by
  have hexec := exec_gateRearm s m h
  dsimp only at hexec
  rw [if_neg (by simp [hd]), if_pos (by simp [hd])] at hexec
  exact ⟨_, hexec, refuses_entered h 8 0x15⟩

/-! ## `PROT_STAT` and `CMP_TEST` (09 R301; 14 R535) -/

theorem protStat_answers (s : State) (m : Msg) (h : verbFits s rowProtStat m = true) : Does (.protStat m) s fun t =>
    Replies s t rowProtStat m (leBytes 4 (protStat s).toNat ++ leBytes 4 s.prot.ovFault.toNat ++
      leBytes 4 s.prot.uvFault.toNat) ∧ Only replyParts (hostActivity s) t :=
  ⟨_, verb_runs h (c := .protStat m) rfl rfl,
    (reply_of_noWaiters (hostActivity s) _ _ _ _ _ (noWaiters_of_fits h)).of_addr rfl, replyOk_only ..⟩

/-- A single `CMP_TEST` with tests still to make goes on waiting. -/
theorem ctestFinish_waits (s : State) (x : TestVerb) (hc : s.prot.ctest = [x]) (hx : x.todo ≠ 0) : ctestFinish s = s := by
  rw [ctestFinish, hc]
  unfold ctestAnswers
  rw [if_neg fun h => hx h.1, ctestAnswers, List.nil_append, ← hc]

theorem cmpTest_waits (s : State) (m : Msg) (h : verbFits s rowCmpTest m = true) (hb : testMaskBad s m.payload = none)
    (hm : maskOf m.payload ≠ 0) (hc : s.prot.ctest = []) : Does (.cmpTest m) s fun t =>
      t = { hostActivity s with prot := { s.prot with
        ctest := [newTest (waitOf rowCmpTest m) (maskOf m.payload) (maskOf m.payload)] } } := by
  have hexec := verb_runs h (c := .cmpTest m) rfl rfl
  have hbad : testMaskBad (entered s rowCmpTest m) m.payload = none := hb
  have hctest : (entered s rowCmpTest m).prot.ctest = [] := hc
  dsimp only at hexec
  rw [hbad] at hexec
  dsimp only at hexec
  rw [hctest, List.nil_append, ctestFinish_waits _ _ rfl hm] at hexec
  exact ⟨_, hexec, rfl⟩

theorem cmpTest_refuses (s : State) (m : Msg) (off : Nat) (h : verbFits s rowCmpTest m = true)
    (hb : testMaskBad s m.payload = some off) : Does (.cmpTest m) s fun t => Refuses s t rowCmpTest m 10 off := by
  have hexec := verb_runs h (c := .cmpTest m) rfl rfl
  have hbad : testMaskBad (entered s rowCmpTest m) m.payload = some off := hb
  dsimp only at hexec
  rw [hbad] at hexec
  exact ⟨_, hexec, refuses_of_opn h rfl 10 off⟩

/-- Settles O43: every verb by `verb_runs`, a reply behind a journal entry by `jrnPut_keeps`. -/
theorem gateAndProtectionVerbs : Obligations.GateAndProtectionVerbs :=
  ⟨gateOn_begins_test, gateOn_refuses, gateOnRefusal_none_iff, gateOff_turns_off, gateOff_when_off, gateRearm_clears,
    gateRearm_too_soon, gateRearm_without_latch, protStat_answers, cmpTest_waits, cmpTest_refuses⟩

end Sys2Proof.Machine

/-! PROOFS. The ports: what decides whether one may start, and the own conditions that a frame carries (09, 10). -/

namespace Sys2Proof.Machine

theorem otherPort_otherPort (p : Port) : otherPort (otherPort p) = p := by cases p <;> rfl

theorem setPort_setPort (s : State) (p : Port) (u v : PortUnit) : setPort (setPort s p u) p v = setPort s p v := by
  cases p <;> rfl

theorem portEnabled_of_only {l : List Part} {s t : State} (h : Only l s t) (hc : Part.cfg ∉ l) (p : Port) :
    portEnabled t p = portEnabled s p := by
  have hcfg : t.cfg = s.cfg := h.same .cfg hc
  cases p <;> simp only [portEnabled, hcfg]

/-- A port that is as operational as before is as live as before, where power, reset, supply and configuration are the same. -/
theorem portLive_of_only {l : List Part} {s t : State} (h : Only l s t) (hl : ∀ q ∈ [Part.rst, .sup, .cfg, .pw], q ∉ l) (p : Port)
    (hup : (portOf t p).up = (portOf s p).up) : portLive t p = portLive s p := by
  have hsup : t.sup = s.sup := h.same .sup (hl _ (by decide))
  rw [portLive, active_of_only h (hl _ (by decide)) (hl _ (by decide)), portEnabled_of_only h (hl _ (by decide)) p, hsup, hup]
  rfl

/-- The parts that hold the device's own conditions (09 Table 9-2). -/
def conditionParts : List Part := [.sup, .clk, .aux, .bal, .prot, .gate, .tq, .pw]

theorem ownFlt_of_only {l : List Part} {s t : State} (h : Only l s t) (hl : ∀ q ∈ conditionParts, q ∉ l) : ownFlt t = ownFlt s := by
  have hsup : t.sup = s.sup := h.same .sup (hl _ (by decide))
  have hclk : t.clk = s.clk := h.same .clk (hl _ (by decide))
  have haux : t.aux = s.aux := h.same .aux (hl _ (by decide))
  have hbal : t.bal = s.bal := h.same .bal (hl _ (by decide))
  have hprot : t.prot = s.prot := h.same .prot (hl _ (by decide))
  have hgate : t.gate = s.gate := h.same .gate (hl _ (by decide))
  have htq : t.tq = s.tq := h.same .tq (hl _ (by decide))
  have hpw : t.pw = s.pw := h.same .pw (hl _ (by decide))
  simp only [ownFlt, fwCond, hsup, hclk, haux, hbal, hprot, hgate, htq, hpw]

end Sys2Proof.Machine

/-! PROOFS. Frames on the line: received, relayed, sent, and their collisions (10 R349 to R355, R372; 11 R387 to R412; O29). -/

namespace Sys2Proof.Machine

/-! ## A frame begins to arrive (10 R355; 11 R389) -/

/-- A frame of generation `g` that comes by `p` leaves by the other port as it arrives. -/
def cutWanted (s : State) (p : Port) (g : Gen) : Bool := g == .el2 && txGen (portOf s (otherPort p)) == .el2

/-- The port can start a copy of a frame that begins to arrive now. -/
def cutReady (s : State) (q : Port) : Bool := pairQuiet s (portOf s q) && decide ((portOf s q).freeAt ≤ s.now + nsCt cutNs)

/-- A frame arrives on the port, and nothing more is decided of it. -/
def frameArrived (s : State) (p : Port) : State :=
  setPort s p { portOf s p with rxBusy := true, cut := false, noRelay := false, hurt := false }

/-- The arriving frame is counted and not relayed. -/
def frameDropped (s : State) (p : Port) : State :=
  setPort { s with chn.drops := satInc s.chn.drops } p { portOf s p with noRelay := true }

/-- The other port passes the arriving frame on by cut-through. -/
def cutBegun (s : State) (p : Port) : State :=
  let t := setPort s (otherPort p) { portOf s (otherPort p) with relaying := true, txAs := .el2, alarmTx := false, burstTx := false,
                                                                 txRel := false }
  setPort t p { portOf t p with cut := true }

theorem exec_frameRelayStart (s : State) (p : Port) (g : Gen) (hl : portLive s p = true)
    (ht : transmitting s (portOf s p) = false) : exec (.frameRelayStart p g) s =
      let a := frameArrived s p
      if !relays a || !portLive a (otherPort p) then .next a
      else
        let v := if transmitting a (portOf a (otherPort p)) then a else latchGen a (otherPort p)
        if transmitting v (portOf v (otherPort p)) || (cutWanted v p g && !cutReady v (otherPort p)) then .next (frameDropped v p)
        else if cutWanted v p g then .next (cutBegun v p)
        else .next v := if_neg (by simp [hl, ht])

section Arrival

variable (s : State) (p : Port)

theorem frameArrived_only : Only [.sp, .np] s (frameArrived s p) := setPort_only ..

theorem frameArrived_portOf_other : portOf (frameArrived s p) (otherPort p) = portOf s (otherPort p) := portOf_setPort_other ..

theorem frameArrived_relays : relays (frameArrived s p) = relays s := by cases p <;> rfl

theorem frameArrived_portLive : portLive (frameArrived s p) (otherPort p) = portLive s (otherPort p) :=
  portLive_of_only (frameArrived_only s p) (by decide) _ (congrArg _ (frameArrived_portOf_other s p))

/-- The way out of an arriving frame is as it was. -/
theorem frameArrived_wayOut :
    transmitting (frameArrived s p) (portOf (frameArrived s p) (otherPort p)) = transmitting s (portOf s (otherPort p)) ∧
      cutReady (frameArrived s p) (otherPort p) = cutReady s (otherPort p) ∧
      ∀ g, cutWanted (frameArrived s p) p g = cutWanted s p g := by cases p <;> exact ⟨rfl, rfl, fun _ => rfl⟩

theorem cutBegun_only : Only [.sp, .np] s (cutBegun s p) := (setPort_only ..).trans (setPort_only ..)

theorem frameDropped_only : Only [.chn, .sp, .np] s (frameDropped s p) :=
  (only_chn (by decide) s { s.chn with drops := satInc s.chn.drops }).trans ((setPort_only ..).mono (by decide))

end Arrival

/-- Where the port out has no written generation to take, its state as it was decides. -/
theorem exec_frameRelayStart_live (s : State) (p : Port) (g : Gen) (hl : portLive s p = true)
    (ht : transmitting s (portOf s p) = false) (hr : relays s = true) (hq : portLive s (otherPort p) = true)
    (hg : (portOf s (otherPort p)).genDue = none) : exec (.frameRelayStart p g) s =
      if transmitting s (portOf s (otherPort p)) || (cutWanted s p g && !cutReady s (otherPort p)) then
        .next (frameDropped (frameArrived s p) p)
      else if cutWanted s p g then .next (cutBegun (frameArrived s p) p)
      else .next (frameArrived s p) := by
  obtain ⟨htx, hready, hwant⟩ := frameArrived_wayOut s p
  rw [exec_frameRelayStart s p g hl ht]
  dsimp only
  rw [frameArrived_relays, frameArrived_portLive, if_neg (by simp [hr, hq]),
    latchGen_of_none _ _ (by rw [frameArrived_portOf_other, hg]), ite_self, htx, hready, hwant]

theorem frameRelayStart_stores (s : State) (p : Port) (g : Gen) (hl : portLive s p = true)
    (ht : transmitting s (portOf s p) = false)
    (hq : (relays s && portLive s (otherPort p)) = false ∨ (portOf s (otherPort p)).genDue = none ∧
      transmitting s (portOf s (otherPort p)) = false ∧ (g = .el1 ∨ txGen (portOf s (otherPort p)) = .el1)) :
    Does (.frameRelayStart p g) s fun t =>
      t = setPort s p { portOf s p with rxBusy := true, cut := false, noRelay := false, hurt := false } := by
  refine ⟨frameArrived s p, ?_, rfl⟩
  by_cases hpass : (relays s && portLive s (otherPort p)) = true
  · obtain hno | ⟨hg, htq, hgen⟩ := hq
    · exact absurd hpass (Bool.eq_false_iff.mp hno)
    obtain ⟨hr, hlq⟩ := Bool.and_eq_true_iff.mp hpass
    have hcut : cutWanted s p g = false := by
      obtain h | h := hgen <;> simp [cutWanted, h]
    rw [exec_frameRelayStart_live s p g hl ht hr hlq hg, htq, hcut]
    rfl
  · rw [exec_frameRelayStart s p g hl ht]
    dsimp only
    rw [frameArrived_relays, frameArrived_portLive, if_pos (by rw [← Bool.not_and, Bool.eq_false_iff.mpr hpass]; rfl)]

theorem frameRelayStart_cuts (s : State) (p : Port) (hl : portLive s p = true) (ht : transmitting s (portOf s p) = false)
    (hr : relays s = true) (hq : portLive s (otherPort p) = true) (hg : (portOf s (otherPort p)).genDue = none)
    (hgen : txGen (portOf s (otherPort p)) = .el2) (htq : transmitting s (portOf s (otherPort p)) = false)
    (hbusy : (portOf s (otherPort p)).rxBusy = false) (hbrk : (portOf s (otherPort p)).brkIn = false)
    (hburst : (portOf s (otherPort p)).rxBurst ≤ s.now) (hfree : (portOf s (otherPort p)).freeAt ≤ s.now + nsCt cutNs) :
    Does (.frameRelayStart p .el2) s fun t =>
      portOf t p = { portOf s p with rxBusy := true, cut := true, noRelay := false, hurt := false } ∧
        portOf t (otherPort p) = { portOf s (otherPort p) with relaying := true, txAs := .el2, alarmTx := false, burstTx := false,
                                                               txRel := false } ∧
        Only [.sp, .np] s t := by
  have hcut : cutWanted s p .el2 = true := by simp [cutWanted, hgen]
  have hcan : cutReady s (otherPort p) = true := by simp [cutReady, pairQuiet, hbusy, hbrk, hburst, hfree]
  refine ⟨cutBegun (frameArrived s p) p, ?_, ?_, ?_, (frameArrived_only s p).trans (cutBegun_only ..)⟩
  · rw [exec_frameRelayStart_live s p .el2 hl ht hr hq hg, htq, hcut, hcan]
    rfl
  · cases p <;> rfl
  · cases p <;> rfl

theorem frameRelayStart_drops (s : State) (p : Port) (g : Gen) (hl : portLive s p = true)
    (ht : transmitting s (portOf s p) = false) (hr : relays s = true) (hq : portLive s (otherPort p) = true)
    (hg : (portOf s (otherPort p)).genDue = none)
    (hbusy : transmitting s (portOf s (otherPort p)) = true ∨ g = .el2 ∧ txGen (portOf s (otherPort p)) = .el2 ∧
      ((portOf s (otherPort p)).rxBusy || (portOf s (otherPort p)).brkIn || decide (s.now < (portOf s (otherPort p)).rxBurst) ||
        decide (s.now + nsCt cutNs < (portOf s (otherPort p)).freeAt)) = true) :
    Does (.frameRelayStart p g) s fun t =>
      t.chn = { s.chn with drops := satInc s.chn.drops } ∧
        portOf t p = { portOf s p with rxBusy := true, cut := false, noRelay := true, hurt := false } ∧
        portOf t (otherPort p) = portOf s (otherPort p) ∧ Only [.chn, .sp, .np] s t := by
  have hdrop : (transmitting s (portOf s (otherPort p)) || (cutWanted s p g && !cutReady s (otherPort p))) = true := by
    obtain h | ⟨rfl, hgen, h⟩ := hbusy
    · rw [h, Bool.true_or]
    · have hcan : cutReady s (otherPort p) = false := by
        rw [← Bool.not_eq_true]
        intro hc
        simp only [cutReady, pairQuiet, Bool.and_eq_true, Bool.not_eq_true', decide_eq_true_eq] at hc
        obtain ⟨⟨⟨hb, hi⟩, hx⟩, hf⟩ := hc
        simp [hb, hi, Nat.not_lt.mpr hx, Nat.not_lt.mpr hf] at h
      simp [cutWanted, hgen, hcan]
  have honly : Only [.chn, .sp, .np] s (frameDropped (frameArrived s p) p) :=
    ((frameArrived_only s p).mono (by decide)).trans (frameDropped_only ..)
  refine ⟨frameDropped (frameArrived s p) p, ?_, ?_, ?_, ?_, honly⟩
  · rw [exec_frameRelayStart_live s p g hl ht hr hq hg, if_pos hdrop]
  all_goals cases p <;> rfl

theorem frameRelayStart_idle (s : State) (p : Port) (g : Gen) (h : portLive s p = false ∨ transmitting s (portOf s p) = true) :
    Idle (.frameRelayStart p g) s := if_pos (by obtain h | h := h <;> simp [h])

/-! ## A frame ends (10 R349; 11 R387 to R391, R396) -/

/-- Two states with the same ports, the same address and the same count of burnt crusts: what decides how a frame is passed on. -/
structure SameRelay (s t : State) : Prop where
  /-- the parts that receiving a frame may touch beside the ports -/
  only : Only [.chn, .tim, .core, .en] s t
  /-- the address is the same -/
  addr : t.chn.addr = s.chn.addr
  /-- the count of burnt crusts is the same -/
  burnt : t.chn.burnt = s.chn.burnt

namespace SameRelay

variable {s t u : State}

theorem refl (s : State) : SameRelay s s := ⟨Only.refl .., rfl, rfl⟩

theorem trans (a : SameRelay s t) (b : SameRelay t u) : SameRelay s u :=
  ⟨a.only.trans b.only, b.addr.trans a.addr, b.burnt.trans a.burnt⟩

theorem portOf (h : SameRelay s t) (p : Port) : portOf t p = Machine.portOf s p := portOf_of_only h.only (by decide) (by decide) p

theorem now (h : SameRelay s t) : t.now = s.now := h.only.same .now (by decide)

theorem setPort (h : SameRelay s t) (p : Port) (u : PortUnit) : SameRelay (setPort s p u) (setPort t p u) := by
  refine ⟨⟨fun q hq => ?_⟩, by rw [setPort_chn, setPort_chn, h.addr], by rw [setPort_chn, setPort_chn, h.burnt]⟩
  cases p with
  | south =>
    cases q
    case sp => rfl
    all_goals exact h.only.same _ hq
  | north =>
    cases q
    case np => rfl
    all_goals exact h.only.same _ hq

theorem relays (h : SameRelay s t) : relays t = Machine.relays s := congrArg (· != 0x7F#7) h.addr

theorem portLive (h : SameRelay s t) (p : Port) : portLive t p = Machine.portLive s p :=
  portLive_of_only h.only (by decide) p (congrArg _ (h.portOf p))

end SameRelay

theorem setPortGen_sameRelay (s : State) (p : Port) (u : PortUnit) : SameRelay (setPort s p u) (setPortGen s p u) := by
  obtain ⟨tim, da, val, h⟩ := setPortGen_effect s p u
  rw [h]
  exact ⟨(only_tim (by decide) _ tim).trans (only_chn (by decide) ..), by rw [setPort_chn], by rw [setPort_chn]⟩

theorem noteForward_sameRelay (s : State) (f : Frame) (x : Nat) : SameRelay s (noteForward s f x) := by
  unfold noteForward
  split
  · exact ⟨only_chn (by decide) .., rfl, rfl⟩
  · exact .refl s

theorem noteCrumb_sameRelay (s : State) (f : Frame) : SameRelay s (noteCrumb s f) := by
  unfold noteCrumb
  split
  · exact .refl s
  · dsimp only
    split <;> exact ⟨only_chn (by decide) .., rfl, rfl⟩

/-- A validated frame is noted: its crumb, the highest address, and the interrupt of its port. -/
def frameHeard (s : State) (p : Port) (f : Frame) : State :=
  irqRaise (noteTop (noteCrumb s f) f.src) (if p = .south then 30 else 31)

theorem frameHeard_sameRelay (s : State) (p : Port) (f : Frame) : SameRelay s (frameHeard s p f) := by
  have htop : SameRelay (noteCrumb s f) (noteTop (noteCrumb s f) f.src) := by
    refine ⟨(noteTop_only ..).mono (by decide), ?_, ?_⟩ <;>
      rw [(noteTop_only (noteCrumb s f) f.src).same .chn (by decide)]
  exact (noteCrumb_sameRelay s f).trans (htop.trans ⟨(irqRaise_only ..).mono (by decide), rfl, rfl⟩)

/-- How a cut-through copy ends (11 R390, R396). -/
def copyCrust (s : State) (p : Port) : Option Frame → Crust
  | none => .burnt
  | some f => if spoils s p f then .burnt else .valid

/-- The port that sends a cut-through copy of a frame from `p`, once the copy has ended. -/
def copiedUnit (s : State) (p : Port) (v : Option Frame) : PortUnit :=
  { portOf s (otherPort p) with
    relaying := false, freeAt := s.now + nsCt (cutNs + gapNs .el2),
    txNow := v.map fun f => if spoils s p f then f else orFlt s (otherPort p) f,
    endOut := some (copyCrust s p v) }

theorem copiedUnit_congr {s t : State} (p : Port) (v : Option Frame) (hnow : t.now = s.now) (haddr : t.chn.addr = s.chn.addr)
    (hflt : ownFlt t = ownFlt s) (hport : portOf t (otherPort p) = portOf s (otherPort p)) :
    copiedUnit t p v = copiedUnit s p v := by
  have hspoils (f : Frame) : spoils t p f = spoils s p f := by rw [spoils, haddr, spoils]
  have hfields (f : Frame) : orFlt t (otherPort p) f = orFlt s (otherPort p) f := by rw [orFlt, hflt, orFlt]
  have hcrust : copyCrust t p v = copyCrust s p v := by
    cases v with
    | none => rfl
    | some f => rw [copyCrust, hspoils, copyCrust]
  simp only [copiedUnit, hcrust, hspoils, hfields, hnow, hport]

theorem spoils_setPort (s : State) (p q : Port) (u : PortUnit) (f : Frame) : spoils (setPort s q u) p f = spoils s p f := by
  rw [spoils, setPort_chn, spoils]

theorem orFlt_setPort (s : State) (p q : Port) (u : PortUnit) (f : Frame) : orFlt (setPort s q u) p f = orFlt s p f := by
  rw [orFlt, ownFlt_of_only (setPort_only ..) (by decide), orFlt]

/-- The copy's way south is noted: a window's frame, and the end of the timer of 09 R312. -/
def copyNoted (s : State) (q : Port) (f : Frame) : State :=
  let s := if q = .south then noteForward s f (s.now + nsCt cutNs) else s
  if q = .south ∧ isNoun f.type = true then { s with chn.fltTimer := false } else s

theorem copyNoted_sameRelay (s : State) (q : Port) (f : Frame) : SameRelay s (copyNoted s q f) := by
  have hforward : SameRelay s (if q = .south then noteForward s f (s.now + nsCt cutNs) else s) := by
    split
    · exact noteForward_sameRelay ..
    · exact .refl s
  unfold copyNoted
  dsimp only
  split
  · exact hforward.trans ⟨only_chn (by decide) .., rfl, rfl⟩
  · exact hforward

theorem endCut_none (s : State) (p : Port) : endCut s p none = setPort s (otherPort p) (copiedUnit s p none) := by
  cases p <;> rfl

theorem endCut_spoiled (s : State) (p : Port) (f : Frame) (h : spoils s p f = true) :
    endCut s p (some f) = setPort s (otherPort p) (copiedUnit s p (some f)) := by
  unfold endCut copiedUnit copyCrust
  dsimp only
  rw [if_pos (by rw [spoils_setPort, h]), portOf_setPort_same, setPort_setPort, Option.map_some, if_pos h, if_pos h]

theorem endCut_valid (s : State) (p : Port) (f : Frame) (h : spoils s p f = false) :
    endCut s p (some f) = copyNoted (setPort s (otherPort p) (copiedUnit s p (some f))) (otherPort p) f := by
  have hn := Bool.eq_false_iff.mp h
  unfold endCut copiedUnit copyCrust
  dsimp only
  rw [if_neg (by rw [spoils_setPort, h]; decide), portOf_setPort_same, orFlt_setPort, setPort_setPort, Option.map_some, if_neg hn,
    if_neg hn]
  cases p <;> rfl

/-- Ending a copy sets the port that sends it. -/
theorem endCut_sameRelay (s : State) (p : Port) (v : Option Frame) :
    SameRelay (setPort s (otherPort p) (copiedUnit s p v)) (endCut s p v) := by
  cases v with
  | none => exact endCut_none s p ▸ .refl _
  | some f =>
    cases h : spoils s p f with
    | true => exact endCut_spoiled s p f h ▸ .refl _
    | false => exact endCut_valid s p f h ▸ copyNoted_sameRelay ..

/-- A burnt crust is counted. -/
def burntCounted (s : State) (r : RawFrame) : State :=
  if r.crust = .burnt then { s with chn.burnt := satInc s.chn.burnt } else s

/-- The port whose pair a frame has released (10 R352). -/
def releasedUnit (s : State) (p : Port) (r : RawFrame) : PortUnit :=
  { portOf s p with
    rxBusy := false, cut := false, noRelay := false, hurt := false, freeAt := s.now + nsCt (turnNs r.gen),
    cerr := if r.codeErr then satInc (portOf s p).cerr else (portOf s p).cerr }

/-- A port that has received a crust follows its generation, and sends no more alarm bursts (10 R337, R370). -/
def crustUnit (u : PortUnit) (g : Gen) : PortUnit := { u with rx := some g, alarmOn := false, alarm := 0 }

/-- The port by which a frame has ended. -/
def receivedUnit (s : State) (p : Port) (r : RawFrame) : PortUnit :=
  if r.crust = .valid then crustUnit (releasedUnit s p r) r.gen else releasedUnit s p r

/-- The frame has released its pair, and its crust counts. -/
def frameTaken (s : State) (p : Port) (r : RawFrame) : State :=
  let s := burntCounted (setPort s p (releasedUnit s p r)) r
  if r.crust = .valid then setPortGen s p (crustUnit (portOf s p) r.gen) else s

theorem burntCounted_setPort (s : State) (p : Port) (u : PortUnit) (r : RawFrame) :
    burntCounted (setPort s p u) r = setPort (burntCounted s r) p u := by
  unfold burntCounted
  split
  · cases p <;> rfl
  · rfl

theorem frameTaken_sameRelay (s : State) (p : Port) (r : RawFrame) :
    SameRelay (setPort (burntCounted s r) p (receivedUnit s p r)) (frameTaken s p r) := by
  unfold frameTaken receivedUnit
  dsimp only
  rw [burntCounted_setPort]
  split
  · have h := setPortGen_sameRelay (setPort (burntCounted s r) p (releasedUnit s p r)) p (crustUnit (releasedUnit s p r) r.gen)
    rwa [portOf_setPort_same, ← setPort_setPort _ p (releasedUnit s p r)]
  · exact .refl _

/-- The frame has been taken, and its copy has ended. -/
def copyEnded (s : State) (p : Port) (r : RawFrame) : State :=
  if (portOf s p).cut then endCut (frameTaken s p r) p (validate r) else frameTaken s p r

/-- A validated frame that is not cut through waits at the other port where `way` lets it pass. -/
def framePassed (s : State) (p : Port) (g : Gen) (way : Bool) : Option Frame → State
  | none => s
  | some f =>
    let s := frameHeard s p f
    let q := otherPort p
    if way && relays s && portLive s q then
      setPort s q { portOf s q with fwd := (portOf s q).fwd ++ [{ frame := f, gen := g, endAt := s.now }] }
    else s

theorem frameEnd_eq (s : State) (p : Port) (r : RawFrame) : frameEnd s p r =
    framePassed (copyEnded s p r) p r.gen (!(portOf s p).cut && !(portOf s p).noRelay) (validate r) := rfl

/-- The device passes a frame from the port on by store and forward. -/
def passesOn (s : State) (p : Port) : Bool :=
  !(portOf s p).cut && !(portOf s p).noRelay && relays s && portLive s (otherPort p)

theorem uncut_of_passesOn (s : State) (p : Port) (h : passesOn s p = true) : (portOf s p).cut = false := by
  simp only [passesOn, Bool.and_eq_true, Bool.not_eq_true'] at h
  obtain ⟨⟨⟨hcut, -⟩, -⟩, -⟩ := h
  exact hcut

/-- The other port once its copy has ended. -/
def copyUnit (s : State) (p : Port) (v : Option Frame) : PortUnit :=
  if (portOf s p).cut then copiedUnit s p v else portOf s (otherPort p)

/-- The other port once a frame from `p` has ended: its copy has ended, or the frame waits there. -/
def outUnit (s : State) (p : Port) (g : Gen) : Option Frame → PortUnit
  | none => copyUnit s p none
  | some f =>
    if passesOn s p then
      { portOf s (otherPort p) with
        fwd := (portOf s (otherPort p)).fwd ++ [{ frame := f, gen := g, endAt := s.now }] }
    else copyUnit s p (some f)

/-- The ports once a frame has ended, and the count of burnt crusts. -/
def receivedPorts (s : State) (p : Port) (r : RawFrame) (u : PortUnit) : State :=
  setPort (setPort (burntCounted s r) p (receivedUnit s p r)) (otherPort p) u

theorem burntCounted_only (s : State) (r : RawFrame) : Only [.chn] s (burntCounted s r) := by
  unfold burntCounted
  split
  · exact only_chn (by decide) ..
  · exact Only.refl ..

theorem burntCounted_addr (s : State) (r : RawFrame) : (burntCounted s r).chn.addr = s.chn.addr := by
  unfold burntCounted
  split <;> rfl

theorem receivedPorts_only (s : State) (p : Port) (r : RawFrame) (u : PortUnit) :
    Only [.chn, .sp, .np] s (receivedPorts s p r u) :=
  ((burntCounted_only s r).mono (by decide)).trans
    (((setPort_only ..).mono (by decide)).trans ((setPort_only ..).mono (by decide)))

theorem receivedPorts_addr (s : State) (p : Port) (r : RawFrame) (u : PortUnit) :
    (receivedPorts s p r u).chn.addr = s.chn.addr := by
  rw [receivedPorts, setPort_chn, setPort_chn, burntCounted_addr]

theorem copyEnded_sameRelay (s : State) (p : Port) (r : RawFrame) :
    SameRelay (receivedPorts s p r (copyUnit s p (validate r))) (copyEnded s p r) := by
  have htaken := frameTaken_sameRelay s p r
  have hother : portOf (setPort (burntCounted s r) p (receivedUnit s p r)) (otherPort p) = portOf s (otherPort p) := by
    rw [portOf_setPort_other]
    exact portOf_of_only (burntCounted_only s r) (by decide) (by decide) _
  unfold copyEnded copyUnit receivedPorts
  split
  · have hunit : copiedUnit (frameTaken s p r) p (validate r) = copiedUnit s p (validate r) := by
      have honly : Only [.chn, .sp, .np, .tim, .core, .en] s (frameTaken s p r) :=
        ((burntCounted_only s r).mono (by decide)).trans (((setPort_only ..).mono (by decide)).trans (htaken.only.mono (by decide)))
      refine copiedUnit_congr p _ (honly.same .now (by decide)) ?_ (ownFlt_of_only honly (by decide))
        ((htaken.portOf _).trans hother)
      rw [htaken.addr, setPort_chn, burntCounted_addr]
    exact (htaken.setPort _ _).trans (hunit ▸ endCut_sameRelay ..)
  · rwa [← hother, setPort_portOf]

theorem framePassed_sameRelay {s c : State} (p : Port) (r : RawFrame) (v : Option Frame)
    (h : SameRelay (receivedPorts s p r (copyUnit s p v)) c) : SameRelay (receivedPorts s p r (outUnit s p r.gen v))
      (framePassed c p r.gen (!(portOf s p).cut && !(portOf s p).noRelay) v) := by
  cases v with
  | none => exact h
  | some f =>
    have hheard := h.trans (frameHeard_sameRelay c p f)
    have hup : (copyUnit s p (some f)).up = (portOf s (otherPort p)).up := by
      unfold copyUnit
      split <;> rfl
    have hlive : portLive (receivedPorts s p r (copyUnit s p (some f))) (otherPort p) = portLive s (otherPort p) :=
      portLive_of_only (receivedPorts_only ..) (by decide) _ ((congrArg _ (portOf_setPort_same ..)).trans hup)
    have hrel : relays (receivedPorts s p r (copyUnit s p (some f))) = relays s := congrArg (· != 0x7F#7) (receivedPorts_addr ..)
    have hnow : (receivedPorts s p r (copyUnit s p (some f))).now = s.now := (receivedPorts_only ..).same .now (by decide)
    unfold framePassed outUnit
    dsimp only
    rw [hheard.relays, hheard.portLive, hlive, hrel, ← passesOn]
    split
    · rename_i hway
      have hcut : copyUnit s p (some f) = portOf s (otherPort p) := if_neg (by rw [uncut_of_passesOn s p hway]; decide)
      have hport : portOf (frameHeard c p f) (otherPort p) = portOf s (otherPort p) :=
        (hheard.portOf _).trans ((portOf_setPort_same ..).trans hcut)
      have hset := hheard.setPort (otherPort p) { portOf s (otherPort p) with
        fwd := (portOf s (otherPort p)).fwd ++ [{ frame := f, gen := r.gen, endAt := s.now }] }
      rw [receivedPorts, setPort_setPort] at hset
      rw [hport, hheard.now, hnow]
      exact hset
    · exact hheard

theorem frameEnd_sameRelay (s : State) (p : Port) (r : RawFrame) :
    SameRelay (receivedPorts s p r (outUnit s p r.gen (validate r))) (frameEnd s p r) := by
  rw [frameEnd_eq]
  exact framePassed_sameRelay p r _ (copyEnded_sameRelay s p r)

theorem frameEnd_portOf (s : State) (p : Port) (r : RawFrame) : portOf (frameEnd s p r) p = receivedUnit s p r := by
  rw [(frameEnd_sameRelay s p r).portOf, receivedPorts, portOf_setPort_other', portOf_setPort_same]

theorem frameEnd_portOf_other (s : State) (p : Port) (r : RawFrame) :
    portOf (frameEnd s p r) (otherPort p) = outUnit s p r.gen (validate r) := by
  rw [(frameEnd_sameRelay s p r).portOf, receivedPorts, portOf_setPort_same]

theorem frameEnd_only (s : State) (p : Port) (r : RawFrame) : Only [.chn, .sp, .np, .tim, .core, .en] s (frameEnd s p r) :=
  ((receivedPorts_only ..).mono (by decide)).trans ((frameEnd_sameRelay s p r).only.mono (by decide))

theorem frameEnd_burnt (s : State) (p : Port) (r : RawFrame) :
    (frameEnd s p r).chn.burnt = if r.crust = .burnt then satInc s.chn.burnt else s.chn.burnt := by
  rw [(frameEnd_sameRelay s p r).burnt, receivedPorts, setPort_chn, setPort_chn, burntCounted]
  split <;> rfl

section Received

variable (s : State) (p : Port) (r : RawFrame)

theorem receivedUnit_released : (receivedUnit s p r).rxBusy = false ∧ (receivedUnit s p r).cut = false ∧
    (receivedUnit s p r).freeAt = s.now + nsCt (turnNs r.gen) := by
  unfold receivedUnit
  split <;> exact ⟨rfl, rfl, rfl⟩

theorem receivedUnit_cerr :
    (receivedUnit s p r).cerr = if r.codeErr then satInc (portOf s p).cerr else (portOf s p).cerr := by
  unfold receivedUnit
  split <;> rfl

theorem receivedUnit_rx : (receivedUnit s p r).rx = if r.crust = .valid then some r.gen else (portOf s p).rx := by
  unfold receivedUnit
  split <;> rfl

/-- A frame that is neither cut through nor passed on leaves the other port. -/
theorem outUnit_stays (g : Gen) (v : Option Frame) (hc : (portOf s p).cut = false)
    (h : (portOf s p).noRelay = true ∨ v = none ∨ (relays s && portLive s (otherPort p)) = false) :
    outUnit s p g v = portOf s (otherPort p) := by
  have hcopy : copyUnit s p v = portOf s (otherPort p) := if_neg (Bool.eq_false_iff.mp hc)
  cases v with
  | none => exact hcopy
  | some f =>
    have hway : passesOn s p = false := by
      obtain h | h | h := h
      · simp [passesOn, h]
      · exact nomatch h
      · rw [passesOn, Bool.and_assoc, h, Bool.and_false]
    exact (if_neg (Bool.eq_false_iff.mp hway)).trans hcopy

theorem outUnit_queues (g : Gen) (f : Frame) (hc : (portOf s p).cut = false) (hn : (portOf s p).noRelay = false)
    (hr : relays s = true) (hl : portLive s (otherPort p) = true) : outUnit s p g (some f) = { portOf s (otherPort p) with
      fwd := (portOf s (otherPort p)).fwd ++ [{ frame := f, gen := g, endAt := s.now }] } :=
  if_pos (by rw [passesOn, hc, hn, hr, hl]; rfl)

theorem outUnit_copied (g : Gen) (v : Option Frame) (hc : (portOf s p).cut = true) : outUnit s p g v = copiedUnit s p v := by
  have hcopy : copyUnit s p v = copiedUnit s p v := if_pos hc
  cases v with
  | none => exact hcopy
  | some f => exact (if_neg (by simp [passesOn, hc])).trans hcopy

end Received

theorem copiedUnit_txNow (s : State) (p : Port) (f : Frame) (h : spoils s p f = false) :
    (copiedUnit s p (some f)).txNow = some (orFlt s (otherPort p) f) := congrArg some (if_neg (Bool.eq_false_iff.mp h))

/-- What a port makes of the levels that have come in; a burst has damaged them (10 R372). -/
def lineRead (s : State) (p : Port) (r : LineFrame) : RawFrame :=
  { readLine r with codeErr := (readLine r).codeErr || (portOf s p).hurt }

theorem validate_of_codeErr (r : RawFrame) (h : r.codeErr = true) : validate r = none := by
  unfold validate
  exact if_neg fun hc => by simp [h] at hc

theorem frameEndReceived_receives (s : State) (p : Port) (r : LineFrame) (hl : portLive s p = true)
    (hb : (portOf s p).rxBusy = true) : Does (.frameEndReceived p r) s fun t =>
      let x := lineRead s p r
      ((portOf s p).hurt = true → validate x = none) ∧
      (portOf t p).rxBusy = false ∧ (portOf t p).cut = false ∧ (portOf t p).freeAt = s.now + nsCt (turnNs x.gen) ∧
        t.chn.burnt = (if x.crust = .burnt then satInc s.chn.burnt else s.chn.burnt) ∧
        (portOf t p).cerr = (if x.codeErr then satInc (portOf s p).cerr else (portOf s p).cerr) ∧
        (portOf t p).rx = (if x.crust = .valid then some x.gen else (portOf s p).rx) ∧
        ((portOf s p).cut = false → ((portOf s p).noRelay = true ∨ validate x = none ∨
          (relays s && portLive s (otherPort p)) = false) → portOf t (otherPort p) = portOf s (otherPort p)) ∧
        (∀ f, (portOf s p).cut = false → (portOf s p).noRelay = false → validate x = some f → relays s = true →
          portLive s (otherPort p) = true → portOf t (otherPort p) = { portOf s (otherPort p) with
            fwd := (portOf s (otherPort p)).fwd ++ [{ frame := f, gen := x.gen, endAt := s.now }] }) ∧
        ((portOf s p).cut = true → (portOf t (otherPort p)).relaying = false ∧
          (portOf t (otherPort p)).endOut = some (copyCrust s p (validate x)) ∧
          (∀ f, validate x = some f → spoils s p f = false → (portOf t (otherPort p)).txNow = some (orFlt s (otherPort p) f))) ∧
        Only [.chn, .sp, .np, .tim, .core, .en] s t := by
  have hexec : exec (.frameEndReceived p r) s = .next (frameEnd s p (lineRead s p r)) := if_neg (by simp [hl, hb])
  refine ⟨_, hexec, ?_⟩
  generalize hx : lineRead s p r = x
  dsimp only
  rw [frameEnd_portOf, frameEnd_portOf_other]
  obtain ⟨hbusy, hcut, hfree⟩ := receivedUnit_released s p x
  refine ⟨fun hh => validate_of_codeErr _ ?_, hbusy, hcut, hfree, frameEnd_burnt .., receivedUnit_cerr .., receivedUnit_rx ..,
    outUnit_stays s p x.gen _, fun f hc hn hv hr hq => ?_, fun hc => ?_, frameEnd_only ..⟩
  · rw [← hx, lineRead, hh, Bool.or_true]
  · rw [hv, outUnit_queues s p x.gen f hc hn hr hq]
  · rw [outUnit_copied s p x.gen _ hc]
    exact ⟨rfl, rfl, fun f hv hs => hv ▸ copiedUnit_txNow s p f hs⟩

theorem frameEndReceived_idle (s : State) (p : Port) (r : LineFrame) (h : portLive s p = false ∨ (portOf s p).rxBusy = false) :
    Idle (.frameEndReceived p r) s := if_pos (by obtain h | h := h <;> simp [h])

/-! ## A frame is put on the line (10 R352) -/

/-- A port that puts a frame on its line behind a preamble of `lead` ns. -/
def lineUnit (s : State) (p : Port) (f : Frame) (c : Crust) (lead : Nat) : PortUnit :=
  let stop := s.now + frameCt' (txGen (portOf s p)) f c lead
  { portOf s p with
    txNow := some f, txAs := txGen (portOf s p), txEnd := stop, endOut := some c, alarmTx := false, burstTx := false,
    txRel := false, freeAt := stop + nsCt (gapNs (txGen (portOf s p))) }

theorem putOnLine_sameRelay (s : State) (p : Port) (f : Frame) (c : Crust) (lead : Nat) :
    SameRelay (setPort s p (lineUnit s p f c lead)) (putOnLine s p f c lead) := by
  unfold putOnLine
  dsimp only
  split
  · exact ⟨only_chn (by decide) .., rfl, rfl⟩
  · exact .refl _

theorem putOnLine_portOf (s : State) (p : Port) (f : Frame) (c : Crust) (lead : Nat) :
    portOf (putOnLine s p f c lead) p = lineUnit s p f c lead := by
  rw [(putOnLine_sameRelay ..).portOf, portOf_setPort_same]

theorem putOnLine_portOf_other (s : State) (p : Port) (f : Frame) (c : Crust) (lead : Nat) :
    portOf (putOnLine s p f c lead) (otherPort p) = portOf s (otherPort p) := by
  rw [(putOnLine_sameRelay ..).portOf, portOf_setPort_other]

/-! ## A stored frame leaves (10 R355, R357; 11 R386) -/

/-- A stored frame starts. -/
def copySent (s : State) (p : Port) (w : FwdFrame) : State :=
  let g := txGen (portOf s p)
  let s := putOnLine s p (formCopy s p w g) (copyCrust s (otherPort p) (some w.frame)) (preambleNs g)
  let s := setPort s p { portOf s p with txRel := true }
  if p = .south then noteForward s w.frame (portOf s p).txEnd else s

theorem exec_storeForwardSend (s : State) (p : Port) (w : FwdFrame) (l : List FwdFrame) (hl : portLive s p = true)
    (hf : lineFree s p = true) (ha : alarmOnAir s = false) (hw : (portOf s p).fwd = w :: l) :
    exec (.storeForwardSend p) s = .next (copySent (latchGen (setPort s p { portOf s p with fwd := l }) p) p w) := by
  show execStoreForwardSend p s = _
  unfold execStoreForwardSend
  rw [if_neg (by simp [hl, hf, ha]), hw]
  rfl

/-- The port by which a stored frame leaves. -/
def copyLineUnit (s : State) (p : Port) (w : FwdFrame) : PortUnit :=
  let g := txGen (portOf s p)
  { lineUnit s p (formCopy s p w g) (copyCrust s (otherPort p) (some w.frame)) (preambleNs g) with txRel := true }

theorem copySent_sameRelay (s : State) (p : Port) (w : FwdFrame) :
    SameRelay (setPort s p (copyLineUnit s p w)) (copySent s p w) := by
  have hset := (putOnLine_sameRelay s p (formCopy s p w (txGen (portOf s p))) (copyCrust s (otherPort p) (some w.frame))
    (preambleNs (txGen (portOf s p)))).setPort p (copyLineUnit s p w)
  rw [setPort_setPort] at hset
  unfold copySent
  dsimp only
  rw [putOnLine_portOf]
  split
  · exact hset.trans (noteForward_sameRelay ..)
  · exact hset

theorem noteForward_only (s : State) (f : Frame) (x : Nat) : Only [.chn] s (noteForward s f x) := by
  unfold noteForward
  split
  · exact only_chn (by decide) ..
  · exact Only.refl ..

theorem copySent_only (s : State) (p : Port) (w : FwdFrame) : Only [.chn, .sp, .np] s (copySent s p w) := by
  have hput (u : PortUnit) : Only [.chn, .sp, .np] s (setPort (putOnLine s p (formCopy s p w (txGen (portOf s p)))
      (copyCrust s (otherPort p) (some w.frame)) (preambleNs (txGen (portOf s p)))) p u) :=
    (putOnLine_only ..).trans ((setPort_only ..).mono (by decide))
  unfold copySent
  dsimp only
  split
  · exact (hput _).trans ((noteForward_only ..).mono (by decide))
  · exact hput _

theorem formCopy_setPort (s : State) (p q : Port) (u : PortUnit) (w : FwdFrame) (g : Gen) :
    formCopy (setPort s q u) p w g = formCopy s p w g := by
  unfold formCopy
  rw [orFlt_setPort, setPort_now]

theorem storeForwardSend_sends (s : State) (p : Port) (w : FwdFrame) (l : List FwdFrame) (hl : portLive s p = true)
    (hf : lineFree s p = true) (ha : alarmOnAir s = false) (hw : (portOf s p).fwd = w :: l) (hg : (portOf s p).genDue = none) :
    Does (.storeForwardSend p) s fun t =>
      (portOf t p).fwd = l ∧ (portOf t p).txNow = some (formCopy s p w (txGen (portOf s p))) ∧
        (portOf t p).endOut = some (if spoils s (otherPort p) w.frame then .burnt else .valid) ∧
        portOf t (otherPort p) = portOf s (otherPort p) ∧ Only [.chn, .sp, .np] s t := by
  have hexec := exec_storeForwardSend s p w l hl hf ha hw
  generalize hv : setPort s p { portOf s p with fwd := l } = v at hexec
  have hunit : portOf v p = { portOf s p with fwd := l } := by rw [← hv, portOf_setPort_same]
  have hcopy : formCopy v p w (txGen (portOf v p)) = formCopy s p w (txGen (portOf s p)) := by
    rw [hunit, ← hv, formCopy_setPort]
    rfl
  rw [latchGen_of_none v p (by rw [hunit]; exact hg)] at hexec
  have hsent := copySent_sameRelay v p w
  refine ⟨_, hexec, ?_, ?_, ?_, ?_, ?_⟩
  · rw [hsent.portOf, portOf_setPort_same]
    exact congrArg PortUnit.fwd hunit
  · rw [hsent.portOf, portOf_setPort_same]
    exact congrArg some hcopy
  · rw [hsent.portOf, portOf_setPort_same, ← hv]
    exact congrArg some (by rw [copyCrust, spoils_setPort])
  · rw [hsent.portOf, portOf_setPort_other, ← hv, portOf_setPort_other]
  · exact Only.trans (hv ▸ (setPort_only ..).mono (by decide)) (copySent_only ..)

theorem storeForwardSend_idle (s : State) (p : Port) (h : (portOf s p).fwd = [] ∨ alarmOnAir s = true) :
    Idle (.storeForwardSend p) s := by
  obtain h | h := h
  · show execStoreForwardSend p s = _
    unfold execStoreForwardSend
    rw [h]
    split <;> rfl
  · exact if_pos (by simp [h])

/-! ## An own frame starts (11 R407, R412) -/

theorem dropLate_of_timely (s : State) (h : ∀ x ∈ s.sp.txq ++ s.np.txq, tickLate s x = false) : dropLate s = s := by
  have hkeep (l : List Frame) (hl : ∀ x ∈ l, x ∈ s.sp.txq ++ s.np.txq) : (l.filter fun f => !tickLate s f) = l :=
    List.filter_eq_self.mpr fun x hx => by rw [h x (hl x hx)]; rfl
  rw [dropLate, hkeep _ fun x hx => List.mem_append_left _ hx, hkeep _ fun x hx => List.mem_append_right _ hx]

theorem dropLate_drops (s : State) (f : Frame) (h : tickLate s f = true) : f ∉ (dropLate s).sp.txq ∧ f ∉ (dropLate s).np.txq := by
  constructor <;> exact fun hf => by simpa [h] using (List.mem_filter.mp hf).2

/-- The frame that is taken is the first of its kind in the queue. -/
theorem takeStart_erase (s : State) (p : Port) (q : List Frame) (f : Frame) (l : List Frame) (h : takeStart s p q = some (f, l)) :
    l = q.erase f ∧ mayStart s p f = true := by
  induction q generalizing l with
  | nil => exact nomatch h
  | cons x q ih =>
    rw [takeStart] at h
    by_cases hx : mayStart s p x = true
    · rw [if_pos hx] at h
      cases h
      exact ⟨(List.erase_cons_head ..).symm, hx⟩
    · rw [if_neg hx] at h
      cases hq : takeStart s p q with
      | none => rw [hq] at h; exact nomatch h
      | some y =>
        obtain ⟨g, k⟩ := y
        rw [hq] at h
        cases h
        obtain ⟨hk, hg⟩ := ih k hq
        have hne : (x == f) = false := beq_eq_false_iff_ne.mpr fun he => hx (he ▸ hg)
        exact ⟨by rw [List.erase_cons_tail (by rw [hne]; decide), hk], hg⟩

/-- A frame that starts: a tick frame or beat on both ports, another by its own. -/
def frameStarted (s : State) (p : Port) (f : Frame) (l : List Frame) : State :=
  if f.type = 5 ∨ f.type = 6 then startPair (latchGen (unqueue s f) (otherPort p)) f
  else startOwn (setPort s p { portOf s p with txq := l }) p f

section Transmit

variable (s : State) (p : Port) (hg : (portOf s p).genDue = none) (hd : ∀ x ∈ s.sp.txq ++ s.np.txq, tickLate s x = false)
include hg hd

theorem exec_frameTransmit (f : Frame) (l : List Frame) (hl : portLive s p = true) (hf : lineFree s p = true)
    (hq : takeStart s p (portOf s p).txq = some (f, l)) :
    exec (.frameTransmit p) s = .next (irqRaise (frameStarted s p f l) (if p = .south then 32 else 33)) := by
  show execFrameTransmit p s = _
  unfold execFrameTransmit
  rw [if_neg (by simp [hl, hf]), latchGen_of_none s p hg, dropLate_of_timely s hd]
  dsimp only
  rw [hq]
  rfl

theorem frameTransmit_none (hq : takeStart s p (portOf s p).txq = none) : Idle (.frameTransmit p) s := by
  show execFrameTransmit p s = _
  unfold execFrameTransmit
  split
  · rfl
  · rw [latchGen_of_none s p hg, dropLate_of_timely s hd]
    dsimp only
    rw [hq]

end Transmit

theorem formOwn_congr {s t : State} (g : Gen) (f : Frame) (lead : Nat) (htim : t.tim = s.tim) (hown : ownFlt t = ownFlt s)
    (hheard : heardFlt t = heardFlt s) : formOwn t g f lead = formOwn s g f lead := by
  have hstamp : stampTtx t lead f = stampTtx s lead f := by rw [stampTtx, htim, stampTtx]
  rw [formOwn, anchorFlt, hstamp, hown, hheard, formOwn, anchorFlt]

theorem heardFlt_congr {s t : State} (hnow : t.now = s.now) (hflts : t.chn.flts = s.chn.flts) : heardFlt t = heardFlt s := by
  rw [heardFlt, hnow, hflts, heardFlt]

theorem frameTransmit_sends (s : State) (p : Port) (f : Frame) (l : List Frame) (hl : portLive s p = true)
    (hf : lineFree s p = true) (hq : takeStart s p (portOf s p).txq = some (f, l)) (h5 : f.type ≠ 5) (h6 : f.type ≠ 6)
    (hg : (portOf s p).genDue = none) (hd : ∀ x ∈ s.sp.txq ++ s.np.txq, tickLate s x = false) :
    Does (.frameTransmit p) s fun t =>
      let g := txGen (portOf s p)
      (portOf t p).txq = l ∧ (portOf t p).txNow = some (formOwn s g f (preambleNs g)) ∧ (portOf t p).endOut = some .valid ∧
        (portOf t p).txEnd = s.now + frameCt' g (formOwn s g f (preambleNs g)) .valid (preambleNs g) ∧
        portOf t (otherPort p) = portOf s (otherPort p) ∧ Only [.chn, .sp, .np, .core] s t := by
  have hexec := exec_frameTransmit s p hg hd f l hl hf hq
  rw [frameStarted, if_neg (not_or.mpr ⟨h5, h6⟩)] at hexec
  generalize hv : setPort s p { portOf s p with txq := l } = v at hexec
  have honly : Only [.sp, .np] s v := hv ▸ setPort_only ..
  have hunit : portOf v p = { portOf s p with txq := l } := by rw [← hv, portOf_setPort_same]
  have hother : portOf v (otherPort p) = portOf s (otherPort p) := by rw [← hv, portOf_setPort_other]
  have hnow : v.now = s.now := honly.same .now (by decide)
  have hchn : v.chn = s.chn := honly.same .chn (by decide)
  have hgen : txGen (portOf v p) = txGen (portOf s p) := by rw [hunit]; rfl
  have hform := formOwn_congr (txGen (portOf s p)) f (preambleNs (txGen (portOf s p))) (honly.same .tim (by decide))
    (ownFlt_of_only honly (by decide)) (heardFlt_congr hnow (congrArg ChnUnit.flts hchn))
  have hsent : portOf (irqRaise (startOwn v p f) (if p = .south then 32 else 33)) p = lineUnit v p
      (formOwn s (txGen (portOf s p)) f (preambleNs (txGen (portOf s p)))) .valid (preambleNs (txGen (portOf s p))) := by
    rw [portOf_of_only (irqRaise_only ..) (by decide) (by decide), startOwn, putOnLine_portOf, hgen, hform]
  refine ⟨_, hexec, ?_⟩
  dsimp only
  rw [hsent]
  refine ⟨congrArg PortUnit.txq hunit, rfl, rfl, ?_, ?_, ?_⟩
  · show v.now + frameCt' (txGen (portOf v p)) _ _ _ = _
    rw [hnow, hgen]
  · rw [portOf_of_only (irqRaise_only ..) (by decide) (by decide), startOwn, putOnLine_portOf_other, hother]
  · exact (honly.mono (by decide)).trans (((startOwn_only ..).mono (by decide)).trans ((irqRaise_only ..).mono (by decide)))

/-! ## Both copies of a time frame start together (11 R407; 05 R141) -/

theorem length_leBytes (n v : Nat) : (leBytes n v).length = n := by
  induction n generalizing v with
  | zero => rfl
  | succ n ih => rw [leBytes, List.length_cons, ih]

theorem leVal_leBytes (n v : Nat) : leVal (leBytes n v) = v % 256 ^ n := by
  induction n generalizing v with
  | zero => rw [pow_zero, Nat.mod_one]; rfl
  | succ n ih =>
    rw [leBytes, leVal, ih, BitVec.toNat_ofNat, pow_succ' 256 n]
    exact Nat.mod_mul.symm

/-- A number written at the start of a list is read back, as far as its bytes reach. -/
theorem leAt_leBytes_append (n v : Nat) (l : List Byte) : leAt (leBytes n v ++ l) 0 n = v % 256 ^ n := by
  rw [leAt, List.drop_zero, List.take_left' (length_leBytes n v), leVal_leBytes]

/-- A frame keeps its type and its number as it leaves. -/
theorem formOwn_number (s : State) (g : Gen) (f : Frame) (lead : Nat) :
    (formOwn s g f lead).type = f.type ∧ (formOwn s g f lead).lseq = f.lseq := by
  unfold formOwn stampTtx
  dsimp only
  split <;> exact ⟨rfl, rfl⟩

/-- A tick frame or beat carries the anchor's fault field and the chain time at which it leaves (11 R411; 05 R141). -/
theorem formOwn_time (s : State) (g : Gen) (f : Frame) (lead : Nat) (ht : f.type = 5 ∨ f.type = 6) :
    (formOwn s g f lead).flt = anchorFlt s ∧ (formOwn s g f lead).payload = (stampTtx s lead f).payload ∧
      leAt (formOwn s g f lead).payload 0 4 = (s.tim.cnt + nsCt lead) / 24 % 2 ^ 32 := by
  have htime : isTime (stampTtx s lead f).type = true := by
    rw [stampTtx, if_pos ht]
    obtain h | h := ht <;> simp [isTime, h]
  refine ⟨if_pos htime, rfl, ?_⟩
  show leAt (stampTtx s lead f).payload 0 4 = _
  rw [stampTtx, if_pos ht]
  dsimp only
  rw [List.append_assoc]
  exact leAt_leBytes_append ..

/-- A port on which a copy of a time frame starts, where it may send. -/
def pairUnit (s : State) (p : Port) (f : Frame) (lead : Nat) : PortUnit :=
  if sendLive s p then lineUnit s p (formOwn s (txGen (portOf s p)) f lead) .valid lead else portOf s p

theorem startTime_portOf (s : State) (p : Port) (f : Frame) (lead : Nat) :
    portOf (startTime s p f lead) p = pairUnit s p f lead ∧
      portOf (startTime s p f lead) (otherPort p) = portOf s (otherPort p) := by
  unfold startTime pairUnit
  split
  · exact ⟨putOnLine_portOf .., putOnLine_portOf_other ..⟩
  · exact ⟨rfl, rfl⟩

theorem pairUnit_congr {s t : State} (p : Port) (f : Frame) (lead : Nat) (h : Only [.freeCtr, .chn, .sp, .np] s t)
    (haddr : t.chn.addr = s.chn.addr) (hflts : t.chn.flts = s.chn.flts) (hp : portOf t p = portOf s p) :
    pairUnit t p f lead = pairUnit s p f lead := by
  have hnow : t.now = s.now := h.same .now (by decide)
  have hlive : sendLive t p = sendLive s p := by
    rw [sendLive, portLive_of_only h (by decide) p (congrArg _ hp), haddr, sendLive]
  have hform (g : Gen) : formOwn t g f lead = formOwn s g f lead :=
    formOwn_congr g f lead (h.same .tim (by decide)) (ownFlt_of_only h (by decide)) (heardFlt_congr hnow hflts)
  simp only [pairUnit, lineUnit, hlive, hp, hform, hnow]

theorem pairStarted_portOf (s : State) (f : Frame) (lead : Nat) (p : Port) :
    portOf (pairStarted s f lead) p = pairUnit s p f lead := by
  obtain ⟨hsouth, hnorth⟩ := startTime_portOf s .south f lead
  obtain ⟨hnorth', hsouth'⟩ := startTime_portOf (startTime s .south f lead) .north f lead
  have hchn := startTime_chn s .south f lead
  cases p with
  | south => exact hsouth'.trans hsouth
  | north =>
    exact hnorth'.trans (pairUnit_congr .north f lead ((startTime_only ..).mono (by decide)) (by rw [hchn]) (by rw [hchn]) hnorth)

/-- The ports of a started pair of copies, whatever free interval they announce. -/
theorem startPair_portOf (s : State) (f : Frame) :
    ∃ a b, ∀ p, portOf (startPair s f) p = pairUnit s p (withFree f a b) (leadNs s) := by
  obtain ⟨fofs, flen, x, past, from_, to_, u, hu, h⟩ := startPair_steps s f
  have huchn : u.chn = s.chn := hu.same .chn (by decide)
  refine ⟨fofs, flen, fun p => ?_⟩
  rw [h, portOf_of_only (pairNoted_only ..) (by decide) (by decide), portOf_of_only (releaseHeld_only ..) (by decide) (by decide),
    pairBegun, portOf_of_only (ownWindow_only ..) (by decide) (by decide), pairStarted_portOf]
  exact pairUnit_congr p _ _ (hu.mono (by decide)) (by rw [huchn]) (by rw [huchn])
    (portOf_of_only hu (by decide) (by decide) p)

theorem unqueue_portOf (s : State) (f : Frame) (p : Port) :
    portOf (unqueue s f) p = { portOf s p with txq := (portOf s p).txq.erase f } := by cases p <;> rfl

theorem unqueue_only (s : State) (f : Frame) : Only [.sp, .np] s (unqueue s f) :=
  (only_sp (by decide) s { s.sp with txq := s.sp.txq.erase f }).trans (only_np (by decide) ..)

theorem unqueue_sendLive (s : State) (f : Frame) (p : Port) : sendLive (unqueue s f) p = sendLive s p := by
  rw [sendLive, portLive_of_only (unqueue_only s f) (by decide) p (by rw [unqueue_portOf])]
  rfl

theorem unqueue_leadNs (s : State) (f : Frame) : leadNs (unqueue s f) = leadNs s := by
  have hlive (p : Port) : portLive (unqueue s f) p = portLive s p :=
    portLive_of_only (unqueue_only s f) (by decide) p (by rw [unqueue_portOf])
  rw [leadNs, hlive, hlive]
  rfl

/-- The copy of a time frame that leaves by `p`. -/
def pairCopy (s : State) (p : Port) (f : Frame) : Frame := formOwn s (txGen (portOf s p)) f (leadNs s)

/-- A copy that waited at a port leaves it. -/
theorem pairUnit_unqueue (s : State) (p : Port) (f x : Frame) (hl : sendLive s p = true) :
    (pairUnit (unqueue s f) p x (leadNs (unqueue s f))).txq = (portOf s p).txq.erase f ∧
      (pairUnit (unqueue s f) p x (leadNs (unqueue s f))).endOut = some .valid ∧
      (pairUnit (unqueue s f) p x (leadNs (unqueue s f))).txNow = some (pairCopy s p x) := by
  have honly := unqueue_only s f
  have hcopy : formOwn (unqueue s f) (txGen (portOf (unqueue s f) p)) x (leadNs (unqueue s f)) = pairCopy s p x := by
    rw [unqueue_leadNs, unqueue_portOf]
    exact formOwn_congr _ x _ (honly.same .tim (by decide)) (ownFlt_of_only honly (by decide)) (heardFlt_congr rfl rfl)
  rw [pairUnit, if_pos ((unqueue_sendLive s f p).trans hl), hcopy]
  exact ⟨congrArg PortUnit.txq (unqueue_portOf s f p), rfl, rfl⟩

theorem frameTransmit_pairs (s : State) (p : Port) (f : Frame) (l : List Frame) (hl : sendLive s p = true)
    (hf : lineFree s p = true) (hq : takeStart s p (portOf s p).txq = some (f, l)) (ht : f.type = 5 ∨ f.type = 6)
    (hg : (portOf s p).genDue = none) (hg' : (portOf s (otherPort p)).genDue = none)
    (hd : ∀ x ∈ s.sp.txq ++ s.np.txq, tickLate s x = false) : Does (.frameTransmit p) s fun t =>
      (portOf t p).txq = l ∧ (portOf t p).endOut = some .valid ∧ t.sch.frameAt = s.now ∧
        (∃ x, (portOf t p).txNow = some x ∧ x.type = f.type ∧ x.lseq = f.lseq ∧ x.flt = anchorFlt s ∧
          leAt x.payload 0 4 = (s.tim.cnt + nsCt (leadNs s)) / 24 % 2 ^ 32 ∧
          (sendLive s (otherPort p) = true → (portOf s (otherPort p)).txq.contains f = true →
            (portOf t (otherPort p)).txq = (portOf s (otherPort p)).txq.erase f ∧
              ∃ y, (portOf t (otherPort p)).txNow = some y ∧ y.payload = x.payload ∧ y.lseq = f.lseq)) ∧
        Only [.freeCtr, .sch, .acq, .apl, .chn, .sp, .np, .core] s t := by
  obtain ⟨hlive, -⟩ := Bool.and_eq_true_iff.mp hl
  obtain ⟨rfl, -⟩ := takeStart_erase s p _ f l hq
  have hexec := exec_frameTransmit s p hg hd f _ hlive hf hq
  rw [frameStarted, if_pos ht, latchGen_of_none _ _ (by rw [unqueue_portOf]; exact hg')] at hexec
  obtain ⟨a, b, hports⟩ := startPair_portOf (unqueue s f) f
  have hport (q : Port) : portOf (irqRaise (startPair (unqueue s f) f) (if p = .south then 32 else 33)) q =
      pairUnit (unqueue s f) q (withFree f a b) (leadNs (unqueue s f)) :=
    (portOf_of_only (irqRaise_only ..) (by decide) (by decide) q).trans (hports q)
  have hsch : (startPair (unqueue s f) f).sch.frameAt = s.now := by rw [startPair_sch]; rfl
  obtain ⟨hqueue, hend, hnow⟩ := pairUnit_unqueue s p f (withFree f a b) hl
  obtain ⟨htype, hlseq⟩ := formOwn_number s (txGen (portOf s p)) (withFree f a b) (leadNs s)
  obtain ⟨hflt, hpayload, htime⟩ := formOwn_time s (txGen (portOf s p)) (withFree f a b) (leadNs s) ht
  refine ⟨_, hexec, ?_⟩
  dsimp only
  rw [hport, hport]
  refine ⟨hqueue, hend, hsch, ⟨pairCopy s p (withFree f a b), hnow, htype, hlseq, hflt, htime, fun hl' _ => ?_⟩, ?_⟩
  · obtain ⟨hqueue', -, hnow'⟩ := pairUnit_unqueue s (otherPort p) f (withFree f a b) hl'
    obtain ⟨-, hlseq'⟩ := formOwn_number s (txGen (portOf s (otherPort p))) (withFree f a b) (leadNs s)
    exact ⟨hqueue', pairCopy s (otherPort p) (withFree f a b), hnow', rfl, hlseq'⟩
  · exact ((unqueue_only s f).mono (by decide)).trans (((startPair_only ..).mono (by decide)).trans
      ((irqRaise_only ..).mono (by decide)))

/-! ## When a frame may start, and when nothing does (11 R412; 10 R352) -/

theorem mayStart_eq (s : State) (p : Port) (f : Frame) (ha : s.chn.addr ≠ 0x7F) (ht : isTime f.type = false) (h3 : f.type ≠ 3)
    (hb : f.type ≠ 0xB) (hc : f.type ≠ 0xC) (h4 : f.type = 4 → f.payload ≠ []) :
    mayStart s p f = (inFree s p f || s.tim.orphaned) := by
  have hempty : (f.type == 4 && f.payload.isEmpty) = false := by
    by_cases h : f.type = 4
    · simp [h4 h]
    · rw [beq_eq_false_iff_ne.mpr h, Bool.false_and]
  unfold mayStart
  rw [if_neg fun h => ha h.1, if_neg (Bool.eq_false_iff.mp ht), beq_eq_false_iff_ne.mpr h3, beq_eq_false_iff_ne.mpr hb,
    beq_eq_false_iff_ne.mpr hc, hempty]
  rfl

theorem frames_wait (s : State) (p : Port) (h : lineFree s p = false) : Idle (.frameTransmit p) s ∧ Idle (.storeForwardSend p) s :=
  ⟨if_pos (by simp [h]), if_pos (by simp [h])⟩

/-! ## A collision (10 R354) -/

/-- A port that has met a collision: a burnt crust, and the pair is released. -/
def collidedUnit (s : State) (p : Port) : PortUnit :=
  { portOf s p with
    relaying := false, txEnd := s.now, endOut := some .burnt, cerr := satInc (portOf s p).cerr,
    freeAt := s.now + nsCt (crustNs (portOf s p).txAs .burnt + turnNs (portOf s p).txAs) }

/-- A copy that met a collision is not relayed any more. -/
def collided (s : State) (p : Port) : State :=
  let t := setPort s p (collidedUnit s p)
  if (portOf s p).relaying then setPort t (otherPort p) { portOf t (otherPort p) with cut := false, noRelay := true } else t

theorem exec_collisionDetect (s : State) (p : Port) : exec (.collisionDetect p) s =
    if !active s || (portOf s p).burstTx || (portOf s p).brkOut || !transmitting s (portOf s p) then .next s
    else .next (collided s p) := rfl

theorem collided_portOf (s : State) (p : Port) : portOf (collided s p) p = collidedUnit s p := by
  unfold collided
  dsimp only
  split
  · rw [portOf_setPort_other', portOf_setPort_same]
  · rw [portOf_setPort_same]

theorem collided_portOf_other (s : State) (p : Port) : portOf (collided s p) (otherPort p) =
    if (portOf s p).relaying then { portOf s (otherPort p) with cut := false, noRelay := true } else portOf s (otherPort p) := by
  unfold collided
  dsimp only
  split
  · rw [portOf_setPort_same, portOf_setPort_other]
  · rw [portOf_setPort_other]

theorem collided_only (s : State) (p : Port) : Only [.sp, .np] s (collided s p) := by
  unfold collided
  dsimp only
  split
  · exact (setPort_only ..).trans (setPort_only ..)
  · exact setPort_only ..

theorem collisionDetect_releases (s : State) (p : Port) (ha : active s = true) (hu : (portOf s p).burstTx = false)
    (hb : (portOf s p).brkOut = false) (ht : transmitting s (portOf s p) = true) : Does (.collisionDetect p) s fun t =>
      let g := (portOf s p).txAs
      portOf t p = { portOf s p with relaying := false, txEnd := s.now, endOut := some .burnt, cerr := satInc (portOf s p).cerr,
                                     freeAt := s.now + nsCt (crustNs g .burnt + turnNs g) } ∧
        portOf t (otherPort p) = (if (portOf s p).relaying then { portOf s (otherPort p) with cut := false, noRelay := true }
                                  else portOf s (otherPort p)) ∧ Only [.sp, .np] s t := by
  refine ⟨collided s p, ?_, collided_portOf s p, collided_portOf_other s p, collided_only s p⟩
  rw [exec_collisionDetect, if_neg (by simp [ha, hu, hb, ht])]

theorem collisionDetect_idle (s : State) (p : Port)
    (h : (portOf s p).burstTx = true ∨ (portOf s p).brkOut = true ∨ transmitting s (portOf s p) = false) :
    Idle (.collisionDetect p) s :=
  (exec_collisionDetect s p).trans (if_pos (by obtain h | h | h := h <;> simp [h]))

/-- Settles O29: a frame begins to arrive by `frameArrived` and ends by `frameEnd_sameRelay`, which says what both ports come to;
copies, own frames and pairs of time frames start by `lineUnit`. -/
theorem framesOnTheLine : Obligations.FramesOnTheLine :=
  ⟨frameRelayStart_stores, frameRelayStart_cuts, frameRelayStart_drops, frameRelayStart_idle, frameEndReceived_receives,
    frameEndReceived_idle, storeForwardSend_sends, frameTransmit_sends, frameTransmit_pairs, dropLate_drops, mayStart_eq,
    frames_wait, frameTransmit_none, storeForwardSend_idle, collisionDetect_releases, collisionDetect_idle⟩

end Sys2Proof.Machine

/-! PROOFS. Bursts, alarm bursts, breaks and the host's wake (10 R364 to R378; 12 R463; 14 R542; 23 R862 to R866; O34). -/

namespace Sys2Proof.Machine

/-! ## A burst is detected (10 R364 to R368, R372; 23 R862) -/

theorem latchWake_pw (s : State) (m : Word) : (latchWake s m).pw = { s.pw with wake := s.pw.wake ||| m } := by
  unfold latchWake
  dsimp only
  split <;> rfl

/-- A wake cause is latched, and the device wakes from a lower state, or once one is decided. -/
theorem wakeFor_pw (s : State) (m : Word) : (wakeFor s m).pw =
    { s.pw with wake := s.pw.wake ||| m, wakeDue := s.pw.wakeDue || !awake s || s.pw.decided.isSome } := by
  have hpw := latchWake_pw s m
  have hawake : awake (latchWake s m) = awake s := by rw [awake, hpw, awake]
  have hdue : (!awake s || s.pw.decided.isSome) = !(awake s && s.pw.decided.isNone) := by rw [Bool.not_and, Option.not_isNone]
  unfold wakeFor
  dsimp only
  rw [hawake, hpw, Bool.or_assoc, hdue]
  cases awake s && s.pw.decided.isNone with
  | true => rw [if_pos rfl, hpw, Bool.not_true, Bool.or_false]
  | false => rw [if_neg Bool.false_ne_true, Bool.not_false, Bool.or_true]

/-- The burst holds the pair of its port, and its relay waits at the other. -/
def burstTaken (s : State) (p : Port) : State :=
  let s := setPort s p { portOf s p with rxBurst := s.now + usCt 202, hurt := (portOf s p).hurt || (portOf s p).rxBusy }
  if portEnabled s (otherPort p) && s.sup.vport then
    setPort s (otherPort p) { portOf s (otherPort p) with burst := true }
  else s

theorem exec_burstDetect (s : State) (p : Port) : exec (.burstDetect p) s =
    if !running s || !portEnabled s p || transmitting s (portOf s p) then .next s
    else .next (wakeFor (burstTaken s p) (if p = .south then 2 else 4)) := rfl

theorem burstTaken_only (s : State) (p : Port) : Only [.sp, .np] s (burstTaken s p) := by
  unfold burstTaken
  dsimp only
  split
  · exact (setPort_only ..).trans (setPort_only ..)
  · exact setPort_only ..

theorem burstTaken_portOf (s : State) (p : Port) : portOf (burstTaken s p) p =
    { portOf s p with rxBurst := s.now + usCt 202, hurt := (portOf s p).hurt || (portOf s p).rxBusy } := by
  unfold burstTaken
  dsimp only
  split
  · rw [portOf_setPort_other', portOf_setPort_same]
  · rw [portOf_setPort_same]

theorem burstTaken_portOf_other (s : State) (p : Port) : portOf (burstTaken s p) (otherPort p) =
    { portOf s (otherPort p) with
      burst := (portOf s (otherPort p)).burst || (portEnabled s (otherPort p) && s.sup.vport) } := by
  unfold burstTaken
  dsimp only
  rw [portEnabled_of_only (setPort_only ..) (by decide), setPort_sup]
  split
  · rename_i h
    rw [portOf_setPort_same, portOf_setPort_other, h, Bool.or_true]
  · rename_i h
    rw [portOf_setPort_other, Bool.eq_false_iff.mpr h, Bool.or_false]

theorem burstDetect_latches (s : State) (p : Port) (hr : running s = true) (he : portEnabled s p = true)
    (ht : transmitting s (portOf s p) = false) : Does (.burstDetect p) s fun t =>
    t.pw.wake = s.pw.wake ||| (if p = .south then 2 else 4) ∧
      portOf t (otherPort p) = { portOf s (otherPort p) with
        burst := (portOf s (otherPort p)).burst || (portEnabled s (otherPort p) && s.sup.vport) } ∧
      portOf t p = { portOf s p with rxBurst := s.now + usCt 202, hurt := (portOf s p).hurt || (portOf s p).rxBusy } ∧
      t.pw.wakeDue = (s.pw.wakeDue || !awake s || s.pw.decided.isSome) ∧ Only [.sp, .np, .pw, .host] s t := by
  have hpw : (burstTaken s p).pw = s.pw := (burstTaken_only s p).same .pw (by decide)
  have hawake : awake (burstTaken s p) = awake s := by rw [awake, hpw, awake]
  have hport (q : Port) : portOf (wakeFor (burstTaken s p) (if p = .south then 2 else 4)) q = portOf (burstTaken s p) q :=
    portOf_of_only (wakeFor_only ..) (by decide) (by decide) q
  refine ⟨_, (exec_burstDetect s p).trans (if_neg (by simp [hr, he, ht])), ?_, ?_, ?_, ?_, ?_⟩
  · rw [wakeFor_pw, hpw]
  · rw [hport, burstTaken_portOf_other]
  · rw [hport, burstTaken_portOf]
  · rw [wakeFor_pw, hpw, hawake]
  · exact ((burstTaken_only s p).mono (by decide)).trans ((wakeFor_only ..).mono (by decide))

theorem burstDetect_idle (s : State) (p : Port)
    (h : running s = false ∨ portEnabled s p = false ∨ transmitting s (portOf s p) = true) : Idle (.burstDetect p) s :=
  (exec_burstDetect s p).trans (if_pos (by obtain h | h | h := h <;> simp [h]))

/-! ## Bursts sent: relayed, and the wake burst (10 R366, R367; 23 R865) -/

theorem burstRelay_sends (s : State) (p : Port) (hb : (portOf s p).burst = true) (hc : canBurst s p = true)
    (ha : alarmOnAir s = false) : Does (.burstRelay p) s fun t =>
    portOf t p = { portOf s p with burst := false, txEnd := s.now + usCt 200, alarmTx := false, burstTx := true, txRel := true,
                                   bursts := (portOf s p).bursts + 1 } ∧
      portOf t (otherPort p) = portOf s (otherPort p) ∧ Only [.sp, .np] s t := by
  have hexec : exec (.burstRelay p) s = .next (sendBurst (setPort s p { portOf s p with burst := false }) p false true) :=
    if_pos (by simp [hb, hc, ha])
  refine ⟨_, hexec, ?_, ?_, (setPort_only ..).trans (sendBurst_only ..)⟩
  · rw [sendBurst, portOf_setPort_same, portOf_setPort_same, setPort_now]
  · rw [sendBurst, portOf_setPort_other, portOf_setPort_other]

theorem burstRelay_idle (s : State) (p : Port)
    (h : (portOf s p).burst = false ∨ canBurst s p = false ∨ alarmOnAir s = true) : Idle (.burstRelay p) s :=
  if_neg (by obtain h | h | h := h <;> simp [h])

theorem wakeBurstSend_sends (s : State) (hb : s.pw.wakeBurst = true) (hc : canBurst s .north = true) (ha : alarmOnAir s = false) :
    Does .wakeBurstSend s fun t =>
      t = { s with pw := { s.pw with wakeBurst := false },
                   np := { s.np with txEnd := s.now + usCt 200, alarmTx := false, burstTx := true, txRel := false,
                                     bursts := s.np.bursts + 1 } } :=
  ⟨_, if_pos (by simp [hb, hc, ha]), rfl⟩

theorem wakeBurstSend_idle (s : State) (h : s.pw.wakeBurst = false ∨ canBurst s .north = false ∨ alarmOnAir s = true) :
    Idle .wakeBurstSend s := if_neg (by obtain h | h | h := h <;> simp [h])

/-! ## Own alarm bursts (10 R367, R369, R370; 23 R866) -/

/-- The port may send one of the alarm bursts that are left. -/
def alarmReady (s : State) (p : Port) : Bool :=
  (portOf s p).alarmOn && (portOf s p).alarm != 0 && canBurst s p && !relayOnAir s

/-- The port that sends one of its alarm bursts. -/
def alarmUnit (s : State) (p : Port) : PortUnit :=
  { portOf s p with
    alarm := (portOf s p).alarm - 1, alarmOn := (portOf s p).alarm != 1, txEnd := s.now + usCt 200, alarmTx := true,
    burstTx := true, txRel := false, bursts := (portOf s p).bursts + 1 }

/-- An alarm burst is sent, and its cause latched. -/
def alarmSent (s : State) (p : Port) : State := { setPort s p (alarmUnit s p) with pw.wake := s.pw.wake ||| 0x800#32 }

theorem alarmBurst_eq (s : State) (p : Port) : alarmBurst s p = if alarmReady s p then alarmSent s p else s := by
  cases p <;> rfl

theorem alarmSent_portOf (s : State) (p : Port) : portOf (alarmSent s p) p = alarmUnit s p := by cases p <;> rfl

theorem alarmSent_portOf_other (s : State) (p : Port) : portOf (alarmSent s p) (otherPort p) = portOf s (otherPort p) := by
  cases p <;> rfl

theorem alarmSent_pw (s : State) (p : Port) : (alarmSent s p).pw = { s.pw with wake := s.pw.wake ||| 0x800 } := by
  cases p <;> rfl

theorem alarmSent_only (s : State) (p : Port) : Only [.sp, .np, .pw] s (alarmSent s p) := by
  have hport : Only [.sp, .np, .pw] s (setPort s p (alarmUnit s p)) := (setPort_only ..).mono (by decide)
  exact hport.trans (only_pw (by decide) _ (alarmSent s p).pw)

/-- The first alarm burst of a port is due and may be sent. -/
def firstDue (s : State) (p : Port) : Bool :=
  (portOf s p).alarm == 8 && (portOf s p).alarmOn && canBurst s p && !relayOnAir s

/-- The first alarm burst of a port. -/
def alarmFirst (s : State) (p : Port) : State := if (portOf s p).alarm = 8 then alarmBurst s p else s

theorem exec_alarmBurstSend (s : State) : exec .alarmBurstSend s = .next (alarmFirst (alarmFirst s .south) .north) := rfl

theorem alarmFirst_eq (s : State) (p : Port) : alarmFirst s p = if firstDue s p then alarmSent s p else s := by
  unfold alarmFirst firstDue
  split
  · rename_i h
    rw [alarmBurst_eq, alarmReady, h]
    simp
  · rename_i h
    rw [if_neg (by simp [h])]

/-- The first of 8 bursts leaves 7. -/
theorem alarmUnit_first (s : State) (p : Port) (h : firstDue s p = true) : alarmUnit s p =
    { portOf s p with alarm := 7, txEnd := s.now + usCt 200, alarmTx := true, burstTx := true, txRel := false,
                      bursts := (portOf s p).bursts + 1 } := by
  simp only [firstDue, Bool.and_eq_true, beq_iff_eq] at h
  obtain ⟨⟨⟨hn, hon⟩, -⟩, -⟩ := h
  simp [alarmUnit, hn, hon]

/-- A device that sends an alarm burst relays nothing (10 R367). -/
theorem relayOnAir_alarmSent (s : State) (h : relayOnAir s = false) : relayOnAir (alarmSent s .south) = false := by
  simp only [relayOnAir, Bool.or_eq_false_iff] at h ⊢
  obtain ⟨⟨hs, -⟩, hn⟩ := h
  exact ⟨⟨hs, rfl⟩, hn⟩

/-- The first burst south decides nothing of the one north. -/
theorem firstDue_alarmFirst (s : State) : firstDue (alarmFirst s .south) .north = firstDue s .north := by
  rw [alarmFirst_eq]
  split
  · rename_i h
    have hquiet : relayOnAir s = false := by
      simp only [firstDue, Bool.and_eq_true, Bool.not_eq_true'] at h
      obtain ⟨-, hq⟩ := h
      exact hq
    rw [firstDue, relayOnAir_alarmSent s hquiet, firstDue, hquiet]
    rfl
  · rfl

theorem alarmFirst_portOf (s : State) (p : Port) : portOf (alarmFirst s p) p =
    if firstDue s p then { portOf s p with alarm := 7, txEnd := s.now + usCt 200, alarmTx := true, burstTx := true, txRel := false,
                                           bursts := (portOf s p).bursts + 1 } else portOf s p := by
  rw [alarmFirst_eq]
  split
  · rename_i h
    rw [alarmSent_portOf, alarmUnit_first s p h]
  · rfl

theorem alarmFirst_portOf_other (s : State) (p : Port) : portOf (alarmFirst s p) (otherPort p) = portOf s (otherPort p) := by
  rw [alarmFirst_eq]
  split
  · exact alarmSent_portOf_other ..
  · rfl

theorem alarmFirst_pw (s : State) (p : Port) : (alarmFirst s p).pw =
    { s.pw with wake := if firstDue s p then s.pw.wake ||| 0x800 else s.pw.wake } := by
  rw [alarmFirst_eq]
  split
  · exact alarmSent_pw ..
  · rfl

theorem alarmFirst_only (s : State) (p : Port) : Only [.sp, .np, .pw] s (alarmFirst s p) := by
  rw [alarmFirst_eq]
  split
  · exact alarmSent_only ..
  · exact Only.refl ..

theorem alarmBurstSend_sends (s : State) : Does .alarmBurstSend s fun t =>
    let first (p : Port) : Bool := (portOf s p).alarm == 8 && (portOf s p).alarmOn && canBurst s p && !relayOnAir s
    (∀ p, portOf t p = if first p then { portOf s p with alarm := 7, txEnd := s.now + usCt 200, alarmTx := true, burstTx := true,
                                                         txRel := false, bursts := (portOf s p).bursts + 1 } else portOf s p) ∧
      t.pw = { s.pw with wake := if first .south || first .north then s.pw.wake ||| 0x800 else s.pw.wake } ∧
      Only [.sp, .np, .pw] s t := by
  have hnow : (alarmFirst s .south).now = s.now := (alarmFirst_only s .south).same .now (by decide)
  have hother : portOf (alarmFirst s .south) .north = portOf s .north := alarmFirst_portOf_other s .south
  refine ⟨_, exec_alarmBurstSend s, fun p => ?_, ?_, (alarmFirst_only ..).trans (alarmFirst_only ..)⟩
  · cases p with
    | south => exact (alarmFirst_portOf_other (alarmFirst s .south) .north).trans (alarmFirst_portOf s .south)
    | north => rw [alarmFirst_portOf, firstDue_alarmFirst, hother, hnow]; rfl
  · rw [alarmFirst_pw, alarmFirst_pw, firstDue_alarmFirst]
    change _ = { s.pw with wake := if firstDue s .south || firstDue s .north then s.pw.wake ||| 0x800 else s.pw.wake }
    cases firstDue s .south <;> cases firstDue s .north <;> simp [BitVec.or_assoc]

theorem exec_alarmBurstRepeat (s : State) (p : Port) (h : (portOf s p).alarm < 8) :
    exec (.alarmBurstRepeat p) s = .next (if alarmReady s p then alarmSent s p else s) := by
  rw [← alarmBurst_eq]
  exact if_pos h

theorem alarmBurstRepeat_sends (s : State) (p : Port) (ho : (portOf s p).alarmOn = true) (h0 : (portOf s p).alarm ≠ 0)
    (h8 : (portOf s p).alarm < 8) (hc : canBurst s p = true) (hr : relayOnAir s = false) :
    Does (.alarmBurstRepeat p) s fun t =>
      portOf t p = { portOf s p with alarm := (portOf s p).alarm - 1, alarmOn := (portOf s p).alarm != 1,
                                     txEnd := s.now + usCt 200, alarmTx := true, burstTx := true, txRel := false,
                                     bursts := (portOf s p).bursts + 1 } ∧
        portOf t (otherPort p) = portOf s (otherPort p) ∧ t.pw = { s.pw with wake := s.pw.wake ||| 0x800 } ∧
        Only [.sp, .np, .pw] s t := by
  have hready : alarmReady s p = true := by simp [alarmReady, ho, h0, hc, hr]
  refine ⟨alarmSent s p, ?_, alarmSent_portOf s p, alarmSent_portOf_other s p, alarmSent_pw s p, alarmSent_only s p⟩
  rw [exec_alarmBurstRepeat s p h8, if_pos hready]

theorem alarmBurstRepeat_idle (s : State) (p : Port)
    (h : (portOf s p).alarmOn = false ∨ (portOf s p).alarm = 0 ∨ 8 ≤ (portOf s p).alarm ∨ canBurst s p = false ∨
      relayOnAir s = true) : Idle (.alarmBurstRepeat p) s := by
  by_cases h8 : (portOf s p).alarm < 8
  · have hready : alarmReady s p = false := by
      obtain h | h | h | h | h := h
      case inr.inr.inl => exact absurd h8 (Nat.not_lt.mpr h)
      all_goals simp [alarmReady, h]
    exact (exec_alarmBurstRepeat s p h8).trans (by rw [hready]; rfl)
  · exact if_neg h8

/-! ## A break is recognised, relayed, held back and ended (10 R352, R373 to R376) -/

/-- The port that relays a break now. -/
def relayUnit (s : State) (q : Port) : PortUnit :=
  { portOf s q with
    brkOut := true, brkRelay := true, brkDue := false, relaying := false, txEnd := s.now,
    endOut := if transmitting s (portOf s q) && !(portOf s q).brkOut then some .missing else (portOf s q).endOut }

/-- The port can relay a break. -/
def canRelay (s : State) (q : Port) : Bool := portEnabled s q && s.sup.vport && !(portOf s q).brkIn

/-- An own alarm burst, or what R352 asks for, holds a break back. -/
def breakWaits (s : State) (q : Port) : Bool := alarmOnAir s || !breakFree s q

theorem startBreak_of_can (s : State) (q : Port) (hc : canRelay s q = true) : startBreak s q =
    if breakWaits s q then setPort s q { portOf s q with brkDue := true } else setPort s q (relayUnit s q) := by
  have hout : (!breakPort s q || (portOf s q).brkIn) = false := by
    rw [← Bool.not_eq_true', Bool.not_or, Bool.not_not]
    exact hc
  have hput : setPort (putBreak s q) q { portOf (putBreak s q) q with brkRelay := true, brkDue := false } =
      setPort s q (relayUnit s q) := by cases q <;> rfl
  rw [← hput]
  exact if_neg (Bool.eq_false_iff.mp hout)

/-- A break that cannot be relayed waits no more; as long as it comes in, nothing else happens. -/
theorem startBreak_cannot (s : State) (q : Port) (hc : canRelay s q = false) (hb : (portOf s (otherPort q)).brkIn = true) :
    startBreak s q = setPort s q { portOf s q with brkDue := false } := by
  have hout : (!breakPort s q || (portOf s q).brkIn) = true := by
    rw [← Bool.not_eq_false', Bool.not_or, Bool.not_not]
    exact hc
  unfold startBreak
  rw [if_pos hout]
  exact if_pos (by rw [portOf_setPort_other, hb])

/-- The device has recognised a break: a frame that was arriving is lost, with its copy. -/
def breakSeen (s : State) (p : Port) : State :=
  let s := if (portOf s p).cut then endCut s p none else s
  setPort s p { portOf s p with brkIn := true, rxBusy := false, cut := false }

theorem exec_breakRecognise (s : State) (p : Port) (hh : s.rst.held = false) (he : portEnabled s p = true)
    (hb : (portOf s p).brkIn = false) : exec (.breakRecognise p) s = .next (startBreak (breakSeen s p) (otherPort p)) :=
  if_neg (by simp [hh, he, hb])

theorem breakSeen_uncut (s : State) (p : Port) (h : (portOf s p).cut = false) :
    breakSeen s p = setPort s p { portOf s p with brkIn := true, rxBusy := false, cut := false } := by
  rw [breakSeen, if_neg (Bool.eq_false_iff.mp h)]

theorem breakSeen_portOf (s : State) (p : Port) :
    portOf (breakSeen s p) p = { portOf s p with brkIn := true, rxBusy := false, cut := false } := by
  unfold breakSeen
  dsimp only
  split
  · rw [portOf_setPort_same, endCut_none, portOf_setPort_other']
  · rw [portOf_setPort_same]

theorem breakSeen_only (s : State) (p : Port) : Only [.sp, .np] s (breakSeen s p) := by
  unfold breakSeen
  dsimp only
  split
  · rw [endCut_none]
    exact (setPort_only ..).trans (setPort_only ..)
  · exact setPort_only ..

/-- While the break comes in, its relay changes the other port alone. -/
theorem startBreak_incoming (s : State) (q : Port) (h : (portOf s (otherPort q)).brkIn = true) :
    ∃ u, startBreak s q = setPort s q u := by
  cases hc : canRelay s q with
  | false => exact ⟨_, startBreak_cannot s q hc h⟩
  | true =>
    rw [startBreak_of_can s q hc]
    split <;> exact ⟨_, rfl⟩

/-- What decides the relay of a break does not depend on the port by which it comes in. -/
theorem breakSeen_decides (s : State) (p : Port) (h : (portOf s p).cut = false) :
    portOf (breakSeen s p) (otherPort p) = portOf s (otherPort p) ∧
      canRelay (breakSeen s p) (otherPort p) = canRelay s (otherPort p) ∧
      breakWaits (breakSeen s p) (otherPort p) = breakWaits s (otherPort p) ∧
      relayUnit (breakSeen s p) (otherPort p) = relayUnit s (otherPort p) := by
  rw [breakSeen_uncut s p h]
  cases p <;> exact ⟨rfl, rfl, rfl, rfl⟩

theorem breakRecognise_relays (s : State) (p : Port) (hh : s.rst.held = false) (he : portEnabled s p = true)
    (hb : (portOf s p).brkIn = false) : Does (.breakRecognise p) s fun t =>
    let u := portOf s (otherPort p)
    let can := portEnabled s (otherPort p) && s.sup.vport && !u.brkIn
    let waits := alarmOnAir s || !breakFree s (otherPort p)
    portOf t p = { portOf s p with brkIn := true, rxBusy := false, cut := false } ∧
      ((portOf s p).cut = false → can = false → portOf t (otherPort p) = { u with brkDue := false }) ∧
      ((portOf s p).cut = false → can = true → waits = true → portOf t (otherPort p) = { u with brkDue := true }) ∧
      ((portOf s p).cut = false → can = true → waits = false → portOf t (otherPort p) = { u with
        brkOut := true, brkRelay := true, brkDue := false, relaying := false, txEnd := s.now,
        endOut := if transmitting s u && !u.brkOut then some .missing else u.endOut }) ∧ Only [.sp, .np] s t := by
  have hin : (portOf (breakSeen s p) (otherPort (otherPort p))).brkIn = true := by rw [otherPort_otherPort, breakSeen_portOf]
  obtain ⟨u, hu⟩ := startBreak_incoming (breakSeen s p) (otherPort p) hin
  refine ⟨_, exec_breakRecognise s p hh he hb, ?_, fun hcut hc => ?_, fun hcut hc hw => ?_, fun hcut hc hw => ?_, ?_⟩
  · rw [hu, portOf_setPort_other', breakSeen_portOf]
  · obtain ⟨hport, hcan, -⟩ := breakSeen_decides s p hcut
    rw [startBreak_cannot _ _ (hcan.trans hc) hin, portOf_setPort_same, hport]
  · obtain ⟨hport, hcan, hwaits, -⟩ := breakSeen_decides s p hcut
    rw [startBreak_of_can _ _ (hcan.trans hc), if_pos (hwaits.trans hw), portOf_setPort_same, hport]
  · obtain ⟨-, hcan, hwaits, hunit⟩ := breakSeen_decides s p hcut
    rw [startBreak_of_can _ _ (hcan.trans hc), if_neg (Bool.eq_false_iff.mp (hwaits.trans hw)), portOf_setPort_same, hunit]
    rfl
  · rw [hu]
    exact (breakSeen_only s p).trans (setPort_only ..)

theorem breakRecognise_idle (s : State) (p : Port)
    (h : s.rst.held = true ∨ portEnabled s p = false ∨ (portOf s p).brkIn = true) : Idle (.breakRecognise p) s :=
  if_pos (by obtain h | h | h := h <;> simp [h])

/-- The pattern of a `CHAIN_BREAK` is no relay. -/
theorem chainBreakGo_relay (s : State) (q : Port) : (portOf (chainBreakGo s) q).brkRelay = (portOf s q).brkRelay ∧
    (portOf (chainBreakGo s) q).brkDue = (portOf s q).brkDue := by
  unfold chainBreakGo
  split
  · cases q <;> exact ⟨rfl, rfl⟩
  · exact ⟨rfl, rfl⟩

theorem breakDue_relays (s : State) (q : Port) (hd : (portOf s q).brkDue = true) (hc : canRelay s q = true)
    (hw : breakWaits s q = false) : breakDue s q = setPort s q (relayUnit s q) := by
  rw [breakDue, if_pos hd, startBreak_of_can s q hc, if_neg (Bool.eq_false_iff.mp hw)]

theorem breakDue_none (s : State) (q : Port) (h : (portOf s q).brkDue = false) : breakDue s q = s :=
  if_neg (Bool.eq_false_iff.mp h)

theorem tickBreak_starts (s : State) (q : Port) (hd : (portOf s q).brkDue = true) (ha : alarmOnAir s = false)
    (hf : breakFree s q = true) (he : portEnabled s q = true) (hv : s.sup.vport = true) (hb : (portOf s q).brkIn = false)
    (ho : (portOf s (otherPort q)).brkDue = false) :
    (portOf (tickBreak s) q).brkRelay = true ∧ (portOf (tickBreak s) q).brkDue = false := by
  have hdue : breakDue s q = setPort s q (relayUnit s q) :=
    breakDue_relays s q hd (by simp [canRelay, he, hv, hb]) (by simp [breakWaits, ha, hf])
  have hboth : breakDue (breakDue s .south) .north = setPort s q (relayUnit s q) := by
    cases q with
    | south => rw [hdue]; exact breakDue_none (setPort s .south (relayUnit s .south)) .north ho
    | north => rw [breakDue_none s .south ho, hdue]
  obtain ⟨hrelay, hgone⟩ := chainBreakGo_relay (setPort s q (relayUnit s q)) q
  rw [tickBreak_eq, hboth, hrelay, hgone, portOf_setPort_same]
  exact ⟨rfl, rfl⟩

theorem exec_breakEnd (s : State) (p : Port) : exec (.breakEnd p) s =
    if !(portOf s p).brkIn then .next s
    else if (portOf s (otherPort p)).brkRelay || (portOf s (otherPort p)).brkDue then
      .next (setPort s p { portOf s p with brkIn := false })
    else .next (fullReset s 5) := rfl

theorem breakEnd_leaves_relay (s : State) (p : Port) (hb : (portOf s p).brkIn = true)
    (hr : (portOf s (otherPort p)).brkRelay = true) : Does (.breakEnd p) s fun t =>
    t = setPort s p { portOf s p with brkIn := false } :=
  ⟨_, by rw [exec_breakEnd, if_neg (by simp [hb]), if_pos (by simp [hr])], rfl⟩

theorem breakEnd_idle (s : State) (p : Port) (hb : (portOf s p).brkIn = false) : Idle (.breakEnd p) s :=
  (exec_breakEnd s p).trans (if_pos (by simp [hb]))

theorem breakRelayEnd_idle (s : State) (p : Port)
    (h : (portOf s p).brkRelay = false ∨ (portOf s (otherPort p)).brkIn = true) : Idle (.breakRelayEnd p) s :=
  if_neg (by obtain h | h := h <;> simp [h])

/-! ## The break of a `CHAIN_BREAK` ends in its reply (14 R542) -/

theorem deliver_brk (s : State) (m : Msg) (b : List Byte) : (deliver s m b).chn.brk = s.chn.brk := by
  unfold deliver
  split
  · rfl
  · split
    · rfl
    · cases m.port <;> rfl

theorem deliver_brkOut (s : State) (m : Msg) (b : List Byte) : (deliver s m b).np.brkOut = s.np.brkOut := by
  unfold deliver
  split
  · rfl
  · split
    · rfl
    · cases m.port <;> rfl

theorem reply_brk (s : State) (v : BitVec 16) (m : Msg) (e n : Bool) (b : List Byte) :
    (reply s v m e n b).chn.brk = s.chn.brk :=
  (foldl_keeps (·.chn.brk) _ (fun _ _ => deliver_brk ..) _ _).trans (deliver_brk ..)

theorem reply_brkOut (s : State) (v : BitVec 16) (m : Msg) (e n : Bool) (b : List Byte) :
    (reply s v m e n b).np.brkOut = s.np.brkOut :=
  (foldl_keeps (·.np.brkOut) _ (fun _ _ => deliver_brkOut ..) _ _).trans (deliver_brkOut ..)

/-- The pattern of the oldest `CHAIN_BREAK` is over; a relay on the same port goes on. -/
def patternEnded (s : State) (l : List Waiting) : State := { s with chn.brk := l, np.brkOut := s.np.brkRelay }

theorem patternEnded_only (s : State) (l : List Waiting) : Only [.chn, .np] s (patternEnded s l) :=
  (only_chn (by decide) s { s.chn with brk := l }).trans (only_np (by decide) ..)

theorem exec_chainBreakEnd (s : State) (w : Waiting) (l : List Waiting) (ha : active s = true) (hb : s.chn.brk = w :: l)
    (ho : s.np.brkOut = true ∨ breakPort s .north = false) :
    exec .chainBreakEnd s = .next (chainBreakGo (replyOk (patternEnded s l) w.verb w.msg [])) := by
  show execChainBreakEnd s = _
  unfold execChainBreakEnd
  rw [hb]
  exact if_neg (by obtain h | h := ho <;> simp [ha, h])

/-- A pattern stays on the line, and only one that waits begins. -/
theorem chainBreakGo_brkOut (s : State) : (s.np.brkOut = true → (chainBreakGo s).np.brkOut = true) ∧
    (s.chn.brk = [] → chainBreakGo s = s) :=
  ⟨fun h => by rw [chainBreakGo, if_neg (by simp [h]), h], fun h => if_neg (by simp [h])⟩

theorem chainBreakEnd_answers (s : State) (w : Waiting) (l : List Waiting) (ha : active s = true) (hb : s.chn.brk = w :: l)
    (ho : s.np.brkOut = true ∨ breakPort s .north = false) (hn : noWaiters s w.verb w.msg = true) : Does .chainBreakEnd s fun t =>
    t.chn.brk = l ∧ t.chn.addr = s.chn.addr ∧ t.rst = s.rst ∧ HostReply s t w.verb w.msg false false [] ∧
      (s.np.brkRelay = true → t.np.brkOut = true) ∧ (s.np.brkRelay = false → l = [] → t.np.brkOut = false) ∧
      Only replyParts s t := by
  have hreply : HostReply (patternEnded s l) (replyOk (patternEnded s l) w.verb w.msg []) w.verb w.msg false false [] :=
    reply_of_noWaiters _ _ _ _ _ _ hn
  have hbrk : (replyOk (patternEnded s l) w.verb w.msg []).chn.brk = l := reply_brk ..
  have hout : (replyOk (patternEnded s l) w.verb w.msg []).np.brkOut = s.np.brkRelay := reply_brkOut ..
  have haddr : (replyOk (patternEnded s l) w.verb w.msg []).chn.addr = s.chn.addr := reply_addr ..
  have honly : Only replyParts s (replyOk (patternEnded s l) w.verb w.msg []) :=
    ((patternEnded_only s l).mono (by decide)).trans (replyOk_only ..)
  refine ⟨_, exec_chainBreakEnd s w l ha hb ho, ?_⟩
  generalize replyOk (patternEnded s l) w.verb w.msg [] = t at hreply hbrk hout haddr honly
  have hgo := chainBreakGo_only t
  have hchn : (chainBreakGo t).chn = t.chn := hgo.same .chn (by decide)
  have hmbx : (chainBreakGo t).mbx = t.mbx := hgo.same .mbx (by decide)
  have hall : Only replyParts s (chainBreakGo t) := honly.trans (hgo.mono (by decide))
  obtain ⟨hstays, hnone⟩ := chainBreakGo_brkOut t
  refine ⟨by rw [hchn, hbrk], by rw [hchn, haddr], hall.same .rst (by decide), ?_, fun h => hstays (hout.trans h),
    fun h hl => ?_, hall⟩
  · have hs : HostReply s t w.verb w.msg false false [] := hreply.of_addr rfl
    rwa [HostReply, hmbx]
  · rw [hnone (hbrk.trans hl), hout, h]

theorem chainBreakEnd_idle (s : State) (h : s.chn.brk = [] ∨ (breakPort s .north = true ∧ s.np.brkOut = false)) :
    Idle .chainBreakEnd s := by
  show execChainBreakEnd s = _
  unfold execChainBreakEnd
  split
  · rfl
  · rename_i w l hb
    obtain h | ⟨hp, ho⟩ := h
    · exact nomatch hb.symm.trans h
    · exact if_pos (by simp [hp, ho])

/-! ## The host wakes the device, and is woken (12 R463; 23 R848, R865) -/

/-- Cause 0 asserts no `HWAKE_N`. -/
theorem latchWake_host_cause (s : State) : latchWake s 1 = { s with pw.wake := s.pw.wake ||| 1 } := by
  have hnone : 1#32 &&& ~~~ s.pw.wake &&& 0x3FC#32 = 0 := by
    rw [BitVec.and_assoc, BitVec.and_comm (~~~ s.pw.wake), ← BitVec.and_assoc, show 1#32 &&& 0x3FC#32 = 0#32 by decide,
      BitVec.zero_and]
    rfl
  exact if_pos hnone

theorem exec_hcsWake (s : State) : exec .hcsWake s =
    if !running s || !s.sup.vio || (awake s && s.pw.decided.isNone) then .next s
    else .next (wakeFor { s with pw.wakeBurst := true } 1) := rfl

theorem hcsWake_wakes (s : State) (hr : running s = true) (hv : s.sup.vio = true) (hw : awake s = false ∨ s.pw.decided ≠ none) :
    Does .hcsWake s fun t =>
      t = { s with pw := { s.pw with wakeBurst := true, wakeDue := true, wake := s.pw.wake ||| 1 } } := by
  have hlow : (awake s && s.pw.decided.isNone) = false := by
    obtain h | h := hw <;> simp [Option.isSome_iff_ne_none, h]
  refine ⟨_, (exec_hcsWake s).trans (if_neg (by simp [hr, hv, hlow])), ?_⟩
  unfold wakeFor
  rw [latchWake_host_cause]
  exact if_neg (Bool.eq_false_iff.mp hlow)

theorem hcsWake_idle (s : State) (h : running s = false ∨ s.sup.vio = false ∨ awake s = true ∧ s.pw.decided = none) :
    Idle .hcsWake s :=
  (exec_hcsWake s).trans (if_pos (by obtain h | h | ⟨ha, hd⟩ := h <;> simp [*]))

theorem hwakeRelease_releases (s : State) (hw : s.host.hwake = true) (hi : s.host.irq.getLsbD 11 = false)
    (ht : usCt 100 ≤ s.now - s.host.hwakeAt) : Does .hwakeRelease s fun t =>
    t = { s with host := { s.host with hwake := false } } := ⟨_, if_pos (by rw [hw, hi, decide_eq_true ht]; rfl), rfl⟩

theorem hwakeRelease_idle (s : State) (h : s.host.irq.getLsbD 11 = true ∨ s.now - s.host.hwakeAt < usCt 100) :
    Idle .hwakeRelease s := if_neg (by obtain h | h := h <;> simp [h])

/-- Settles O34: bursts by `burstTaken`, `sendBurst` and `alarmSent`; the first alarm burst south decides nothing of the one north
(`firstDue_alarmFirst`); breaks by what `startBreak` makes of the other port; the reply by `reply_of_noWaiters`. -/
theorem burstsBreaksAndWake : Obligations.BurstsBreaksAndWake :=
  ⟨burstDetect_latches, burstDetect_idle, burstRelay_sends, burstRelay_idle, alarmBurstSend_sends, alarmBurstRepeat_sends,
    alarmBurstRepeat_idle, wakeBurstSend_sends, wakeBurstSend_idle, breakRecognise_relays, breakRecognise_idle, tickBreak_starts,
    breakEnd_leaves_relay, breakEnd_idle, breakRelayEnd_idle, chainBreakEnd_answers, chainBreakEnd_idle, hcsWake_wakes,
    hcsWake_idle, hwakeRelease_releases, hwakeRelease_idle⟩

end Sys2Proof.Machine

/-! PROOFS. Frames that a device numbers and queues, frames that it starts or lets wait, and what replies leave of the chain's
state (10 R352; 11 R411, R425, R427; 13 R474). -/

namespace Sys2Proof.Machine

/-! ## A frame waits at a port -/

theorem enqueueTx_portOf (s : State) (p : Port) (f : Frame) :
    portOf (enqueueTx s p f) p = { portOf s p with txq := (portOf s p).txq ++ [f] } := portOf_setPort_same ..

theorem enqueueTx_portOf_other (s : State) (p : Port) (f : Frame) :
    portOf (enqueueTx s p f) (otherPort p) = portOf s (otherPort p) := portOf_setPort_other ..

/-- A new frame behind those that wait at its port (11 R427). -/
theorem sendFrame_portOf (s : State) (p : Port) (ty : BitVec 4) (d : BitVec 7) (b : List Byte) :
    portOf (sendFrame s p ty d b) p = { portOf s p with txq := (portOf s p).txq ++ [(originate s ty d b).2] } := by
  cases p <;> rfl

/-- Of the chain's state a new frame moves its number and the crumb message alone. -/
theorem sendFrame_chn (s : State) (p : Port) (ty : BitVec 4) (d : BitVec 7) (b : List Byte) :
    (sendFrame s p ty d b).chn = (originate s ty d b).1.chn := by cases p <;> rfl

theorem sendFrame_north_only (s : State) (ty : BitVec 4) (d : BitVec 7) (b : List Byte) :
    Only [.chn, .np] s (sendFrame s .north ty d b) :=
  ((originate_only s ty d b).mono (by decide)).trans (only_np (by decide) ..)

theorem sendFrame_south_only (s : State) (ty : BitVec 4) (d : BitVec 7) (b : List Byte) :
    Only [.chn, .sp] s (sendFrame s .south ty d b) :=
  ((originate_only s ty d b).mono (by decide)).trans (only_sp (by decide) ..)

theorem sendAck_only (s : State) (p : Port) (f : Frame) : Only [.chn, .sp, .np] s (sendAck s p f) := sendFrame_link_only ..

/-- A new frame waits with its type, its payload and the device's address (11 R427). -/
theorem sendFrame_queues (s : State) (p : Port) (ty : BitVec 4) (d : BitVec 7) (b : List Byte) :
    ∃ g, (portOf (sendFrame s p ty d b) p).txq = (portOf s p).txq ++ [g] ∧ g.type = ty ∧ g.dst = d ∧ g.src = s.chn.addr ∧
      g.payload = b :=
  ⟨(originate s ty d b).2, congrArg PortUnit.txq (sendFrame_portOf ..), rfl, rfl, rfl, rfl⟩

/-- The acknowledgement names the frame's number to its source, out of the port by which it came (11 R425). -/
theorem sendAck_queues (s : State) (p : Port) (f : Frame) : ∃ a, (portOf (sendAck s p f) p).txq = (portOf s p).txq ++ [a] ∧
    a.type = 0xA ∧ a.dst = f.src ∧ a.payload = [f.lseq, 0] := by
  obtain ⟨a, hqueue, htype, hdst, -, hpayload⟩ := sendFrame_queues s p 0xA f.src [f.lseq, 0]
  exact ⟨a, hqueue, htype, hdst, hpayload⟩

/-- A frame of another type that waits tells nothing of whether one has left. -/
theorem frameGone_enqueueTx (s : State) (p : Port) (f : Frame) (k : BitVec 4) (n : Byte) (h : f.type ≠ k) :
    frameGone (enqueueTx s p f) k n = frameGone s k n := by
  have hqueued (l : List Frame) : ((l ++ [f]).any fun x => x.type == k && x.lseq == n && !x.rtx) =
      l.any fun x => x.type == k && x.lseq == n && !x.rtx := by
    simp [beq_eq_false_iff_ne.mpr h]
  cases p with
  | south => exact congrArg₂ and (congrArg₂ and (congrArg₂ and (congrArg not (hqueued s.sp.txq)) rfl) rfl) rfl
  | north => exact congrArg₂ and (congrArg₂ and (congrArg₂ and rfl (congrArg not (hqueued s.np.txq))) rfl) rfl

/-! ## An own frame starts, or waits before the others (10 R352) -/

theorem putOnLine_chn (s : State) (p : Port) (f : Frame) (c : Crust) (lead : Nat) : (putOnLine s p f c lead).chn =
    { s.chn with fltTimer := (putOnLine s p f c lead).chn.fltTimer } := by
  unfold putOnLine
  dsimp only
  split <;> cases p <;> rfl

/-- A frame that starts or waits leaves what its port's generation and its fault field do not concern. -/
theorem startOrWait_chn (s : State) (p : Port) (f : Frame) : (startOrWait s p f).chn =
    { s.chn with daNew := (startOrWait s p f).chn.daNew, calValid := (startOrWait s p f).chn.calValid,
                 fltTimer := (startOrWait s p f).chn.fltTimer } := by
  unfold startOrWait
  split
  · rfl
  · split
    · rw [startOwn, putOnLine_chn, latchGen_chn]
    · rw [(waitTx_only s p f).same .chn (by decide)]

/-- A frame of a noun carries the device's own conditions, and its payload as it is (11 R411). -/
theorem formOwn_noun (s : State) (g : Gen) (f : Frame) (lead : Nat) (h : isNoun f.type = true) :
    (formOwn s g f lead).flt = ownFlt s ∧ (formOwn s g f lead).payload = f.payload := by
  have hkinds : ∀ t : BitVec 4, isNoun t = true → isTime t = false ∧ ¬ (t = 5 ∨ t = 6) := by decide
  obtain ⟨htime, hstamp⟩ := hkinds _ h
  unfold formOwn
  rw [stampTtx, if_neg hstamp]
  dsimp only
  rw [htime, h]
  exact ⟨rfl, rfl⟩

/-- A noun that finds its line free leaves at once. -/
theorem startOrWait_starts (s : State) (p : Port) (f : Frame) (hl : sendLive s p = true) (hf : lineFree s p = true)
    (hg : (portOf s p).genDue = none) (hn : isNoun f.type = true) : ∃ x, (portOf (startOrWait s p f) p).txNow = some x ∧
      x.type = f.type ∧ x.flt = ownFlt s ∧ x.payload = f.payload := by
  obtain ⟨hflt, hpayload⟩ := formOwn_noun s (txGen (portOf s p)) f (preambleNs (txGen (portOf s p))) hn
  obtain ⟨htype, -⟩ := formOwn_number s (txGen (portOf s p)) f (preambleNs (txGen (portOf s p)))
  refine ⟨_, ?_, htype, hflt, hpayload⟩
  rw [startOrWait, if_neg (by simp [hl]), if_pos hf, latchGen_of_none s p hg, startOwn, putOnLine_portOf]
  rfl

theorem startOrWait_waits (s : State) (p : Port) (f : Frame) (hl : sendLive s p = true) (hf : lineFree s p = false) :
    (portOf (startOrWait s p f) p).txq = f :: (portOf s p).txq := by
  rw [startOrWait, if_neg (by simp [hl]), if_neg (by simp [hf]), waitTx, if_pos hl, portOf_setPort_same]

/-! ## What replies leave -/

/-- The chain's state but for what numbers frames and waits for their acknowledgement. -/
def beyondReplies (c : ChnUnit) : ChnUnit := { c with crumb := [], lseq := 0, unacked := [], seenV := [] }

theorem deliver_beyondReplies (s : State) (m : Msg) (b : List Byte) :
    beyondReplies (deliver s m b).chn = beyondReplies s.chn := by
  unfold deliver
  split
  · rfl
  · split
    · rfl
    · cases m.port <;> rfl

theorem replyOk_beyondReplies (s : State) (v : BitVec 16) (m : Msg) (b : List Byte) :
    beyondReplies (replyOk s v m b).chn = beyondReplies s.chn :=
  (foldl_keeps (fun u => beyondReplies u.chn) _ (fun _ _ => deliver_beyondReplies ..) _ _).trans (deliver_beyondReplies ..)

/-- A reply to the host touches its pair and the host's interrupts. -/
theorem deliver_host_only (s : State) (m : Msg) (b : List Byte) (h : m.src = none) : Only [.mbx, .host] s (deliver s m b) := by
  have hput : deliver s m b = placeOut { s with mbx.lastReply := b } m.mbx b := by simp only [deliver, h]
  rw [hput]
  exact (only_mbx (by decide) ..).trans (placeOut_only ..)

theorem irqSet_bit (s : State) (m : BitVec 13) (i : Nat) (h : m.getLsbD i = true) : (irqSet s m).host.irq.getLsbD i = true := by
  show (s.host.irq ||| m).getLsbD i = true
  rw [BitVec.getLsbD_or, h, Bool.or_true]

/-! ## Streamed records at the head (14 R531) -/

/-- A record comes behind the others of its kind; the oldest of 128 is lost. -/
theorem queueRecord_recs (s : State) (k : Fin 3) (src : BitVec 7) (b : List Byte) : (queueRecord s k src b).chn.recs[k] =
    if s.chn.recs[k].recs.length < 128 then { s.chn.recs[k] with recs := s.chn.recs[k].recs ++ [(src, b)] }
    else { recs := s.chn.recs[k].recs.drop 1 ++ [(src, b)], lost := satInc s.chn.recs[k].lost } := by
  simp [queueRecord]

end Sys2Proof.Machine

/-! PROOFS. Retransmission, link failures, reply limits, window slots and the sweep (11 R417 to R421, R426; 12 R469; 13 R487;
O30). -/

namespace Sys2Proof.Machine

/-! ## A forwarded message that fails is answered to the host (12 R469; 13 R487) -/

/-- The state in which the head answers for a forwarded message: it waits for no reply any more. -/
def forwardEnded (s : State) (i : Fin 4) : State := { s with chn.fwd := s.chn.fwd.filter fun x => x.pair != i }

/-- The error reply in the pair of a forwarded message. -/
def linkFailReply (s : State) (i : Fin 4) (f : Forwarded) (detail : Nat) : List Byte :=
  withTrailer (replyBody s f.verb (hostMsg i f.tag []) true false (leBytes 2 0xB ++ leBytes 2 detail))

/-- The host's registers name the failure, behind its error reply. -/
def linkFailed (s : State) (i : Fin 4) (f : Forwarded) (detail : Nat) : State :=
  let u := deliver (forwardEnded s i) (hostMsg i f.tag []) (linkFailReply s i f detail)
  irqSet { u with host.lfail := BitVec.ofNat 32 (f.target.toNat % 128 + 128 + 256 * i.val) } 0x200

theorem linkFail_eq (s : State) (i : Fin 4) (f : Forwarded) (detail : Nat)
    (h : (s.chn.fwd.find? fun x => x.pair == i) = some f) : linkFail s i detail = linkFailed s i f detail := by
  rw [linkFail, h]
  rfl

theorem linkFailed_leaves (s : State) (i : Fin 4) (f : Forwarded) (detail : Nat) :
    (linkFailed s i f detail).chn = (forwardEnded s i).chn ∧
      (linkFailed s i f detail).mbx.pairs[i].outb = linkFailReply s i f detail ∧
      (linkFailed s i f detail).mbx.pairs[i].full = true ∧ (linkFailed s i f detail).host.irq.getLsbD 9 = true ∧
      Only [.chn, .mbx, .host] s (linkFailed s i f detail) := by
  have hreply := deliver_host_only (forwardEnded s i) (hostMsg i f.tag []) (linkFailReply s i f detail) rfl
  obtain ⟨-, hpair⟩ := deliver_mbx (forwardEnded s i) (hostMsg i f.tag []) (linkFailReply s i f detail)
  obtain ⟨hout, hfull, -⟩ := hpair rfl
  exact ⟨hreply.same .chn (by decide), hout, hfull, irqSet_bit _ _ 9 (by decide),
    (only_chn (by decide) s (forwardEnded s i).chn).trans
      ((hreply.mono (by decide)).trans ((only_host (by decide) ..).trans ((irqSet_only ..).mono (by decide))))⟩

/-! ## A frame that no ACK ends (11 R426) -/

/-- The frame is counted as sent once more. -/
def triedAgain (s : State) (n : Byte) : State :=
  { s with chn.unacked := s.chn.unacked.map fun v => if v.frame.lseq == n then { v with tries := v.tries + 1 } else v,
           chn.rtxs := satInc s.chn.rtxs }

/-- The frame is given up, and counted as a link failure. -/
def givenUp (s : State) (n : Byte) : State :=
  { s with chn := { s.chn with unacked := dropUnacked s.chn.unacked n, lfail := satInc s.chn.lfail } }

section Unacknowledged

variable (s : State) (n : Byte) (u : Unacked) (ha : active s = true)
  (hu : (s.chn.unacked.find? fun v => v.frame.lseq == n) = some u)
include ha hu

theorem exec_retransmitTimeout_again (ht : u.tries < 3) :
    exec (.retransmitTimeout n) s = .next (enqueueTx (triedAgain s n) u.port { u.frame with rtx := true }) := by
  show execRetransmitTimeout n s = _
  unfold execRetransmitTimeout
  rw [if_neg (by simp [ha]), hu]
  exact if_pos ht

theorem exec_retransmitTimeout_fails (ht : 3 ≤ u.tries) :
    exec (.retransmitTimeout n) s = .next (u.pair.elim (givenUp s n) fun i => linkFail (givenUp s n) i 0) := by
  show execRetransmitTimeout n s = _
  unfold execRetransmitTimeout
  rw [if_neg (by simp [ha]), hu]
  refine (if_neg (Nat.not_lt.mpr ht)).trans ?_
  cases u.pair <;> rfl

theorem retransmitTimeout_again (ht : u.tries < 3) : Does (.retransmitTimeout n) s fun t =>
    t.chn.rtxs = satInc s.chn.rtxs ∧ (portOf t u.port).txq = (portOf s u.port).txq ++ [{ u.frame with rtx := true }] ∧
      portOf t (otherPort u.port) = portOf s (otherPort u.port) ∧ t.chn.lfail = s.chn.lfail ∧ Only [.chn, .sp, .np] s t := by
  have hqueued := enqueueTx_only (triedAgain s n) u.port { u.frame with rtx := true }
  have hchn := hqueued.same .chn (by decide)
  have hcounted : Only [.chn] s (triedAgain s n) := only_chn (by decide) ..
  refine ⟨_, exec_retransmitTimeout_again s n u ha hu ht, congrArg ChnUnit.rtxs hchn, ?_, ?_, (congrArg ChnUnit.lfail hchn :),
    (hcounted.mono (by decide)).trans (hqueued.mono (by decide))⟩
  · rw [enqueueTx_portOf, portOf_of_only hcounted (by decide) (by decide)]
  · rw [enqueueTx_portOf_other, portOf_of_only hcounted (by decide) (by decide)]

theorem retransmitTimeout_gives_up (ht : 3 ≤ u.tries) (hp : u.pair = none) : Does (.retransmitTimeout n) s fun t =>
    t = { s with chn := { s.chn with unacked := dropUnacked s.chn.unacked n, lfail := satInc s.chn.lfail } } :=
  ⟨_, exec_retransmitTimeout_fails s n u ha hu ht, by rw [hp]; rfl⟩

theorem retransmitTimeout_answers (i : Fin 4) (f : Forwarded) (ht : 3 ≤ u.tries) (hp : u.pair = some i)
    (hf : (s.chn.fwd.find? fun x => x.pair == i) = some f) : Does (.retransmitTimeout n) s fun t =>
      t.chn.lfail = satInc s.chn.lfail ∧ t.chn.unacked = dropUnacked s.chn.unacked n ∧
        t.mbx.pairs[i].outb = withTrailer (replyBody s f.verb (hostMsg i f.tag []) true false (leBytes 2 0xB ++ leBytes 2 0)) ∧
        t.mbx.pairs[i].full = true ∧ t.host.irq.getLsbD 9 = true ∧ Only [.chn, .mbx, .host] s t := by
  have hexec := exec_retransmitTimeout_fails s n u ha hu ht
  rw [hp, Option.elim_some, linkFail_eq (givenUp s n) i f 0 hf] at hexec
  obtain ⟨hchn, hout, hfull, hirq, honly⟩ := linkFailed_leaves (givenUp s n) i f 0
  exact ⟨_, hexec, congrArg ChnUnit.lfail hchn, congrArg ChnUnit.unacked hchn, hout, hfull, hirq,
    (only_chn (by decide) s (givenUp s n).chn).trans honly⟩

end Unacknowledged

theorem retransmitTimeout_idle (s : State) (n : Byte) (h : (s.chn.unacked.find? fun v => v.frame.lseq == n) = none) :
    Idle (.retransmitTimeout n) s := by
  show execRetransmitTimeout n s = _
  unfold execRetransmitTimeout
  split
  · rfl
  · rw [h]

/-! ## No reply to a forwarded message in time (13 R487) -/

theorem exec_replyTimeout (s : State) (i : Fin 4) : exec (.replyTimeout i) s =
    if active s && s.chn.fwd.any fun x => x.pair == i && x.acked then .next (linkFail s i 1) else .next s := rfl

theorem replyTimeout_answers (s : State) (i : Fin 4) (f : Forwarded) (ha : active s = true)
    (hw : (s.chn.fwd.any fun x => x.pair == i && x.acked) = true) (hf : (s.chn.fwd.find? fun x => x.pair == i) = some f) :
    Does (.replyTimeout i) s fun t =>
      t.mbx.pairs[i].outb = withTrailer (replyBody s f.verb (hostMsg i f.tag []) true false (leBytes 2 0xB ++ leBytes 2 1)) ∧
        t.mbx.pairs[i].full = true ∧ t.host.irq.getLsbD 9 = true ∧ Only [.chn, .mbx, .host] s t := by
  obtain ⟨-, hleaves⟩ := linkFailed_leaves s i f 1
  exact ⟨_, by rw [exec_replyTimeout, if_pos (by rw [ha, hw]; rfl), linkFail_eq s i f 1 hf], hleaves⟩

theorem replyTimeout_idle (s : State) (i : Fin 4) (h : (s.chn.fwd.any fun x => x.pair == i && x.acked) = false) :
    Idle (.replyTimeout i) s := (exec_replyTimeout s i).trans (if_neg (by simp [h]))

/-! ## A frame in a slot (11 R418) -/

theorem sendSlot_eq (s : State) (ty : BitVec 4) (b : List Byte) :
    sendSlot s ty b = startOrWait (originate s ty 0 b).1 .south (originate s ty 0 b).2 := rfl

theorem sendSlot_leaves (s : State) (ty : BitVec 4) (b : List Byte) :
    (sendSlot s ty b).chn.win = s.chn.win ∧ (sendSlot s ty b).chn.recs = s.chn.recs ∧
      (sendSlot s ty b).chn.lseq = s.chn.lseq + 1 ∧ (s.sp.genDue = none → (sendSlot s ty b).tim = s.tim) ∧
      Only [.tim, .chn, .sp, .np] s (sendSlot s ty b) := by
  rw [sendSlot_eq]
  have hchn := startOrWait_chn (originate s ty 0 b).1 .south (originate s ty 0 b).2
  refine ⟨(congrArg ChnUnit.win hchn :), (congrArg ChnUnit.recs hchn :), (congrArg ChnUnit.lseq hchn :), fun hg => ?_,
    ((originate_only ..).mono (by decide)).trans (startOrWait_only ..)⟩
  obtain ⟨htim, -⟩ := startOrWait_of_none (originate s ty 0 b).1 .south (originate s ty 0 b).2 hg
  exact htim

theorem sendLive_iff (s : State) (p : Port) : sendLive s p = true ↔ portLive s p = true ∧ s.chn.addr ≠ 0x7F := by
  rw [sendLive, Bool.and_eq_true, bne_iff_ne]

theorem sendSlot_starts (s : State) (ty : BitVec 4) (b : List Byte) (hn : isNoun ty = true) (ha : s.chn.addr ≠ 0x7F)
    (hl : portLive s .south = true) (hf : lineFree s .south = true) (hg : s.sp.genDue = none) :
    ∃ x, (sendSlot s ty b).sp.txNow = some x ∧ x.type = ty ∧ x.flt = ownFlt s ∧ x.payload = b :=
  startOrWait_starts (originate s ty 0 b).1 .south (originate s ty 0 b).2 ((sendLive_iff s .south).mpr ⟨hl, ha⟩) hf hg hn

theorem sendSlot_waits (s : State) (ty : BitVec 4) (b : List Byte) (ha : s.chn.addr ≠ 0x7F) (hl : portLive s .south = true)
    (hf : lineFree s .south = false) : ∃ x, (sendSlot s ty b).sp.txq = x :: s.sp.txq ∧ x.type = ty ∧ x.payload = b :=
  ⟨_, startOrWait_waits (originate s ty 0 b).1 .south (originate s ty 0 b).2 ((sendLive_iff s .south).mpr ⟨hl, ha⟩) hf, rfl, rfl⟩

/-! ## The device's slot in a window (11 R418, R420, R421) -/

/-- A device without an address has no slot. -/
theorem assigned_of_myWindow (s : State) (w : Window) (h : myWindow s = some w) : s.chn.addr ≠ 0x7F := by
  intro haddr
  have hnone : myWindow s = none := by
    unfold myWindow
    split
    · rfl
    · rw [haddr]
      exact if_pos (by simp)
  exact nomatch hnone.symm.trans h

/-- The slot of a window is taken. -/
def ownSlotTaken (s : State) (w : Window) : State := { s with chn.win := some { w with done := true } }

/-- The head queues its own record, too (14 R531). -/
def recordKept (s : State) (k : Fin 3) (b : List Byte) : State := if isHead s then queueRecord s k s.chn.addr b else s

theorem recordKept_recs (s : State) (k : Fin 3) (b : List Byte) : ∃ r, recordKept s k b = { s with chn.recs := r } ∧
    (isHead s = false → r = s.chn.recs) ∧
    (isHead s = true → s.chn.recs[k].recs.length < 128 → r[k].recs = s.chn.recs[k].recs ++ [(s.chn.addr, b)]) := by
  unfold recordKept
  cases isHead s with
  | false => exact ⟨s.chn.recs, rfl, fun _ => rfl, fun h => absurd h (by decide)⟩
  | true =>
    refine ⟨(queueRecord s k s.chn.addr b).chn.recs, rfl, fun h => absurd h (by decide), fun _ hroom => ?_⟩
    rw [queueRecord_recs, if_pos hroom]

/-- A window's frame is a record of one of the three kinds, and a noun. -/
theorem kindType_kind (k : BitVec 2) : (∃ i, recKind (kindType k) = some i) ∧ isNoun (kindType k) = true := by
  revert k
  decide

section Slot

variable (s : State) (w : Window) (ha : active s = true) (hw : myWindow s = some w) (hd : w.done = false)
  (ht : slotAt s w ≤ s.now)
include ha hw hd ht

theorem exec_windowSlotSend_record (i : Fin 3) (b : List Byte) (u : State) (hi : recKind (kindType w.kind) = some i)
    (hr : takeRecord (ownSlotTaken s w) w.kind = some (b, u)) :
    exec .windowSlotSend s = .next (sendSlot (recordKept u i b) (kindType w.kind) b) := by
  have hrecord : takeRecord { s with chn.win := some { w with done := true } } w.kind = _ := hr
  show execWindowSlotSend s = _
  unfold execWindowSlotSend
  rw [if_neg (by simp [ha]), hw]
  dsimp only
  rw [if_neg (by simp [hd, ht]), hrecord]
  dsimp only
  rw [hi]
  rfl

theorem exec_windowSlotSend_empty (hr : takeRecord (ownSlotTaken s w) w.kind = none) : exec .windowSlotSend s =
    if s.chn.addr.toNat = w.count.toNat then .next (sendSlot (ownSlotTaken s w) 4 []) else .next (ownSlotTaken s w) := by
  have hrecord : takeRecord { s with chn.win := some { w with done := true } } w.kind = _ := hr
  show execWindowSlotSend s = _
  unfold execWindowSlotSend
  rw [if_neg (by simp [ha]), hw]
  dsimp only
  rw [if_neg (by simp [hd, ht]), hrecord]
  rfl

/-- A slot with a record, whatever its kind. -/
theorem windowSlotSend_record (b : List Byte) (a : AcqUnit)
    (hr : takeRecord (ownSlotTaken s w) w.kind = some (b, { ownSlotTaken s w with acq := a })) : Does .windowSlotSend s fun t =>
      t.acq = a ∧ t.chn.win = some { w with done := true } ∧ t.chn.lseq = s.chn.lseq + 1 ∧
        (portLive s .south = true → lineFree s .south = true → s.sp.genDue = none → ∃ f, t.sp.txNow = some f ∧
          f.type = kindType w.kind ∧ f.flt = ownFlt s ∧ f.payload = b) ∧
        (portLive s .south = true → lineFree s .south = false → ∃ f, t.sp.txq = f :: s.sp.txq ∧ f.type = kindType w.kind ∧
          f.payload = b) ∧
        (isHead s = false → t.chn.recs = s.chn.recs) ∧
        (∀ i, isHead s = true → recKind (kindType w.kind) = some i → s.chn.recs[i].recs.length < 128 →
          t.chn.recs[i].recs = s.chn.recs[i].recs ++ [(s.chn.addr, b)]) ∧
        (s.sp.genDue = none → t.tim = s.tim) ∧ Only [.acq, .tim, .chn, .sp, .np] s t := by
  obtain ⟨⟨i, hi⟩, hnoun⟩ := kindType_kind w.kind
  have haddr := assigned_of_myWindow s w hw
  have hexec := exec_windowSlotSend_record s w ha hw hd ht i b _ hi hr
  obtain ⟨r, hkept, hother, hhead⟩ := recordKept_recs { ownSlotTaken s w with acq := a } i b
  rw [hkept] at hexec
  generalize hv : ({ { ownSlotTaken s w with acq := a } with chn.recs := r } : State) = v at hexec
  have honly : Only [.acq, .chn] s v := hv ▸ (only_chn (by decide) s (ownSlotTaken s w).chn).trans
    ((only_acq (by decide) (ownSlotTaken s w) a).trans (only_chn (by decide) ..))
  obtain ⟨hwin, hrecs, hlseq, htim, hsent⟩ := sendSlot_leaves v (kindType w.kind) b
  have hacq : (sendSlot v (kindType w.kind) b).acq = v.acq := hsent.same .acq (by decide)
  subst hv
  refine ⟨_, hexec, hacq, hwin, hlseq, fun hl hf hg => sendSlot_starts _ _ b hnoun haddr hl hf hg,
    fun hl hf => sendSlot_waits _ _ b haddr hl hf, fun h => hrecs.trans (hother h), fun j h hj hroom => ?_, htim,
    (honly.mono (by decide)).trans (hsent.mono (by decide))⟩
  obtain rfl : i = j := Option.some.inj (hi.symm.trans hj)
  rw [hrecs]
  exact hhead h hroom

theorem windowSlotSend_result (k : Snapshot) (q : List Snapshot) (hk : w.kind ≠ 2) (hq : s.acq.rel = k :: q) :
    Does .windowSlotSend s fun t =>
      let b := if w.kind = 0 then cellsetBytes s k else summaryBytes s k
      t.acq = { s.acq with rel := q } ∧ t.chn.win = some { w with done := true } ∧ t.chn.lseq = s.chn.lseq + 1 ∧
        (portLive s .south = true → lineFree s .south = true → s.sp.genDue = none → ∃ f, t.sp.txNow = some f ∧
          f.type = kindType w.kind ∧ f.flt = ownFlt s ∧ f.payload = b) ∧
        (portLive s .south = true → lineFree s .south = false → ∃ f, t.sp.txq = f :: s.sp.txq ∧ f.type = kindType w.kind ∧
          f.payload = b) ∧
        (isHead s = false → t.chn.recs = s.chn.recs) ∧
        (∀ i, isHead s = true → recKind (kindType w.kind) = some i → s.chn.recs[i].recs.length < 128 →
          t.chn.recs[i].recs = s.chn.recs[i].recs ++ [(s.chn.addr, b)]) ∧
        (s.sp.genDue = none → t.tim = s.tim) ∧ Only [.acq, .tim, .chn, .sp, .np] s t := by
  refine windowSlotSend_record s w ha hw hd ht _ _ ?_
  have hrel : (ownSlotTaken s w).acq.rel = k :: q := hq
  unfold takeRecord
  rw [if_neg hk, hrel]
  rfl

theorem windowSlotSend_ntc (b : List Byte) (q : List (List Byte)) (hk : w.kind = 2) (hq : s.acq.ntcRel = b :: q) :
    Does .windowSlotSend s fun t =>
      t.acq = { s.acq with ntcRel := q } ∧ t.chn.win = some { w with done := true } ∧ t.chn.lseq = s.chn.lseq + 1 ∧
        (portLive s .south = true → lineFree s .south = true → s.sp.genDue = none → ∃ f, t.sp.txNow = some f ∧
          f.type = 0xC ∧ f.payload = b) ∧ (s.sp.genDue = none → t.tim = s.tim) ∧ Only [.acq, .tim, .chn, .sp, .np] s t := by
  have hrecord : takeRecord (ownSlotTaken s w) w.kind = some (b, { ownSlotTaken s w with acq := { s.acq with ntcRel := q } }) := by
    have hrel : (ownSlotTaken s w).acq.ntcRel = b :: q := hq
    unfold takeRecord
    rw [if_pos hk, hrel]
    rfl
  obtain ⟨t, hexec, hacq, hwin, hlseq, hstarts, -, -, -, htim, honly⟩ := windowSlotSend_record s w ha hw hd ht b _ hrecord
  refine ⟨t, hexec, hacq, hwin, hlseq, fun hl hf hg => ?_, htim, honly⟩
  obtain ⟨f, hnow, htype, -, hpayload⟩ := hstarts hl hf hg
  exact ⟨f, hnow, by rw [htype, hk]; rfl, hpayload⟩

end Slot

theorem takeRecord_none_iff (s : State) (k : BitVec 2) :
    takeRecord s k = none ↔ if k = 2 then s.acq.ntcRel = [] else s.acq.rel = [] := by
  unfold takeRecord
  split
  · cases s.acq.ntcRel <;> simp
  · cases s.acq.rel <;> simp

theorem windowSlotSend_empty (s : State) (w : Window) (ha : active s = true) (hw : myWindow s = some w) (hd : w.done = false)
    (ht : slotAt s w ≤ s.now) (hr : takeRecord s w.kind = none) : Does .windowSlotSend s fun t =>
      t.chn.win = some { w with done := true } ∧ t.acq = s.acq ∧
        (s.chn.addr.toNat ≠ w.count.toNat → t.chn.lseq = s.chn.lseq ∧ t.sp = s.sp) ∧
        (s.chn.addr.toNat = w.count.toNat → portLive s .south = true → lineFree s .south = true → s.sp.genDue = none →
          ∃ f, t.sp.txNow = some f ∧ f.type = 4 ∧ f.payload = [] ∧ f.flt = ownFlt s) ∧
        (s.sp.genDue = none → t.tim = s.tim) ∧ Only [.tim, .chn, .sp, .np] s t := by
  have hnone : takeRecord (ownSlotTaken s w) w.kind = none :=
    (takeRecord_none_iff (ownSlotTaken s w) w.kind).mpr ((takeRecord_none_iff s w.kind).mp hr)
  have hexec := exec_windowSlotSend_empty s w ha hw hd ht hnone
  have htaken : Only [.tim, .chn, .sp, .np] s (ownSlotTaken s w) := only_chn (by decide) ..
  by_cases htop : s.chn.addr.toNat = w.count.toNat
  · rw [if_pos htop] at hexec
    obtain ⟨hwin, -, -, htim, hsent⟩ := sendSlot_leaves (ownSlotTaken s w) 4 []
    refine ⟨_, hexec, hwin, hsent.same .acq (by decide), fun h => absurd htop h, fun _ hl hf hg => ?_, htim, htaken.trans hsent⟩
    obtain ⟨f, hnow, htype, hflt, hpayload⟩ := sendSlot_starts (ownSlotTaken s w) 4 [] rfl (assigned_of_myWindow s w hw) hl hf hg
    exact ⟨f, hnow, htype, hpayload, hflt⟩
  · rw [if_neg htop] at hexec
    exact ⟨_, hexec, rfl, rfl, fun _ => ⟨rfl, rfl⟩, fun h => absurd h htop, fun _ => rfl, htaken⟩

theorem window_none_idle (s : State) (h : myWindow s = none) : Idle .windowSlotSend s ∧ Idle .sweepSend s := by
  constructor
  · show execWindowSlotSend s = _
    unfold execWindowSlotSend
    rw [h]
    split <;> rfl
  · show execSweepSend s = _
    unfold execSweepSend
    rw [h]
    split <;> rfl

theorem windowSlotSend_idle (s : State) (w : Window) (hw : myWindow s = some w) (h : w.done = true ∨ s.now < slotAt s w) :
    Idle .windowSlotSend s := by
  show execWindowSlotSend s = _
  unfold execWindowSlotSend
  split
  · rfl
  · rw [hw]
    exact if_pos (by obtain h | h := h <;> simp [h])

/-! ## The sweep of the top (11 R419) -/

theorem exec_sweepSend (s : State) (w : Window) (ha : active s = true) (hw : myWindow s = some w) : exec .sweepSend s =
    if w.mode = 1 ∧ w.swept = false ∧ s.chn.addr.toNat = w.count.toNat ∧ timedAt s w (sweepSlots w) 0 ≤ s.now then
      .next (sendSlot { s with chn.win := some { w with swept := true } } 4 [])
    else .next s := by
  show execSweepSend s = _
  unfold execSweepSend
  rw [if_neg (by simp [ha]), hw]

theorem sweepSend_idle (s : State) (w : Window) (hw : myWindow s = some w)
    (h : w.mode ≠ 1 ∨ w.swept = true ∨ s.chn.addr.toNat ≠ w.count.toNat ∨ s.now < timedAt s w (sweepSlots w) 0) :
    Idle .sweepSend s := by
  cases ha : active s with
  | false => exact if_pos (by simp [ha])
  | true =>
    refine (exec_sweepSend s w ha hw).trans (if_neg ?_)
    rintro ⟨hm, hs, hc, ht⟩
    obtain h | h | h | h := h
    · exact h hm
    · exact nomatch h.symm.trans hs
    · exact h hc
    · exact absurd ht (Nat.not_le.mpr h)

theorem sweepSend_sends (s : State) (w : Window) (ha : active s = true) (hw : myWindow s = some w) (hm : w.mode = 1)
    (hs : w.swept = false) (hc : s.chn.addr.toNat = w.count.toNat) (ht : timedAt s w (sweepSlots w) 0 ≤ s.now) :
    Does .sweepSend s fun t =>
      t.chn.win = some { w with swept := true } ∧ t.chn.lseq = s.chn.lseq + 1 ∧
        (portLive s .south = true → lineFree s .south = true → s.sp.genDue = none → ∃ f, t.sp.txNow = some f ∧
          f.type = 4 ∧ f.payload = [] ∧ f.flt = ownFlt s) ∧
        (s.sp.genDue = none → t.tim = s.tim) ∧ Only [.tim, .chn, .sp, .np] s t := by
  let u : State := { s with chn.win := some { w with swept := true } }
  obtain ⟨hwin, -, hlseq, htim, hsent⟩ := sendSlot_leaves u 4 []
  refine ⟨sendSlot u 4 [], (exec_sweepSend s w ha hw).trans (if_pos ⟨hm, hs, hc, ht⟩), hwin, hlseq, fun hl hf hg => ?_, htim,
    (only_chn (by decide) s u.chn).trans hsent⟩
  obtain ⟨f, hnow, htype, hflt, hpayload⟩ := sendSlot_starts u 4 [] rfl (assigned_of_myWindow s w hw) hl hf hg
  exact ⟨f, hnow, htype, hpayload, hflt⟩

/-- Settles O30: a failed message is answered by `linkFailed`, whatever ended it; a slot's frame is what `startOrWait` makes of it,
with a record by `windowSlotSend_record`. -/
theorem retransmissionAndSlots : Obligations.RetransmissionAndSlots :=
  ⟨retransmitTimeout_again, retransmitTimeout_gives_up,
    fun s n u i f ha hu ht hp hf => retransmitTimeout_answers s n u ha hu i f ht hp hf, retransmitTimeout_idle,
    replyTimeout_answers, replyTimeout_idle,
    fun s w k q ha hw hd ht hk hq => windowSlotSend_result s w ha hw hd ht k q hk hq,
    fun s w b q ha hw hd ht hk hq => windowSlotSend_ntc s w ha hw hd ht b q hk hq,
    windowSlotSend_empty, window_none_idle, windowSlotSend_idle, sweepSend_idle, sweepSend_sends⟩

end Sys2Proof.Machine

/-! PROOFS. VERB, REPLY and ACK frames at their destination (11 R385, R425, R428, R429; 12 R466; 13 R488; O31). -/

namespace Sys2Proof.Machine

/-! ## VERB frames (11 R385, R428; 13 R490, R502) -/

theorem takesVerb_iff (s : State) (f : Frame) : takesVerb s f = true ↔
    fwRuns s = true ∧ s.pw.decided = none ∧ f.type = 1 ∧ (f.dst = s.chn.addr ∨ f.dst = 0) := by
  simp only [takesVerb, Bool.and_eq_true, Bool.or_eq_true, Option.isNone_iff_eq_none, beq_iff_eq, and_assoc]

/-- The port's interrupt is raised by every frame that the firmware takes. -/
def frameTold (s : State) (p : Port) : State := irqRaise s (if p = .south then 30 else 31)

/-- The reply that a VERB frame got before, to be sent again. -/
def replyAgain (s : State) (r : Option Frame) : List Frame :=
  match r with
  | some g => if frameGone s 2 g.lseq then [{ g with rtx := true }] else []
  | none => []

theorem seenAgain_txq (s : State) (p : Port) (f : Frame) (r : Option Frame) :
    (portOf (seenAgain s p f r) p).txq = (portOf (sendAck s p f) p).txq ++ replyAgain s r := by
  cases r with
  | none => exact (List.append_nil _).symm
  | some g =>
    have hgone : frameGone (sendAck s p f) 2 g.lseq = frameGone s 2 g.lseq := frameGone_enqueueTx _ p _ 2 g.lseq
      (show (0xA : BitVec 4) ≠ 2 by decide)
    show (portOf (if frameGone (sendAck s p f) 2 g.lseq then enqueueTx (sendAck s p f) p { g with rtx := true }
      else sendAck s p f) p).txq = _
    rw [hgone, replyAgain]
    split
    · rw [enqueueTx_portOf]
    · rw [List.append_nil]

theorem seenAgain_only (s : State) (p : Port) (f : Frame) (r : Option Frame) :
    Only [.chn, .sp, .np] s (seenAgain s p f r) := by
  unfold seenAgain
  dsimp only
  split
  · split
    · exact (sendAck_only ..).trans ((enqueueTx_only ..).mono (by decide))
    · exact sendAck_only ..
  · exact sendAck_only ..

theorem exec_verbFrameReceived_again (s : State) (p : Port) (f : Frame) (x : BitVec 7 × Byte × Option Frame)
    (ht : takesVerb s f = true) (hr : f.rtx = true)
    (hx : (s.chn.seenV.find? fun y => y.1 == f.src && y.2.1 == f.lseq) = some x) :
    exec (.verbFrameReceived p f) s = .next (seenAgain (frameTold s p) p f x.2.2) := by
  have hseen : ((frameTold s p).chn.seenV.find? fun y => y.1 == f.src && y.2.1 == f.lseq) = some x := hx
  show execVerbFrameReceived p f s = _
  unfold execVerbFrameReceived
  rw [if_neg (by simp [ht]), ← frameTold]
  dsimp only
  rw [if_pos hr, hseen]

theorem verbFrameReceived_again (s : State) (p : Port) (f : Frame) (x : BitVec 7 × Byte × Option Frame) (hw : fwRuns s = true)
    (hd : s.pw.decided = none) (ht : f.type = 1) (ha : f.dst = s.chn.addr) (hr : f.rtx = true)
    (hx : (s.chn.seenV.find? fun y => y.1 == f.src && y.2.1 == f.lseq) = some x) : Does (.verbFrameReceived p f) s fun t =>
      (∃ a, (portOf t p).txq = (portOf s p).txq ++ a :: replyAgain s x.2.2 ∧
        a.type = 0xA ∧ a.dst = f.src ∧ a.payload = [f.lseq, 0]) ∧ t.mbx = s.mbx ∧ Only [.core, .chn, .sp, .np] s t := by
  have htold : Only [.core] s (frameTold s p) := irqRaise_only ..
  have honly := (htold.mono (by decide)).trans ((seenAgain_only (frameTold s p) p f x.2.2).mono
    (m := [.core, .chn, .sp, .np]) (by decide))
  obtain ⟨a, hqueue, hack⟩ := sendAck_queues (frameTold s p) p f
  refine ⟨_, exec_verbFrameReceived_again s p f x ((takesVerb_iff s f).mpr ⟨hw, hd, ht, .inl ha⟩) hr hx, ⟨a, ?_, hack⟩,
    honly.same .mbx (by decide), honly⟩
  rw [seenAgain_txq, hqueue, portOf_of_only htold (by decide) (by decide), List.append_assoc]
  rfl

/-- A VERB frame is kept among those seen. -/
def verbSeen (s : State) (p : Port) (f : Frame) : State :=
  { frameTold s p with chn := { s.chn with seenV := ((f.src, f.lseq, none) :: s.chn.seenV).take 8 } }

/-- The state in which the message of a VERB frame is read: it has been acknowledged, unless it is for every device, and the messages
that were rung before have been taken. -/
def verbReady (s : State) (p : Port) (f : Frame) : State :=
  takeRungs s.mbx.takeq.length (if f.dst = 0 then verbSeen s p f else sendAck (verbSeen s p f) p f)

theorem exec_verbFrameReceived_fresh (s : State) (p : Port) (f : Frame) (ht : takesVerb s f = true)
    (hx : f.rtx = true → (s.chn.seenV.find? fun y => y.1 == f.src && y.2.1 == f.lseq) = none) :
    exec (.verbFrameReceived p f) s =
      .next (if fwRuns (verbReady s p f) then verbMessage (verbReady s p f) p f else verbReady s p f) := by
  have hnew : (if f.rtx then (frameTold s p).chn.seenV.find? fun y => y.1 == f.src && y.2.1 == f.lseq else none) = none := by
    split
    case isTrue hr => exact hx hr
    case isFalse => rfl
  have hready : takeRungs (if f.dst == 0 then verbSeen s p f else sendAck (verbSeen s p f) p f).mbx.takeq.length
      (if f.dst == 0 then verbSeen s p f else sendAck (verbSeen s p f) p f) = verbReady s p f := by
    have hmbx : (sendAck (verbSeen s p f) p f).mbx = s.mbx := (sendAck_only ..).same .mbx (by decide)
    unfold verbReady
    by_cases hall : f.dst = 0
    · rw [if_pos hall, if_pos (beq_iff_eq.mpr hall)]
      rfl
    · rw [if_neg hall, if_neg (mt beq_iff_eq.mp hall), hmbx]
  rw [← hready]
  show execVerbFrameReceived p f s = _
  unfold execVerbFrameReceived
  rw [if_neg (by simp [ht]), ← frameTold]
  dsimp only
  rw [hnew]
  rfl

theorem verbFrameReceived_fresh (s : State) (p : Port) (f : Frame) (hw : fwRuns s = true) (hd : s.pw.decided = none)
    (ht : f.type = 1) (ha : f.dst = s.chn.addr ∨ f.dst = 0)
    (hx : f.rtx = true → (s.chn.seenV.find? fun y => y.1 == f.src && y.2.1 == f.lseq) = none) :
    Does (.verbFrameReceived p f) s fun t =>
      t = if fwRuns (verbReady s p f) then verbMessage (verbReady s p f) p f else verbReady s p f :=
  ⟨_, exec_verbFrameReceived_fresh s p f ((takesVerb_iff s f).mpr ⟨hw, hd, ht, ha⟩) hx, rfl⟩

theorem verbFrameReceived_idle (s : State) (p : Port) (f : Frame)
    (h : fwRuns s = false ∨ s.pw.decided ≠ none ∨ f.type ≠ 1 ∨ (f.dst ≠ s.chn.addr ∧ f.dst ≠ 0)) :
    Idle (.verbFrameReceived p f) s := by
  have hnot : takesVerb s f = false := by
    rw [← Bool.not_eq_true, takesVerb_iff]
    rintro ⟨hw, hd, ht, ha⟩
    obtain h | h | h | ⟨hown, hall⟩ := h
    · exact nomatch hw.symm.trans h
    · exact h hd
    · exact h ht
    · exact ha.elim hown hall
  exact if_pos (by simp [hnot])

/-! ## REPLY frames (11 R425, R429; 12 R466; 13 R488) -/

theorem frameNoted_heard (s : State) (f : Frame) : (frameNoted s f).chn.flts.head? = some (f.flt, s.now) := by
  rw [frameNoted_chn]
  rfl

/-- A reply for another device is heard, and nothing more. -/
theorem replyFrameReceived_hears (s : State) (p : Port) (f : Frame) (ha : active s = true) (hn : isAnchor s = false)
    (hd : f.dst ≠ s.chn.addr) : Does (.replyFrameReceived p f) s fun t =>
      t.mbx = s.mbx ∧ t.chn.flts.head? = some (f.flt, s.now) ∧ Only [.chn, .host, .en] s t := by
  have honly := frameNoted_only s f
  refine ⟨frameNoted s f, ?_, honly.same .mbx (by decide), frameNoted_heard s f, honly⟩
  have haddr : f.dst ≠ (frameNoted s f).chn.addr := by rwa [frameNoted_chn]
  show execReplyFrameReceived p f s = _
  unfold execReplyFrameReceived
  rw [if_neg (by simp [ha]), heardFrame_of_not_anchor s f hn]
  exact if_pos (bne_iff_ne.mpr haddr)

/-- A reply that arrives is heard and acknowledged. -/
def replyHeard (s : State) (p : Port) (f : Frame) : State := sendAck (frameNoted s f) p f

theorem replyHeard_chn (s : State) (p : Port) (f : Frame) : (replyHeard s p f).chn.seenR = s.chn.seenR ∧
    (replyHeard s p f).chn.fwd = s.chn.fwd ∧ (replyHeard s p f).chn.unacked = s.chn.unacked := by
  rw [replyHeard, sendAck, sendFrame_chn]
  show (frameNoted s f).chn.seenR = _ ∧ (frameNoted s f).chn.fwd = _ ∧ (frameNoted s f).chn.unacked = _
  rw [frameNoted_chn]
  exact ⟨rfl, rfl, rfl⟩

theorem replyHeard_only (s : State) (p : Port) (f : Frame) : Only [.chn, .host, .sp, .np, .en] s (replyHeard s p f) :=
  ((frameNoted_only ..).mono (by decide)).trans ((sendAck_only ..).mono (by decide))

/-- The reply is not taken again, and its message waits no more: neither for it, nor for an acknowledgement. -/
def replyTaken (s : State) (f : Frame) (w : Forwarded) : State :=
  { s with chn.seenR := (f.src, f.lseq) :: s.chn.seenR.filter fun x => x.1 != f.src,
           chn.fwd := s.chn.fwd.filter fun x => x.pair != w.pair, mbx.lastReply := f.payload,
           chn.unacked := s.chn.unacked.filter fun u => u.pair != some w.pair }

theorem forwardedOf_congr {s t : State} (h : t.chn.fwd = s.chn.fwd) (f : Frame) : forwardedOf t f = forwardedOf s f := by
  rw [forwardedOf, h, forwardedOf]

theorem exec_replyFrameReceived (s : State) (p : Port) (f : Frame) (w : Forwarded) (ha : active s = true)
    (hn : isAnchor s = false) (hd : f.dst = s.chn.addr) (hw : forwardedOf s f = some w)
    (hx : ¬ (f.rtx = true ∧ s.chn.seenR.contains (f.src, f.lseq) = true)) :
    exec (.replyFrameReceived p f) s = .next (placeOut (replyTaken (replyHeard s p f) f w) w.pair f.payload) := by
  have haddr : (f.dst != (frameNoted s f).chn.addr) = false := by rw [frameNoted_chn, hd, bne_self_eq_false]
  obtain ⟨hseen, hfwd, -⟩ := replyHeard_chn s p f
  have hnew : (f.rtx && (replyHeard s p f).chn.seenR.contains (f.src, f.lseq)) = false := by
    rw [hseen, ← Bool.not_eq_true, Bool.and_eq_true]
    exact hx
  have hwaits : forwardedOf { replyHeard s p f with
      chn.seenR := (f.src, f.lseq) :: (replyHeard s p f).chn.seenR.filter fun x => x.1 != f.src } f = some w :=
    (forwardedOf_congr hfwd f).trans hw
  show execReplyFrameReceived p f s = _
  unfold execReplyFrameReceived
  rw [if_neg (by simp [ha]), heardFrame_of_not_anchor s f hn]
  dsimp only
  rw [haddr, if_neg Bool.false_ne_true, ← replyHeard, hnew, if_neg Bool.false_ne_true, hwaits]
  rfl

theorem placeOut_bit (s : State) (i : Fin 4) (b : List Byte) : (placeOut s i b).host.irq.getLsbD i.val = true := by
  have hbit : ∀ i : Fin 4, (1#13 <<< i.val).getLsbD i.val = true := by decide
  exact irqSet_bit _ _ _ (hbit i)

theorem replyFrameReceived_places (s : State) (p : Port) (f : Frame) (w : Forwarded) (ha : active s = true)
    (hn : isAnchor s = false) (hd : f.dst = s.chn.addr) (hw : forwardedOf s f = some w)
    (hx : ¬ (f.rtx = true ∧ s.chn.seenR.contains (f.src, f.lseq) = true)) : Does (.replyFrameReceived p f) s fun t =>
      t.mbx.pairs[w.pair].outb = f.payload ∧ t.mbx.pairs[w.pair].full = true ∧ t.mbx.pairs[w.pair].flight = false ∧
        t.mbx.lastReply = f.payload ∧ t.chn.fwd = s.chn.fwd.filter (fun x => x.pair != w.pair) ∧
        t.host.irq.getLsbD w.pair.val = true ∧
        t.chn.unacked = s.chn.unacked.filter (fun u => u.pair != some w.pair) ∧
        (∃ a, (portOf t p).txq = (portOf s p).txq ++ [a] ∧ a.type = 0xA ∧ a.dst = f.src ∧ a.payload = [f.lseq, 0]) ∧
        Only [.chn, .host, .sp, .np, .mbx, .en] s t := by
  obtain ⟨-, hfwd, hunacked⟩ := replyHeard_chn s p f
  have hheard := replyHeard_only s p f
  have htaken : Only [.chn, .mbx] (replyHeard s p f) (replyTaken (replyHeard s p f) f w) :=
    (only_chn (by decide) _ (replyTaken (replyHeard s p f) f w).chn).trans (only_mbx (by decide) ..)
  have hplaced := placeOut_only (replyTaken (replyHeard s p f) f w) w.pair f.payload
  obtain ⟨a, hqueue, hack⟩ := sendAck_queues (frameNoted s f) p f
  refine ⟨_, exec_replyFrameReceived s p f w ha hn hd hw hx, ?_⟩
  dsimp only
  rw [placeOut_pair, hplaced.same .chn (by decide), portOf_of_only hplaced (by decide) (by decide),
    portOf_of_only htaken (by decide) (by decide)]
  refine ⟨rfl, rfl, rfl, rfl, ?_, placeOut_bit .., ?_, ⟨a, ?_, hack⟩, (hheard.mono (by decide)).trans
    ((htaken.mono (by decide)).trans (hplaced.mono (by decide)))⟩
  · show (replyHeard s p f).chn.fwd.filter _ = _
    rw [hfwd]
  · show (replyHeard s p f).chn.unacked.filter _ = _
    rw [hunacked]
  · rw [replyHeard, hqueue, portOf_of_only (frameNoted_only s f) (by decide) (by decide)]

/-! ## ACK frames (11 R385, R426; 14 R554) -/

/-- The named frame waits for its acknowledgement no more; a message that it forwarded has arrived. -/
def ackTaken (s : State) (u : Unacked) : State :=
  { s with chn.unacked := s.chn.unacked.filter fun v => !(v == u),
           chn.fwd := s.chn.fwd.map fun w => if u.pair == some w.pair then { w with acked := true } else w }

section Acknowledged

variable (s : State) (p : Port) (f : Frame) (ha : active s = true) (hd : f.dst = s.chn.addr)
include ha hd

theorem exec_ackReceived (u : Unacked) (hu : ackedFrame s f = some u) : exec (.ackReceived p f) s =
    .next (if resetAcked s u then fullReset (ackTaken (frameTold s p) u) 6 else ackTaken (frameTold s p) u) := by
  have hnamed : ackedFrame (frameTold s p) f = some u := hu
  show execAckReceived p f s = _
  unfold execAckReceived
  rw [if_neg (by simp [ha, hd]), ← frameTold]
  dsimp only
  rw [hnamed]
  rfl

theorem exec_ackReceived_unknown (hu : ackedFrame s f = none) : exec (.ackReceived p f) s = .next (frameTold s p) := by
  have hnamed : ackedFrame (frameTold s p) f = none := hu
  show execAckReceived p f s = _
  unfold execAckReceived
  rw [if_neg (by simp [ha, hd]), ← frameTold]
  dsimp only
  rw [hnamed]

theorem ackReceived_ends (hr : ∀ u, ackedFrame s f = some u → resetAcked s u = false) : Does (.ackReceived p f) s fun t =>
    (∀ u, ackedFrame s f = some u → t.chn.unacked = s.chn.unacked.filter (fun v => !(v == u))) ∧
      (ackedFrame s f = none → t.chn = s.chn) ∧ Only [.core, .chn] s t := by
  have htold : Only [.core, .chn] s (frameTold s p) := (irqRaise_only ..).mono (by decide)
  cases hu : ackedFrame s f with
  | none => exact ⟨_, exec_ackReceived_unknown s p f ha hd hu, fun _ h => absurd h (by simp), fun _ => rfl, htold⟩
  | some u =>
    have hexec := exec_ackReceived s p f ha hd u hu
    rw [hr u hu, if_neg Bool.false_ne_true] at hexec
    refine ⟨_, hexec, fun v h => ?_, fun h => absurd h (by simp), htold.trans (only_chn (by decide) ..)⟩
    obtain rfl := Option.some.inj h
    rfl

/-- The acknowledgement of an accepted `RESET`'s reply resets the device. -/
theorem ackReceived_resets (u : Unacked) (hu : ackedFrame s f = some u) (hr : resetAcked s u = true) :
    Does (.ackReceived p f) s fun t => t.rst.held = true ∧ t.rst.latch = 6 ∧ t.store = s.store := by
  have hexec := exec_ackReceived s p f ha hd u hu
  rw [hr, if_pos rfl] at hexec
  obtain ⟨hheld, hlatch, -⟩ := resetFrom_of_fullReset (ackTaken (frameTold s p) u) 6 (held_of_active ha)
  exact ⟨_, hexec, hheld, hlatch, fullReset_store ..⟩

end Acknowledged

theorem ackReceived_idle (s : State) (p : Port) (f : Frame) (hd : f.dst ≠ s.chn.addr) : Idle (.ackReceived p f) s :=
  if_pos (by simp [hd])

/-- Settles O31: a VERB frame that was seen is answered by `seenAgain`, a new one leads to `verbReady`; a REPLY is heard and
acknowledged (`replyHeard`) before it is placed; an ACK ends in `ackTaken`. -/
theorem messageFramesReceived : Obligations.MessageFramesReceived :=
  ⟨fun s p f x hw hd ht ha _ hr hx => verbFrameReceived_again s p f x hw hd ht ha hr hx, verbFrameReceived_fresh,
    verbFrameReceived_idle, replyFrameReceived_places, replyFrameReceived_hears, ackReceived_ends,
    fun s p f u ha hd hu hr => ackReceived_resets s p f ha hd u hu hr, ackReceived_idle⟩

end Sys2Proof.Machine

/-! PROOFS. Enumeration, calibration, records and FAULT frames received (11 R395 to R402, R416; 14 R531; 16 R617; O33). -/

namespace Sys2Proof.Machine

/-! ## An address is taken (11 R395, R398) -/

theorem setAddr_only (s : State) (a : BitVec 7) : Only [.en, .chn, .host] s (setAddr s a) := by
  unfold setAddr
  dsimp only
  exact (Only.of fun p => by
    cases p
    case en | chn => exact .inl (by decide)
    all_goals exact .inr rfl).trans ((updateLive_only _).mono (by decide))

theorem setAddr_chn (s : State) (a : BitVec 7) : (setAddr s a).chn = { s.chn with addr := a } :=
  (updateLive_only _).same .chn (by decide)

/-- An ENUM reply names the address first and ends in the UID (11 Table 11-4). -/
theorem enumReply_fields (s : State) (a : Nat) : (enumReply s a).length = 16 ∧
    (enumReply s a).getD 0 0 = BitVec.ofNat 8 a ∧ leAt (enumReply s a) 8 8 = s.store.uid.toNat := by
  have huid : leAt (enumReply s a) 8 8 = leVal ((leBytes 8 s.store.uid.toNat).take 8) := rfl
  refine ⟨rfl, rfl, ?_⟩
  rw [huid, List.take_of_length_le (by rw [length_leBytes]), leVal_leBytes]
  exact Nat.mod_eq_of_lt s.store.uid.isLt

/-- The device has the address and, as far as it knows, is the top of the chain. -/
def addressTaken (s : State) (a : Nat) (ring : Bool) : State :=
  { setAddr s (BitVec.ofNat 7 a) with chn.ring := ring, chn.enumDone := true, chn.top := BitVec.ofNat 8 a }

theorem addressTaken_chn (s : State) (a : Nat) (ring : Bool) : (addressTaken s a ring).chn =
    { s.chn with addr := BitVec.ofNat 7 a, ring := ring, enumDone := true, top := BitVec.ofNat 8 a } := by
  show { (setAddr s (BitVec.ofNat 7 a)).chn with ring := ring, enumDone := true, top := BitVec.ofNat 8 a } = _
  rw [setAddr_chn]

theorem addressTaken_only (s : State) (a : Nat) (ring : Bool) : Only [.en, .chn, .host] s (addressTaken s a ring) :=
  (setAddr_only ..).trans (only_chn (by decide) _ (addressTaken s a ring).chn)

theorem exec_enumReceived_south (s : State) (f : Frame) (ha : active s = true) (hl : f.payload.length = 2) :
    exec (.enumReceived .south f) s =
      if s.chn.addr = 0x7F then .next (takeAddress s (byteAt f.payload 0) (byteAt f.payload 1 % 2 == 1))
      else if byteAt f.payload 0 = s.chn.addr.toNat then
        .next (sendFrame s .south 8 0 (enumReply s (byteAt f.payload 0)))
      else .next s := by
  show execEnumReceived .south f s = _
  unfold execEnumReceived
  rw [if_neg (by simp [ha]), if_pos hl]
  rfl

theorem enumReceived_takes_address (s : State) (f : Frame) (ha : active s = true) (hl : f.payload.length = 2)
    (hu : s.chn.addr = 0x7F) (h1 : 1 ≤ byteAt f.payload 0) (h2 : byteAt f.payload 0 ≤ 0x40) :
    Does (.enumReceived .south f) s fun t =>
      t.chn.addr = BitVec.ofNat 7 (byteAt f.payload 0) ∧ t.chn.enumDone = true ∧
        (∃ g, t.sp.txq = s.sp.txq ++ [g] ∧ g.type = 8 ∧ g.dst = 0 ∧ g.src = t.chn.addr ∧ g.payload.length = 16 ∧
          g.payload.getD 0 0 = BitVec.ofNat 8 (byteAt f.payload 0) ∧ leAt g.payload 8 8 = s.store.uid.toNat) ∧
        Only [.chn, .sp, .np, .host, .en] s t := by
  generalize hn : byteAt f.payload 0 = n at h1 h2
  generalize hv : addressTaken s n (byteAt f.payload 1 % 2 == 1) = v
  have honly : Only [.en, .chn, .host] s v := hv ▸ addressTaken_only ..
  have hchn : v.chn = _ := hv ▸ addressTaken_chn s n _
  have huid : v.store.uid.toNat = s.store.uid.toNat := by rw [honly.same .store (by decide)]
  have hsp : v.sp = s.sp := honly.same .sp (by decide)
  have hexec : exec (.enumReceived .south f) s = .next (sendFrame v .south 8 0 (enumReply v n)) := by
    rw [exec_enumReceived_south s f ha hl, if_pos hu, hn, ← hv]
    exact congrArg _ (if_pos ⟨h1, h2⟩)
  have haddr : (sendFrame v .south 8 0 (enumReply v n)).chn.addr = v.chn.addr := rfl
  obtain ⟨hlength, hfirst, hlast⟩ := enumReply_fields v n
  refine ⟨_, hexec, ?_, ?_, ⟨(originate v 8 0 (enumReply v n)).2, ?_, rfl, rfl, haddr.symm, hlength, hfirst, hlast.trans huid⟩, ?_⟩
  · rw [haddr, hchn]
  · show v.chn.enumDone = true
    rw [hchn]
  · rw [← hsp]
    rfl
  · exact (honly.mono (by decide)).trans ((sendFrame_south_only ..).mono (by decide))

theorem enumReceived_other_idle (s : State) (f : Frame) (ha : active s = true) (hl : f.payload.length = 2)
    (hu : s.chn.addr ≠ 0x7F) (hn : byteAt f.payload 0 ≠ s.chn.addr.toNat) : Idle (.enumReceived .south f) s := by
  rw [Idle, exec_enumReceived_south s f ha hl, if_neg hu, if_neg hn]

theorem enumReceived_answers (s : State) (f : Frame) (ha : active s = true) (hl : f.payload.length = 2)
    (hu : s.chn.addr ≠ 0x7F) (hn : byteAt f.payload 0 = s.chn.addr.toNat) : Does (.enumReceived .south f) s fun t =>
      t.chn.addr = s.chn.addr ∧ (∃ g, t.sp.txq = s.sp.txq ++ [g] ∧ g.type = 8 ∧ g.payload = enumReply s s.chn.addr.toNat) ∧
        Only [.chn, .sp] s t := by
  have hexec := exec_enumReceived_south s f ha hl
  rw [if_neg hu, hn, if_pos rfl] at hexec
  exact ⟨_, hexec, rfl, ⟨(originate s 8 0 (enumReply s s.chn.addr.toNat)).2, rfl, rfl, rfl⟩, sendFrame_south_only ..⟩

/-! ## The head asks on, and ends at a top (11 R397, R398) -/

/-- The request for an address goes north. -/
theorem enumAsk_asks (s : State) (e : EnumRun) : (enumAsk s e).chn.enum = some e ∧ (∃ g, (enumAsk s e).np.txq = s.np.txq ++ [g] ∧
    g.type = 8 ∧ g.src = s.chn.addr ∧ g.payload = [BitVec.ofNat 8 e.next, BitVec.ofNat 8 (b2n s.chn.ring)]) ∧
    Only [.chn, .np] s (enumAsk s e) :=
  ⟨rfl, ⟨(originate { s with chn.enum := some e } 8 0 [BitVec.ofNat 8 e.next, BitVec.ofNat 8 (b2n s.chn.ring)]).2, rfl, rfl, rfl,
    rfl⟩, (only_chn (by decide) s { s.chn with enum := some e }).trans (sendFrame_north_only ..)⟩

theorem exec_enumReceived_north (s : State) (f : Frame) (e : EnumRun) (ha : active s = true) (hl : f.payload.length = 16)
    (he : s.chn.enum = some e) : exec (.enumReceived .north f) s = .next (enumTake s e f) := by
  show execEnumReceived .north f s = _
  unfold execEnumReceived
  rw [if_neg (by simp [ha]), if_neg (by omega), if_pos ⟨hl, rfl⟩, he]

/-- The address asked for has answered: the head asks for the next. -/
theorem enumTake_next (s : State) (e : EnumRun) (f : Frame) (h1 : e.next ≤ 0x40) (h2 : byteAt f.payload 0 % 128 = e.next) :
    ∃ e', enumTake s e f = enumAsk (noteHop s f) e' ∧ e'.next = e.next + 1 ∧ e'.tries = 1 ∧ e'.w = e.w :=
  ⟨_, if_pos (by simp [h1, h2]), rfl, rfl, rfl⟩

theorem enumReceived_asks_next (s : State) (f : Frame) (e : EnumRun) (ha : active s = true) (hl : f.payload.length = 16)
    (he : s.chn.enum = some e) (h1 : e.next ≤ 0x40) (h2 : byteAt f.payload 0 % 128 = e.next) :
    Does (.enumReceived .north f) s fun t =>
      (∃ e', t.chn.enum = some e' ∧ e'.next = e.next + 1 ∧ e'.tries = 1 ∧ e'.w = e.w) ∧
        (∃ g, t.np.txq = s.np.txq ++ [g] ∧ g.type = 8 ∧
          g.payload = [BitVec.ofNat 8 (e.next + 1), BitVec.ofNat 8 (b2n s.chn.ring)]) ∧ Only [.chn, .np] s t := by
  obtain ⟨e', htake, hnext, htries, hw⟩ := enumTake_next s e f h1 h2
  obtain ⟨hrun, ⟨g, hqueue, htype, -, hpayload⟩, honly⟩ := enumAsk_asks (noteHop s f) e'
  refine ⟨_, (exec_enumReceived_north s f e ha hl he).trans (congrArg _ htake), ⟨e', hrun, hnext, htries, hw⟩,
    ⟨g, hqueue, htype, ?_⟩, (only_chn (by decide) s (noteHop s f).chn).trans honly⟩
  rw [hpayload, hnext]
  rfl

theorem enumReceived_north_request_idle (s : State) (f : Frame) (hl : f.payload.length = 2) : Idle (.enumReceived .north f) s := by
  show execEnumReceived .north f s = _
  unfold execEnumReceived
  cases ha : active s with
  | false => rfl
  | true =>
    rw [if_neg (by decide), if_pos hl]
    rfl

theorem enumReplyTimeout_asks (s : State) (e : EnumRun) (ha : active s = true) (he : s.chn.enum = some e) (ht : e.tries < 3) :
    Does .enumReplyTimeout s fun t => t.chn.enum = some { e with tries := e.tries + 1 } ∧
      (∃ g, t.np.txq = s.np.txq ++ [g] ∧ g.type = 8 ∧ g.payload = [BitVec.ofNat 8 e.next, BitVec.ofNat 8 (b2n s.chn.ring)]) ∧
      Only [.chn, .sp, .np] s t := by
  obtain ⟨hrun, ⟨g, hqueue, htype, -, hpayload⟩, honly⟩ := enumAsk_asks s { e with tries := e.tries + 1 }
  refine ⟨enumAsk s { e with tries := e.tries + 1 }, ?_, hrun, ⟨g, hqueue, htype, hpayload⟩, honly.mono (by decide)⟩
  show execEnumReplyTimeout s = _
  unfold execEnumReplyTimeout
  rw [if_neg (by simp [ha]), he]
  exact if_pos ht

/-- The chain has been enumerated up to its top. -/
def enumEnded (s : State) (e : EnumRun) (top : Nat) : State :=
  { s with chn.enum := none, chn.enumDone := true, chn.top := BitVec.ofNat 8 top, chn.el1 := e.el1 }

theorem enumFinish_answers (s : State) (e : EnumRun) (top : Nat) (beyond : Bool) (hn : noWaiters s e.w.verb e.w.msg = true) :
    (enumFinish s e top beyond).chn.enum = none ∧ (enumFinish s e top beyond).chn.enumDone = true ∧
      (enumFinish s e top beyond).chn.top = BitVec.ofNat 8 top ∧
      HostReply s (enumFinish s e top beyond) e.w.verb e.w.msg false false [BitVec.ofNat 8 top, BitVec.ofNat 8 top, e.anchor,
        BitVec.ofNat 8 (b2n e.twoAnchors + 2 * b2n beyond)] ∧ Only replyParts s (enumFinish s e top beyond) := by
  have hkept : beyondReplies (enumFinish s e top beyond).chn = beyondReplies (enumEnded s e top).chn := replyOk_beyondReplies ..
  have hreply : HostReply (enumEnded s e top) (enumFinish s e top beyond) e.w.verb e.w.msg false false _ :=
    reply_of_noWaiters _ _ _ _ _ _ hn
  exact ⟨(congrArg ChnUnit.enum hkept :), (congrArg ChnUnit.enumDone hkept :), (congrArg ChnUnit.top hkept :), hreply.of_addr rfl,
    (only_chn (by decide) s (enumEnded s e top).chn).trans (replyOk_only ..)⟩

theorem enumReplyTimeout_ends (s : State) (e : EnumRun) (ha : active s = true) (he : s.chn.enum = some e) (ht : 3 ≤ e.tries)
    (hn : noWaiters s e.w.verb e.w.msg = true) : Does .enumReplyTimeout s fun t =>
      t.chn.enum = none ∧ t.chn.enumDone = true ∧ t.chn.top = BitVec.ofNat 8 (e.next - 1) ∧
        HostReply s t e.w.verb e.w.msg false false [BitVec.ofNat 8 (e.next - 1), BitVec.ofNat 8 (e.next - 1), e.anchor,
          BitVec.ofNat 8 (b2n e.twoAnchors + 2 * b2n false)] ∧ Only replyParts s t := by
  refine ⟨enumFinish s e (e.next - 1) false, ?_, enumFinish_answers s e (e.next - 1) false hn⟩
  show execEnumReplyTimeout s = _
  unfold execEnumReplyTimeout
  rw [if_neg (by simp [ha]), he]
  exact if_neg (Nat.not_lt.mpr ht)

theorem enumReplyTimeout_idle (s : State) (h : s.chn.enum = none) : Idle .enumReplyTimeout s := by
  show execEnumReplyTimeout s = _
  unfold execEnumReplyTimeout
  rw [h]
  split <;> rfl

/-! ## Calibration (11 R400 to R402) -/

/-- A request may bring the mean (log 127). -/
def meanTaken (s : State) (f : Frame) : State :=
  if byteAt f.payload 8 = 1 then { s with chn.daNew := some (BitVec.ofNat 32 (leAt f.payload 4 4)) } else s

theorem meanTaken_chn (s : State) (f : Frame) : (meanTaken s f).chn = { s.chn with
    daNew := if byteAt f.payload 8 = 1 then some (BitVec.ofNat 32 (leAt f.payload 4 4)) else s.chn.daNew } := by
  unfold meanTaken
  split <;> rfl

theorem meanTaken_only (s : State) (f : Frame) : Only [.chn] s (meanTaken s f) := by
  unfold meanTaken
  split
  · exact only_chn (by decide) ..
  · exact Only.refl ..

section Calibrated

variable (s : State) (p : Port) (f : Frame) (a d : Nat) (l : Bool) (ha : active s = true) (hl : f.payload.length = 12)
include ha hl

/-- The answer to a calibration request: the time that it spent here, and whether the counter is locked (11 R400). -/
theorem exec_calReceived_request (hk : byteAt f.payload 0 = 0) (hd : f.dst = s.chn.addr) : exec (.calReceived p f a d l) s =
    .next (sendFrame (meanTaken s f) p 9 f.src (calBytes 1 (f.payload.getD 1 0) (BitVec.ofNat 16 (leAt f.payload 2 2))
      ((d - a) % 2 ^ 32) (b2n l) (leAt f.payload 9 3))) := by
  show execCalReceived p f a d l s = _
  unfold execCalReceived
  rw [if_neg (by simp [ha, hl])]
  exact if_pos ⟨hk, beq_iff_eq.mpr hd⟩

theorem calReceived_answers (hk : byteAt f.payload 0 = 0) (hd : f.dst = s.chn.addr) : Does (.calReceived p f a d l) s fun t =>
    (∃ g, (portOf t p).txq = (portOf s p).txq ++ [g] ∧ g.type = 9 ∧ g.dst = f.src ∧ g.payload = calBytes 1
      (f.payload.getD 1 0) (BitVec.ofNat 16 (leAt f.payload 2 2)) ((d - a) % 2 ^ 32) (b2n l) (leAt f.payload 9 3)) ∧
      t.chn.daNew = (if byteAt f.payload 8 = 1 then some (BitVec.ofNat 32 (leAt f.payload 4 4)) else s.chn.daNew) ∧
      t.chn.calValid = s.chn.calValid ∧ t.chn.da = s.chn.da ∧ Only [.chn, .sp, .np] s t := by
  have hmean := meanTaken_chn s f
  obtain ⟨g, hqueue, htype, hdst, -, hpayload⟩ := sendFrame_queues (meanTaken s f) p 9 f.src (calBytes 1 (f.payload.getD 1 0)
    (BitVec.ofNat 16 (leAt f.payload 2 2)) ((d - a) % 2 ^ 32) (b2n l) (leAt f.payload 9 3))
  refine ⟨_, exec_calReceived_request s p f a d l ha hl hk hd, ⟨g, ?_, htype, hdst, hpayload⟩, ?_⟩
  · rw [hqueue, portOf_of_only (meanTaken_only s f) (by decide) (by decide)]
  · rw [sendFrame_chn]
    exact ⟨(congrArg ChnUnit.daNew hmean :), (congrArg ChnUnit.calValid hmean :), (congrArg ChnUnit.da hmean :),
      ((meanTaken_only s f).mono (by decide)).trans (sendFrame_link_only ..)⟩

/-- The mean is in force, under the epoch of the broadcast result (11 R402). -/
def resultTaken (s : State) (f : Frame) (x : Word) : State :=
  { s with chn.daNew := none, chn.da := x, chn.calEp := f.payload.getD 1 0, chn.calValid := true,
           chn.anchor := BitVec.ofNat 8 (byteAt f.payload 8),
           chn.dh := delayHead s.chn.addr.toNat (byteAt f.payload 8) x (BitVec.ofNat 32 (leAt f.payload 4 4)) }

/-- A result takes the mean into force where one waits. -/
theorem exec_calReceived_result (hk : byteAt f.payload 0 = 2) (hd : f.dst = 0) (hn : isAnchor s = false) :
    exec (.calReceived p f a d l) s = .next (s.chn.daNew.elim s fun x => loseAlign (resultTaken s f x)) := by
  show execCalReceived p f a d l s = _
  unfold execCalReceived
  rw [if_neg (by simp [ha, hl])]
  dsimp only
  rw [if_neg (by simp [hk]), if_neg (by simp [hk]), if_pos ⟨hk, hd, hn⟩]
  cases s.chn.daNew <;> rfl

theorem calReceived_takes_result (hk : byteAt f.payload 0 = 2) (hd : f.dst = 0) (hn : isAnchor s = false) :
    (∀ x, s.chn.daNew = some x → Does (.calReceived p f a d l) s fun t =>
      t.chn = { s.chn with daNew := none, da := x, calEp := f.payload.getD 1 0, calValid := true,
                           anchor := BitVec.ofNat 8 (byteAt f.payload 8),
                           dh := delayHead s.chn.addr.toNat (byteAt f.payload 8) x (BitVec.ofNat 32 (leAt f.payload 4 4)) } ∧
        t.tim.aligned = false ∧ Only [.chn, .tim] s t) ∧
    (s.chn.daNew = none → Idle (.calReceived p f a d l) s) := by
  have hexec := exec_calReceived_result s p f a d l ha hl hk hd hn
  refine ⟨fun x hx => ?_, fun hx => ?_⟩
  · rw [hx, Option.elim_some] at hexec
    exact ⟨_, hexec, rfl, rfl, (only_chn (by decide) s (resultTaken s f x).chn).trans ((loseAlign_only _).mono (by decide))⟩
  · rwa [hx, Option.elim_none] at hexec

end Calibrated

theorem calReceived_idle (s : State) (p : Port) (f : Frame) (a d : Nat) (l : Bool) (h : f.payload.length ≠ 12) :
    Idle (.calReceived p f a d l) s := if_pos (by simp [h])

/-! ## Records (14 R531) -/

/-- A record or a FAULT frame has been heard. -/
def nounHeard (s : State) (p : Port) (f : Frame) : State := frameTold (frameNoted s f) p

theorem nounHeard_only (s : State) (p : Port) (f : Frame) : Only [.chn, .host, .core, .en] s (nounHeard s p f) :=
  ((frameNoted_only ..).mono (by decide)).trans ((irqRaise_only ..).mono (by decide))

theorem nounHeard_chn (s : State) (p : Port) (f : Frame) : (nounHeard s p f).chn =
    { s.chn with flts := (f.flt, s.now) :: s.chn.flts.filter fun x => decide (s.now - x.2 ≤ 10 * ctPerMs) } :=
  frameNoted_chn s f

theorem inWindow_congr {s t : State} (hnow : t.now = s.now) (hwin : t.chn.win = s.chn.win) : inWindow t = inWindow s := by
  simp only [inWindow, windowOver, hnow, hwin]

/-- At the head a record that comes in a window is queued. -/
def recordTaken (s : State) (p : Port) (f : Frame) (k : Fin 3) : State :=
  if isHead s && inWindow s then queueRecord (nounHeard s p f) k f.src f.payload else nounHeard s p f

theorem recordTaken_only (s : State) (p : Port) (f : Frame) (k : Fin 3) :
    Only [.chn, .host, .core, .en] s (recordTaken s p f k) := by
  unfold recordTaken
  split
  · exact (nounHeard_only ..).trans (only_chn (by decide) ..)
  · exact nounHeard_only ..

theorem exec_recordFrameReceived (s : State) (p : Port) (f : Frame) (k : Fin 3) (ha : active s = true)
    (hn : isAnchor s = false) (hk : recKind f.type = some k) :
    exec (.recordFrameReceived p f) s = .next (recordTaken s p f k) := by
  have hchn := nounHeard_chn s p f
  have hhead : isHead (nounHeard s p f) = isHead s := (congrArg (fun c : ChnUnit => c.addr == 1#7) hchn :)
  have hwindow : inWindow (nounHeard s p f) = inWindow s :=
    inWindow_congr ((nounHeard_only s p f).same .now (by decide)) (congrArg ChnUnit.win hchn :)
  have htaken : (if isHead (nounHeard s p f) && inWindow (nounHeard s p f) then
      queueRecord (nounHeard s p f) k f.src f.payload else nounHeard s p f) = recordTaken s p f k := by
    rw [hhead, hwindow, recordTaken]
  have hanchor : isAnchor (recordTaken s p f k) = false := (isAnchor_of_only (recordTaken_only s p f k) (by decide)).trans hn
  show execRecordFrameReceived p f s = _
  unfold execRecordFrameReceived
  rw [if_neg (by simp [ha]), hk]
  dsimp only
  rw [heardFrame_of_not_anchor s f hn, ← frameTold, ← nounHeard, htaken]
  exact if_pos (by rw [hanchor]; rfl)

theorem recordTaken_recs (s : State) (p : Port) (f : Frame) (k : Fin 3) (hh : isHead s = true) (hw : inWindow s = true) :
    (recordTaken s p f k).chn.recs[k] =
      if s.chn.recs[k].recs.length < 128 then { s.chn.recs[k] with recs := s.chn.recs[k].recs ++ [(f.src, f.payload)] }
      else { recs := s.chn.recs[k].recs.drop 1 ++ [(f.src, f.payload)], lost := satInc s.chn.recs[k].lost } := by
  have hrecs : (nounHeard s p f).chn.recs = s.chn.recs := (congrArg ChnUnit.recs (nounHeard_chn s p f) :)
  rw [recordTaken, if_pos (by simp [hh, hw]), queueRecord_recs, hrecs]

theorem recordFrameReceived_queues (s : State) (p : Port) (f : Frame) (k : Fin 3) (ha : active s = true)
    (hn : isAnchor s = false) (hk : recKind f.type = some k) : Does (.recordFrameReceived p f) s fun t =>
    (isHead s = true → inWindow s = true → s.chn.recs[k].recs.length < 128 →
      t.chn.recs[k].recs = s.chn.recs[k].recs ++ [(f.src, f.payload)] ∧ t.chn.recs[k].lost = s.chn.recs[k].lost) ∧
      (isHead s = true → inWindow s = true → 128 ≤ s.chn.recs[k].recs.length →
        t.chn.recs[k].recs = s.chn.recs[k].recs.drop 1 ++ [(f.src, f.payload)] ∧ t.chn.recs[k].lost = satInc s.chn.recs[k].lost) ∧
      ((isHead s = false ∨ inWindow s = false) → t.chn.recs = s.chn.recs) ∧ Only [.chn, .host, .core, .en] s t := by
  refine ⟨_, exec_recordFrameReceived s p f k ha hn hk, fun hh hw hroom => ?_, fun hh hw hfull => ?_, fun h => ?_,
    recordTaken_only ..⟩
  · rw [recordTaken_recs s p f k hh hw, if_pos hroom]
    exact ⟨rfl, rfl⟩
  · rw [recordTaken_recs s p f k hh hw, if_neg (Nat.not_lt.mpr hfull)]
    exact ⟨rfl, rfl⟩
  · rw [recordTaken, if_neg (by obtain h | h := h <;> simp [h]), nounHeard_chn]

/-! ## FAULT frames (11 R416; 12 R470; 16 R616) -/

theorem exec_faultFrameReceived (s : State) (p : Port) (f : Frame) (ha : active s = true) (ht : f.type = 4) :
    exec (.faultFrameReceived p f) s = .next (frameTold (heardFrame s f) p) := if_pos (by simp [ha, ht])

theorem liveFlt_congr {l : List Part} {s t : State} (h : Only l s t) (hl : ∀ q ∈ Part.now :: conditionParts, q ∉ l) :
    liveFlt { s with chn := t.chn } = liveFlt t := by
  have hown : ownFlt t = ownFlt s := ownFlt_of_only h fun q hq => hl q (List.mem_cons_of_mem _ hq)
  have hheard : heardFlt t = heardFlt { s with chn := t.chn } := heardFlt_congr (h.same .now (hl _ (by decide))) rfl
  unfold liveFlt
  rw [hheard, hown]
  rfl

/-- What the head's register tells follows the chain's state. -/
theorem updateLive_told {s v : State} (h : Only [.en, .chn] s v) :
    (updateLive v).host.live = liveFlt { s with chn := (updateLive v).chn } := by
  have hchn : (updateLive v).chn = v.chn := (updateLive_only v).same .chn (by decide)
  rw [updateLive_live, hchn, liveFlt_congr h (by decide)]

theorem frameNoted_live (s : State) (f : Frame) : (frameNoted s f).host.live = liveFlt { s with chn := (frameNoted s f).chn } :=
  updateLive_told (((noteTop_only s f.src).mono (by decide)).trans (only_chn (by decide) ..))

theorem faultFrameReceived_hears (s : State) (p : Port) (f : Frame) (ha : active s = true) (hn : isAnchor s = false)
    (ht : f.type = 4) : Does (.faultFrameReceived p f) s fun t =>
      t.chn.flts.head? = some (f.flt, s.now) ∧ t.host.live = liveFlt { s with chn := t.chn } ∧
        Only [.chn, .host, .core, .en] s t := by
  have hexec := exec_faultFrameReceived s p f ha ht
  rw [heardFrame_of_not_anchor s f hn] at hexec
  exact ⟨_, hexec, frameNoted_heard s f, frameNoted_live s f, nounHeard_only ..⟩

/-- On the anchor the fault of a cell removes torque that stands (16 R616). -/
theorem faultFrameReceived_removes (s : State) (p : Port) (f : Frame) (ha : active s = true) (hn : isAnchor s = true)
    (ht : f.type = 4) (hb : f.flt.getLsbD 1 = true) (ho : torqueOn s = true) :
    Does (.faultFrameReceived p f) s fun t => t.tq.ten = false ∧ t.tq.rd = .removed := by
  refine ⟨_, exec_faultFrameReceived s p f ha ht, ?_⟩
  have htq : (frameNoted s f).tq = s.tq := (frameNoted_only s f).same .tq (by decide)
  have hanchor : isAnchor (frameNoted s f) = true := (isAnchor_of_only (frameNoted_only s f) (by decide)).trans hn
  have hends : TorqueEnds (frameNoted s f) := .inl (.inl (by rw [torqueOn, htq]; exact ho))
  have hremoved := tqImmediate_removed (frameNoted s f) 9 hanchor hends
  have hanchor' : isAnchor (tqImmediate (frameNoted s f) 9) = true :=
    (isAnchor_of_only (tqImmediate_only ..) (by decide)).trans hanchor
  show (heardFrame s f).tq.ten = false ∧ (heardFrame s f).tq.rd = .removed
  rw [heardFrame_eq, hb]
  show (causeHeard (tqImmediate (frameNoted s f) 9) (f.flt.getLsbD 2) 10).tq.ten = false ∧
    (causeHeard (tqImmediate (frameNoted s f) 9) (f.flt.getLsbD 2) 10).tq.rd = .removed
  unfold causeHeard
  split
  · exact tqImmediate_removed _ 10 hanchor' (.inr hremoved)
  · exact hremoved

/-- Settles O33: requests for an address by `enumAsk`, its answer by `enumReply`; a calibration request by `meanTaken`, the result
by `resultTaken`; records and FAULT frames by what a device notes of every frame. -/
theorem enumCalAndRecords : Obligations.EnumCalAndRecords :=
  ⟨enumReceived_takes_address, enumReceived_other_idle, enumReceived_answers, enumReceived_asks_next,
    enumReceived_north_request_idle, enumReplyTimeout_asks, enumReplyTimeout_ends, enumReplyTimeout_idle, calReceived_answers,
    fun s p f a d l ha hl hk hd _ hn => calReceived_takes_result s p f a d l ha hl hk hd hn, calReceived_idle,
    recordFrameReceived_queues, faultFrameReceived_hears,
    fun s p f ha hn ht hb ho _ => faultFrameReceived_removes s p f ha hn ht hb ho⟩

end Sys2Proof.Machine

/-! PROOFS. The chain verbs: enumeration, calibration, streaming, status, crumbs, break (11 R397, R400, R415, R435; 14 R539 to R542;
O44). -/

namespace Sys2Proof.Machine

/-! ## `CHAIN_ENUM` (11 R397; 14 R539) -/

/-- The head of a chain that is closed to a ring where the payload says so. -/
def headState (s : State) (m : Msg) : State := { setAddr s 1 with chn.ring := byteAt m.payload 0 == 1 }

/-- What an enumeration knows as it begins: the head's own place as an anchor and the generation of its north port. -/
def firstAsk (s : State) (w : Waiting) : EnumRun :=
  let ntx : BitVec 2 := BitVec.ofNat 2 (genCode (txGen s.np))
  { next := 2, tries := 1, anchor := if isAnchor s then 1 else 0, twoAnchors := false, beyond := false, el1 := ntx == 1,
    ntx := ntx, w := w }

/-- An enumeration begins: the device is the head, and asks for the address next to its own. -/
def enumBegun (s : State) (m : Msg) (w : Waiting) : State := enumAsk (headState s m) (firstAsk (headState s m) w)

theorem headState_chn (s : State) (m : Msg) :
    (headState s m).chn.addr = 1 ∧ (headState s m).chn.ring = (byteAt m.payload 0 == 1) := by
  have haddr : (setAddr s 1).chn.addr = 1 := by rw [setAddr_chn]
  exact ⟨haddr, rfl⟩

theorem headState_only (s : State) (m : Msg) : Only [.chn, .host, .en] s (headState s m) :=
  ((setAddr_only s 1).mono (by decide)).trans (only_chn (by decide) _ (headState s m).chn)

theorem enumBegun_asks (s : State) (m : Msg) (w : Waiting) :
    (enumBegun s m w).chn.addr = 1 ∧ (enumBegun s m w).chn.ring = (byteAt m.payload 0 == 1) ∧
      (∃ e, (enumBegun s m w).chn.enum = some e ∧ e.next = 2 ∧ e.tries = 1 ∧ e.w = w) ∧
      (∃ f, (enumBegun s m w).np.txq = s.np.txq ++ [f] ∧ f.type = 8 ∧ f.src = 1 ∧
        f.payload = [2, BitVec.ofNat 8 (b2n (byteAt m.payload 0 == 1))]) ∧
      Only [.chn, .np, .host, .en] s (enumBegun s m w) := by
  have hhead := headState_only s m
  have hnp : (headState s m).np = s.np := hhead.same .np (by decide)
  obtain ⟨haddr, hring⟩ := headState_chn s m
  unfold enumBegun
  generalize he : firstAsk (headState s m) w = e
  have hnext : e.next = 2 ∧ e.tries = 1 ∧ e.w = w := he ▸ ⟨rfl, rfl, rfl⟩
  generalize headState s m = u at hhead hnp haddr hring
  obtain ⟨hrun, ⟨g, hqueue, htype, hsrc, hpayload⟩, honly⟩ := enumAsk_asks u e
  rw [hnp] at hqueue
  rw [haddr] at hsrc
  rw [hnext.1, hring] at hpayload
  exact ⟨haddr, hring, ⟨e, hrun, hnext⟩, ⟨g, hqueue, htype, hsrc, hpayload⟩,
    (hhead.mono (by decide)).trans (honly.mono (by decide))⟩

theorem windowRecent_entered (s : State) (v : VerbRow) (m : Msg) : windowRecent (entered s v m) = windowRecent s := by
  have h : ∀ u : State, u.now = s.now → u.chn = s.chn → windowRecent u = windowRecent s := fun u hnow hchn => by
    unfold windowRecent
    rw [hnow, hchn]
  exact h _ ((entered_only s v m).same .now (by decide)) ((entered_only s v m).same .chn (by decide))

/-- The first two tests of `CHAIN_ENUM` pass for a payload of four bytes that only asks for a ring. -/
theorem chainEnum_value (p : List Byte) (h : p = [0, 0, 0, 0] ∨ p = [1, 0, 0, 0]) :
    firstBad [badIf (decide (1 < byteAt p 0)) 0, reserved p 1 3] = none ∧
      BitVec.ofNat 8 (b2n (byteAt p 0 == 1)) = p.getD 0 0 := by
  obtain rfl | rfl := h <;> decide

theorem exec_chainEnum (s : State) (m : Msg) (h : verbFits s rowChainEnum m = true)
    (hp : m.payload = [0, 0, 0, 0] ∨ m.payload = [1, 0, 0, 0]) : exec (.chainEnum m) s = .next (
      let u := entered s rowChainEnum m
      if windowRecent s then errState u rowChainEnum m 0x10 else enumBegun (enumSettle u) m (waitOf rowChainEnum m)) := by
  have hexec := verb_runs h (c := .chainEnum m) rfl rfl
  obtain ⟨hvalue, -⟩ := chainEnum_value m.payload hp
  dsimp only at hexec
  rw [hvalue] at hexec
  dsimp only at hexec
  rw [windowRecent_entered] at hexec
  exact hexec

theorem chainEnum_begins (s : State) (m : Msg) (h : verbFits s rowChainEnum m = true)
    (hp : m.payload = [0, 0, 0, 0] ∨ m.payload = [1, 0, 0, 0]) (hw : windowRecent s = false) (he : s.chn.enum = none) :
    Does (.chainEnum m) s fun t =>
      t.chn.addr = 1 ∧ t.chn.ring = (byteAt m.payload 0 == 1) ∧ t.mbx = s.mbx ∧
        (∃ e, t.chn.enum = some e ∧ e.next = 2 ∧ e.tries = 1 ∧ e.w = waitOf rowChainEnum m) ∧
        (∃ f, t.np.txq = s.np.txq ++ [f] ∧ f.type = 8 ∧ f.src = 1 ∧ f.payload = [2, m.payload.getD 0 0]) ∧
        Only [.safe, .chn, .sp, .np, .host, .en] (hostActivity s) t := by
  have hentered := entered_only s rowChainEnum m
  have hsettled : enumSettle (entered s rowChainEnum m) = entered s rowChainEnum m := by
    rw [enumSettle, hentered.same .chn (by decide)]
    show (match s.chn.enum with | none => _ | some e => _) = _
    rw [he]
  have hexec := exec_chainEnum s m h hp
  dsimp only at hexec
  rw [hw, if_neg Bool.false_ne_true, hsettled] at hexec
  obtain ⟨haddr, hring, hrun, ⟨f, hqueue, htype, hsrc, hpayload⟩, honly⟩ :=
    enumBegun_asks (entered s rowChainEnum m) m (waitOf rowChainEnum m)
  have hnp : (entered s rowChainEnum m).np = s.np := hentered.same .np (by decide)
  have hall : Only [.safe, .chn, .sp, .np, .host, .en] (hostActivity s) _ :=
    (hentered.mono (by decide)).trans (honly.mono (by decide))
  refine ⟨_, hexec, haddr, hring, hall.same .mbx (by decide), hrun, ⟨f, by rw [hqueue, hnp], htype, hsrc, ?_⟩, hall⟩
  rw [hpayload, (chainEnum_value m.payload hp).2]

theorem chainEnum_refuses (s : State) (m : Msg) (h : verbFits s rowChainEnum m = true) (hp : m.payload = [0, 0, 0, 0])
    (hw : windowRecent s = true) :
    Does (.chainEnum m) s fun t => Refuses (entered s rowChainEnum m) t rowChainEnum m 8 0x10 := by
  have hexec := exec_chainEnum s m h (.inl hp)
  dsimp only at hexec
  rw [hw, if_pos rfl] at hexec
  exact ⟨_, hexec, refuses_entered h 8 0x10⟩

/-! ## `CHAIN_CAL` (11 R400 to R402; 14 R540) -/

theorem streamM_entered (s : State) (v : VerbRow) (m : Msg) : streamM (entered s v m) = streamM s := by
  have hchn : (entered s v m).chn = s.chn := (entered_only s v m).same .chn (by decide)
  unfold streamM
  rw [hchn]

/-- A calibration of the whole chain before its first exchange. -/
def calStart (s : State) (m : Msg) : CalRun :=
  { addr := 1, xchg := 0, n := 0, sum := 0, okMap := 0, dhead := 0, ds := [], far := 0, start := s.now, w := waitOf rowChainCal m }

theorem exec_chainCal (s : State) (m : Msg) (h : verbFits s rowChainCal m = true) : exec (.chainCal m) s = .next (
    let u := entered s rowChainCal m
    if streamM s != 0 then errState u rowChainCal m 0x10
    else if !s.chn.enumDone then errState u rowChainCal m 0x11
    else calAsk (calSettle u) (calStart s m)) := by
  have hexec := verb_runs h (c := .chainCal m) rfl rfl
  have hdone : (entered s rowChainCal m).chn.enumDone = s.chn.enumDone :=
    congrArg ChnUnit.enumDone ((entered_only s rowChainCal m).same .chn (by decide))
  have hnow : (entered s rowChainCal m).now = s.now := (entered_only s rowChainCal m).same .now (by decide)
  rw [streamM_entered, hdone, hnow] at hexec
  exact hexec

/-- A calibration with its first exchange, with address 2. -/
def calFirst (c : CalRun) : CalRun := { c with addr := 2, xchg := c.xchg + 1 }

/-- From the head, the first exchange of a calibration is with its neighbour to the north. -/
theorem calAsk_first (s : State) (c : CalRun) (ha : s.chn.addr = 1) (hc : c.addr = 1) (ht : 2 ≤ s.chn.top.toNat) :
    calAsk s c = sendFrame { s with chn.cal := some (calFirst c) } .north 9 2
      (calBytes 0 s.chn.ep (c.xchg + 1) 0 0 0) := by
  have hto : toward s 2 = .north := by rw [toward, ha]; rfl
  have hnext : (if c.addr = s.chn.addr.toNat then c.addr + 1 else c.addr) = 2 := by
    rw [ha, hc]
    rfl
  unfold calAsk
  dsimp only
  rw [hnext, if_neg (Nat.not_lt.mpr ht), hto]
  rfl

theorem chainCal_begins (s : State) (m : Msg) (h : verbFits s rowChainCal m = true) (hm : streamM s = 0)
    (hd : s.chn.enumDone = true) (hc : s.chn.cal = none) (ht : 2 ≤ s.chn.top.toNat) (ha : s.chn.addr = 1) :
    Does (.chainCal m) s fun t =>
      (∃ c, t.chn.cal = some c ∧ c.addr = 2 ∧ c.xchg = 1 ∧ c.n = 0 ∧ c.w = waitOf rowChainCal m) ∧
        (∃ f, t.np.txq = s.np.txq ++ [f] ∧ f.type = 9 ∧ f.dst = 2 ∧ f.payload = calBytes 0 s.chn.ep 1 0 0 0) ∧
        t.mbx = s.mbx ∧ Only [.safe, .chn, .sp, .np] (hostActivity s) t := by
  have hentered := entered_only s rowChainCal m
  have hchn : (entered s rowChainCal m).chn = s.chn := hentered.same .chn (by decide)
  have hnp : (entered s rowChainCal m).np = s.np := hentered.same .np (by decide)
  have hexec := exec_chainCal s m h
  generalize entered s rowChainCal m = u at hexec hentered hchn hnp
  have hsettled : calSettle u = u := by
    rw [calSettle, hchn]
    show (match s.chn.cal with | none => _ | some c => _) = _
    rw [hc]
  dsimp only at hexec
  rw [hm, hd, if_neg (by decide), if_neg (by decide), hsettled,
    calAsk_first u (calStart s m) (by rw [hchn, ha]) rfl (by rw [hchn]; exact ht)] at hexec
  generalize hv : ({ u with chn.cal := some (calFirst (calStart s m)) } : State) = v at hexec
  have hrun : v.chn.cal = some (calFirst (calStart s m)) := hv ▸ rfl
  have hqueued : v.np = s.np := hv ▸ hnp
  have hbegun : Only [.chn] u v := hv ▸ only_chn (by decide) u _
  obtain ⟨f, hqueue, htype, hdst, -, hpayload⟩ := sendFrame_queues v .north 9 2 (calBytes 0 u.chn.ep 1 0 0 0)
  have hall : Only [.safe, .chn, .sp, .np] (hostActivity s) (sendFrame v .north 9 2 (calBytes 0 u.chn.ep 1 0 0 0)) :=
    (hentered.mono (by decide)).trans ((hbegun.mono (by decide)).trans ((sendFrame_north_only ..).mono (by decide)))
  rw [← hqueued, ← hchn]
  exact ⟨_, hexec, ⟨_, hrun, rfl, rfl, rfl, rfl⟩, ⟨f, hqueue, htype, hdst, hpayload⟩, hall.same .mbx (by decide), hall⟩

theorem chainCal_refuses_streaming (s : State) (m : Msg) (h : verbFits s rowChainCal m = true) (hm : streamM s ≠ 0) :
    Does (.chainCal m) s fun t => Refuses (entered s rowChainCal m) t rowChainCal m 8 0x10 := by
  have hexec := exec_chainCal s m h
  dsimp only at hexec
  rw [if_pos (bne_iff_ne.mpr hm)] at hexec
  exact ⟨_, hexec, refuses_entered h 8 0x10⟩

theorem chainCal_refuses_unnumbered (s : State) (m : Msg) (h : verbFits s rowChainCal m = true) (hm : streamM s = 0)
    (hd : s.chn.enumDone = false) :
    Does (.chainCal m) s fun t => Refuses (entered s rowChainCal m) t rowChainCal m 8 0x11 := by
  have hexec := exec_chainCal s m h
  dsimp only at hexec
  rw [hm, hd, if_neg (by decide), if_pos (by decide)] at hexec
  exact ⟨_, hexec, refuses_entered h 8 0x11⟩

/-! ## `CHAIN_STREAM` (11 R415; 14 R541) -/

/-- The kind that a payload asks for. -/
def streamKind (m : Msg) : BitVec 2 := BitVec.ofNat 2 (byteAt m.payload 0)

/-- The window's start that the anchor would announce. -/
def streamWofs (s : State) (m : Msg) : Nat := (windowOfs (entered s rowChainStream m)).1

/-- What the tests of R415 make of a payload. -/
def streamJudged (s : State) (m : Msg) : Option Nat :=
  streamRefusal s (streamKind m) (byteAt m.payload 1) (windowSlot s (streamKind m)) (streamWofs s m)

/-- The reply to a setting: what every device's window now is. -/
def streamReply (s : State) (m : Msg) : List Byte :=
  if byteAt m.payload 1 = 0 then List.replicate 8 0
  else [if chainEl1 s then 2 else 1, s.chn.top] ++ leBytes 2 (windowSlot s (streamKind m)) ++ leBytes 2 (streamWofs s m) ++ [0, 0]

/-- The setting waits for the next tick that is fixed, and a window's start that the anchor draws is drawn. -/
def streamWaits (s : State) (m : Msg) : State :=
  setStream (windowOfs (entered s rowChainStream m)).2 (m.payload.getD 1 0) (streamKind m) (streamWofs s m)

theorem windowOfs_only (s : State) : Only [.freeCtr] s (windowOfs s).2 := by
  unfold windowOfs
  split
  · exact Only.refl ..
  · exact takeFree_only s

theorem streamWaits_only (s : State) (m : Msg) : Only [.freeCtr, .safe, .chn] (hostActivity s) (streamWaits s m) :=
  ((entered_only s rowChainStream m).mono (by decide)).trans
    (((windowOfs_only _).mono (by decide)).trans (only_chn (by decide) _ (streamWaits s m).chn))

theorem streamWaits_chn (s : State) (m : Msg) : (streamWaits s m).chn = { s.chn with setq := s.chn.setq ++
    [{ from_ := s.sch.tseq, m := m.payload.getD 1 0, kind := streamKind m, wofs := streamWofs s m }] } := by
  have honly : Only [.safe, .freeCtr] (hostActivity s) (windowOfs (entered s rowChainStream m)).2 :=
    ((entered_only ..).mono (by decide)).trans ((windowOfs_only _).mono (by decide))
  have hchn : (windowOfs (entered s rowChainStream m)).2.chn = s.chn := honly.same .chn (by decide)
  have hsch : (windowOfs (entered s rowChainStream m)).2.sch = s.sch := honly.same .sch (by decide)
  unfold streamWaits setStream
  dsimp only
  rw [hchn, hsch]

/-- The tests of R415 and the length of a slot read nothing that a verb's entry changes. -/
theorem streamRefusal_entered (s : State) (v : VerbRow) (m : Msg) (k : BitVec 2) (n slot wofs : Nat) :
    streamRefusal (entered s v m) k n slot wofs = streamRefusal s k n slot wofs ∧
      windowSlot (entered s v m) k = windowSlot s k := by
  unfold entered
  dsimp only
  split <;> exact ⟨rfl, rfl⟩

/-- Whether the chain has an EL1 hop is known from the chain's state, its ports and their configuration. -/
theorem chainEl1_streamWaits (s : State) (m : Msg) : chainEl1 (streamWaits s m) = chainEl1 s := by
  have honly := streamWaits_only s m
  have hsp : (streamWaits s m).sp = s.sp := honly.same .sp (by decide)
  have hnp : (streamWaits s m).np = s.np := honly.same .np (by decide)
  unfold chainEl1 ownHopEl1
  rw [hsp, hnp, streamWaits_chn]

theorem exec_chainStream (s : State) (m : Msg) (h : verbFits s rowChainStream m = true) (h0 : byteAt m.payload 0 ≤ 2)
    (h2 : m.payload.drop 2 = [0, 0]) : exec (.chainStream m) s = .next ((streamJudged s m).elim
      (replyOk (streamWaits s m) rowChainStream.code m (streamReply s m))
      fun d => errState (entered s rowChainStream m) rowChainStream m d) := by
  have hexec := verb_runs h (c := .chainStream m) rfl rfl
  have hvalue : firstBad [badIf (decide (2 < byteAt m.payload 0)) 0, reserved m.payload 2 2] = none := by
    rw [reserved, h2, badIf, if_neg (by simpa using h0)]
    rfl
  obtain ⟨-, hslot⟩ := streamRefusal_entered s rowChainStream m (streamKind m) 0 0 0
  obtain ⟨hjudged, -⟩ := streamRefusal_entered s rowChainStream m (streamKind m) (byteAt m.payload 1)
    (windowSlot s (streamKind m)) (streamWofs s m)
  have htop : (streamWaits s m).chn.top = s.chn.top := (congrArg ChnUnit.top (streamWaits_chn s m) :)
  dsimp only at hexec
  rw [hvalue] at hexec
  dsimp only at hexec
  rw [← streamKind, ← streamWofs, hslot, hjudged, ← streamJudged, ← streamWaits, chainEl1_streamWaits, htop] at hexec
  rw [hexec]
  cases streamJudged s m <;> rfl

theorem chainStream_sets (s : State) (m : Msg) (h : verbFits s rowChainStream m = true) (h0 : byteAt m.payload 0 ≤ 2)
    (h2 : m.payload.drop 2 = [0, 0]) :
    (∀ d, streamJudged s m = some d →
      Does (.chainStream m) s fun t => Refuses (entered s rowChainStream m) t rowChainStream m 8 d) ∧
    (streamJudged s m = none → Does (.chainStream m) s fun t =>
      t.chn.setq = s.chn.setq ++
        [{ from_ := s.sch.tseq, m := m.payload.getD 1 0, kind := streamKind m, wofs := streamWofs s m }] ∧
        t.chn.m = s.chn.m ∧ Replies s t rowChainStream m (streamReply s m) ∧
        Only (.freeCtr :: .safe :: replyParts) (hostActivity s) t) := by
  have hexec := exec_chainStream s m h h0 h2
  refine ⟨fun d hd => ?_, fun hd => ?_⟩
  · rw [hd, Option.elim_some] at hexec
    exact ⟨_, hexec, refuses_entered h 8 d⟩
  · rw [hd, Option.elim_none] at hexec
    have hwaits := streamWaits_only s m
    have hkept : beyondReplies (replyOk (streamWaits s m) rowChainStream.code m (streamReply s m)).chn = _ :=
      (replyOk_beyondReplies ..).trans (congrArg beyondReplies (streamWaits_chn s m))
    obtain ⟨-, -, -, -, -, -, -, hnone⟩ := (verbFits_iff s rowChainStream m).mp h
    have hreply := reply_of_noWaiters (streamWaits s m) rowChainStream.code m false false (streamReply s m)
      (noWaiters_of_mbx (hwaits.same .mbx (by decide)) hnone)
    exact ⟨_, hexec, (congrArg ChnUnit.setq hkept :), (congrArg ChnUnit.m hkept :),
      hreply.of_addr (congrArg ChnUnit.addr (streamWaits_chn s m) :),
      (hwaits.mono (by decide)).trans ((replyOk_only ..).mono (by decide))⟩

/-- Without a stream no window has to fit, so only a missing calibration and a kind that EL1 does not carry are refused. -/
theorem streamRefusal_of_none (s : State) (kind : BitVec 2) (slot wofs d : Nat) (h : streamRefusal s kind 0 slot wofs = some d) :
    d = 0x11 ∨ d = 0x12 := by
  simp only [streamRefusal, if_pos, badIf, Bool.false_eq_true, if_false] at h
  cases hc : allCalibrated s with
  | false =>
    rw [hc] at h
    exact .inl (Option.some.inj h).symm
  | true =>
    rw [hc] at h
    cases hk : chainEl1 s && kind != 1 with
    | false =>
      rw [hk] at h
      exact nomatch h
    | true =>
      rw [hk] at h
      exact .inr (Option.some.inj h).symm

/-! ## `CHAIN_STAT` and `CHAIN_CRUMB` (11 R432, R435) -/

theorem chainStat_answers (s : State) (m : Msg) (h : verbFits s rowChainStat m = true) : Does (.chainStat m) s fun t =>
    Replies s t rowChainStat m (chainStatBytes s) ∧ Only replyParts (hostActivity s) t :=
  ⟨_, verb_runs h (c := .chainStat m) rfl rfl,
    (reply_of_noWaiters (hostActivity s) _ _ _ _ _ (noWaiters_of_fits h)).of_addr rfl, replyOk_only ..⟩

theorem chainCrumb_answers (s : State) (m : Msg) (c : BitVec 7 × List Byte × Nat) (h : verbFits s rowChainCrumb m = true)
    (h1 : m.payload.drop 1 = [0, 0, 0]) (h2 : 2 ≤ byteAt m.payload 0) (h3 : byteAt m.payload 0 ≤ 0x40)
    (hc : (s.chn.cacc.find? fun x => x.1.toNat == byteAt m.payload 0) = some c) : Does (.chainCrumb m) s fun t =>
      Replies s t rowChainCrumb m (padTo 32 c.2.1 ++ leBytes 4 (min 0xFFFFFFFF (msSince s c.2.2))) ∧
        Only replyParts (hostActivity s) t := by
  have hexec := verb_runs h (c := .chainCrumb m) rfl rfl
  have hvalue : firstBad [badIf (decide (byteAt m.payload 0 < 2) || decide (0x40 < byteAt m.payload 0)) 0,
      reserved m.payload 1 3] = none := by
    rw [reserved, h1, badIf, if_neg (by rw [Bool.or_eq_true, decide_eq_true_eq, decide_eq_true_eq]; omega)]
    rfl
  have hfound : ((entered s rowChainCrumb m).chn.cacc.find? fun x => x.1.toNat == byteAt m.payload 0) = some c := hc
  dsimp only at hexec
  rw [hvalue] at hexec
  dsimp only at hexec
  rw [hfound] at hexec
  exact ⟨_, hexec, (reply_of_noWaiters (hostActivity s) _ _ _ _ _ (noWaiters_of_fits h)).of_addr rfl, replyOk_only ..⟩

/-! ## `CHAIN_BREAK` (14 R542) -/

/-- A break waits behind those that were asked for before. -/
def breakAsked (s : State) (m : Msg) : State :=
  { entered s rowChainBreak m with chn.brk := s.chn.brk ++ [waitOf rowChainBreak m] }

theorem exec_chainBreak (s : State) (m : Msg) (h : verbFits s rowChainBreak m = true) : exec (.chainBreak m) s = .next (
    if !portEnabled s .north || !s.sup.vport then errState (entered s rowChainBreak m) rowChainBreak m 0x10
    else chainBreakGo (breakAsked s m)) :=
  verb_runs h (c := .chainBreak m) rfl rfl

theorem breakAsked_only (s : State) (m : Msg) : Only [.safe, .chn] (hostActivity s) (breakAsked s m) :=
  ((entered_only s rowChainBreak m).mono (by decide)).trans (only_chn (by decide) _ (breakAsked s m).chn)

theorem breakAsked_chn (s : State) (m : Msg) :
    (breakAsked s m).chn = { s.chn with brk := s.chn.brk ++ [waitOf rowChainBreak m] } := by
  show { (entered s rowChainBreak m).chn with brk := s.chn.brk ++ [waitOf rowChainBreak m] } = _
  rw [(entered_only s rowChainBreak m).same .chn (by decide)]
  rfl

/-- Whether the pattern may begin does not depend on the verb that asks for it. -/
theorem breakAsked_decides (s : State) (m : Msg) : (breakAsked s m).np = s.np ∧
    breakPort (breakAsked s m) .north = breakPort s .north ∧ breakFree (breakAsked s m) .north = breakFree s .north ∧
    (putBreak (breakAsked s m) .north).np = (putBreak s .north).np := ⟨rfl, rfl, rfl, rfl⟩

theorem chainBreak_waits (s : State) (m : Msg) (h : verbFits s rowChainBreak m = true) (hp : breakPort s .north = true) :
    Does (.chainBreak m) s fun t =>
      t.chn = { s.chn with brk := s.chn.brk ++ [waitOf rowChainBreak m] } ∧
      (s.np.brkOut = false → breakFree s .north = true → t.np = { s.np with
        brkOut := true, relaying := false, txEnd := s.now,
        endOut := if transmitting s s.np then some .missing else s.np.endOut }) ∧
      ((s.np.brkOut = true ∨ breakFree s .north = false) → t.np = s.np) ∧ Only [.safe, .chn, .np] (hostActivity s) t := by
  have hcan : (!portEnabled s .north || !s.sup.vport) = false := by
    rw [← Bool.not_and, Bool.not_eq_false']
    exact hp
  have hexec := exec_chainBreak s m h
  rw [hcan, if_neg Bool.false_ne_true] at hexec
  have hgo := chainBreakGo_only (breakAsked s m)
  have hchn : (chainBreakGo (breakAsked s m)).chn = (breakAsked s m).chn := hgo.same .chn (by decide)
  obtain ⟨hnp, hport, hfree, hput⟩ := breakAsked_decides s m
  have hwaits : (breakAsked s m).chn.brk.isEmpty = false := by simp [breakAsked]
  refine ⟨_, hexec, hchn.trans (breakAsked_chn s m), fun ho hf => ?_, fun hn => ?_,
    ((breakAsked_only s m).mono (by decide)).trans (hgo.mono (by decide))⟩
  · rw [chainBreakGo, if_pos (by simp [hwaits, hnp, ho, hport, hp, hfree, hf]), hput]
    simp [putBreak, setPort, portOf, ho]
  · rw [chainBreakGo, if_neg (by obtain hn | hn := hn <;> simp [hnp, hfree, hn]), hnp]

theorem chainBreak_refuses (s : State) (m : Msg) (h : verbFits s rowChainBreak m = true)
    (hp : portEnabled s .north = false ∨ s.sup.vport = false) :
    Does (.chainBreak m) s fun t => Refuses (entered s rowChainBreak m) t rowChainBreak m 8 0x10 := by
  have hexec := exec_chainBreak s m h
  rw [if_pos (by obtain hp | hp := hp <;> simp [hp])] at hexec
  exact ⟨_, hexec, refuses_entered h 8 0x10⟩

/-- Settles O44: every verb by `verb_runs`; what it begins by `enumBegun`, `calAsk_first`, `streamWaits` and `breakAsked`. -/
theorem chainVerbs : Obligations.ChainVerbs :=
  ⟨chainEnum_begins, chainEnum_refuses, chainCal_begins, chainCal_refuses_streaming, chainCal_refuses_unnumbered,
    chainStream_sets, streamRefusal_of_none, chainStat_answers, chainCrumb_answers, chainBreak_waits, chainBreak_refuses⟩

end Sys2Proof.Machine

/-! PROOFS. Every step keeps LIVE within SEEN and the switches within the grants (12 R470; 08 R899): the two invariants, and what the
shared operations of the model do with them. -/

namespace Sys2Proof.Machine

/-! ## The two invariants as one predicate -/

/-- Which invariant: a bit of `HOST_FLT.LIVE` is set in `SEEN` (12 R470), or a switch conducts only under a grant (08 R899). -/
inductive Guard where
  | live | switch

/-- The invariant, of the two units it speaks of. -/
def Held : Guard → BalUnit → HostUnit → Prop
  | .live, _, h => h.live &&& ~~~ h.seen = 0
  | .switch, b, _ => b.closed &&& ~~~ b.grant = 0

/-- The invariant of a state: `FltOk` or `SwitchOk`. An operation that leaves its four registers alone gets an equivalence below, one
that may change them an implication; both are for `simp`. -/
def Guarded (g : Guard) (s : State) : Prop := Held g s.bal s.host

/-- It holds of every state that a command answers. -/
def Leads (g : Guard) (o : Host.Outcome State Fault Refusal) : Prop := ∀ t, o = .next t → Guarded g t

/-- It holds of the state that an instruction's effect leaves, where it leaves one. -/
def Within (g : Guard) (r : Exec) : Prop := ∀ t, r = .ok t → Guarded g t

section
variable {g : Guard} {s t : State}

theorem guarded_live (s : State) : Guarded .live s ↔ FltOk s := Iff.rfl

theorem guarded_switch (s : State) : Guarded .switch s ↔ SwitchOk s := Iff.rfl

/-! ### Changes of a state: what is written as `{ s with … }` -/

@[simp] theorem guarded_mk {now freeCtr rst sup clk tim ph sch acq aux bal prot gate sp np chn host mbx cfg store safe tq en core mem
    ecc mpu dma ce apl jrn pw pending} :
    Guarded g (State.mk now freeCtr rst sup clk tim ph sch acq aux bal prot gate sp np chn host mbx cfg store safe tq en core mem ecc
      mpu dma ce apl jrn pw pending) ↔ Held g bal host := Iff.rfl

@[simp] theorem held_state (s : State) : Held g s.bal s.host ↔ Guarded g s := Iff.rfl

@[simp] theorem held_bal {b : BalUnit} {h : HostUnit} {wells testFail lastOn grantCt frame due testRun testWait testEven testAt testOn
    btest stuck rbUse} :
    Held g (BalUnit.mk wells testFail b.closed lastOn b.grant grantCt frame due testRun testWait testEven testAt testOn btest stuck
      rbUse) h ↔ Held g b h := by
  cases g <;> rfl

@[simp] theorem held_host {b : BalUnit} {h : HostUnit} {irqen irq spiSel spiPtr uartSel uartPtr lfail baud baudReg errSpi errUart
    errClaim ready hwake hwakeAt hsdo htx htxEnd uartAt} :
    Held g b (HostUnit.mk irqen irq spiSel spiPtr uartSel uartPtr h.live h.seen lfail baud baudReg errSpi errUart errClaim ready hwake
      hwakeAt hsdo htx htxEnd uartAt) ↔ Held g b h := by
  cases g <;> rfl

@[simp] theorem guarded_ite (c : Prop) [Decidable c] (s t : State) :
    Guarded g (if c then s else t) ↔ if c then Guarded g s else Guarded g t := by
  split <;> rfl

@[simp] theorem guarded_foldl_iff {α : Type} (f : State → α → State) (l : List α)
    (hf : ∀ s a, Guarded g (f s a) ↔ Guarded g s) : Guarded g (l.foldl f s) ↔ Guarded g s := by
  induction l generalizing s with
  | nil => rfl
  | cons a l ih => exact ih.trans (hf s a)

theorem guarded_foldl {α : Type} (f : State → α → State) (l : List α) (hf : ∀ s a, Guarded g s → Guarded g (f s a))
    (hs : Guarded g s) : Guarded g (l.foldl f s) := by
  induction l generalizing s with
  | nil => exact hs
  | cons a l ih => exact ih (hf s a hs)

/-! ### Answers of commands and effects of instructions -/

@[simp] theorem leads_next (t : State) : Leads g (.next t) ↔ Guarded g t :=
  ⟨fun h => h t rfl, fun h _ ht => Host.Outcome.next.inj ht ▸ h⟩

@[simp] theorem leads_ite (c : Prop) [Decidable c] (x y : Host.Outcome State Fault Refusal) :
    Leads g (if c then x else y) ↔ if c then Leads g x else Leads g y := by
  split <;> rfl

@[simp] theorem within_ok (t : State) : Within g (.ok t) ↔ Guarded g t :=
  ⟨fun h => h t rfl, fun h _ ht => Except.ok.inj ht ▸ h⟩

@[simp] theorem within_error (f : CoreFault) : Within g (.error f) := fun _ h => by cases h

@[simp] theorem within_ite (c : Prop) [Decidable c] (x y : Exec) :
    Within g (if c then x else y) ↔ if c then Within g x else Within g y := by
  split <;> rfl

/-! ### One set of bits within another -/

theorem covered_by_or {n : Nat} (x y : BitVec n) : x &&& ~~~ (y ||| x) = 0 := by
  ext i
  simp +contextual

theorem covered_of_fewer {n : Nat} {x y m : BitVec n} (h : x &&& ~~~ y = 0) : (x &&& ~~~ m) &&& ~~~ y = 0 := by
  rw [BitVec.and_assoc, BitVec.and_comm (~~~ m), ← BitVec.and_assoc, h]
  exact BitVec.zero_and

theorem covered_of_same {n : Nat} {x y m : BitVec n} (h : x &&& ~~~ y = 0) : (x &&& ~~~ m) &&& ~~~ (y &&& ~~~ m) = 0 := by
  rw [BitVec.not_and, BitVec.not_not]
  ext i hi
  have hb : (x &&& ~~~ y)[i] = false := by simp [h]
  simp at hb ⊢
  exact fun hx hm => ⟨hb hx, hm⟩

/-! ### From a frame, and from the registers -/

theorem guarded_switch_of_only {l : List Part} (h : Only l s t) (hl : .bal ∉ l) (hs : Guarded .switch s) : Guarded .switch t :=
  show t.bal.closed &&& ~~~ t.bal.grant = 0 from h.same .bal hl ▸ hs

theorem guarded_live_of_only {l : List Part} (h : Only l s t) (hl : .host ∉ l) (hs : Guarded .live s) : Guarded .live t :=
  show t.host.live &&& ~~~ t.host.seen = 0 from h.same .host hl ▸ hs

theorem guarded_switch_of_open (h : s.bal.closed = 0) : Guarded .switch s := by
  rw [Guarded, Held, h]
  exact BitVec.zero_and

theorem guarded_switch_of_granted (h : s.bal.closed = s.bal.grant) : Guarded .switch s := by
  rw [Guarded, Held, h]
  exact BitVec.and_not_self _

end

end Sys2Proof.Machine

/-! PROOFS. Every step keeps LIVE within SEEN and the switches within the grants: the operations of power, clocks, buses, the line, the
phase and acquisition. -/

namespace Sys2Proof.Machine

section
variable {g : Guard} {s t : State}

/-! ### Shared changes of the state -/

@[simp] theorem guarded_areaWritten (s : State) : Guarded g (areaWritten s) ↔ Guarded g s := by
  simp [areaWritten]

@[simp] theorem guarded_storeRecord (s : State) (r) : Guarded g (storeRecord s r) ↔ Guarded g s := by
  simp [storeRecord]

@[simp] theorem guarded_storePassword (s : State) : Guarded g (storePassword s) ↔ Guarded g s := by
  simp [storePassword]

@[simp] theorem guarded_irqSet (s : State) (m) : Guarded g (irqSet s m) ↔ Guarded g s := by
  simp [irqSet]

@[simp] theorem guarded_updateLive (hs : Guarded g s) : Guarded g (updateLive s) := by
  cases g with
  | live => exact covered_by_or ..
  | switch => exact guarded_switch_of_only (updateLive_only s) (by decide) hs

@[simp] theorem guarded_noteConditions (hs : Guarded g s) : Guarded g (noteConditions s) := by
  simp [noteConditions, hs]

@[simp] theorem guarded_setPort (s : State) (p u) : Guarded g (setPort s p u) ↔ Guarded g s := by
  unfold setPort
  split <;> simp

@[simp] theorem guarded_originate (s : State) (ty dst payload) : Guarded g (originate s ty dst payload).1 ↔ Guarded g s := by
  simp [originate]

@[simp] theorem guarded_enqueueTx (s : State) (p f) : Guarded g (enqueueTx s p f) ↔ Guarded g s := by
  simp [enqueueTx]

@[simp] theorem guarded_sendFrame (s : State) (p ty dst payload) : Guarded g (sendFrame s p ty dst payload) ↔ Guarded g s := by
  simp [sendFrame]

@[simp] theorem guarded_sendAcked (s : State) (p ty dst payload pair) :
    Guarded g (sendAcked s p ty dst payload pair) ↔ Guarded g s := by
  simp [sendAcked]

@[simp] theorem guarded_placeOut (s : State) (i bytes) : Guarded g (placeOut s i bytes) ↔ Guarded g s := by
  simp [placeOut]

@[simp] theorem guarded_deliver (s : State) (m bytes) : Guarded g (deliver s m bytes) ↔ Guarded g s := by
  unfold deliver
  split
  · simp
  · split <;> simp [↓guarded_mk, ↓held_state]

@[simp] theorem guarded_reply (s : State) (verb m err env payload) :
    Guarded g (reply s verb m err env payload) ↔ Guarded g s := by
  simp [reply]

@[simp] theorem guarded_replyOk (s : State) (verb m payload) : Guarded g (replyOk s verb m payload) ↔ Guarded g s := by
  simp [replyOk]

@[simp] theorem guarded_replyErr (s : State) (verb m code detail) :
    Guarded g (replyErr s verb m code detail) ↔ Guarded g s := by
  simp [replyErr]

@[simp] theorem guarded_replyEnv (s : State) (w data) : Guarded g (replyEnv s w data) ↔ Guarded g s := by
  unfold replyEnv
  split <;> simp

@[simp] theorem guarded_noteDiscard (s : State) (e) : Guarded g (noteDiscard s e) ↔ Guarded g s := by
  unfold noteDiscard
  split <;> simp

@[simp] theorem guarded_jrnQueue (s : State) (e) : Guarded g (jrnQueue s e) ↔ Guarded g s := by
  unfold jrnQueue
  dsimp only
  repeat' split
  all_goals simp

@[simp] theorem guarded_jrnPut (s : State) (inc ty data) : Guarded g (jrnPut s inc ty data) ↔ Guarded g s := by
  simp [jrnPut]

@[simp] theorem guarded_jrnSuppressed (s : State) : Guarded g (jrnSuppressed s) ↔ Guarded g s := by
  simp [jrnSuppressed]

@[simp] theorem guarded_writeParts (n) (s : State) (e inc ovf p) : Guarded g (writeParts n s e inc ovf p) ↔ Guarded g s := by
  induction n generalizing s p with
  | zero => rfl
  | succ n ih => cases inc <;> simp [writeParts, ih]

@[simp] theorem guarded_jrnCommit (s : State) (e) : Guarded g (jrnCommit s e) ↔ Guarded g s := by
  simp [jrnCommit]

@[simp] theorem guarded_jrnWriteOne (s : State) : Guarded g (jrnWriteOne s) ↔ Guarded g s := by
  unfold jrnWriteOne
  split
  · rfl
  · next e _ => cases e.mark <;> simp

@[simp] theorem guarded_jrnFlush (n) (s : State) : Guarded g (jrnFlush n s) ↔ Guarded g s := by
  induction n generalizing s with
  | zero => rfl
  | succ n ih => simp [jrnFlush, ih]

@[simp] theorem guarded_jrnFlushClosed (n) (s : State) : Guarded g (jrnFlushClosed n s) ↔ Guarded g s := by
  induction n generalizing s with
  | zero => rfl
  | succ n ih => simp [jrnFlushClosed, ih]

@[simp] theorem guarded_jrnDrain (n) (s : State) : Guarded g (jrnDrain n s) ↔ Guarded g s := by
  induction n generalizing s with
  | zero => rfl
  | succ n ih => simp [jrnDrain, ih]

@[simp] theorem guarded_jrnFlushInc (s : State) : Guarded g (jrnFlushInc s) ↔ Guarded g s := by
  simp [jrnFlushInc]

@[simp] theorem guarded_takeFree (s : State) : Guarded g (takeFree s).2 ↔ Guarded g s := by
  simp [takeFree]

@[simp] theorem guarded_irqRaise (s : State) (v) : Guarded g (irqRaise s v) ↔ Guarded g s := by
  simp [irqRaise]

@[simp] theorem guarded_openWells (m) (hs : Guarded g s) : Guarded g (openWells s m) := by
  cases g with
  | live => exact hs
  | switch => exact covered_of_fewer hs

@[simp] theorem guarded_openSwitches (hs : Guarded g s) : Guarded g (openSwitches s) := by
  simp [openSwitches, hs]

@[simp] theorem guarded_dropTest (s : State) : Guarded g (dropTest s) ↔ Guarded g s := by
  simp [dropTest]

@[simp] theorem guarded_takeWin (s : State) : Guarded g (takeWin s) ↔ Guarded g s := by
  unfold takeWin
  dsimp only
  split <;> simp

@[simp] theorem guarded_noteDist (s : State) (m) : Guarded g (noteDist s m) ↔ Guarded g s := by
  simp [noteDist]

@[simp] theorem guarded_owEnd (s : State) : Guarded g (owEnd s) ↔ Guarded g s := by
  simp [owEnd]

@[simp] theorem guarded_openSpan (source seq point hold unsched inst) (hs : Guarded g s) :
    Guarded g (openSpan s source seq point hold unsched inst) := by
  simp [openSpan, hs]

@[simp] theorem guarded_mapOpen (s : State) (f) : Guarded g (mapOpen s f) ↔ Guarded g s := by
  simp [mapOpen]

@[simp] theorem guarded_markSpans (s : State) (m) : Guarded g (markSpans s m) ↔ Guarded g s := by
  simp [markSpans]

@[simp] theorem guarded_blankForTick (hs : Guarded g s) : Guarded g (blankForTick s) := by
  simp [blankForTick, hs]

@[simp] theorem guarded_rdnAnswers (l o) (s : State) : Guarded g (rdnAnswers l o s) ↔ Guarded g s := by
  induction l generalizing s with
  | nil => rfl
  | cons w l ih => simp [rdnAnswers, ih]

@[simp] theorem guarded_tqRemove (s : State) (cause dest) : Guarded g (tqRemove s cause dest) ↔ Guarded g s := by
  simp [tqRemove]

@[simp] theorem guarded_endEnabling (s : State) (cause) : Guarded g (endEnabling s cause) ↔ Guarded g s := by
  simp [endEnabling]

@[simp] theorem guarded_tqImmediate (s : State) (cause) : Guarded g (tqImmediate s cause) ↔ Guarded g s := by
  simp [tqImmediate]

@[simp] theorem guarded_tqDecision (s : State) (cause) : Guarded g (tqDecision s cause) ↔ Guarded g s := by
  simp [tqDecision]

@[simp] theorem guarded_gateAnswers (l) (s : State) : Guarded g (gateAnswers l s) ↔ Guarded g s := by
  induction l generalizing s with
  | nil => rfl
  | cons w l ih => simp [gateAnswers, ih]

@[simp] theorem guarded_gateNotify (s : State) : Guarded g (gateNotify s) ↔ Guarded g s := by
  simp [gateNotify]

@[simp] theorem guarded_gateTurnOff (s : State) : Guarded g (gateTurnOff s) ↔ Guarded g s := by
  unfold gateTurnOff
  split <;> simp

@[simp] theorem guarded_latchDisc (s : State) (c) : Guarded g (latchDisc s c) ↔ Guarded g s := by
  simp [latchDisc]

@[simp] theorem guarded_discLatch (c) (hs : Guarded g s) : Guarded g (discLatch s c) := by
  unfold discLatch
  dsimp only
  split
  · split <;> simp [hs]
  · apply guarded_noteConditions
    rw [guarded_tqImmediate]
    split <;> simp [-jrnPut_bal, hs]

@[simp] theorem guarded_abortCfgScan (s : State) : Guarded g (abortCfgScan s) ↔ Guarded g s := by
  simp [abortCfgScan]

@[simp] theorem guarded_endInterval (s : State) : Guarded g (endInterval s) ↔ Guarded g s := by
  simp [endInterval]

@[simp] theorem guarded_svcReleased (s : State) : Guarded g (svcReleased s) ↔ Guarded g s := by
  simp [svcReleased]

@[simp] theorem guarded_hostActivity (s : State) : Guarded g (hostActivity s) ↔ Guarded g s := by
  simp [hostActivity]

@[simp] theorem guarded_latchWake (s : State) (m) : Guarded g (latchWake s m) ↔ Guarded g s := by
  simp [latchWake]

@[simp] theorem guarded_wakeFor (s : State) (m) : Guarded g (wakeFor s m) ↔ Guarded g s := by
  simp [wakeFor]

@[simp] theorem guarded_startAlarm (s : State) : Guarded g (startAlarm s) ↔ Guarded g s := by
  simp [startAlarm]

@[simp] theorem guarded_wakeAlarm (s : State) (m) : Guarded g (wakeAlarm s m) ↔ Guarded g s := by
  simp [wakeAlarm]

@[simp] theorem guarded_resetState (s : State) (code) : Guarded g (resetState s code) := by
  cases g <;> exact BitVec.zero_and

@[simp] theorem guarded_fullReset (code) (hs : Guarded g s) : Guarded g (fullReset s code) := by
  simp [fullReset, hs]

@[simp] theorem guarded_fullStop (reason code ev) (hs : Guarded g s) : Guarded g (fullStop s reason code ev) := by
  unfold fullStop
  dsimp only
  split <;> simp [hs]

@[simp] theorem guarded_fstopSteps (hs : Guarded g s) : Guarded g (fstopSteps s) := by
  simp [fstopSteps, hs]

@[simp] theorem guarded_fwStop (code) (hs : Guarded g s) : Guarded g (fwStop s code) := by
  simp [fwStop, hs]

/-! ### Power and start-up -/

theorem leads_execPowerOnReset : Leads g (execPowerOnReset s) := by
  simp [execPowerOnReset]

theorem leads_execVstackFaultDriveThreshold {rising} (hs : Guarded g s) : Leads g (execVstackFaultDriveThreshold rising s) := by
  simp [execVstackFaultDriveThreshold, hs]

theorem leads_execBrownOut (hs : Guarded g s) : Leads g (execBrownOut s) := by
  simp [execBrownOut, hs]

theorem leads_execInternalRailFail (hs : Guarded g s) : Leads g (execInternalRailFail s) := by
  simp [execInternalRailFail, hs]

theorem leads_execResetNAssert (hs : Guarded g s) : Leads g (execResetNAssert s) := by
  simp [execResetNAssert, hs]

@[simp] theorem guarded_findHead (s : State) (inc) : Guarded g (findHead s inc) ↔ Guarded g s := by
  simp [findHead]

@[simp] theorem guarded_findOldest (s : State) : Guarded g (findOldest s) ↔ Guarded g s := by
  simp [findOldest]

@[simp] theorem guarded_jrnCheck (s : State) (inc) : Guarded g (jrnCheck s inc) ↔ Guarded g s := by
  unfold jrnCheck
  dsimp only
  split <;> simp

@[simp] theorem guarded_restoreDisc (s : State) : Guarded g (restoreDisc s) ↔ Guarded g s := by
  unfold restoreDisc
  split <;> simp

@[simp] theorem guarded_restorePassword (s : State) : Guarded g (restorePassword s) ↔ Guarded g s := by
  simp [restorePassword]

@[simp] theorem guarded_tripRecord (s : State) (w uv trip) : Guarded g (tripRecord s w uv trip) ↔ Guarded g s := by
  simp [tripRecord]

@[simp] theorem guarded_tripsDuringReset (s : State) : Guarded g (tripsDuringReset s) ↔ Guarded g s := by
  simp [tripsDuringReset]

@[simp] theorem guarded_firstCycle (s : State) : Guarded g (firstCycle s) ↔ Guarded g s := by
  simp [firstCycle]

theorem leads_execResetRelease {testHigh} (hs : Guarded g s) : Leads g (execResetRelease testHigh s) := by
  simp [execResetRelease, hs]

@[simp] theorem guarded_startTracker (s : State) : Guarded g (startTracker s) ↔ Guarded g s := by
  simp [startTracker]

@[simp] theorem guarded_dropAnchor (s : State) : Guarded g (dropAnchor s) ↔ Guarded g s := by
  simp [dropAnchor]

@[simp] theorem guarded_leaveTest (s : State) (v) : Guarded g (leaveTest s v) ↔ Guarded g s := by
  simp [leaveTest]

@[simp] theorem guarded_handOver (s : State) : Guarded g (handOver s) ↔ Guarded g s := by
  simp [handOver]

theorem leads_execSealCheck (hs : Guarded g s) : Leads g (execSealCheck s) := by
  simp [execSealCheck, hs]

theorem leads_execVioLoss (hs : Guarded g s) : Leads g (execVioLoss s) := by
  simp [execVioLoss, hs]

theorem leads_execVioReturn (hs : Guarded g s) : Leads g (execVioReturn s) := by
  simp [execVioReturn, hs]

@[simp] theorem guarded_silencePorts (south north) (hs : Guarded g s) : Guarded g (silencePorts s south north) := by
  simp [silencePorts, hs]

theorem leads_execVportLoss (hs : Guarded g s) : Leads g (execVportLoss s) := by
  simp [execVportLoss, hs]

theorem leads_execVportReturn (hs : Guarded g s) : Leads g (execVportReturn s) := by
  simp [execVportReturn, hs]

theorem leads_execPortOperational {p} (hs : Guarded g s) : Leads g (execPortOperational p s) := by
  simp [execPortOperational, hs]

/-! ### Clocks and time -/

@[simp] theorem guarded_retune (s : State) : Guarded g (retune s) ↔ Guarded g s := by
  simp [retune]

@[simp] theorem guarded_setRef (s : State) : Guarded g (setRef s) ↔ Guarded g s := by
  simp [setRef]

@[simp] theorem guarded_tickClk (s : State) : Guarded g (tickClk s) ↔ Guarded g s := by
  simp [tickClk]

theorem leads_execPllLock (hs : Guarded g s) : Leads g (execPllLock s) := by
  simp [execPllLock, hs]

theorem leads_execCrystalGood (hs : Guarded g s) : Leads g (execCrystalGood s) := by
  simp [execCrystalGood, hs]

theorem leads_execCrystalFail (hs : Guarded g s) : Leads g (execCrystalFail s) := by
  simp [execCrystalFail, hs]

@[simp] theorem guarded_smRemove (s : State) : Guarded g (smRemove s) ↔ Guarded g s := by
  simp [smRemove]

theorem leads_execClockSupervisionCheck {sysSafety sysLfo safetyLfo} (hs : Guarded g s) :
    Leads g (execClockSupervisionCheck sysSafety sysLfo safetyLfo s) := by
  simp [execClockSupervisionCheck, hs]

@[simp] theorem guarded_loseAlign (s : State) : Guarded g (loseAlign s) ↔ Guarded g s := by
  simp [loseAlign]

theorem leads_execAlignTimeout (hs : Guarded g s) : Leads g (execAlignTimeout s) := by
  simp [execAlignTimeout, hs]

theorem leads_execOrphanTimeout (hs : Guarded g s) : Leads g (execOrphanTimeout s) := by
  simp [execOrphanTimeout, hs]

@[simp] theorem guarded_leavePoints (s : State) (lo n) : Guarded g (leavePoints s lo n) ↔ Guarded g s := by
  simp [leavePoints]

@[simp] theorem guarded_wakeTracker (s : State) : Guarded g (wakeTracker s) ↔ Guarded g s := by
  simp [wakeTracker]

@[simp] theorem guarded_advance (s : State) (n count) : Guarded g (advance s n count) ↔ Guarded g s := by
  simp [advance]

@[simp] theorem guarded_retreat (s : State) (n) : Guarded g (retreat s n) ↔ Guarded g s := by
  simp [retreat]

@[simp] theorem guarded_tickPhase (s : State) : Guarded g (tickPhase s) ↔ Guarded g s := by
  unfold tickPhase
  split <;> simp

@[simp] theorem guarded_tickTest (s : State) : Guarded g (tickTest s) ↔ Guarded g s := by
  simp [tickTest]

@[simp] theorem guarded_tickBal (s : State) : Guarded g (tickBal s) ↔ Guarded g s := by
  simp [tickBal]

@[simp] theorem guarded_owNext (s : State) : Guarded g (owNext s) ↔ Guarded g s := by
  unfold owNext
  split <;> simp

@[simp] theorem guarded_tickOw (s : State) : Guarded g (tickOw s) ↔ Guarded g s := by
  simp [tickOw]

@[simp] theorem guarded_tickApl (s : State) : Guarded g (tickApl s) ↔ Guarded g s := by
  simp [tickApl]

/-! ### Ends and pauses of balancing -/

@[simp] theorem guarded_balEnd (m code) (hs : Guarded g s) : Guarded g (balEnd s m code) := by
  cases g with
  | live => exact hs
  | switch => exact covered_of_same hs

@[simp] theorem guarded_markPauses (s : State) : Guarded g (markPauses s) ↔ Guarded g s := by
  simp [markPauses]

@[simp] theorem guarded_dropHotTest (s : State) : Guarded g (dropHotTest s) ↔ Guarded g s := by
  simp [dropHotTest]

@[simp] theorem guarded_balPauseNow (hs : Guarded g s) : Guarded g (balPauseNow s) := by
  have hd : Guarded g (dropHotTest (markPauses s)) := by simp [hs]
  cases g with
  | live => exact hd
  | switch => exact covered_of_same hd

@[simp] theorem guarded_reclose (hs : Guarded g s) : Guarded g (reclose s) := by
  unfold reclose
  split
  · cases g with
    | live => exact hs
    | switch => exact BitVec.and_not_self _
  · exact hs

@[simp] theorem guarded_btestReply (s : State) (t) : Guarded g (btestReply s t) ↔ Guarded g s := by
  simp [btestReply]

/-! ### The buses and the core's windows -/

@[simp] theorem guarded_openPuts (s : State) (a b) : Guarded g (openPuts s a b) ↔ Guarded g s := by
  simp [openPuts]

theorem guarded_of_busRead {n a b t} (h : busRead s a n = .ok (b, t)) : Guarded g t ↔ Guarded g s := by
  unfold busRead at h
  repeat' split at h
  all_goals cases h
  all_goals simp

@[simp] theorem guarded_setCh (s : State) (n c) : Guarded g (setCh s n c) ↔ Guarded g s := by
  simp [setCh]

theorem guarded_of_dmaRead {n a w b t} (h : dmaRead s n a w = .ok (b, t)) : Guarded g t ↔ Guarded g s := by
  unfold dmaRead at h
  repeat' split at h
  all_goals cases h
  exact guarded_of_busRead ‹_›

@[simp] theorem guarded_dmaFault (s : State) (n sub wr a) : Guarded g (dmaFault s n sub wr a) ↔ Guarded g s := by
  simp [dmaFault]

theorem guarded_of_readDesc {n k a l t} (h : readDesc s n k a = .ok (l, t)) : Guarded g t ↔ Guarded g s := by
  induction k generalizing s a l with
  | zero => cases h; rfl
  | succ k ih =>
    unfold readDesc at h
    split at h
    · cases h
    · split at h
      · cases h
      · cases h
        exact (ih ‹_›).trans (guarded_of_dmaRead ‹_›)

@[simp] theorem guarded_dmaLoad (s : State) (n a) : Guarded g (dmaLoad s n a) ↔ Guarded g s := by
  unfold dmaLoad
  dsimp only
  split
  · simp
  · split
    · simp
    · next h =>
      have hd := (guarded_of_readDesc h (g := g)).trans (guarded_setCh ..)
      split <;> simp [hd]

@[simp] theorem guarded_dmaStart (s : State) (n) : Guarded g (dmaStart s n) ↔ Guarded g s := by
  simp [dmaStart]

@[simp] theorem guarded_dmaAbort (s : State) (n) : Guarded g (dmaAbort s n) ↔ Guarded g s := by
  unfold dmaAbort
  dsimp only
  split <;> simp

@[simp] theorem guarded_dmaResume (s : State) (n) : Guarded g (dmaResume s n) ↔ Guarded g s := by
  simp [dmaResume]

@[simp] theorem guarded_setCe (s : State) (m c) : Guarded g (setCe s m c) ↔ Guarded g s := by
  simp [setCe]

@[simp] theorem guarded_ceIrq (s : State) (m) : Guarded g (ceIrq s m) ↔ Guarded g s := by
  simp [ceIrq]

@[simp] theorem guarded_ceEnd (s : State) (m c) : Guarded g (ceEnd s m c) ↔ Guarded g s := by
  simp [ceEnd]

@[simp] theorem guarded_ceAbort (s : State) (m) : Guarded g (ceAbort s m) ↔ Guarded g s := by
  unfold ceAbort
  dsimp only
  split <;> simp

@[simp] theorem guarded_ceLaunch (s : State) (m) : Guarded g (ceLaunch s m).1 ↔ Guarded g s := by
  unfold ceLaunch
  dsimp only
  split <;> simp

@[simp] theorem guarded_romScan (s : State) : Guarded g (romScan s) ↔ Guarded g s := by
  simp [romScan]

@[simp] theorem guarded_cfgScan (s : State) : Guarded g (cfgScan s) ↔ Guarded g s := by
  simp [cfgScan]

@[simp] theorem guarded_rescan (s : State) (m) : Guarded g (rescan s m) ↔ Guarded g s := by
  simp [rescan]

@[simp] theorem guarded_scanFailed (m) (hs : Guarded g s) : Guarded g (scanFailed s m) := by
  simp [scanFailed, hs]

@[simp] theorem guarded_scanEnded (m completed) (hs : Guarded g s) : Guarded g (scanEnded s m completed) := by
  simp [scanEnded, hs]

@[simp] theorem guarded_scanHook (m completed) (hs : Guarded g s) : Guarded g (scanHook s m completed) := by
  simp [scanHook, hs]

@[simp] theorem guarded_ceStart (m) (hs : Guarded g s) : Guarded g (ceStart s m) := by
  simp [ceStart, hs]

@[simp] theorem guarded_dmaWrite (s : State) (n off v) : Guarded g (dmaWrite s n off v) ↔ Guarded g s := by
  unfold dmaWrite
  split <;> simp

@[simp] theorem guarded_ceWrite (m off v) (hs : Guarded g s) : Guarded g (ceWrite s m off v) := by
  unfold ceWrite
  split <;> simp [hs]

@[simp] theorem guarded_mpuWrite (s : State) (off v) : Guarded g (mpuWrite s off v) ↔ Guarded g s := by
  simp [mpuWrite]

theorem guarded_of_periWrite {a v t} (h : periWrite s a v = some t) (hs : Guarded g s) : Guarded g t := by
  unfold periWrite at h
  dsimp only at h
  repeat' split at h
  all_goals cases h
  all_goals simp [hs]

theorem guarded_of_busWrite {fw a b t} (h : busWrite s fw a b = .ok t) (hs : Guarded g s) : Guarded g t := by
  unfold busWrite at h
  split at h
  · cases h
  · repeat' split at h
    all_goals cases h
    · exact hs
    · simp [hs]
    · exact hs
    · exact guarded_of_periWrite ‹_› hs

@[simp] theorem guarded_notePort (s : State) (dma) : Guarded g (notePort s dma) ↔ Guarded g s := by
  simp [notePort]

/-! ### The line -/

@[simp] theorem guarded_setPortGen (s : State) (p u) : Guarded g (setPortGen s p u) ↔ Guarded g s := by
  simp [setPortGen]

@[simp] theorem guarded_latchGen (s : State) (p) : Guarded g (latchGen s p) ↔ Guarded g s := by
  unfold latchGen
  dsimp only
  split <;> simp

@[simp] theorem guarded_putOnLine (s : State) (p f c lead) : Guarded g (putOnLine s p f c lead) ↔ Guarded g s := by
  simp [putOnLine]

@[simp] theorem guarded_startOwn (s : State) (p f) : Guarded g (startOwn s p f) ↔ Guarded g s := by
  simp [startOwn]

@[simp] theorem guarded_startTime (s : State) (p f lead) : Guarded g (startTime s p f lead) ↔ Guarded g s := by
  simp [startTime]

@[simp] theorem guarded_waitTx (s : State) (p f) : Guarded g (waitTx s p f) ↔ Guarded g s := by
  simp [waitTx]

@[simp] theorem guarded_startOrWait (s : State) (p f) : Guarded g (startOrWait s p f) ↔ Guarded g s := by
  simp [startOrWait]

/-! ### Phase and strobe -/

@[simp] theorem guarded_cancelTicks (s : State) (reason) : Guarded g (cancelTicks s reason) ↔ Guarded g s := by
  simp [cancelTicks]

@[simp] theorem guarded_phaseRecord (s : State) (kind) : Guarded g (phaseRecord s kind) ↔ Guarded g s := by
  simp [phaseRecord]

@[simp] theorem guarded_settle (s : State) : Guarded g (settle s) ↔ Guarded g s := by
  simp [settle]

@[simp] theorem guarded_setPos (s : State) (p) : Guarded g (setPos s p) ↔ Guarded g s := by
  simp [setPos]

@[simp] theorem guarded_phaseJump (s : State) : Guarded g (phaseJump s) ↔ Guarded g s := by
  simp [phaseJump]

@[simp] theorem guarded_quadError (s : State) : Guarded g (quadError s) ↔ Guarded g s := by
  simp [quadError]

@[simp] theorem guarded_moveEdge (s : State) (rev) : Guarded g (moveEdge s rev) ↔ Guarded g s := by
  simp [moveEdge]

@[simp] theorem guarded_endHoldover (s : State) : Guarded g (endHoldover s) ↔ Guarded g s := by
  simp [endHoldover]

@[simp] theorem guarded_reversal (s : State) (rev) : Guarded g (reversal s rev) ↔ Guarded g s := by
  simp [reversal]

@[simp] theorem guarded_settleEdge (s : State) (rev) : Guarded g (settleEdge s rev) ↔ Guarded g s := by
  simp [settleEdge]

@[simp] theorem guarded_countEdge (s : State) (rev) : Guarded g (countEdge s rev) ↔ Guarded g s := by
  simp [countEdge]

@[simp] theorem guarded_stampEdge (s : State) (a b) : Guarded g (stampEdge s a b) ↔ Guarded g s := by
  simp [stampEdge]

@[simp] theorem guarded_stampFall (s : State) (f) : Guarded g (stampFall s f) ↔ Guarded g s := by
  simp [stampFall]

theorem leads_execEncoderEdge {ab zFall} (hs : Guarded g s) : Leads g (execEncoderEdge ab zFall s) := by
  unfold execEncoderEdge
  dsimp only
  repeat' split
  all_goals simp [hs]

theorem leads_execIndexEdge (hs : Guarded g s) : Leads g (execIndexEdge s) := by
  simp [execIndexEdge, hs]

@[simp] theorem guarded_settleZc (s : State) : Guarded g (settleZc s) ↔ Guarded g s := by
  simp [settleZc]

theorem leads_execZeroCross (hs : Guarded g s) : Leads g (execZeroCross s) := by
  unfold execZeroCross
  dsimp only
  repeat' split
  all_goals simp [hs]

theorem leads_execPhaseStall (hs : Guarded g s) : Leads g (execPhaseStall s) := by
  simp [execPhaseStall, hs]

@[simp] theorem guarded_notePass (s : State) (point) : Guarded g (notePass s point) ↔ Guarded g s := by
  simp [notePass]

@[simp] theorem guarded_skipPoint (s : State) (point) : Guarded g (skipPoint s point) ↔ Guarded g s := by
  simp [skipPoint]

theorem leads_execInstantFix {point} (hs : Guarded g s) : Leads g (execInstantFix point s) := by
  unfold execInstantFix
  dsimp only
  repeat' split
  all_goals simp [hs]

@[simp] theorem guarded_windowOfs (s : State) : Guarded g (windowOfs s).2 ↔ Guarded g s := by
  unfold windowOfs
  split <;> simp

@[simp] theorem guarded_sendBoth (s : State) (ty payload) : Guarded g (sendBoth s ty payload) ↔ Guarded g s := by
  simp [sendBoth]

@[simp] theorem guarded_freeInterval (s : State) (lead wmode wcount wofs wslot) :
    Guarded g (freeInterval s lead wmode wcount wofs wslot).2.2 ↔ Guarded g s := by
  unfold freeInterval
  dsimp only
  split <;> simp

@[simp] theorem guarded_setFree (s : State) (base fofs flen) : Guarded g (setFree s base fofs flen) ↔ Guarded g s := by
  simp [setFree]

@[simp] theorem guarded_releaseHeld (s : State) (ttx) : Guarded g (releaseHeld s ttx) ↔ Guarded g s := by
  simp [releaseHeld]

@[simp] theorem guarded_ownWindow (s : State) (f lead) : Guarded g (ownWindow s f lead) ↔ Guarded g s := by
  simp [ownWindow]

@[simp] theorem guarded_startPair (s : State) (f) : Guarded g (startPair s f) ↔ Guarded g s := by
  simp [startPair]

@[simp] theorem guarded_sendPair (s : State) (ty payload) : Guarded g (sendPair s ty payload) ↔ Guarded g s := by
  simp [sendPair]

@[simp] theorem guarded_sendTime (s : State) (t wmode wkind wcount wofs wslot) :
    Guarded g (sendTime s t wmode wkind wcount wofs wslot) ↔ Guarded g s := by
  simp [sendTime]

theorem leads_execBeatSend (hs : Guarded g s) : Leads g (execBeatSend s) := by
  simp [execBeatSend, hs]

@[simp] theorem guarded_takeSettings (s : State) (t) : Guarded g (takeSettings s t) ↔ Guarded g s := by
  unfold takeSettings
  split <;> simp

@[simp] theorem guarded_sendTick (s : State) (t) : Guarded g (sendTick s t) ↔ Guarded g s := by
  simp [sendTick]

theorem leads_execTickFrameSend (hs : Guarded g s) : Leads g (execTickFrameSend s) := by
  unfold execTickFrameSend
  repeat' split
  all_goals simp [hs]

theorem leads_execFirstBeatAfterWake (hs : Guarded g s) : Leads g (execFirstBeatAfterWake s) := by
  unfold execFirstBeatAfterWake
  dsimp only
  repeat' split
  all_goals simp [hs]

theorem leads_execCancelFrameSend (hs : Guarded g s) : Leads g (execCancelFrameSend s) := by
  unfold execCancelFrameSend
  dsimp only
  repeat' split
  all_goals simp [hs]

theorem leads_execStrobeFire {tseq} (hs : Guarded g s) : Leads g (execStrobeFire tseq s) := by
  unfold execStrobeFire
  dsimp only
  repeat' split
  all_goals simp [hs]

/-! ### Acquisition -/

@[simp] theorem guarded_noteTop (s : State) (a) : Guarded g (noteTop s a) ↔ Guarded g s := by
  simp [noteTop]

@[simp] theorem guarded_putReport (s : State) (r) : Guarded g (putReport s r) ↔ Guarded g s := by
  simp [putReport]

@[simp] theorem guarded_setAddr (a) (hs : Guarded g s) : Guarded g (setAddr s a) := by
  simp [setAddr, hs]

@[simp] theorem guarded_holdResult (s : State) (k) : Guarded g (holdResult s k) ↔ Guarded g s := by
  unfold holdResult
  dsimp only
  split <;> simp

theorem leads_execResultReady {r} (hs : Guarded g s) : Leads g (execResultReady r s) := by
  unfold execResultReady
  dsimp only
  repeat' split
  all_goals simp [hs]

theorem leads_execResultReleaseTimeout (hs : Guarded g s) : Leads g (execResultReleaseTimeout s) := by
  unfold execResultReleaseTimeout
  dsimp only
  repeat' split
  all_goals simp [hs]

theorem leads_execOnrequestAcquisition (hs : Guarded g s) : Leads g (execOnrequestAcquisition s) := by
  unfold execOnrequestAcquisition
  dsimp only
  repeat' split
  all_goals simp [hs]

@[simp] theorem guarded_startStrobe (hs : Guarded g s) : Guarded g (startStrobe s) := by
  simp [startStrobe, hs]

theorem leads_execStartupAcquisition (hs : Guarded g s) : Leads g (execStartupAcquisition s) := by
  simp [execStartupAcquisition, hs]

@[simp] theorem guarded_ntcStart (s : State) : Guarded g (ntcStart s) ↔ Guarded g s := by
  simp [ntcStart]

@[simp] theorem guarded_tickStart (hs : Guarded g s) : Guarded g (tickStart s) := by
  simp [tickStart, hs]

theorem leads_execStartupAcqRepeat (hs : Guarded g s) : Leads g (execStartupAcqRepeat s) := by
  simp [execStartupAcqRepeat, hs]

theorem leads_execStartupEvaluation (hs : Guarded g s) : Leads g (execStartupEvaluation s) := by
  unfold execStartupEvaluation
  dsimp only
  repeat' split
  all_goals simp [hs]

@[simp] theorem guarded_owStart (forced boot) (hs : Guarded g s) : Guarded g (owStart s forced boot) := by
  simp [owStart, hs]

theorem leads_execOpenWireStart (hs : Guarded g s) : Leads g (execOpenWireStart s) := by
  simp [execOpenWireStart, hs]

theorem leads_execOpenWireForced (hs : Guarded g s) : Leads g (execOpenWireForced s) := by
  simp [execOpenWireForced, hs]

theorem leads_execOpenWireDone {ref test} (hs : Guarded g s) : Leads g (execOpenWireDone ref test s) := by
  simp [execOpenWireDone, hs]

@[simp] theorem guarded_xcRunAfter (s : State) (i pass before) : Guarded g (xcRunAfter s i pass before) ↔ Guarded g s := by
  simp [xcRunAfter]

@[simp] theorem guarded_xcRun (s : State) (i pass) : Guarded g (xcRun s i pass) ↔ Guarded g s := by
  simp [xcRun]

@[simp] theorem guarded_xc3Run (s : State) (phaseB pass) : Guarded g (xc3Run s phaseB pass) ↔ Guarded g s := by
  simp [xc3Run]

@[simp] theorem guarded_xc1Well (s : State) (w pass) : Guarded g (xc1Well s w pass) ↔ Guarded g s := by
  simp [xc1Well]

@[simp] theorem guarded_xc1All (s : State) (v) : Guarded g (xc1All s v) ↔ Guarded g s := by
  simp [xc1All]

@[simp] theorem guarded_tickXc (hs : Guarded g s) : Guarded g (tickXc s) := by
  simp [tickXc, hs]

theorem leads_execXc1Xc2Run {xc1 xc2} (hs : Guarded g s) : Leads g (execXc1Xc2Run xc1 xc2 s) := by
  unfold execXc1Xc2Run
  split
  · simp [hs]
  · have hx : Guarded g (xcRun (xc1All (irqRaise (markSpans s (staleOf (usedMask s.cfg) true)) 38) xc1) 1
        (decide (99600 ≤ xc2) && decide (xc2 ≤ 100400))) := by simp [hs]
    exact (leads_next _).mpr (guarded_reclose (guarded_balPauseNow (guarded_noteConditions ((guarded_owEnd _).mpr hx))))

theorem leads_execXc4Run {microvolts} (hs : Guarded g s) : Leads g (execXc4Run microvolts s) := by
  simp [execXc4Run, hs]

theorem leads_execNtcCycleStart (hs : Guarded g s) : Leads g (execNtcCycleStart s) := by
  simp [execNtcCycleStart, hs]

theorem leads_execNtcPhaseStart (hs : Guarded g s) : Leads g (execNtcPhaseStart s) := by
  simp [execNtcPhaseStart, hs]

theorem leads_execNtcConversion {code} (hs : Guarded g s) : Leads g (execNtcConversion code s) := by
  unfold execNtcConversion
  dsimp only
  repeat' split
  all_goals simp [hs]

@[simp] theorem guarded_ntcFlagRecords (l old) (s : State) : Guarded g (ntcFlagRecords l old s) ↔ Guarded g s := by
  induction l generalizing s with
  | nil => rfl
  | cons n l ih => simp [ntcFlagRecords, ih]

theorem leads_execNtcSetPublish (hs : Guarded g s) : Leads g (execNtcSetPublish s) := by
  simp [execNtcSetPublish, hs]

@[simp] theorem guarded_overTemp (s : State) : Guarded g (overTemp s) ↔ Guarded g s := by
  simp [overTemp]

@[simp] theorem guarded_dieTake (s : State) (n t) : Guarded g (dieTake s n t) ↔ Guarded g s := by
  simp [dieTake]

@[simp] theorem guarded_xc5Run (s : State) : Guarded g (xc5Run s) ↔ Guarded g s := by
  simp [xc5Run]

theorem leads_execDieConversion {n t} (hs : Guarded g s) : Leads g (execDieConversion n t s) := by
  simp [execDieConversion, hs]

end

end Sys2Proof.Machine

/-! PROOFS. Every step keeps LIVE within SEEN and the switches within the grants: the checks, the DMA channels and the core's arithmetic.
-/

namespace Sys2Proof.Machine

section
variable {g : Guard} {s t : State}

/-! ### Cross-checks -/

theorem leads_execCeStart {m} (hs : Guarded g s) : Leads g (execCeStart m s) := by
  simp [execCeStart, hs]

theorem leads_execCeAbort {m} (hs : Guarded g s) : Leads g (execCeAbort m s) := by
  simp [execCeAbort, hs]

theorem guarded_of_ceRead {m a b t} (h : ceRead s m a = .ok (b, t)) : Guarded g t ↔ Guarded g s := by
  unfold ceRead at h
  dsimp only at h
  split at h
  · cases h
  · repeat' split at h
    all_goals cases h
    exact guarded_of_busRead ‹_›

@[simp] theorem guarded_ceWords (n) (s : State) (m) : Guarded g (ceWords n s m).1 ↔ Guarded g s := by
  induction n generalizing s with
  | zero => rfl
  | succ n ih =>
    unfold ceWords
    dsimp only
    split
    · rfl
    · split
      · simp
      · next h =>
        have hr := guarded_of_ceRead h (g := g)
        split <;> simp [ih, hr]

@[simp] theorem guarded_cfgBad (s : State) : Guarded g (cfgBad s).2 ↔ Guarded g s := by
  simp [cfgBad]

@[simp] theorem guarded_cfgFault (s : State) (a) : Guarded g (cfgFault s a) ↔ Guarded g s := by
  simp [cfgFault]

@[simp] theorem guarded_cfgBurst (hs : Guarded g s) : Guarded g (cfgBurst s) := by
  unfold cfgBurst
  dsimp only
  split <;> simp [hs]

@[simp] theorem guarded_ceBurst (m) (hs : Guarded g s) : Guarded g (ceBurst s m) := by
  simp [ceBurst, hs]

@[simp] theorem guarded_ceAborted (s : State) (m) : Guarded g (ceAborted s m) ↔ Guarded g s := by
  have hbad := guarded_cfgBad (g := g) (takeFree s).2
  unfold ceAborted
  simp only [guarded_ite, guarded_mk, held_state, guarded_setCe, ite_self]
  split
  · exact guarded_takeFree s
  · split
    · split
      · next h =>
        rw [h] at hbad
        simpa using hbad
      · next h =>
        rw [h] at hbad
        simpa using hbad
    · simp

theorem leads_execCeBurst (hs : Guarded g s) : Leads g (execCeBurst s) := by
  unfold execCeBurst
  dsimp only
  repeat' split
  all_goals simp [hs]

theorem leads_execRomScanStart (hs : Guarded g s) : Leads g (execRomScanStart s) := by
  simp [execRomScanStart, hs]

theorem leads_execConfigScanStart (hs : Guarded g s) : Leads g (execConfigScanStart s) := by
  simp [execConfigScanStart, hs]

/-! ### DMA channels and configuration engines -/

theorem leads_execDmaStart {n} (hs : Guarded g s) : Leads g (execDmaStart n s) := by
  simp [execDmaStart, hs]

theorem leads_execDmaAbort {n} (hs : Guarded g s) : Leads g (execDmaAbort n s) := by
  simp [execDmaAbort, hs]

theorem leads_execDmaResume {n} (hs : Guarded g s) : Leads g (execDmaResume n s) := by
  simp [execDmaResume, hs]

theorem leads_execDmaTrigger {trig} (hs : Guarded g s) : Leads g (execDmaTrigger trig s) := by
  simp [execDmaTrigger, hs]

@[simp] theorem guarded_dmaReads (k) (s : State) (n) : Guarded g (dmaReads k s n).1 ↔ Guarded g s := by
  induction k generalizing s with
  | zero => rfl
  | succ k ih =>
    unfold dmaReads
    dsimp only
    split
    · simp
    · next h => simp [ih, guarded_of_dmaRead h]

@[simp] theorem guarded_dmaWrites (k n) (hs : Guarded g s) : Guarded g (dmaWrites k s n).1 := by
  induction k generalizing s with
  | zero => exact hs
  | succ k ih =>
    unfold dmaWrites
    dsimp only
    split
    · simp [hs]
    · split
      · simp [hs]
      · next h =>
        apply ih
        simp [guarded_of_busWrite h hs]

@[simp] theorem guarded_dmaNext (s : State) (n) : Guarded g (dmaNext s n) ↔ Guarded g s := by
  simp [dmaNext]

@[simp] theorem guarded_dmaBurst (n) (hs : Guarded g s) : Guarded g (dmaBurst s n).1 := by
  have hr : Guarded g (dmaReads (burstUnits s.dma.ch[n]) s n).1 := (guarded_dmaReads ..).mpr hs
  unfold dmaBurst
  dsimp only
  split
  · split
    · exact guarded_dmaWrites _ _ hr
    · exact hr
  · simp [hs]

@[simp] theorem guarded_dmaAborted (n) (hs : Guarded g s) : Guarded g (dmaAborted s n) := by
  simp [dmaAborted, hs]

@[simp] theorem guarded_dmaGrant (hs : Guarded g s) : Guarded g (dmaGrant s) := by
  unfold dmaGrant
  split <;> simp [hs]

theorem leads_execDmaBurst (hs : Guarded g s) : Leads g (execDmaBurst s) := by
  unfold execDmaBurst
  dsimp only
  repeat' split
  all_goals simp [hs]

/-! ### Operands and stores -/

@[simp] theorem guarded_setGAs (s : State) (applet i v) : Guarded g (setGAs s applet i v) ↔ Guarded g s := by
  simp [setGAs]

@[simp] theorem guarded_setG (s : State) (i v) : Guarded g (setG s i v) ↔ Guarded g s := by
  simp [setG]

@[simp] theorem guarded_advancePc (s : State) : Guarded g (advancePc s) ↔ Guarded g s := by
  simp [advancePc]

@[simp] theorem guarded_setFlags (s : State) (f) : Guarded g (setFlags s f) ↔ Guarded g s := by
  simp [setFlags]

@[simp] theorem guarded_finish (s : State) (rd v flags f) : Guarded g (finish s rd v flags f) ↔ Guarded g s := by
  simp [finish]

@[simp] theorem guarded_drainOne (s : State) : Guarded g (drainOne s) ↔ Guarded g s := by
  unfold drainOne
  split <;> simp

@[simp] theorem guarded_drainN (n) (s : State) : Guarded g (drainN n s) ↔ Guarded g s := by
  induction n generalizing s with
  | zero => rfl
  | succ n ih => simp [drainN, ih]

@[simp] theorem guarded_drainAll (s : State) : Guarded g (drainAll s) ↔ Guarded g s := by
  simp [drainAll]

@[simp] theorem guarded_bufferStore (s : State) (b) : Guarded g (bufferStore s b) ↔ Guarded g s := by
  simp [bufferStore]

theorem guarded_of_coreLoadAs {a n k b t} (h : coreLoadAs s a n k = .ok (b, t)) : Guarded g t ↔ Guarded g s := by
  unfold coreLoadAs at h
  dsimp only at h
  repeat' split at h
  all_goals cases h
  exact guarded_of_busRead ‹_›

@[simp] theorem within_coreStoreAs (a b n k) (hs : Guarded g s) : Within g (coreStoreAs s a b n k) := by
  intro t h
  unfold coreStoreAs at h
  dsimp only at h
  repeat' split at h
  all_goals cases h
  · simp [hs]
  · exact guarded_of_busWrite ‹_› hs

/-! ### Exceptions and the divider -/

@[simp] theorem guarded_completeDivide (s : State) : Guarded g (completeDivide s) ↔ Guarded g s := by
  unfold completeDivide
  split
  · rfl
  · dsimp only
    split <;> simp

@[simp] theorem guarded_dmaHalt (n) (hs : Guarded g s) : Guarded g (dmaHalt s n) := by
  simp [dmaHalt, hs]

@[simp] theorem guarded_ceHalt (s : State) (m) : Guarded g (ceHalt s m) ↔ Guarded g s := by
  simp [ceHalt]

@[simp] theorem guarded_leaveApplet (s : State) : Guarded g (leaveApplet s) ↔ Guarded g s := by
  simp [leaveApplet]

@[simp] theorem guarded_haltApplet (hs : Guarded g s) : Guarded g (haltApplet s) := by
  have h6 : Guarded g (dmaHalt (dmaHalt s 6) 7) := guarded_dmaHalt _ (guarded_dmaHalt _ hs)
  simp [haltApplet, h6]

@[simp] theorem guarded_stopApplet (data) (hs : Guarded g s) : Guarded g (stopApplet s data) := by
  unfold stopApplet
  split <;> simp [hs]

@[simp] theorem guarded_decideStop (data) (hs : Guarded g s) : Guarded g (decideStop s data) := by
  simp [decideStop, hs]

@[simp] theorem guarded_pushWords (a l) (hs : Guarded g s) : Guarded g (pushWords s a l).1 := by
  induction l generalizing s a with
  | nil => exact hs
  | cons w l ih =>
    unfold pushWords
    split
    · exact hs
    · split
      · exact hs
      · next h => exact ih _ (guarded_of_busWrite h hs)

theorem guarded_of_fwWord {a w t} (h : fwWord s a = some (w, t)) : Guarded g t ↔ Guarded g s := by
  unfold fwWord at h
  repeat' split at h
  all_goals cases h
  exact guarded_of_busRead ‹_›

@[simp] theorem guarded_takeEntry (v lvl pcRet cause faddr) (hs : Guarded g s) :
    Guarded g (takeEntry s v lvl pcRet cause faddr) := by
  unfold takeEntry
  have hd : Guarded g (completeDivide s) := (guarded_completeDivide s).mpr hs
  have hp := fun a l => guarded_pushWords a l hd
  dsimp only
  split
  · simp [hd]
  · split
    · simp [hp]
    · split
      · simp [hp]
      · next h =>
        have hw := (guarded_of_fwWord h (g := g)).mpr (by simp [hp])
        split
        · simp [hw]
        · split <;> simp [hw]

@[simp] theorem guarded_takeFault (applet v sub ch pcRet cause faddr) (hs : Guarded g s) :
    Guarded g (takeFault s applet v sub ch pcRet cause faddr) := by
  simp [takeFault, hs]

@[simp] theorem guarded_takeLate (e pcRet) (hs : Guarded g s) : Guarded g (takeLate s e pcRet) := by
  simp [takeLate, hs]

@[simp] theorem guarded_takeAsync (pcRet) (hs : Guarded g s) : Guarded g (takeAsync s pcRet) := by
  unfold takeAsync
  split <;> simp [hs]

@[simp] theorem guarded_raiseSync (f) (hs : Guarded g s) : Guarded g (raiseSync s f) := by
  simp [raiseSync, hs]

@[simp] theorem guarded_staleLate (s : State) : Guarded g (staleLate s) ↔ Guarded g s := by
  simp [staleLate]

@[simp] theorem guarded_settleDivide (s : State) (regs bar) : Guarded g (settleDivide s regs bar) ↔ Guarded g s := by
  simp [settleDivide]

@[simp] theorem guarded_issue (regs bar) {body : State → Exec} (hb : ∀ s, Guarded g s → Within g (body s))
    (hs : Guarded g s) : Guarded g (issue regs bar body s) := by
  have hw : Guarded g (settleDivide (staleLate s) regs bar) := by simp [hs]
  unfold issue
  split
  · exact hs
  · split
    · simp [hs]
    · split
      · split
        · exact hs
        · split <;> simp [hs]
      · dsimp only
        split
        · simp [hw]
        · split
          · next h => exact hb _ hw _ h
          · simp [hw]

theorem leads_execExceptionEntry (hs : Guarded g s) : Leads g (execExceptionEntry s) := by
  unfold execExceptionEntry
  repeat' split
  all_goals simp [hs]

theorem leads_execFullStopTimerExpire (hs : Guarded g s) : Leads g (execFullStopTimerExpire s) := by
  simp [execFullStopTimerExpire, hs]

theorem leads_execDivideComplete (hs : Guarded g s) : Leads g (execDivideComplete s) := by
  simp [execDivideComplete, hs]

@[simp] theorem guarded_noteLate (s : State) (b sub) : Guarded g (noteLate s b sub) ↔ Guarded g s := by
  unfold noteLate
  split <;> simp

theorem leads_execStoreDrain {busErr} (hs : Guarded g s) : Leads g (execStoreDrain busErr s) := by
  unfold execStoreDrain
  dsimp only
  repeat' split
  all_goals simp [hs]

theorem leads_execWaitEnd (hs : Guarded g s) : Leads g (execWaitEnd s) := by
  simp [execWaitEnd, hs]

theorem leads_execIllegalOpcode {w} (hs : Guarded g s) : Leads g (execIllegalOpcode w s) := by
  simp [execIllegalOpcode, hs]

theorem leads_execInstructionFetchFault {busErr} (hs : Guarded g s) : Leads g (execInstructionFetchFault busErr s) := by
  unfold execInstructionFetchFault
  repeat' split
  all_goals simp [hs]

/-! ### Arithmetic -/

theorem leads_alu {rd ra rb sb f fl} (hs : Guarded g s) : Leads g (alu rd ra rb sb f fl s) :=
  (leads_next _).mpr (guarded_issue _ _ (fun t ht => by simp [aluBody, ht]) hs)

theorem leads_trapping {rd ra rb sb f ovf fl} (hs : Guarded g s) : Leads g (trapping rd ra rb sb f ovf fl s) :=
  (leads_next _).mpr (guarded_issue _ _ (fun t ht => by simp [trapBody, aluBody, ht]) hs)

theorem leads_divide {op rd ra rb} (hs : Guarded g s) : Leads g (divide op rd ra rb s) := by
  refine (leads_next _).mpr (guarded_issue _ _ (fun t ht => ?_) hs)
  unfold divBody
  dsimp only
  repeat' split
  all_goals simp [ht]

theorem leads_immediate {rd ra f} (hs : Guarded g s) : Leads g (immediate rd ra f s) :=
  (leads_next _).mpr (guarded_issue _ _ (fun t ht => by simp [immBody, ht]) hs)

theorem leads_execCmpi {ra imm} (hs : Guarded g s) : Leads g (execCmpi ra imm s) := by
  simp [execCmpi, hs]

theorem leads_execLui {rd imm} (hs : Guarded g s) : Leads g (execLui rd imm s) := by
  simp [execLui, hs]

end

end Sys2Proof.Machine

/-! PROOFS. Every step keeps LIVE within SEEN and the switches within the grants: balancing, protection, the gate and the chain. -/

namespace Sys2Proof.Machine

section
variable {g : Guard} {s t : State}

/-! ### Balancing -/

@[simp] theorem guarded_balDecide (frame) (hc : s.bal.closed = 0) (hs : Guarded g s) : Guarded g (balDecide s frame) := by
  cases g with
  | live => exact guarded_live_of_only (balDecide_only s frame) (by decide) hs
  | switch =>
    obtain hopen | ⟨hgranted, -⟩ := balDecide_closed s frame hc
    · exact guarded_switch_of_open hopen
    · exact guarded_switch_of_granted hgranted

theorem leads_execBalFrame (hs : Guarded g s) : Leads g (execBalFrame s) := by
  unfold execBalFrame
  have ho := guarded_openSwitches hs
  have hbegun : Guarded g (frameBegun s) := by
    cases g with
    | live => exact ho
    | switch => exact guarded_switch_of_open (frameBegun_closed s)
  split
  · exact (leads_next _).mpr hs
  · refine (leads_next _).mpr ?_
    split
    · exact guarded_balDecide _ (frameBegun_closed s) hbegun
    · exact hbegun

theorem leads_execBalGrantExpire {w} (hs : Guarded g s) : Leads g (execBalGrantExpire w s) := by
  refine (leads_next _).mpr ?_
  cases g with
  | live => exact hs
  | switch => exact covered_of_same hs

theorem leads_execBalTimeElapsed {w} (hs : Guarded g s) : Leads g (execBalTimeElapsed w s) := by
  simp [execBalTimeElapsed, hs]

theorem leads_execSwitchTestStart (hs : Guarded g s) : Leads g (execSwitchTestStart s) := by
  simp [execSwitchTestStart, hs]

theorem leads_execSwitchTestPeriodic (hs : Guarded g s) : Leads g (execSwitchTestPeriodic s) := by
  simp [execSwitchTestPeriodic, hs]

@[simp] theorem guarded_switchResult (w v) (hs : Guarded g s) : Guarded g (switchResult s w v) := by
  unfold switchResult
  dsimp only
  split
  · split <;> simp [-jrnPut_bal, hs]
  · simp [hs]
  · simp [-balEnd_host, hs]

@[simp] theorem guarded_switchResults (l r) (hs : Guarded g s) : Guarded g (switchResults l r s) := by
  induction l generalizing s with
  | nil => exact hs
  | cons w l ih => exact ih (guarded_switchResult _ _ hs)

@[simp] theorem guarded_btestAnswers (l) (s : State) : Guarded g (btestAnswers l s) ↔ Guarded g s := by
  induction l generalizing s with
  | nil => rfl
  | cons t l ih => simp [btestAnswers, ih]

@[simp] theorem guarded_btestFinish (s : State) : Guarded g (btestFinish s) ↔ Guarded g s := by
  simp [btestFinish]

theorem leads_execSwitchTestDone {r} (hs : Guarded g s) : Leads g (execSwitchTestDone r s) := by
  unfold execSwitchTestDone
  split
  · simp [hs]
  · refine (leads_next _).mpr (guarded_reclose ((guarded_btestFinish _).mpr (guarded_noteConditions (guarded_switchResults _ _ ?_))))
    simp [hs]

theorem leads_execBalLossExpire (hs : Guarded g s) : Leads g (execBalLossExpire s) := by
  simp [execBalLossExpire, hs]

/-! ### Protection -/

@[simp] theorem guarded_putDeg (s : State) (w uv b) : Guarded g (putDeg s w uv b) ↔ Guarded g s := by
  simp [putDeg]

@[simp] theorem guarded_putTrip (s : State) (w uv b) : Guarded g (putTrip s w uv b) ↔ Guarded g s := by
  simp [putTrip]

@[simp] theorem guarded_noteHold (s : State) : Guarded g (noteHold s) ↔ Guarded g s := by
  simp [noteHold]

theorem leads_execComparatorCrossing {w uv across} (hs : Guarded g s) : Leads g (execComparatorCrossing w uv across s) := by
  simp [execComparatorCrossing, hs]

@[simp] theorem guarded_tripNoted (w uv) (hs : Guarded g s) : Guarded g (tripNoted s w uv) := by
  simp [tripNoted, hs]

@[simp] theorem guarded_heldNote (s : State) (w uv trip) : Guarded g (heldNote s w uv trip) ↔ Guarded g s := by
  simp [heldNote]

theorem leads_execComparatorTrip {w uv} (hs : Guarded g s) : Leads g (execComparatorTrip w uv s) := by
  simp [execComparatorTrip, hs]

theorem leads_execComparatorRelease {w uv} (hs : Guarded g s) : Leads g (execComparatorRelease w uv s) := by
  simp [execComparatorRelease, hs]

@[simp] theorem guarded_ctestAnswers (l) (s : State) : Guarded g (ctestAnswers l s) ↔ Guarded g s := by
  induction l generalizing s with
  | nil => rfl
  | cons t l ih => simp [ctestAnswers, ih]

@[simp] theorem guarded_ctestFinish (s : State) : Guarded g (ctestFinish s) ↔ Guarded g s := by
  simp [ctestFinish]

@[simp] theorem guarded_putOwe (s : State) (w uv b) : Guarded g (putOwe s w uv b) ↔ Guarded g s := by
  simp [putOwe]

@[simp] theorem guarded_putRedo (s : State) (w uv b) : Guarded g (putRedo s w uv b) ↔ Guarded g s := by
  simp [putRedo]

@[simp] theorem guarded_putAgain (s : State) (w uv b) : Guarded g (putAgain s w uv b) ↔ Guarded g s := by
  simp [putAgain]

@[simp] theorem guarded_putFault (s : State) (w uv b) : Guarded g (putFault s w uv b) ↔ Guarded g s := by
  simp [putFault]

@[simp] theorem guarded_turnOn (s : State) (w uv) : Guarded g (turnOn s w uv) ↔ Guarded g s := by
  simp [turnOn]

@[simp] theorem guarded_cmpResult (w uv o blind r) (hs : Guarded g s) : Guarded g (cmpResult s w uv o blind r) := by
  unfold cmpResult
  rw [guarded_ctestFinish]
  apply guarded_noteConditions
  cases o <;> cases r <;> simp [hs]

@[simp] theorem guarded_passOver (s : State) (w uv) : Guarded g (passOver s w uv) ↔ Guarded g s := by
  simp [passOver]

theorem leads_execCmpSelfTestStart {w uv} (hs : Guarded g s) : Leads g (execCmpSelfTestStart w uv s) := by
  unfold execCmpSelfTestStart
  dsimp only
  repeat' split
  all_goals simp [hs]

theorem leads_execCmpTestWindowEnd (hs : Guarded g s) : Leads g (execCmpTestWindowEnd s) := by
  unfold execCmpTestWindowEnd
  split <;> simp [hs]

theorem leads_execOvHoldoffExpire (hs : Guarded g s) : Leads g (execOvHoldoffExpire s) := by
  simp [execOvHoldoffExpire, hs]

@[simp] theorem guarded_sendFaultFrame (s : State) : Guarded g (sendFaultFrame s) ↔ Guarded g s := by
  simp [sendFaultFrame]

theorem leads_execFaultFrameTimer (hs : Guarded g s) : Leads g (execFaultFrameTimer s) := by
  simp [execFaultFrameTimer, hs]

theorem leads_execFaultFrameRepeat (hs : Guarded g s) : Leads g (execFaultFrameRepeat s) := by
  simp [execFaultFrameRepeat, hs]

/-! ### The gate drive -/

@[simp] theorem guarded_scMark (s : State) : Guarded g (scMark s) ↔ Guarded g s := by
  simp [scMark]

theorem leads_execScTrip {ispHigh} (hs : Guarded g s) : Leads g (execScTrip ispHigh s) := by
  simp [execScTrip, hs]

theorem leads_execScSelfTestDone {trip01 trip10} (hs : Guarded g s) : Leads g (execScSelfTestDone trip01 trip10 s) := by
  simp [execScSelfTestDone, hs]

theorem leads_execGateRampStart (hs : Guarded g s) : Leads g (execGateRampStart s) := by
  simp [execGateRampStart, hs]

theorem leads_execGateCheckpoint {vds scTrip} (hs : Guarded g s) : Leads g (execGateCheckpoint vds scTrip s) := by
  simp [execGateCheckpoint, hs]

theorem leads_execGateVdsSample {vds} (hs : Guarded g s) : Leads g (execGateVdsSample vds s) := by
  simp [execGateVdsSample, hs]

theorem leads_execGateTurnoffStageEnd (hs : Guarded g s) : Leads g (execGateTurnoffStageEnd s) := by
  simp [execGateTurnoffStageEnd, hs]

/-! ### Links between devices -/

theorem leads_execFrameRelayStart {p gen} (hs : Guarded g s) : Leads g (execFrameRelayStart p gen s) := by
  simp [execFrameRelayStart, hs]

@[simp] theorem guarded_noteCrumb (s : State) (f) : Guarded g (noteCrumb s f) ↔ Guarded g s := by
  unfold noteCrumb
  dsimp only
  repeat' split
  all_goals simp

@[simp] theorem guarded_noteForward (s : State) (f arrive) : Guarded g (noteForward s f arrive) ↔ Guarded g s := by
  simp [noteForward]

@[simp] theorem guarded_endCut (s : State) (p f) : Guarded g (endCut s p f) ↔ Guarded g s := by
  unfold endCut
  split <;> simp

@[simp] theorem guarded_frameEnd (s : State) (p r) : Guarded g (frameEnd s p r) ↔ Guarded g s := by
  unfold frameEnd
  dsimp only
  split <;> simp

theorem leads_execFrameEndReceived {p r} (hs : Guarded g s) : Leads g (execFrameEndReceived p r s) := by
  simp [execFrameEndReceived, hs]

theorem leads_execStoreForwardSend {p} (hs : Guarded g s) : Leads g (execStoreForwardSend p s) := by
  unfold execStoreForwardSend
  dsimp only
  repeat' split
  all_goals simp [hs]

@[simp] theorem guarded_dropLate (s : State) : Guarded g (dropLate s) ↔ Guarded g s := by
  simp [dropLate]

@[simp] theorem guarded_unqueue (s : State) (f) : Guarded g (unqueue s f) ↔ Guarded g s := by
  simp [unqueue]

theorem leads_execFrameTransmit {p} (hs : Guarded g s) : Leads g (execFrameTransmit p s) := by
  unfold execFrameTransmit
  dsimp only
  repeat' split
  all_goals simp [hs]

theorem leads_execCollisionDetect {p} (hs : Guarded g s) : Leads g (execCollisionDetect p s) := by
  simp [execCollisionDetect, hs]

@[simp] theorem guarded_errDirect (s : State) (verb m code detail) :
    Guarded g (errDirect s verb m code detail) ↔ Guarded g s := by
  simp [errDirect]

@[simp] theorem guarded_linkFail (s : State) (i detail) : Guarded g (linkFail s i detail) ↔ Guarded g s := by
  unfold linkFail
  split <;> simp

theorem leads_execRetransmitTimeout {lseq} (hs : Guarded g s) : Leads g (execRetransmitTimeout lseq s) := by
  unfold execRetransmitTimeout
  dsimp only
  repeat' split
  all_goals simp [hs]

@[simp] theorem guarded_sendBurst (s : State) (p alarm relay) : Guarded g (sendBurst s p alarm relay) ↔ Guarded g s := by
  simp [sendBurst]

theorem leads_execBurstDetect {p} (hs : Guarded g s) : Leads g (execBurstDetect p s) := by
  simp [execBurstDetect, hs]

theorem leads_execBurstRelay {p} (hs : Guarded g s) : Leads g (execBurstRelay p s) := by
  simp [execBurstRelay, hs]

@[simp] theorem guarded_alarmBurst (s : State) (p) : Guarded g (alarmBurst s p) ↔ Guarded g s := by
  simp [alarmBurst]

theorem leads_execAlarmBurstSend (hs : Guarded g s) : Leads g (execAlarmBurstSend s) := by
  simp [execAlarmBurstSend, hs]

theorem leads_execAlarmBurstRepeat {p} (hs : Guarded g s) : Leads g (execAlarmBurstRepeat p s) := by
  simp [execAlarmBurstRepeat, hs]

theorem leads_execWakeBurstSend (hs : Guarded g s) : Leads g (execWakeBurstSend s) := by
  simp [execWakeBurstSend, hs]

@[simp] theorem guarded_putBreak (s : State) (q) : Guarded g (putBreak s q) ↔ Guarded g s := by
  simp [putBreak]

@[simp] theorem guarded_startBreak (q) (hs : Guarded g s) : Guarded g (startBreak s q) := by
  simp [startBreak, hs]

theorem leads_execBreakRecognise {p} (hs : Guarded g s) : Leads g (execBreakRecognise p s) := by
  simp [execBreakRecognise, hs]

@[simp] theorem guarded_chainBreakGo (s : State) : Guarded g (chainBreakGo s) ↔ Guarded g s := by
  simp [chainBreakGo]

@[simp] theorem guarded_tickBreak (hs : Guarded g s) : Guarded g (tickBreak s) := by
  simp [tickBreak, hs]

theorem leads_execBreakRelayEnd {p} (hs : Guarded g s) : Leads g (execBreakRelayEnd p s) := by
  simp [execBreakRelayEnd, hs]

theorem leads_execBreakEnd {p} (hs : Guarded g s) : Leads g (execBreakEnd p s) := by
  simp [execBreakEnd, hs]

theorem leads_execHostFltLiveAgeOut {bit} (hs : Guarded g s) : Leads g (execHostFltLiveAgeOut bit s) := by
  simp [execHostFltLiveAgeOut, hs]

/-! ### Chain traffic -/

@[simp] theorem guarded_heardFrame (f) (hs : Guarded g s) : Guarded g (heardFrame s f) := by
  simp [heardFrame, hs]

@[simp] theorem guarded_sendAck (s : State) (p f) : Guarded g (sendAck s p f) ↔ Guarded g s := by
  simp [sendAck]

@[simp] theorem guarded_anchorConflict (p f) (hs : Guarded g s) : Guarded g (anchorConflict s p f) := by
  simp [anchorConflict, hs]

@[simp] theorem guarded_moveCnt (s : State) (d) : Guarded g (moveCnt s d) ↔ Guarded g s := by
  simp [moveCnt]

@[simp] theorem guarded_steerFreq (s : State) : Guarded g (steerFreq s) ↔ Guarded g s := by
  simp [steerFreq]

@[simp] theorem guarded_steer (s : State) (ms) : Guarded g (steer s ms) ↔ Guarded g s := by
  simp [steer]

@[simp] theorem guarded_noteBeat (s : State) (p) : Guarded g (noteBeat s p) ↔ Guarded g s := by
  unfold noteBeat
  split <;> simp

@[simp] theorem guarded_checkEpoch (s : State) (f) : Guarded g (checkEpoch s f) ↔ Guarded g s := by
  simp [checkEpoch]

@[simp] theorem guarded_applyOffset (s : State) (off el2 ms) : Guarded g (applyOffset s off el2 ms) ↔ Guarded g s := by
  simp [applyOffset]

@[simp] theorem guarded_applyTime (s : State) (p f arrive ms) : Guarded g (applyTime s p f arrive ms) ↔ Guarded g s := by
  simp [applyTime]

@[simp] theorem guarded_takeTime (s : State) (p f arrive) : Guarded g (takeTime s p f arrive) ↔ Guarded g s := by
  simp [takeTime]

@[simp] theorem guarded_markUnsched (s : State) (c) : Guarded g (markUnsched s c) ↔ Guarded g s := by
  simp [markUnsched]

@[simp] theorem guarded_takeFree' (s : State) (f arrive) : Guarded g (takeFree' s f arrive) ↔ Guarded g s := by
  simp [takeFree']

@[simp] theorem guarded_timeFrame (p f arrive) (hs : Guarded g s) : Guarded g (timeFrame s p f arrive) := by
  simp [timeFrame, hs]

@[simp] theorem guarded_takeWindow (s : State) (f arrive) : Guarded g (takeWindow s f arrive) ↔ Guarded g s := by
  simp [takeWindow]

@[simp] theorem guarded_takeTick (f) (hs : Guarded g s) : Guarded g (takeTick s f) := by
  simp [takeTick, hs]

theorem leads_execTickReceived {p f arrive} (hs : Guarded g s) : Leads g (execTickReceived p f arrive s) := by
  simp [execTickReceived, hs]

theorem leads_execBeatReceived {p f arrive} (hs : Guarded g s) : Leads g (execBeatReceived p f arrive s) := by
  simp [execBeatReceived, hs]

theorem leads_execCancelReceived {p f} (hs : Guarded g s) : Leads g (execCancelReceived p f s) := by
  simp [execCancelReceived, hs]

@[simp] theorem guarded_takeAddress (next ring) (hs : Guarded g s) : Guarded g (takeAddress s next ring) := by
  simp [takeAddress, hs]

@[simp] theorem guarded_enumAsk (s : State) (e) : Guarded g (enumAsk s e) ↔ Guarded g s := by
  simp [enumAsk]

@[simp] theorem guarded_enumFinish (s : State) (e top beyond) : Guarded g (enumFinish s e top beyond) ↔ Guarded g s := by
  simp [enumFinish]

@[simp] theorem guarded_noteHop (s : State) (f) : Guarded g (noteHop s f) ↔ Guarded g s := by
  simp [noteHop]

@[simp] theorem guarded_enumTake (s : State) (e f) : Guarded g (enumTake s e f) ↔ Guarded g s := by
  simp [enumTake]

@[simp] theorem guarded_noteEnum (s : State) (f) : Guarded g (noteEnum s f) ↔ Guarded g s := by
  simp [noteEnum]

theorem leads_execEnumReceived {p f} (hs : Guarded g s) : Leads g (execEnumReceived p f s) := by
  unfold execEnumReceived
  dsimp only
  repeat' split
  all_goals simp [hs]

theorem leads_execEnumReplyTimeout (hs : Guarded g s) : Leads g (execEnumReplyTimeout s) := by
  unfold execEnumReplyTimeout
  repeat' split
  all_goals simp [hs]

@[simp] theorem guarded_sendResult (s : State) (p) : Guarded g (sendResult s p).1 ↔ Guarded g s := by
  simp [sendResult]

@[simp] theorem guarded_calFinish (s : State) (c) : Guarded g (calFinish s c) ↔ Guarded g s := by
  simp [calFinish]

@[simp] theorem guarded_calReply (s : State) : Guarded g (calReply s) ↔ Guarded g s := by
  unfold calReply
  split <;> simp

@[simp] theorem guarded_calAsk (s : State) (c) : Guarded g (calAsk s c) ↔ Guarded g s := by
  simp [calAsk]

@[simp] theorem guarded_calTake (s : State) (c f arrive depart) : Guarded g (calTake s c f arrive depart) ↔ Guarded g s := by
  simp [calTake]

theorem leads_execCalReceived {p f arrive depart flock} (hs : Guarded g s) :
    Leads g (execCalReceived p f arrive depart flock s) := by
  unfold execCalReceived
  dsimp only
  repeat' split
  all_goals simp [hs]

@[simp] theorem guarded_queueRecord (s : State) (kind src b) : Guarded g (queueRecord s kind src b) ↔ Guarded g s := by
  simp [queueRecord]

theorem leads_execRecordFrameReceived {p f} (hs : Guarded g s) : Leads g (execRecordFrameReceived p f s) := by
  unfold execRecordFrameReceived
  dsimp only
  repeat' split
  all_goals simp [hs]

theorem leads_execFaultFrameReceived {p f} (hs : Guarded g s) : Leads g (execFaultFrameReceived p f s) := by
  simp [execFaultFrameReceived, hs]

theorem guarded_of_takeRecord {kind b t} (h : takeRecord s kind = some (b, t)) : Guarded g t ↔ Guarded g s := by
  unfold takeRecord at h
  repeat' split at h
  all_goals cases h
  all_goals simp

@[simp] theorem guarded_sendSlot (s : State) (ty payload) : Guarded g (sendSlot s ty payload) ↔ Guarded g s := by
  simp [sendSlot]

theorem leads_execWindowSlotSend (hs : Guarded g s) : Leads g (execWindowSlotSend s) := by
  unfold execWindowSlotSend
  split
  · simp [hs]
  · split
    · simp [hs]
    · split
      · simp [hs]
      · dsimp only
        split
        · next h =>
          have ht := (guarded_of_takeRecord h (g := g)).mpr (by simp [hs])
          split <;> simp [ht]
        · simp [hs]

theorem leads_execSweepSend (hs : Guarded g s) : Leads g (execSweepSend s) := by
  unfold execSweepSend
  dsimp only
  repeat' split
  all_goals simp [hs]

theorem leads_execReplyFrameReceived {p f} (hs : Guarded g s) : Leads g (execReplyFrameReceived p f s) := by
  unfold execReplyFrameReceived
  dsimp only
  repeat' split
  all_goals simp [hs]

theorem leads_execAckReceived {p f} (hs : Guarded g s) : Leads g (execAckReceived p f s) := by
  unfold execAckReceived
  dsimp only
  repeat' split
  all_goals simp [hs]

/-! ### Control transfer -/

theorem leads_execBc {cond off} (hs : Guarded g s) : Leads g (execBc cond off s) :=
  (leads_next _).mpr (guarded_issue _ _ (fun t ht => by simp [bcBody, ht]) hs)

theorem leads_execCall {off} (hs : Guarded g s) : Leads g (execCall off s) :=
  (leads_next _).mpr (guarded_issue _ _ (fun t ht => by simp [callBody, ht]) hs)

theorem leads_execJmpr {rd ra imm} (hs : Guarded g s) : Leads g (execJmpr rd ra imm s) :=
  (leads_next _).mpr (guarded_issue _ _ (fun t ht => by simp [jmprBody, ht]) hs)

end

end Sys2Proof.Machine

/-! PROOFS. Every step keeps LIVE within SEEN and the switches within the grants: the host window, torque, the verbs and the mailboxes. -/

namespace Sys2Proof.Machine

section
variable {g : Guard} {s t : State}

/-! ### The host window -/

@[simp] theorem guarded_portError (s : State) (h) : Guarded g (portError s h) ↔ Guarded g s := by
  unfold portError
  split <;> simp

@[simp] theorem guarded_claimError (s : State) : Guarded g (claimError s) ↔ Guarded g s := by
  simp [claimError]

@[simp] theorem guarded_setBank (s : State) (h sel ptr) : Guarded g (setBank s h sel ptr) ↔ Guarded g s := by
  unfold setBank
  split <;> simp

@[simp] theorem guarded_mbWrite (s : State) (p b) : Guarded g (mbWrite s p b).1 ↔ Guarded g s := by
  unfold mbWrite
  dsimp only
  repeat' split
  all_goals simp

@[simp] theorem guarded_resetEvent (c) (hs : Guarded g s) : Guarded g (resetEvent s c) := by
  simp [resetEvent, hs]

@[simp] theorem guarded_tickReset (hs : Guarded g s) : Guarded g (tickReset s) := by
  simp [tickReset, hs]

@[simp] theorem guarded_resetConsumed (i out) (hs : Guarded g s) : Guarded g (resetConsumed s i out) := by
  simp [resetConsumed, hs]

@[simp] theorem guarded_consume (s : State) (i) : Guarded g (consume s i) ↔ Guarded g s := by
  simp [consume]

@[simp] theorem guarded_mbRead (p) (hs : Guarded g s) : Guarded g (mbRead s p).1 := by
  unfold mbRead
  dsimp only
  repeat' split
  all_goals simp [hs]

@[simp] theorem guarded_ring (s : State) (p i) : Guarded g (ring s p i).1 ↔ Guarded g s := by
  unfold ring
  dsimp only
  split
  · simp
  · split <;> simp

@[simp] theorem guarded_rings (s : State) (p v l) : Guarded g (rings s p v l).1 ↔ Guarded g s := by
  induction l generalizing s with
  | nil => rfl
  | cons i l ih =>
    rw [rings]
    split
    · simp [ih]
    · exact ih s

@[simp] theorem guarded_ignoredWrite (s : State) (h) : Guarded g (ignoredWrite s h).1 ↔ Guarded g s := by
  simp [ignoredWrite]

@[simp] theorem guarded_hostRegWrite (p r v) (hs : Guarded g s) : Guarded g (hostRegWrite s p r v).1 := by
  unfold hostRegWrite
  split
  · simp [ignoredWrite, hs]
  · split
    case h_5 =>
      cases g with
      | live => exact covered_by_or ..
      | switch => exact hs
    all_goals simp [ignoredWrite, hs]

@[simp] theorem guarded_writeRun (p inc l a r) (hs : Guarded g s) : Guarded g (writeRun p inc l a r s).1 := by
  induction l generalizing a r s with
  | nil => exact hs
  | cons b l ih =>
    unfold writeRun
    split
    · apply ih
      split <;> simp [ignoredWrite, hs]
    · dsimp only
      split
      · exact ih _ _ hs
      · exact ih _ _ (guarded_hostRegWrite _ _ _ hs)

@[simp] theorem guarded_latchReg (s : State) (p r) : Guarded g (latchReg s p r).1 ↔ Guarded g s := by
  unfold latchReg
  split
  · simp
  · dsimp only
    split <;> simp

@[simp] theorem guarded_readRun (p inc n a reg left v) (hs : Guarded g s) : Guarded g (readRun p inc n a reg left v s).1 := by
  induction n generalizing a reg left v s with
  | zero => exact hs
  | succ n ih =>
    unfold readRun
    split
    · apply ih
      split <;> simp [hs]
    · split
      · exact ih _ _ _ _ hs
      · exact ih _ _ _ _ ((guarded_latchReg ..).mpr hs)

@[simp] theorem guarded_spiBytes (l) (hs : Guarded g s) : Guarded g (spiBytes s l).1 := by
  unfold spiBytes
  dsimp only
  repeat' split
  all_goals simp [hs]

theorem leads_execSpiTransaction {bytes partialBits} (hs : Guarded g s) : Leads g (execSpiTransaction bytes partialBits s) := by
  simp [execSpiTransaction, hs]

@[simp] theorem guarded_uartDiscard (s : State) : Guarded g (uartDiscard s) ↔ Guarded g s := by
  simp [uartDiscard]

@[simp] theorem guarded_uartAnswer (s : State) (baud frame) : Guarded g (uartAnswer s baud frame) ↔ Guarded g s := by
  simp [uartAnswer]

theorem leads_execUartRequest {r} (hs : Guarded g s) : Leads g (execUartRequest r s) := by
  unfold execUartRequest
  dsimp only
  repeat' split
  all_goals simp [hs]

theorem leads_execUartByteTimeout (hs : Guarded g s) : Leads g (execUartByteTimeout s) := by
  simp [execUartByteTimeout, hs]

theorem leads_hostWrite {p r v} (hs : Guarded g s) : Leads g (hostWrite s p r v) := by
  simp [hostWrite, hs]

theorem leads_execHostMbdataWrite {h b} (hs : Guarded g s) : Leads g (execHostMbdataWrite h b s) := by
  simp [execHostMbdataWrite, hs]

@[simp] theorem guarded_putRead (s : State) (h out) : Guarded g (putRead s h out) ↔ Guarded g s := by
  unfold putRead
  split <;> simp

theorem leads_execHostMbdataRead {h} (hs : Guarded g s) : Leads g (execHostMbdataRead h s) := by
  simp [execHostMbdataRead, hs]

theorem leads_execHostUcfgWrite {h v} (hs : Guarded g s) : Leads g (execHostUcfgWrite h v s) := by
  simp [execHostUcfgWrite, hs]

theorem leads_execHostErrRead {h} (hs : Guarded g s) : Leads g (execHostErrRead h s) := by
  simp [execHostErrRead, hs]

theorem leads_execHostReady (hs : Guarded g s) : Leads g (execHostReady s) := by
  simp [execHostReady, hs]

theorem leads_execHwakeRelease (hs : Guarded g s) : Leads g (execHwakeRelease s) := by
  simp [execHwakeRelease, hs]

theorem leads_execHcsWake (hs : Guarded g s) : Leads g (execHcsWake s) := by
  simp [execHcsWake, hs]

theorem leads_execClaimLapse {i} (hs : Guarded g s) : Leads g (execClaimLapse i s) := by
  simp [execClaimLapse, hs]

theorem leads_execReplyTimeout {i} (hs : Guarded g s) : Leads g (execReplyTimeout i s) := by
  simp [execReplyTimeout, hs]

theorem leads_execHistoryExpire {i} (hs : Guarded g s) : Leads g (execHistoryExpire i s) := by
  simp [execHistoryExpire, hs]

/-! ### Torque enabling -/

@[simp] theorem guarded_connClose (s : State) (why) : Guarded g (connClose s why) ↔ Guarded g s := by
  unfold connClose
  split <;> simp

@[simp] theorem guarded_connFail (s : State) (cause) : Guarded g (connFail s cause) ↔ Guarded g s := by
  unfold connFail
  split <;> simp

@[simp] theorem guarded_startSmTimer (s : State) : Guarded g (startSmTimer s) ↔ Guarded g s := by
  simp [startSmTimer]

theorem leads_execTimeExpectationExpire (hs : Guarded g s) : Leads g (execTimeExpectationExpire s) := by
  simp [execTimeExpectationExpire, hs]

theorem leads_execStopNLow (hs : Guarded g s) : Leads g (execStopNLow s) := by
  simp [execStopNLow, hs]

theorem leads_execEnergyDecision {slow d} (hs : Guarded g s) : Leads g (execEnergyDecision slow d s) := by
  unfold execEnergyDecision
  split
  · simp [hs]
  · dsimp only
    split <;> simp [-jrnPut_bal, hs]

theorem leads_execDecisionTimerExpire (hs : Guarded g s) : Leads g (execDecisionTimerExpire s) := by
  simp [execDecisionTimerExpire, hs]

theorem leads_execTenRise (hs : Guarded g s) : Leads g (execTenRise s) := by
  simp [execTenRise, hs]

theorem leads_execTenReadbackCheck {a b} (hs : Guarded g s) : Leads g (execTenReadbackCheck a b s) := by
  simp [execTenReadbackCheck, hs]

theorem leads_execCommaPulse {chB} (hs : Guarded g s) : Leads g (execCommaPulse chB s) := by
  simp [execCommaPulse, hs]

theorem leads_execCommaPulseEnd {chB} (hs : Guarded g s) : Leads g (execCommaPulseEnd chB s) := by
  simp [execCommaPulseEnd, hs]

theorem leads_execReadbackFault {chB} (hs : Guarded g s) : Leads g (execReadbackFault chB s) := by
  simp [execReadbackFault, hs]

@[simp] theorem guarded_fwCheck (s : State) : Guarded g (fwCheck s) ↔ Guarded g s := by
  simp [fwCheck]

@[simp] theorem guarded_smCheck (s : State) (w) : Guarded g (smCheck w s) ↔ Guarded g s := by
  simp [smCheck]

theorem leads_execRundownCheck {mon d} (hs : Guarded g s) : Leads g (execRundownCheck mon d s) := by
  unfold execRundownCheck
  repeat' split
  all_goals simp [hs]

theorem leads_execRundownTimeLimit (hs : Guarded g s) : Leads g (execRundownTimeLimit s) := by
  simp [execRundownTimeLimit, hs]

theorem leads_execSmRundownLimitBackup (hs : Guarded g s) : Leads g (execSmRundownLimitBackup s) := by
  simp [execSmRundownLimitBackup, hs]

/-! ### Verbs: checks and sessions -/

@[simp] theorem guarded_errPriv (s : State) (v m d) : Guarded g (errPriv s v m d) ↔ Guarded g s := by
  simp [errPriv]

@[simp] theorem guarded_errState (s : State) (v m d) : Guarded g (errState s v m d) ↔ Guarded g s := by
  simp [errState]

@[simp] theorem guarded_errPayload (s : State) (v m) : Guarded g (errPayload s v m) ↔ Guarded g s := by
  simp [errPayload]

@[simp] theorem guarded_errValue (s : State) (v m off) : Guarded g (errValue s v m off) ↔ Guarded g s := by
  simp [errValue]

@[simp] theorem guarded_mapConn (s : State) (f) : Guarded g (mapConn s f) ↔ Guarded g s := by
  simp [mapConn]

@[simp] theorem guarded_withEnvelope (v m) {body : State → Waiting → State} (hb : ∀ t w, Guarded g t → Guarded g (body t w))
    (hs : Guarded g s) : Guarded g (withEnvelope s v m body) := by
  unfold withEnvelope
  split
  · simp [hs]
  · split
    · simp [hs]
    · split
      · simp [hs]
      · simp [hs]
      · simp [hs]
      · dsimp only
        split
        · exact hb _ _ (by simp [hs])
        · simp [hs]

@[simp] theorem guarded_withSession (v m) {body : State → State} (hb : ∀ t, Guarded g t → Guarded g (body t))
    (hs : Guarded g s) : Guarded g (withSession s v m body) := by
  unfold withSession
  split
  · simp [hs]
  · exact hb _ (by simp [hs])

@[simp] theorem guarded_afterPriv (v m) {body : State → State} (hb : ∀ t, Guarded g t → Guarded g (body t))
    (hs : Guarded g s) : Guarded g (afterPriv v m body s) := by
  unfold afterPriv
  split
  · simp [hs]
  · exact hb _ hs

@[simp] theorem guarded_enterVerb (v m) {body : State → Waiting → State} (hb : ∀ t w, Guarded g t → Guarded g (body t w))
    (hs : Guarded g s) : Guarded g (enterVerb s v m body) := by
  have ha : ∀ t, Guarded g t → Guarded g (afterPriv v m (fun t => body t (waitOf v m)) t) :=
    fun t => guarded_afterPriv v m (fun t => hb t _)
  unfold enterVerb
  split
  · simp [hs]
  · split
    · simp [hs]
    · split
      · exact ha _ hs
      · exact guarded_withSession v m ha hs
      · exact guarded_withEnvelope v m hb hs

theorem leads_verbStep {f : Msg → State → State} {m} (hf : ∀ {t}, Guarded g t → Guarded g (f m t)) (hs : Guarded g s) :
    Leads g (verbStep f m s) := by
  unfold verbStep
  split
  · exact (leads_next _).mpr (hf (by simp [hs]))
  · simp [hs]

/-! ### Verbs: acquisition -/

@[simp] theorem guarded_vAcqStart (m) (hs : Guarded g s) : Guarded g (vAcqStart m s) := by
  unfold vAcqStart
  refine guarded_enterVerb _ _ (fun s w hs => ?_) hs
  dsimp only
  repeat' split
  all_goals simp [hs]

@[simp] theorem guarded_vAcqRead (m) (hs : Guarded g s) : Guarded g (vAcqRead m s) := by
  unfold vAcqRead
  refine guarded_enterVerb _ _ (fun s w hs => ?_) hs
  dsimp only
  repeat' split
  all_goals simp [hs]

@[simp] theorem guarded_vAcqFetch (m) (hs : Guarded g s) : Guarded g (vAcqFetch m s) := by
  unfold vAcqFetch
  dsimp only
  split <;> simp [hs]

/-! ### Verbs: applets -/

@[simp] theorem guarded_vAplLoad (m) (hs : Guarded g s) : Guarded g (vAplLoad m s) := by
  simp [vAplLoad, hs]

@[simp] theorem guarded_vAplCommit (m) (hs : Guarded g s) : Guarded g (vAplCommit m s) := by
  simp [vAplCommit, hs]

@[simp] theorem guarded_startApplet (s : State) (b) : Guarded g (startApplet s b) ↔ Guarded g s := by
  simp [startApplet]

@[simp] theorem guarded_vAplStart (m) (hs : Guarded g s) : Guarded g (vAplStart m s) := by
  unfold vAplStart
  refine guarded_enterVerb _ _ (fun s w hs => ?_) hs
  dsimp only
  repeat' split
  all_goals simp [hs]

@[simp] theorem guarded_vAplStop (m) (hs : Guarded g s) : Guarded g (vAplStop m s) := by
  refine guarded_enterVerb _ _ (fun s w hs => ?_) hs
  simp [hs]

@[simp] theorem guarded_vAplStat (m) (hs : Guarded g s) : Guarded g (vAplStat m s) := by
  simp [vAplStat, hs]

@[simp] theorem guarded_vAplMsg (m) (hs : Guarded g s) : Guarded g (vAplMsg m s) := by
  simp [vAplMsg, hs]

theorem leads_execAplMsgTimeout (hs : Guarded g s) : Leads g (execAplMsgTimeout s) := by
  unfold execAplMsgTimeout
  split <;> simp [hs]

@[simp] theorem guarded_vAplErase (m) (hs : Guarded g s) : Guarded g (vAplErase m s) := by
  simp [vAplErase, hs]

/-! ### Verbs: balancing -/

@[simp] theorem guarded_balApplyOne (applet r) (hs : Guarded g s) : Guarded g (balApplyOne applet s r) := by
  have he := guarded_balEnd (wbit r.w) 3 hs
  unfold balApplyOne
  dsimp only
  split
  · split
    · exact hs
    · exact he
  · generalize balEnd s (wbit r.w) 3 = u at he
    split <;> simp [he]

@[simp] theorem guarded_balApply (applet l) (hs : Guarded g s) : Guarded g (balApply applet s l) :=
  guarded_foldl _ _ (fun _ r => guarded_balApplyOne applet r) hs

@[simp] theorem guarded_vBalSet (m) (hs : Guarded g s) : Guarded g (vBalSet m s) := by
  unfold vBalSet
  refine guarded_enterVerb _ _ (fun s w hs => ?_) hs
  dsimp only
  repeat' split
  all_goals simp [hs]

@[simp] theorem guarded_vBalStop (m) (hs : Guarded g s) : Guarded g (vBalStop m s) := by
  refine guarded_enterVerb _ _ (fun s w hs => ?_) hs
  split <;> simp [hs]

@[simp] theorem guarded_vBalStat (m) (hs : Guarded g s) : Guarded g (vBalStat m s) := by
  simp [vBalStat, hs]

@[simp] theorem guarded_vBalTest (m) (hs : Guarded g s) : Guarded g (vBalTest m s) := by
  unfold vBalTest
  refine guarded_enterVerb _ _ (fun s w hs => ?_) hs
  dsimp only
  repeat' split
  all_goals simp [hs]

theorem leads_execBalTestTimeout (hs : Guarded g s) : Leads g (execBalTestTimeout s) := by
  unfold execBalTestTimeout
  split <;> simp [hs]

/-! ### Verbs: the chain -/

@[simp] theorem guarded_enumSettle (s : State) : Guarded g (enumSettle s) ↔ Guarded g s := by
  unfold enumSettle
  split <;> simp

@[simp] theorem guarded_vChainEnum (m) (hs : Guarded g s) : Guarded g (vChainEnum m s) := by
  unfold vChainEnum
  refine guarded_enterVerb _ _ (fun s w hs => ?_) hs
  dsimp only
  repeat' split
  all_goals simp [hs]

@[simp] theorem guarded_calSettle (s : State) : Guarded g (calSettle s) ↔ Guarded g s := by
  unfold calSettle
  split <;> simp

@[simp] theorem guarded_vChainCal (m) (hs : Guarded g s) : Guarded g (vChainCal m s) := by
  simp [vChainCal, hs]

@[simp] theorem guarded_setStream (s : State) (m kind wofs) : Guarded g (setStream s m kind wofs) ↔ Guarded g s := by
  simp [setStream]

@[simp] theorem guarded_vChainStream (m) (hs : Guarded g s) : Guarded g (vChainStream m s) := by
  unfold vChainStream
  refine guarded_enterVerb _ _ (fun s w hs => ?_) hs
  dsimp only
  repeat' split
  all_goals simp [hs]

@[simp] theorem guarded_vChainStat (m) (hs : Guarded g s) : Guarded g (vChainStat m s) := by
  simp [vChainStat, hs]

@[simp] theorem guarded_vChainCrumb (m) (hs : Guarded g s) : Guarded g (vChainCrumb m s) := by
  unfold vChainCrumb
  refine guarded_enterVerb _ _ (fun s w hs => ?_) hs
  dsimp only
  repeat' split
  all_goals simp [hs]

@[simp] theorem guarded_vChainBreak (m) (hs : Guarded g s) : Guarded g (vChainBreak m s) := by
  simp [vChainBreak, hs]

theorem leads_execChainBreakEnd (hs : Guarded g s) : Leads g (execChainBreakEnd s) := by
  unfold execChainBreakEnd
  split <;> simp [hs]

/-! ### Verbs: the gate -/

@[simp] theorem guarded_vGateOn (m) (hs : Guarded g s) : Guarded g (vGateOn m s) := by
  unfold vGateOn
  refine guarded_enterVerb _ _ (fun s w hs => ?_) hs
  dsimp only
  repeat' split
  all_goals simp [hs]

@[simp] theorem guarded_vGateOff (m) (hs : Guarded g s) : Guarded g (vGateOff m s) := by
  simp [vGateOff, hs]

@[simp] theorem guarded_vGateRearm (m) (hs : Guarded g s) : Guarded g (vGateRearm m s) := by
  unfold vGateRearm
  refine guarded_enterVerb _ _ (fun s w hs => ?_) hs
  dsimp only
  repeat' split
  all_goals simp [hs]

@[simp] theorem guarded_vProtStat (m) (hs : Guarded g s) : Guarded g (vProtStat m s) := by
  simp [vProtStat, hs]

@[simp] theorem guarded_vCmpTest (m) (hs : Guarded g s) : Guarded g (vCmpTest m s) := by
  unfold vCmpTest
  refine guarded_enterVerb _ _ (fun s w hs => ?_) hs
  dsimp only
  repeat' split
  all_goals simp [hs]

/-! ### Verbs: configuration -/

@[simp] theorem guarded_regReadEffect (s : State) (id) : Guarded g (regReadEffect s id) ↔ Guarded g s := by
  simp [regReadEffect]

@[simp] theorem guarded_logChange (s : State) (m c) : Guarded g (logChange m s c) ↔ Guarded g s := by
  simp [logChange]

@[simp] theorem guarded_rangeChange (s : State) (m) : Guarded g (rangeChange s m) ↔ Guarded g s := by
  simp [rangeChange]

@[simp] theorem guarded_phaseWrite (s : State) (ch) : Guarded g (phaseWrite s ch) ↔ Guarded g s := by
  simp [phaseWrite]

@[simp] theorem guarded_linkWrite (s : State) (old new m p) : Guarded g (linkWrite s old new m p) ↔ Guarded g s := by
  cases hm : m.src <;> simp [linkWrite, hm]

@[simp] theorem guarded_clkWrite (s : State) : Guarded g (clkWrite s) ↔ Guarded g s := by
  simp [clkWrite]

@[simp] theorem guarded_takeRegs (new m) (hs : Guarded g s) : Guarded g (takeRegs s new m) := by
  simp [takeRegs, hs]

@[simp] theorem guarded_applyWrite (new m) (hs : Guarded g s) : Guarded g (applyWrite s new m) := by
  simp [applyWrite, hs]

@[simp] theorem guarded_vCfgWrite (m) (hs : Guarded g s) : Guarded g (vCfgWrite m s) := by
  unfold vCfgWrite
  refine guarded_enterVerb _ _ (fun s w hs => ?_) hs
  dsimp only
  repeat' split
  all_goals simp [hs]

@[simp] theorem guarded_vCfgFactory (m) (hs : Guarded g s) : Guarded g (vCfgFactory m s) := by
  unfold vCfgFactory
  refine guarded_enterVerb _ _ (fun s w hs => ?_) hs
  dsimp only
  repeat' split
  all_goals simp [hs]

@[simp] theorem guarded_vIdRead (m) (hs : Guarded g s) : Guarded g (vIdRead m s) := by
  simp [vIdRead, hs]

@[simp] theorem guarded_vIdFactory (m) (hs : Guarded g s) : Guarded g (vIdFactory m s) := by
  simp [vIdFactory, hs]

@[simp] theorem guarded_readRegs (l) (s : State) : Guarded g (readRegs l s).2 ↔ Guarded g s := by
  induction l generalizing s with
  | nil => rfl
  | cons id l ih => simp [readRegs, ih]

@[simp] theorem guarded_vCfgRead (m) (hs : Guarded g s) : Guarded g (vCfgRead m s) := by
  unfold vCfgRead
  refine guarded_enterVerb _ _ (fun s w hs => ?_) hs
  dsimp only
  repeat' split
  all_goals simp [hs]

@[simp] theorem guarded_startLockout (s : State) : Guarded g (startLockout s) ↔ Guarded g s := by
  simp [startLockout]

@[simp] theorem guarded_wrongPassword (s : State) : Guarded g (wrongPassword s) ↔ Guarded g s := by
  simp [wrongPassword]

@[simp] theorem guarded_vCfgLogin (m) (hs : Guarded g s) : Guarded g (vCfgLogin m s) := by
  unfold vCfgLogin
  dsimp only
  repeat' split
  all_goals simp [hs]

@[simp] theorem guarded_vCfgLogout (m) (hs : Guarded g s) : Guarded g (vCfgLogout m s) := by
  simp [vCfgLogout, hs]

@[simp] theorem guarded_newSalt (s : State) : Guarded g (newSalt s).2 ↔ Guarded g s := by
  simp [newSalt]

@[simp] theorem guarded_vCfgPasswd (m) (hs : Guarded g s) : Guarded g (vCfgPasswd m s) := by
  unfold vCfgPasswd
  split <;> simp [hs]

theorem leads_execSessionLapse {i} (hs : Guarded g s) : Leads g (execSessionLapse i s) := by
  simp [execSessionLapse, hs]

theorem leads_execLockoutExpire (hs : Guarded g s) : Leads g (execLockoutExpire s) := by
  simp [execLockoutExpire, hs]

/-! ### Verbs: safety -/

@[simp] theorem guarded_confirmSeal (s : State) (m) : Guarded g (confirmSeal s m) ↔ Guarded g s := by
  simp [confirmSeal]

@[simp] theorem guarded_vSafeConfirm (m) (hs : Guarded g s) : Guarded g (vSafeConfirm m s) := by
  simp [vSafeConfirm, hs]

@[simp] theorem guarded_vSafeStat (m) (hs : Guarded g s) : Guarded g (vSafeStat m s) := by
  simp [vSafeStat, hs]

@[simp] theorem guarded_vSafeOpen (m) (hs : Guarded g s) : Guarded g (vSafeOpen m s) := by
  unfold vSafeOpen
  refine guarded_enterVerb _ _ (fun s w hs => ?_) hs
  dsimp only
  repeat' split
  all_goals simp [hs]

@[simp] theorem guarded_vSafeClose (m) (hs : Guarded g s) : Guarded g (vSafeClose m s) := by
  simp [vSafeClose, hs]

@[simp] theorem guarded_vSafeCycle (m) (hs : Guarded g s) : Guarded g (vSafeCycle m s) := by
  simp [vSafeCycle, hs]

@[simp] theorem guarded_stopLow (s : State) : Guarded g (stopLow s).2 ↔ Guarded g s := by
  unfold stopLow
  split <;> simp

@[simp] theorem guarded_vSafeTen (m) (hs : Guarded g s) : Guarded g (vSafeTen m s) := by
  unfold vSafeTen
  refine guarded_enterVerb _ _ (fun s w hs => ?_) hs
  dsimp only
  repeat' split
  all_goals simp [hs]

@[simp] theorem guarded_vSafeRdn (m) (hs : Guarded g s) : Guarded g (vSafeRdn m s) := by
  unfold vSafeRdn
  refine guarded_enterVerb _ _ (fun s w hs => ?_) hs
  dsimp only
  repeat' split
  all_goals simp [hs]

@[simp] theorem guarded_vSafeSto (s : State) (m) : Guarded g (vSafeSto m s) ↔ Guarded g s := by
  simp [vSafeSto]

@[simp] theorem guarded_vSafeEnergy (m) (hs : Guarded g s) : Guarded g (vSafeEnergy m s) := by
  simp [vSafeEnergy, hs]

/-! ### Verbs: the system -/

@[simp] theorem guarded_vJrnRead (m) (hs : Guarded g s) : Guarded g (vJrnRead m s) := by
  unfold vJrnRead
  refine guarded_enterVerb _ _ (fun s w hs => ?_) hs
  extract_lets p area cnt
  generalize firstBad _ = bad
  cases bad with
  | some off => exact (guarded_errValue ..).mpr hs
  | none =>
    generalize heldRecord s _ _ = held
    cases held with
    | none => exact (guarded_errValue ..).mpr hs
    | some n => exact (guarded_replyOk ..).mpr hs

@[simp] theorem guarded_vJrnHead (m) (hs : Guarded g s) : Guarded g (vJrnHead m s) := by
  simp [vJrnHead, hs]

@[simp] theorem guarded_releaseTo (s : State) (n) : Guarded g (releaseTo s n) ↔ Guarded g s := by
  simp [releaseTo]

@[simp] theorem guarded_vJrnRelease (m) (hs : Guarded g s) : Guarded g (vJrnRelease m s) := by
  unfold vJrnRelease
  refine guarded_enterVerb _ _ (fun s w hs => ?_) hs
  dsimp only
  repeat' split
  all_goals simp [hs]

@[simp] theorem guarded_vJrnMark (m) (hs : Guarded g s) : Guarded g (vJrnMark m s) := by
  simp [vJrnMark, hs]

@[simp] theorem guarded_enterAwake (s : State) (t) : Guarded g (enterAwake s t) ↔ Guarded g s := by
  simp [enterAwake]

@[simp] theorem guarded_pwDecide (s : State) (t) : Guarded g (pwDecide s t) ↔ Guarded g s := by
  unfold pwDecide
  split <;> simp

@[simp] theorem guarded_vPwrSet (m) (hs : Guarded g s) : Guarded g (vPwrSet m s) := by
  unfold vPwrSet
  dsimp only
  split <;> simp [hs]

@[simp] theorem guarded_vPwrStat (m) (hs : Guarded g s) : Guarded g (vPwrStat m s) := by
  simp [vPwrStat, hs]

@[simp] theorem guarded_vPwrWakeclr (m) (hs : Guarded g s) : Guarded g (vPwrWakeclr m s) := by
  unfold vPwrWakeclr
  split <;> simp [hs]

@[simp] theorem guarded_vPwrKeep (m) (hs : Guarded g s) : Guarded g (vPwrKeep m s) := by
  simp [vPwrKeep, hs]

@[simp] theorem guarded_vDiagInfo (m) (hs : Guarded g s) : Guarded g (vDiagInfo m s) := by
  simp [vDiagInfo, hs]

@[simp] theorem guarded_vDiagScan (m) (hs : Guarded g s) : Guarded g (vDiagScan m s) := by
  simp [vDiagScan, hs]

@[simp] theorem guarded_vReset (m) (hs : Guarded g s) : Guarded g (vReset m s) := by
  simp [vReset, hs]

theorem leads_execResetVerbTimeout (hs : Guarded g s) : Leads g (execResetVerbTimeout s) := by
  simp [execResetVerbTimeout, hs]

/-! ### Mailboxes and messages -/

@[simp] theorem guarded_runVerb (code m) (hs : Guarded g s) : Guarded g (runVerb code m s) := by
  unfold runVerb
  split <;> simp [hs]

@[simp] theorem guarded_enterHist (s : State) (r) : Guarded g (enterHist s r) ↔ Guarded g s := by
  simp [enterHist]

@[simp] theorem guarded_waitForReply (s : State) (r m) : Guarded g (waitForReply s r m) ↔ Guarded g s := by
  simp [waitForReply]

@[simp] theorem guarded_execFresh (r m) (hs : Guarded g s) : Guarded g (execFresh s r m) := by
  simp [execFresh, hs]

@[simp] theorem guarded_execMsg (r m) (hs : Guarded g s) : Guarded g (execMsg s r m) := by
  unfold execMsg
  split
  · simp [hs]
  · split
    · exact hs
    · split
      · simp [hs]
      · split <;> simp [hs]

@[simp] theorem guarded_forwardMsg (s : State) (r b) : Guarded g (forwardMsg s r b) ↔ Guarded g s := by
  simp [forwardMsg]

@[simp] theorem guarded_routeMsg (r b) (hs : Guarded g s) : Guarded g (routeMsg s r b) := by
  simp [routeMsg, hs]

@[simp] theorem guarded_formError (s : State) (i r code) : Guarded g (formError s i r code) ↔ Guarded g s := by
  simp [formError]

@[simp] theorem guarded_takeRung (hs : Guarded g s) : Guarded g (takeRung s) := by
  unfold takeRung
  split
  · exact hs
  · dsimp only
    split <;> simp [hs]

@[simp] theorem guarded_takeRungs (n) (hs : Guarded g s) : Guarded g (takeRungs n s) := by
  induction n generalizing s with
  | zero => exact hs
  | succ n ih => exact ih (by simp [hs])

theorem leads_execMailboxTake (hs : Guarded g s) : Leads g (execMailboxTake s) := by
  simp [execMailboxTake, hs]

@[simp] theorem guarded_seenAgain (s : State) (p f r) : Guarded g (seenAgain s p f r) ↔ Guarded g s := by
  unfold seenAgain
  split <;> simp

@[simp] theorem guarded_verbMessage (p f) (hs : Guarded g s) : Guarded g (verbMessage s p f) := by
  unfold verbMessage
  dsimp only
  split <;> simp [hs]

theorem leads_execVerbFrameReceived {p f} (hs : Guarded g s) : Leads g (execVerbFrameReceived p f s) := by
  unfold execVerbFrameReceived
  dsimp only
  repeat' split
  all_goals simp [hs]

end

end Sys2Proof.Machine

/-! PROOFS. Every step keeps LIVE within SEEN and the switches within the grants: memory instructions, services, sleep, the watchdog and
the tick. -/

namespace Sys2Proof.Machine

section
variable {g : Guard} {s t : State}

/-! ### Memory operations -/

theorem leads_load {rd ra imm size ext} (hs : Guarded g s) : Leads g (load rd ra imm size ext s) := by
  refine (leads_next _).mpr (guarded_issue _ _ (fun t ht => ?_) hs)
  unfold loadBody
  split
  · simp
  · next h => simp [(guarded_of_coreLoadAs h).mpr ht]

theorem leads_store {rs ra imm size} (hs : Guarded g s) : Leads g (store rs ra imm size s) := by
  refine (leads_next _).mpr (guarded_issue _ _ (fun t ht => ?_) hs)
  unfold storeBody
  split
  · simp
  · next h => simp [within_coreStoreAs _ _ _ _ ht _ h]

@[simp] theorem guarded_stepDone (s : State) (rd rb w) : Guarded g (stepDone s rd rb w) ↔ Guarded g s := by
  simp [stepDone]

theorem leads_execBmov {rd ra rb} (hs : Guarded g s) : Leads g (execBmov rd ra rb s) := by
  refine (leads_next _).mpr (guarded_issue _ _ (fun t ht => ?_) hs)
  unfold bmovBody
  split
  · simp
  · dsimp only
    split
    · simp [ht]
    · split
      · simp
      · next h =>
        split
        · simp
        · next h' => simp [within_coreStoreAs _ _ _ _ ((guarded_of_coreLoadAs h).mpr ht) _ h']

theorem leads_execBfil {rd ra rb} (hs : Guarded g s) : Leads g (execBfil rd ra rb s) := by
  refine (leads_next _).mpr (guarded_issue _ _ (fun t ht => ?_) hs)
  unfold bfilBody
  split
  · simp
  · dsimp only
    split
    · simp [ht]
    · split
      · simp
      · next h => simp [within_coreStoreAs _ _ _ _ ht _ h]

/-! ### The core's system instructions -/

@[simp] theorem guarded_raiseSwi (s : State) : Guarded g (raiseSwi s) ↔ Guarded g s := by
  simp [raiseSwi]

@[simp] theorem guarded_writeCr (s : State) (cr v) : Guarded g (writeCr s cr v) ↔ Guarded g s := by
  unfold writeCr
  split <;> simp

theorem leads_execMfc {rd cr} (hs : Guarded g s) : Leads g (execMfc rd cr s) :=
  (leads_next _).mpr (guarded_issue _ _ (fun t ht => by simp [mfcBody, ht]) hs)

theorem leads_execMtc {cr rs} (hs : Guarded g s) : Leads g (execMtc cr rs s) :=
  (leads_next _).mpr (guarded_issue _ _ (fun t ht => by simp [mtcBody, privileged, ht]) hs)

theorem leads_execSysCtlSwi (hs : Guarded g s) : Leads g (execSysCtlSwi s) :=
  (leads_next _).mpr (guarded_issue _ _ (fun t ht => by simp [privileged, ht]) hs)

theorem leads_execSysCtlEspl (hs : Guarded g s) : Leads g (execSysCtlEspl s) :=
  (leads_next _).mpr (guarded_issue _ _ (fun t ht => by simp [privileged, ht]) hs)

theorem leads_execSetf {ra} (hs : Guarded g s) : Leads g (execSetf ra s) :=
  (leads_next _).mpr (guarded_issue _ _ (fun t ht => by simp [ht]) hs)

theorem leads_execGetf {rd} (hs : Guarded g s) : Leads g (execGetf rd s) :=
  (leads_next _).mpr (guarded_issue _ _ (fun t ht => by simp [ht]) hs)

@[simp] theorem guarded_drained {body : State → Exec} (hb : ∀ s, Guarded g s → Within g (body s))
    (hs : Guarded g s) : Guarded g (drained body s) := by
  have hi : Guarded g (issue [] true (fun s => body (drainAll s)) s) :=
    guarded_issue _ _ (fun s hs => hb _ (by simp [hs])) hs
  unfold drained
  split
  · split
    · simp [hs]
    · exact hi
  · exact hi

theorem leads_execSync (hs : Guarded g s) : Leads g (execSync s) :=
  (leads_next _).mpr (guarded_drained (fun t ht => by simp [ht]) hs)

theorem leads_execEnter (hs : Guarded g s) : Leads g (execEnter s) :=
  (leads_next _).mpr (guarded_drained (fun t ht => by simp [enterBody, ht]) hs)

@[simp] theorem guarded_freeStop (s : State) : Guarded g (freeStop s).2 ↔ Guarded g s := by
  simp [freeStop]

@[simp] theorem guarded_endService (hs : Guarded g s) : Guarded g (endService s) := by
  unfold endService
  dsimp only
  repeat' split
  all_goals simp [hs]

theorem leads_execLeave (hs : Guarded g s) : Leads g (execLeave s) :=
  (leads_next _).mpr (guarded_drained (fun t ht => by simp [leaveBody, privileged, ht]) hs)

theorem guarded_of_loadWords {n a l t} (h : loadWords n a s = .ok (l, t)) : Guarded g t ↔ Guarded g s := by
  induction n generalizing s a l with
  | zero => cases h; rfl
  | succ n ih =>
    unfold loadWords at h
    split at h
    · cases h
    · split at h
      · cases h
      · cases h
        exact (ih ‹_›).trans (guarded_of_coreLoadAs ‹_›)

@[simp] theorem guarded_clearSource (s : State) (v) : Guarded g (clearSource s v) ↔ Guarded g s := by
  simp [clearSource]

@[simp] theorem guarded_dmaReported (s : State) : Guarded g (dmaReported s) ↔ Guarded g s := by
  simp [dmaReported]

theorem within_rfeBody (hs : Guarded g s) : Within g (rfeBody s) := by
  unfold rfeBody
  split
  · simp
  · dsimp only
    split
    · simp [hs]
    · next h =>
      have ht := (guarded_of_loadWords h (g := g)).mpr hs
      rw [within_ok, guarded_mk, held_state, guarded_dmaReported]
      split <;> simp [ht]

theorem leads_execRfe (hs : Guarded g s) : Leads g (execRfe s) :=
  (leads_next _).mpr (guarded_drained (fun _ => within_rfeBody) hs)

theorem leads_execFstop (hs : Guarded g s) : Leads g (execFstop s) :=
  (leads_next _).mpr (guarded_issue _ _ (fun t ht => by simp [fstopBody, privileged, ht]) hs)

theorem leads_execBrk {code} (hs : Guarded g s) : Leads g (execBrk code s) :=
  (leads_next _).mpr (guarded_issue _ _ (fun _ _ => within_error _) hs)

theorem leads_execWait (hs : Guarded g s) : Leads g (execWait s) :=
  (leads_next _).mpr (guarded_issue _ _ (fun t ht => by simp [waitBody, privileged, ht]) hs)

/-! ### Firmware services -/

@[simp] theorem guarded_res (s : State) (i v) : Guarded g (res s i v) ↔ Guarded g s := by
  simp [res]

@[simp] theorem guarded_freeFlags (s : State) : Guarded g (freeFlags s) ↔ Guarded g s := by
  simp [freeFlags]

@[simp] theorem guarded_svcEnd (s : State) (status) : Guarded g (svcEnd s status) ↔ Guarded g s := by
  simp [svcEnd]

theorem leads_service {n} {body : State → State} (hb : ∀ t, Guarded g t → Guarded g (body t)) (hs : Guarded g s) :
    Leads g (service n body s) := by
  unfold service
  split
  · exact (leads_next _).mpr (hb _ hs)
  · simp [hs]

@[simp] theorem guarded_svcWords (p b n) (hs : Guarded g s) : Guarded g (svcWords s p b n) := by
  induction n generalizing s p b with
  | zero => exact hs
  | succ n ih =>
    unfold svcWords
    apply ih
    split
    · next h => exact guarded_of_busWrite h hs
    · exact hs

@[simp] theorem guarded_svcWrite (p b) (hs : Guarded g s) : Guarded g (svcWrite s p b) := by
  simp [svcWrite, hs]

@[simp] theorem guarded_svcFill (a b) (hs : Guarded g s) : Guarded g (svcFill s a b) := by
  unfold svcFill
  split <;> simp [hs]

theorem leads_execSvcVersion (hs : Guarded g s) : Leads g (execSvcVersion s) :=
  leads_service (fun s hs => by simp [hs]) hs

theorem leads_execSvcTime (hs : Guarded g s) : Leads g (execSvcTime s) :=
  leads_service (fun s hs => by simp [hs]) hs

theorem leads_execSvcWait (hs : Guarded g s) : Leads g (execSvcWait s) := by
  refine leads_service (fun s hs => ?_) hs
  dsimp only
  repeat' split
  all_goals simp [hs]

theorem leads_execSvcWaitTimeout (hs : Guarded g s) : Leads g (execSvcWaitTimeout s) := by
  simp [execSvcWaitTimeout, hs]

theorem leads_execSvcSnapshot (hs : Guarded g s) : Leads g (execSvcSnapshot s) := by
  refine leads_service (fun s hs => ?_) hs
  dsimp only
  repeat' split
  all_goals simp [hs]

theorem leads_execSvcNtcset (hs : Guarded g s) : Leads g (execSvcNtcset s) := by
  refine leads_service (fun s hs => ?_) hs
  repeat' split
  all_goals simp [hs]

@[simp] theorem guarded_svcRefuse (s : State) (code detail) : Guarded g (svcRefuse s code detail) ↔ Guarded g s := by
  simp [svcRefuse]

theorem leads_execSvcBalSubmit (hs : Guarded g s) : Leads g (execSvcBalSubmit s) := by
  refine leads_service (fun s hs => ?_) hs
  dsimp only
  repeat' split
  all_goals simp [hs]

theorem leads_execSvcBalCancel (hs : Guarded g s) : Leads g (execSvcBalCancel s) :=
  leads_service (fun s hs => by simp [hs]) hs

theorem leads_execSvcBalStat (hs : Guarded g s) : Leads g (execSvcBalStat s) :=
  leads_service (fun s hs => by simp [hs]) hs

theorem leads_execSvcMsgGet (hs : Guarded g s) : Leads g (execSvcMsgGet s) := by
  refine leads_service (fun s hs => ?_) hs
  repeat' split
  all_goals simp [hs]

theorem leads_execSvcMsgPut (hs : Guarded g s) : Leads g (execSvcMsgPut s) := by
  refine leads_service (fun s hs => ?_) hs
  dsimp only
  repeat' split
  all_goals simp [hs]

theorem leads_execSvcNote (hs : Guarded g s) : Leads g (execSvcNote s) := by
  refine leads_service (fun s hs => ?_) hs
  dsimp only
  repeat' split
  all_goals simp [hs]

theorem leads_execSvcPrecise (hs : Guarded g s) : Leads g (execSvcPrecise s) := by
  refine leads_service (fun s hs => ?_) hs
  dsimp only
  repeat' split
  all_goals simp [hs]

theorem leads_execSvcExit (hs : Guarded g s) : Leads g (execSvcExit s) :=
  leads_service (fun s hs => by simp [hs]) hs

theorem leads_execBudgetIntervalEnd (hs : Guarded g s) : Leads g (execBudgetIntervalEnd s) := by
  simp [execBudgetIntervalEnd, hs]

/-! ### Sleep -/

theorem leads_execSleepLossExpire (hs : Guarded g s) : Leads g (execSleepLossExpire s) := by
  simp [execSleepLossExpire, hs]

@[simp] theorem guarded_entryQuiet (hs : Guarded g s) : Guarded g (entryQuiet s) := by
  have ho : Guarded g (dropTest (owEnd (openSwitches (balEnd s (BitVec.allOnes 18) 5)))) := by simp [hs]
  unfold entryQuiet
  generalize dropTest (owEnd (openSwitches (balEnd s (BitVec.allOnes 18) 5))) = u at ho
  cases htest : u.prot.test <;> simp [htest, ho]

@[simp] theorem guarded_entrySteps (target) (hs : Guarded g s) : Guarded g (entrySteps s target) := by
  simp [entrySteps, hs]

theorem leads_execLowerStateEntry (hs : Guarded g s) : Leads g (execLowerStateEntry s) := by
  unfold execLowerStateEntry
  split <;> simp [hs]

@[simp] theorem guarded_patRuns (s : State) (r again) : Guarded g (patRuns s r again) ↔ Guarded g s := by
  simp [patRuns]

theorem leads_execPatrolCheck {p} (hs : Guarded g s) : Leads g (execPatrolCheck p s) := by
  simp [execPatrolCheck, hs]

@[simp] theorem guarded_publishPatrol (s : State) : Guarded g (publishPatrol s) ↔ Guarded g s := by
  unfold publishPatrol
  split <;> simp

@[simp] theorem guarded_setLast (s : State) (v) : Guarded g (setLast s v) ↔ Guarded g s := by
  simp [setLast]

@[simp] theorem guarded_wakeUp (hs : Guarded g s) : Guarded g (wakeUp s) := by
  simp [wakeUp, hs]

theorem leads_execActiveEntry (hs : Guarded g s) : Leads g (execActiveEntry s) := by
  simp [execActiveEntry, hs]

/-! ### The watchdog and register access -/

theorem leads_execWatchdogServe (hs : Guarded g s) : Leads g (execWatchdogServe s) := by
  simp [execWatchdogServe, hs]

theorem leads_execWatchdogEarlyWarning (hs : Guarded g s) : Leads g (execWatchdogEarlyWarning s) := by
  simp [execWatchdogEarlyWarning, hs]

theorem leads_execWatchdogExpire (hs : Guarded g s) : Leads g (execWatchdogExpire s) := by
  simp [execWatchdogExpire, hs]

theorem leads_execSupervisionFail {code} (hs : Guarded g s) : Leads g (execSupervisionFail code s) := by
  simp [execSupervisionFail, hs]

theorem leads_execJournalWrite (hs : Guarded g s) : Leads g (execJournalWrite s) := by
  simp [execJournalWrite, hs]

@[simp] theorem guarded_hostBusWrite (p a v) (hs : Guarded g s) : Guarded g (hostBusWrite s p a v) := by
  unfold hostBusWrite
  have hw : Guarded g (hostRegWrite s p (a / 4) v).1 := guarded_hostRegWrite _ _ _ hs
  repeat' split
  all_goals simp [hs, hw]

@[simp] theorem guarded_coreBusWrite (a v) (hs : Guarded g s) : Guarded g (coreBusWrite s a v) := by
  unfold coreBusWrite
  split
  · exact hs
  · split
    · simp [hs]
    · next h => exact within_coreStoreAs _ _ _ _ hs _ h

theorem leads_execRegisterWrite {bus addr v} (hs : Guarded g s) : Leads g (execRegisterWrite bus addr v s) := by
  unfold execRegisterWrite
  split <;> simp [hs]

/-! ### The tick -/

@[simp] theorem guarded_tickCal (s : State) : Guarded g (tickCal s) ↔ Guarded g s := by
  unfold tickCal
  dsimp only
  split <;> simp

@[simp] theorem guarded_tickCycle (s : State) : Guarded g (tickCycle s) ↔ Guarded g s := by
  simp [tickCycle]

@[simp] theorem guarded_tickMs (s : State) : Guarded g (tickMs s) ↔ Guarded g s := by
  simp [tickMs]

@[simp] theorem guarded_tickFw (hs : Guarded g s) : Guarded g (tickFw s) := by
  unfold tickFw
  dsimp only
  repeat' split
  all_goals simp [hs]

@[simp] theorem guarded_tick (hs : Guarded g s) : Guarded g (tick s) := by
  have hb : Guarded g (tickBegun s) := by
    unfold tickBegun
    split <;> simp [hs]
  have hc : Guarded g (tickClocks (tickBegun s)) := by simp [tickClocks, hb]
  have hu : Guarded g (tickUnits (tickClocks (tickBegun s))) := by simp [tickUnits, hc]
  rw [tick_eq]
  split
  · exact guarded_tickFw (guarded_tickReset ((guarded_tickCal _).mpr hu))
  · exact hb

end

end Sys2Proof.Machine

/-! PROOFS. Every step keeps LIVE within SEEN and the switches within the grants: every instruction and the step. -/

namespace Sys2Proof.Machine

theorem leads_exec {g : Guard} {s : State} (c : Instr) (hs : Guarded g s) : Leads g (exec c s) := by
  cases c with
  | powerOnReset => exact leads_execPowerOnReset
  | vstackFaultDriveThreshold => exact leads_execVstackFaultDriveThreshold hs
  | brownOut => exact leads_execBrownOut hs
  | internalRailFail => exact leads_execInternalRailFail hs
  | resetNAssert => exact leads_execResetNAssert hs
  | resetRelease => exact leads_execResetRelease hs
  | pllLock => exact leads_execPllLock hs
  | sealCheck => exact leads_execSealCheck hs
  | startupAcquisition => exact leads_execStartupAcquisition hs
  | startupAcqRepeat => exact leads_execStartupAcqRepeat hs
  | startupEvaluation => exact leads_execStartupEvaluation hs
  | vioLoss => exact leads_execVioLoss hs
  | vioReturn => exact leads_execVioReturn hs
  | vportLoss => exact leads_execVportLoss hs
  | vportReturn => exact leads_execVportReturn hs
  | portOperational => exact leads_execPortOperational hs
  | crystalGood => exact leads_execCrystalGood hs
  | crystalFail => exact leads_execCrystalFail hs
  | clockSupervisionCheck => exact leads_execClockSupervisionCheck hs
  | beatSend => exact leads_execBeatSend hs
  | alignTimeout => exact leads_execAlignTimeout hs
  | orphanTimeout => exact leads_execOrphanTimeout hs
  | encoderEdge => exact leads_execEncoderEdge hs
  | indexEdge => exact leads_execIndexEdge hs
  | zeroCross => exact leads_execZeroCross hs
  | phaseStall => exact leads_execPhaseStall hs
  | instantFix => exact leads_execInstantFix hs
  | tickFrameSend => exact leads_execTickFrameSend hs
  | cancelFrameSend => exact leads_execCancelFrameSend hs
  | strobeFire => exact leads_execStrobeFire hs
  | resultReady => exact leads_execResultReady hs
  | resultReleaseTimeout => exact leads_execResultReleaseTimeout hs
  | onrequestAcquisition => exact leads_execOnrequestAcquisition hs
  | openWireStart => exact leads_execOpenWireStart hs
  | openWireForced => exact leads_execOpenWireForced hs
  | openWireDone => exact leads_execOpenWireDone hs
  | xc1Xc2Run => exact leads_execXc1Xc2Run hs
  | xc4Run => exact leads_execXc4Run hs
  | scTrip => exact leads_execScTrip hs
  | scSelfTestDone => exact leads_execScSelfTestDone hs
  | ntcCycleStart => exact leads_execNtcCycleStart hs
  | ntcPhaseStart => exact leads_execNtcPhaseStart hs
  | ntcConversion => exact leads_execNtcConversion hs
  | ntcSetPublish => exact leads_execNtcSetPublish hs
  | dieConversion => exact leads_execDieConversion hs
  | balFrame => exact leads_execBalFrame hs
  | balGrantExpire => exact leads_execBalGrantExpire hs
  | balTimeElapsed => exact leads_execBalTimeElapsed hs
  | switchTestStart => exact leads_execSwitchTestStart hs
  | switchTestPeriodic => exact leads_execSwitchTestPeriodic hs
  | switchTestDone => exact leads_execSwitchTestDone hs
  | balLossExpire => exact leads_execBalLossExpire hs
  | comparatorCrossing => exact leads_execComparatorCrossing hs
  | comparatorTrip => exact leads_execComparatorTrip hs
  | comparatorRelease => exact leads_execComparatorRelease hs
  | cmpSelfTestStart => exact leads_execCmpSelfTestStart hs
  | cmpTestWindowEnd => exact leads_execCmpTestWindowEnd hs
  | ovHoldoffExpire => exact leads_execOvHoldoffExpire hs
  | gateRampStart => exact leads_execGateRampStart hs
  | gateCheckpoint => exact leads_execGateCheckpoint hs
  | gateVdsSample => exact leads_execGateVdsSample hs
  | gateTurnoffStageEnd => exact leads_execGateTurnoffStageEnd hs
  | faultFrameTimer => exact leads_execFaultFrameTimer hs
  | faultFrameRepeat => exact leads_execFaultFrameRepeat hs
  | frameRelayStart => exact leads_execFrameRelayStart hs
  | frameEndReceived => exact leads_execFrameEndReceived hs
  | storeForwardSend => exact leads_execStoreForwardSend hs
  | verbFrameReceived => exact leads_execVerbFrameReceived hs
  | replyFrameReceived => exact leads_execReplyFrameReceived hs
  | ackReceived => exact leads_execAckReceived hs
  | tickReceived => exact leads_execTickReceived hs
  | beatReceived => exact leads_execBeatReceived hs
  | cancelReceived => exact leads_execCancelReceived hs
  | enumReceived => exact leads_execEnumReceived hs
  | enumReplyTimeout => exact leads_execEnumReplyTimeout hs
  | calReceived => exact leads_execCalReceived hs
  | recordFrameReceived => exact leads_execRecordFrameReceived hs
  | faultFrameReceived => exact leads_execFaultFrameReceived hs
  | frameTransmit => exact leads_execFrameTransmit hs
  | collisionDetect => exact leads_execCollisionDetect hs
  | retransmitTimeout => exact leads_execRetransmitTimeout hs
  | windowSlotSend => exact leads_execWindowSlotSend hs
  | sweepSend => exact leads_execSweepSend hs
  | burstDetect => exact leads_execBurstDetect hs
  | burstRelay => exact leads_execBurstRelay hs
  | alarmBurstSend => exact leads_execAlarmBurstSend hs
  | alarmBurstRepeat => exact leads_execAlarmBurstRepeat hs
  | wakeBurstSend => exact leads_execWakeBurstSend hs
  | breakRecognise => exact leads_execBreakRecognise hs
  | breakRelayEnd => exact leads_execBreakRelayEnd hs
  | breakEnd => exact leads_execBreakEnd hs
  | hcsWake => exact leads_execHcsWake hs
  | spiTransaction => exact leads_execSpiTransaction hs
  | uartRequest => exact leads_execUartRequest hs
  | uartByteTimeout => exact leads_execUartByteTimeout hs
  | hostMbselWrite => exact leads_hostWrite hs
  | hostMbdataWrite => exact leads_execHostMbdataWrite hs
  | hostMbdataRead => exact leads_execHostMbdataRead hs
  | mailboxRing => exact leads_hostWrite hs
  | hostIrqClear => exact leads_hostWrite hs
  | hostIrqenWrite => exact leads_hostWrite hs
  | hostFltClear => exact leads_hostWrite hs
  | hostUcfgWrite => exact leads_execHostUcfgWrite hs
  | hostErrRead => exact leads_execHostErrRead hs
  | hostReady => exact leads_execHostReady hs
  | hwakeRelease => exact leads_execHwakeRelease hs
  | claimLapse => exact leads_execClaimLapse hs
  | mailboxTake => exact leads_execMailboxTake hs
  | replyTimeout => exact leads_execReplyTimeout hs
  | historyExpire => exact leads_execHistoryExpire hs
  | idRead => exact leads_verbStep (guarded_vIdRead _) hs
  | idFactory => exact leads_verbStep (guarded_vIdFactory _) hs
  | cfgRead => exact leads_verbStep (guarded_vCfgRead _) hs
  | cfgWrite => exact leads_verbStep (guarded_vCfgWrite _) hs
  | registerWrite => exact leads_execRegisterWrite hs
  | cfgLogin => exact leads_verbStep (guarded_vCfgLogin _) hs
  | cfgLogout => exact leads_verbStep (guarded_vCfgLogout _) hs
  | cfgPasswd => exact leads_verbStep (guarded_vCfgPasswd _) hs
  | cfgFactory => exact leads_verbStep (guarded_vCfgFactory _) hs
  | sessionLapse => exact leads_execSessionLapse hs
  | lockoutExpire => exact leads_execLockoutExpire hs
  | acqStart => exact leads_verbStep (guarded_vAcqStart _) hs
  | acqRead => exact leads_verbStep (guarded_vAcqRead _) hs
  | acqFetch => exact leads_verbStep (guarded_vAcqFetch _) hs
  | balSet => exact leads_verbStep (guarded_vBalSet _) hs
  | balStop => exact leads_verbStep (guarded_vBalStop _) hs
  | balStat => exact leads_verbStep (guarded_vBalStat _) hs
  | balTest => exact leads_verbStep (guarded_vBalTest _) hs
  | balTestTimeout => exact leads_execBalTestTimeout hs
  | gateOn => exact leads_verbStep (guarded_vGateOn _) hs
  | gateOff => exact leads_verbStep (guarded_vGateOff _) hs
  | gateRearm => exact leads_verbStep (guarded_vGateRearm _) hs
  | protStat => exact leads_verbStep (guarded_vProtStat _) hs
  | cmpTest => exact leads_verbStep (guarded_vCmpTest _) hs
  | chainEnum => exact leads_verbStep (guarded_vChainEnum _) hs
  | chainCal => exact leads_verbStep (guarded_vChainCal _) hs
  | chainStream => exact leads_verbStep (guarded_vChainStream _) hs
  | chainStat => exact leads_verbStep (guarded_vChainStat _) hs
  | chainCrumb => exact leads_verbStep (guarded_vChainCrumb _) hs
  | chainBreak => exact leads_verbStep (guarded_vChainBreak _) hs
  | chainBreakEnd => exact leads_execChainBreakEnd hs
  | safeConfirm => exact leads_verbStep (guarded_vSafeConfirm _) hs
  | safeStat => exact leads_verbStep (guarded_vSafeStat _) hs
  | safeOpen => exact leads_verbStep (guarded_vSafeOpen _) hs
  | safeClose => exact leads_verbStep (guarded_vSafeClose _) hs
  | safeCycle => exact leads_verbStep (guarded_vSafeCycle _) hs
  | safeTen => exact leads_verbStep (guarded_vSafeTen _) hs
  | safeRdn => exact leads_verbStep (guarded_vSafeRdn _) hs
  | safeSto => exact leads_verbStep (guarded_vSafeSto _ _).mpr hs
  | safeEnergy => exact leads_verbStep (guarded_vSafeEnergy _) hs
  | jrnRead => exact leads_verbStep (guarded_vJrnRead _) hs
  | jrnHead => exact leads_verbStep (guarded_vJrnHead _) hs
  | jrnRelease => exact leads_verbStep (guarded_vJrnRelease _) hs
  | jrnMark => exact leads_verbStep (guarded_vJrnMark _) hs
  | aplLoad => exact leads_verbStep (guarded_vAplLoad _) hs
  | aplCommit => exact leads_verbStep (guarded_vAplCommit _) hs
  | aplStart => exact leads_verbStep (guarded_vAplStart _) hs
  | aplStop => exact leads_verbStep (guarded_vAplStop _) hs
  | aplStat => exact leads_verbStep (guarded_vAplStat _) hs
  | aplMsg => exact leads_verbStep (guarded_vAplMsg _) hs
  | aplMsgTimeout => exact leads_execAplMsgTimeout hs
  | aplErase => exact leads_verbStep (guarded_vAplErase _) hs
  | pwrSet => exact leads_verbStep (guarded_vPwrSet _) hs
  | pwrStat => exact leads_verbStep (guarded_vPwrStat _) hs
  | pwrWakeclr => exact leads_verbStep (guarded_vPwrWakeclr _) hs
  | pwrKeep => exact leads_verbStep (guarded_vPwrKeep _) hs
  | diagInfo => exact leads_verbStep (guarded_vDiagInfo _) hs
  | diagScan => exact leads_verbStep (guarded_vDiagScan _) hs
  | reset => exact leads_verbStep (guarded_vReset _) hs
  | resetVerbTimeout => exact leads_execResetVerbTimeout hs
  | timeExpectationExpire => exact leads_execTimeExpectationExpire hs
  | stopNLow => exact leads_execStopNLow hs
  | energyDecision => exact leads_execEnergyDecision hs
  | decisionTimerExpire => exact leads_execDecisionTimerExpire hs
  | tenRise => exact leads_execTenRise hs
  | tenReadbackCheck => exact leads_execTenReadbackCheck hs
  | commaPulse => exact leads_execCommaPulse hs
  | commaPulseEnd => exact leads_execCommaPulseEnd hs
  | readbackFault => exact leads_execReadbackFault hs
  | rundownCheck => exact leads_execRundownCheck hs
  | rundownTimeLimit => exact leads_execRundownTimeLimit hs
  | smRundownLimitBackup => exact leads_execSmRundownLimitBackup hs
  | exceptionEntry => exact leads_execExceptionEntry hs
  | fullStopTimerExpire => exact leads_execFullStopTimerExpire hs
  | divideComplete => exact leads_execDivideComplete hs
  | storeDrain => exact leads_execStoreDrain hs
  | waitEnd => exact leads_execWaitEnd hs
  | add => exact leads_alu hs
  | sub => exact leads_alu hs
  | and => exact leads_alu hs
  | or => exact leads_alu hs
  | xor => exact leads_alu hs
  | andn => exact leads_alu hs
  | sll => exact leads_alu hs
  | srl => exact leads_alu hs
  | sra => exact leads_alu hs
  | ror => exact leads_alu hs
  | mul => exact leads_alu hs
  | mulhs => exact leads_alu hs
  | mulhu => exact leads_alu hs
  | addt => exact leads_trapping hs
  | subt => exact leads_trapping hs
  | mult => exact leads_trapping hs
  | divs => exact leads_divide hs
  | divu => exact leads_divide hs
  | rems => exact leads_divide hs
  | remu => exact leads_divide hs
  | slt => exact leads_alu hs
  | sltu => exact leads_alu hs
  | addi => exact leads_immediate hs
  | andi => exact leads_immediate hs
  | ori => exact leads_immediate hs
  | xori => exact leads_immediate hs
  | cmpi => exact leads_execCmpi hs
  | shiSll => exact leads_immediate hs
  | shiSrl => exact leads_immediate hs
  | shiSra => exact leads_immediate hs
  | shiRor => exact leads_immediate hs
  | lui => exact leads_execLui hs
  | ldw => exact leads_load hs
  | ldh => exact leads_load hs
  | ldhu => exact leads_load hs
  | ldb => exact leads_load hs
  | ldbu => exact leads_load hs
  | stw => exact leads_store hs
  | sth => exact leads_store hs
  | stb => exact leads_store hs
  | bc => exact leads_execBc hs
  | call => exact leads_execCall hs
  | jmpr => exact leads_execJmpr hs
  | bmov => exact leads_execBmov hs
  | bfil => exact leads_execBfil hs
  | mfc => exact leads_execMfc hs
  | mtc => exact leads_execMtc hs
  | sysCtlSwi => exact leads_execSysCtlSwi hs
  | sysCtlEspl => exact leads_execSysCtlEspl hs
  | setf => exact leads_execSetf hs
  | getf => exact leads_execGetf hs
  | sync => exact leads_execSync hs
  | enter => exact leads_execEnter hs
  | leave => exact leads_execLeave hs
  | rfe => exact leads_execRfe hs
  | fstop => exact leads_execFstop hs
  | brk code => exact leads_execBrk (code := code) hs
  | wait => exact leads_execWait hs
  | svcVersion => exact leads_execSvcVersion hs
  | svcTime => exact leads_execSvcTime hs
  | svcWait => exact leads_execSvcWait hs
  | svcWaitTimeout => exact leads_execSvcWaitTimeout hs
  | svcSnapshot => exact leads_execSvcSnapshot hs
  | svcNtcset => exact leads_execSvcNtcset hs
  | svcBalSubmit => exact leads_execSvcBalSubmit hs
  | svcBalCancel => exact leads_execSvcBalCancel hs
  | svcBalStat => exact leads_execSvcBalStat hs
  | svcMsgGet => exact leads_execSvcMsgGet hs
  | svcMsgPut => exact leads_execSvcMsgPut hs
  | svcNote => exact leads_execSvcNote hs
  | svcPrecise => exact leads_execSvcPrecise hs
  | svcExit => exact leads_execSvcExit hs
  | budgetIntervalEnd => exact leads_execBudgetIntervalEnd hs
  | dmaStart => exact leads_execDmaStart hs
  | dmaAbort => exact leads_execDmaAbort hs
  | dmaResume => exact leads_execDmaResume hs
  | dmaTrigger => exact leads_execDmaTrigger hs
  | dmaBurst => exact leads_execDmaBurst hs
  | ceStart => exact leads_execCeStart hs
  | ceAbort => exact leads_execCeAbort hs
  | ceBurst => exact leads_execCeBurst hs
  | romScanStart => exact leads_execRomScanStart hs
  | configScanStart => exact leads_execConfigScanStart hs
  | journalWrite => exact leads_execJournalWrite hs
  | sleepLossExpire => exact leads_execSleepLossExpire hs
  | lowerStateEntry => exact leads_execLowerStateEntry hs
  | patrolCheck => exact leads_execPatrolCheck hs
  | activeEntry => exact leads_execActiveEntry hs
  | firstBeatAfterWake => exact leads_execFirstBeatAfterWake hs
  | watchdogServe => exact leads_execWatchdogServe hs
  | watchdogEarlyWarning => exact leads_execWatchdogEarlyWarning hs
  | watchdogExpire => exact leads_execWatchdogExpire hs
  | supervisionFail => exact leads_execSupervisionFail hs
  | hostFltLiveAgeOut => exact leads_execHostFltLiveAgeOut hs
  | illegalOpcode => exact leads_execIllegalOpcode hs
  | instructionFetchFault => exact leads_execInstructionFetchFault hs

/-- A step executes the first command of the queue, on the state with the rest of it, or takes the tick. -/
theorem guarded_step {g : Guard} {s t : State} (hs : Guarded g s) (h : step s = .next t) : Guarded g t := by
  unfold step at h
  split at h
  · cases h
    exact guarded_tick hs
  · exact leads_exec _ ((guarded_mk (g := g)).mpr hs) t h

/-- Settles O6: both invariants are kept by every instruction and by the tick. -/
theorem stepKeepsLiveSeenAndGrants : Obligations.StepKeepsLiveSeenAndGrants :=
  ⟨fun _ _ hs h => guarded_step (g := .live) hs h, fun _ _ hs h => guarded_step (g := .switch) hs h⟩

end Sys2Proof.Machine

/-! PROOFS. The registers of the host window (12 Table 12-1; 20 R756, R766): what a write of each register answers, and the errors that
are counted. -/

namespace Sys2Proof.Machine

section
variable {s : State} {h : HPort} {r : Nat} {v : Word}

/-! ### The error counts -/

theorem portError_only (s : State) (h : HPort) : Only [.host] s (portError s h) := by
  have hite (c : Prop) [Decidable c] (t : State) (ht : Only [.host] s t) : Only [.host] s (if c then s else t) := by
    split
    · exact Only.refl _ _
    · exact ht
  cases h <;> exact hite _ _ (only_host (by decide) ..)

/-- The three counts of `HOST_ERR` stay at 255 (12 Table 12-1). -/
theorem satInc_count (n : BitVec 8) : satInc n = if n = 255 then n else n + 1 := rfl

theorem portError_spi_count (s : State) : (portError s .spi).host.errSpi = satInc s.host.errSpi := by
  rw [portError, satInc_count]
  split <;> rfl

theorem portError_uart_count (s : State) : (portError s .uart).host.errUart = satInc s.host.errUart := by
  rw [portError, satInc_count]
  split <;> rfl

theorem portError_spi_irq (s : State) :
    (portError s .spi).host.irq = if s.host.errSpi = 255 then s.host.irq else s.host.irq ||| 0x1000 := by
  rw [portError]
  split <;> rfl

theorem portError_uart_irq (s : State) :
    (portError s .uart).host.irq = if s.host.errUart = 255 then s.host.irq else s.host.irq ||| 0x1000 := by
  rw [portError]
  split <;> rfl

/-! ### A write of one register -/

theorem hostWrite_on (hon : hostOn s = true) : hostWrite s h r v = .next (hostRegWrite s h r v).1 := by
  rw [hostWrite, if_pos hon]

theorem hostWrite_off (hoff : hostOn s = false) : hostWrite s h r v = .next s := by
  rw [hostWrite, hoff]
  rfl

theorem hostRegWrite_not_ready (hr : s.host.ready = false) : hostRegWrite s h r v = ignoredWrite s h := by
  simp [hostRegWrite, hr]

theorem hostRegWrite_irqen (hr : s.host.ready = true) :
    hostRegWrite s h 2 v = ({ s with host.irqen := v.setWidth 13 }, .done) := by
  rw [hostRegWrite, hr]
  rfl

theorem hostRegWrite_irq (hr : s.host.ready = true) :
    hostRegWrite s h 3 v = ({ s with host.irq := s.host.irq &&& ~~~ (v.setWidth 13) }, .done) := by
  rw [hostRegWrite, hr]
  rfl

theorem hostRegWrite_bell (hr : s.host.ready = true) : hostRegWrite s h 4 v = rings s h v [0, 1, 2, 3] := by
  rw [hostRegWrite, hr]
  rfl

theorem hostRegWrite_mbsel (hr : s.host.ready = true) :
    hostRegWrite s h 5 v = (setBank s h (v.setWidth 3) (fld v 15 8), .done) := by
  rw [hostRegWrite, hr]
  rfl

theorem hostRegWrite_flt (hr : s.host.ready = true) :
    hostRegWrite s h 7 v = ({ s with host.seen := (s.host.seen &&& ~~~ ((v >>> 4).setWidth 4)) ||| s.host.live }, .done) := by
  rw [hostRegWrite, hr]
  rfl

theorem hostRegWrite_ucfg (hr : s.host.ready = true) :
    hostRegWrite s h 9 v =
      ({ s with host.baudReg := bitOf v 0, host.baud := if h = .spi then bitOf v 0 else s.host.baud }, .done) := by
  rw [hostRegWrite, hr]
  rfl

/-- `HOST_ID` takes no write. -/
theorem hostRegWrite_id : hostRegWrite s h 0 v = ignoredWrite s h := by
  simp [hostRegWrite]

/-! ### A port's bank -/

theorem bankOf_setBank_same (s : State) (h : HPort) (sel : BitVec 3) (ptr : Nat) : bankOf (setBank s h sel ptr) h = (sel, ptr) := by
  cases h <;> rfl

theorem bankOf_setBank_other (s : State) {h g : HPort} (sel : BitVec 3) (ptr : Nat) (hg : g ≠ h) :
    bankOf (setBank s h sel ptr) g = bankOf s g := by
  cases h with
  | spi => cases g with
    | spi => exact absurd rfl hg
    | uart => rfl
  | uart => cases g with
    | spi => rfl
    | uart => exact absurd rfl hg

@[simp] theorem setBank_mbx (s : State) (h : HPort) (sel : BitVec 3) (ptr : Nat) : (setBank s h sel ptr).mbx = s.mbx := by
  cases h <;> rfl

theorem setBank_only (s : State) (h : HPort) (sel : BitVec 3) (ptr : Nat) : Only [.host] s (setBank s h sel ptr) := by
  cases h <;> exact only_host (by decide) ..

/-! ### What a port shifts out -/

theorem putRead_out (s : State) (h : HPort) (out : List Byte) :
    (if h = .spi then (putRead s h out).host.hsdo else (putRead s h out).host.htx) = out := by
  cases h <;> rfl

theorem putRead_only (s : State) (h : HPort) (out : List Byte) : Only [.host] s (putRead s h out) := by
  cases h <;> exact only_host (by decide) ..

@[simp] theorem putRead_mbx (s : State) (h : HPort) (out : List Byte) : (putRead s h out).mbx = s.mbx := by
  cases h <;> rfl

@[simp] theorem bankOf_putRead (s : State) (h g : HPort) (out : List Byte) : bankOf (putRead s h out) g = bankOf s g := by
  cases h <;> cases g <;> rfl

/-! ### The host's bus -/

theorem hostBusWrite_reg {a : Nat} (hon : hostOn s = true) (h6 : a / 4 ≠ 6) (h9 : a / 4 ≠ 9) :
    hostBusWrite s h a v = (hostRegWrite s h (a / 4) v).1 := by
  rw [hostBusWrite, hon]
  simp [h6, h9]

theorem hostBusWrite_ucfg (hon : hostOn s = true) (hr : s.host.ready = true) :
    hostBusWrite s h 36 v = { s with host := { s.host with baudReg := bitOf v 0, baud := bitOf v 0 } } := by
  rw [hostBusWrite, hon]
  simp [hostRegWrite_ucfg hr]

/-! ### The core's bus -/

theorem ofNat_leVal_leBytes (v : Word) : BitVec.ofNat 32 (leVal (leBytes 4 v.toNat)) = v := by
  have hv : v.toNat % 256 ^ 4 = v.toNat := Nat.mod_eq_of_lt v.isLt
  rw [leVal_leBytes, hv, BitVec.ofNat_toNat, BitVec.setWidth_eq]

/-- `MPU_CTL`, the register at 0x40007200 (20 R756, R766). -/
theorem busWrite_mpuCtl (s : State) (fw : Bool) (v : Word) :
    busWrite s fw 0x40007200 (leBytes 4 v.toNat) =
      .ok { s with mpu.fen := if s.mpu.flock then s.mpu.fen else bitOf v 0, mpu.flock := s.mpu.flock || bitOf v 1 } := by
  simp [busWrite, inRom, inSram, inStore, inPeri, periWrite, inKnown, knownReg, mpuWrite, ofNat_leVal_leBytes]

theorem coreBusWrite_of_store {a : Word} (hon : coreOn s = true) (himp : impDue s = false) :
    coreBusWrite s a v = match coreStore s a (leBytes 4 v.toNat) 2 with
      | .error f => raiseSync s f
      | .ok t => t := by
  rw [coreBusWrite, hon, himp]
  rfl

theorem coreStore_refused {a : Word} {b : List Byte} {e : BitVec 4} (ha : a.toNat % 4 = 0)
    (hp : mpuCheck s (inApplet s) a.toNat 2 = .error e) :
    coreStore s a b 2 = .error { entry := 7, sub := e, size := 2, write := true, fetch := false, faddr := a } := by
  simp [coreStore, coreStoreAs, sizeBytes, ha, hp]

theorem coreStore_mpuCtl {a : Word} (ha : a.toNat % 4 = 0) (hp : mpuCheck s (inApplet s) a.toNat 2 = .ok 0x40007200) :
    coreStore s a (leBytes 4 v.toNat) 2 =
      .ok { s with mpu.fen := if s.mpu.flock then s.mpu.fen else bitOf v 0, mpu.flock := s.mpu.flock || bitOf v 1 } := by
  simp [coreStore, coreStoreAs, sizeBytes, ha, hp, inSram, busWrite_mpuCtl]

/-! ### The clauses of the statement -/

theorem hostMbselWrite_sets_bank (hon : hostOn s = true) (hr : s.host.ready = true) : Does (.hostMbselWrite h v) s fun t =>
    bankOf t h = (v.setWidth 3, fld v 15 8) ∧ (∀ g, g ≠ h → bankOf t g = bankOf s g) ∧ t.mbx = s.mbx ∧ Only [.host] s t := by
  refine ⟨setBank s h (v.setWidth 3) (fld v 15 8), ?_, bankOf_setBank_same .., fun _ => bankOf_setBank_other s _ _, setBank_mbx ..,
    setBank_only ..⟩
  exact (hostWrite_on hon).trans (by rw [hostRegWrite_mbsel hr])

theorem hostUcfgWrite_sets_baud (hon : hostOn s = true) (hr : s.host.ready = true) :
    Does (.hostUcfgWrite h v) s (· = { s with host := { s.host with baudReg := bitOf v 0, baud := bitOf v 0 } }) := by
  refine ⟨_, ?_, rfl⟩
  show execHostUcfgWrite h v s = _
  rw [execHostUcfgWrite, hon, hostRegWrite_ucfg hr]
  rfl

theorem hostErrRead_clears (hon : hostOn s = true) (hr : s.host.ready = true) : Does (.hostErrRead h) s fun t =>
    t.host.errSpi = 0 ∧ t.host.errUart = 0 ∧ t.host.errClaim = 0 ∧
      (if h = .spi then t.host.hsdo else t.host.htx) =
        leBytes 4 (s.host.errSpi.toNat + 256 * s.host.errUart.toNat + 65536 * s.host.errClaim.toNat) ∧ Only [.host] s t := by
  have hv : (hostReg s h 10).toNat = s.host.errSpi.toNat + 256 * s.host.errUart.toNat + 65536 * s.host.errClaim.toNat := by
    simp only [hostReg, BitVec.toNat_ofNat]
    omega
  let u : State := { s with host.errSpi := 0, host.errUart := 0, host.errClaim := 0 }
  refine ⟨putRead u h (leBytes 4 (hostReg s h 10).toNat), ?_, ?_, ?_, ?_, ?_, (only_host (by decide) ..).trans (putRead_only ..)⟩
  · show execHostErrRead h s = _
    rw [execHostErrRead, hon, latchReg, hr]
    rfl
  · cases h <;> rfl
  · cases h <;> rfl
  · cases h <;> rfl
  · rw [putRead_out, hv]

theorem hostReady_raises (ha : active s = true) (hr : s.host.ready = false) : Does .hostReady s fun t =>
    t = { s with host := { s.host with ready := true, irq := s.host.irq ||| 0x400 } } := by
  refine ⟨_, ?_, rfl⟩
  show execHostReady s = _
  rw [execHostReady, ha, hr]
  rfl

theorem hostReady_idle (hr : s.host.ready = true) : Idle .hostReady s := by
  show execHostReady s = _
  simp [execHostReady, hr]

theorem uartByteTimeout_discards (hon : hostOn s = true) : Does .uartByteTimeout s fun t =>
    t = { portError s .uart with
          host := { (portError s .uart).host with uartAt := max s.host.uartAt (s.now + ctPerMs) } } := by
  refine ⟨_, ?_, rfl⟩
  show execUartByteTimeout s = _
  rw [execUartByteTimeout, if_pos hon]
  rfl

theorem registerWrite_mpuCtl {a : Word} (hon : coreOn s = true) (himp : impDue s = false) (ha : a.toNat % 4 = 0)
    (hp : mpuCheck s (inApplet s) a.toNat 2 = .ok 0x40007200) : Does (.registerWrite .core a v) s fun t =>
      t = { s with mpu := { s.mpu with fen := if s.mpu.flock then s.mpu.fen else bitOf v 0,
                                       flock := s.mpu.flock || bitOf v 1 } } := by
  refine ⟨coreBusWrite s a v, rfl, ?_⟩
  rw [coreBusWrite_of_store hon himp, coreStore_mpuCtl ha hp]

theorem registerWrite_refused {a : Word} {e : BitVec 4} (hon : coreOn s = true) (himp : impDue s = false) (ha : a.toNat % 4 = 0)
    (hp : mpuCheck s (inApplet s) a.toNat 2 = .error e) : Does (.registerWrite .core a v) s
      (· = raiseSync s { entry := 7, sub := e, size := 2, write := true, fetch := false, faddr := a }) := by
  refine ⟨coreBusWrite s a v, rfl, ?_⟩
  rw [coreBusWrite_of_store hon himp, coreStore_refused ha hp]

theorem registerWrite_host {a : Word} (hon : hostOn s = true) (h6 : a.toNat % 128 / 4 ≠ 6) (h9 : a.toNat % 128 / 4 ≠ 9) :
    Does (.registerWrite (.host h) a v) s fun t => t = (hostRegWrite s h (a.toNat % 128 / 4) v).1 :=
  ⟨_, rfl, hostBusWrite_reg hon h6 h9⟩

theorem registerWrite_id (hon : hostOn s = true) : Does (.registerWrite (.host h) 0 v) s fun t => t = portError s h := by
  obtain ⟨t, ht, hw⟩ := registerWrite_host (h := h) (v := v) (a := 0) hon (by decide) (by decide)
  exact ⟨t, ht, hw.trans (congrArg Prod.fst hostRegWrite_id)⟩

/-- Without a served port a write, a read of `HOST_ERR` and a late byte do nothing (02 R44, R49). -/
theorem host_commands_idle (hoff : hostOn s = false) : Idle (.hostMbselWrite h v) s ∧ Idle (.hostIrqClear h v) s ∧
    Idle (.hostIrqenWrite h v) s ∧ Idle (.hostFltClear h v) s ∧ Idle (.hostUcfgWrite h v) s ∧ Idle (.hostErrRead h) s ∧
    Idle .uartByteTimeout s := by
  refine ⟨hostWrite_off hoff, hostWrite_off hoff, hostWrite_off hoff, hostWrite_off hoff, ?_, ?_, ?_⟩
  · show execHostUcfgWrite h v s = _
    rw [execHostUcfgWrite, hoff]
    rfl
  · show execHostErrRead h s = _
    rw [execHostErrRead, hoff]
    rfl
  · show execUartByteTimeout s = _
    rw [execUartByteTimeout, hoff]
    rfl

end

/-- A command that writes one register of a ready window answers what the register write leaves. -/
theorem does_hostWrite {c : Instr} {s t : State} {h : HPort} {r : Nat} {v : Word} {a : Access} (hc : exec c s = hostWrite s h r v)
    (hon : hostOn s = true) (hw : hostRegWrite s h r v = (t, a)) : Does c s (· = t) :=
  ⟨t, by rw [hc, hostWrite_on hon, hw], rfl⟩

/-- Settles O35: each register's write by its own equation; the others by the checks that come before it. -/
theorem hostWindowRegisters : Obligations.HostWindowRegisters :=
  ⟨fun _ _ _ => hostMbselWrite_sets_bank,
   fun _ _ _ hon hr => does_hostWrite rfl hon (hostRegWrite_irq hr),
   fun _ _ _ hon hr => does_hostWrite rfl hon (hostRegWrite_irqen hr),
   fun _ _ _ hon hr => does_hostWrite rfl hon (hostRegWrite_flt hr),
   fun _ _ _ hon hr => ⟨hostUcfgWrite_sets_baud hon hr, _, rfl, hostBusWrite_ucfg hon hr⟩,
   fun _ _ _ hon hr =>
    have hw {r v} := hostRegWrite_not_ready (r := r) (v := v) hr
    ⟨does_hostWrite rfl hon hw, does_hostWrite rfl hon hw, does_hostWrite rfl hon hw, does_hostWrite rfl hon hw⟩,
   fun s => ⟨portError_spi_count s, portError_uart_count s, portError_only s, portError_spi_irq s, portError_uart_irq s⟩,
   fun _ _ => hostErrRead_clears,
   fun _ => hostReady_raises,
   fun _ => hostReady_idle,
   fun _ => uartByteTimeout_discards,
   fun _ _ _ _ => registerWrite_host,
   fun _ _ _ => registerWrite_id,
   fun _ _ _ => registerWrite_mpuCtl,
   fun _ _ _ _ => registerWrite_refused,
   fun _ _ _ => host_commands_idle⟩

end Sys2Proof.Machine

/-! PROOFS. The mailbox pairs as a host port sees them (12 R439, R459, R460; 13 R475 to R482, R495): bytes of the selected mailbox, the
doorbell, and the last byte of a reply. -/

namespace Sys2Proof.Machine

section
variable {s : State} {h : HPort} {b : Byte} {sel : BitVec 3} {ptr : Nat}

/-! ### Claims -/

theorem claimedByOther_of_own {i : Fin 4} (hc : s.mbx.pairs[i].claim = some h) : claimedByOther s h i = false := by
  simp only [claimedByOther, hc, bne_self_eq_false]

theorem claimError_count (s : State) : (claimError s).host.errClaim = satInc s.host.errClaim := by
  rw [claimError, satInc_count]
  split <;> rfl

theorem claimError_only (s : State) : Only [.host] s (claimError s) := by
  rw [claimError]
  split
  · exact Only.refl _ _
  · exact only_host (by decide) ..

/-! ### A byte written to `HOST_MBDATA` -/

theorem mbWrite_conflict (hb : bankOf s h = (sel, ptr)) (hc : claimedByOther s h (selPair sel) = true) :
    mbWrite s h b = (claimError s, .conflict) := by
  simp [mbWrite, hb, hc]

theorem mbWrite_overflow (hb : bankOf s h = (sel, ptr)) (hc : claimedByOther s h (selPair sel) = false) (hp : 256 ≤ ptr) :
    mbWrite s h b = (portError s h, .overflow) := by
  simp [mbWrite, hb, hc, hp]

theorem mbWrite_out (hb : bankOf s h = (sel, ptr)) (hc : claimedByOther s h (selPair sel) = false) (hp : ptr < 256) (hs : 4 ≤ sel) :
    mbWrite s h b = (setBank { s with
      mbx.pairs := s.mbx.pairs.set (selPair sel)
        { s.mbx.pairs[selPair sel] with outb := (padTo 256 s.mbx.pairs[selPair sel].outb).set ptr b } } h sel (ptr + 1), .done) := by
  unfold mbWrite
  rw [hb]
  simp only [hc, Nat.not_le.mpr hp, hs, if_true, if_false, Bool.false_eq_true]

theorem mbWrite_busy (hb : bankOf s h = (sel, ptr)) (hc : claimedByOther s h (selPair sel) = false) (hp : ptr < 256) (hs : sel < 4)
    (hbusy : s.mbx.pairs[selPair sel].busy = true) : mbWrite s h b = (portError s h, .done) := by
  unfold mbWrite
  rw [hb]
  simp only [hc, Nat.not_le.mpr hp, BitVec.not_le.mpr hs, hbusy, if_true, if_false, Bool.false_eq_true]

theorem mbWrite_in (hb : bankOf s h = (sel, ptr)) (hc : claimedByOther s h (selPair sel) = false) (hp : ptr < 256) (hs : sel < 4)
    (hbusy : s.mbx.pairs[selPair sel].busy = false) :
    mbWrite s h b = (setBank { s with
      mbx.pairs := s.mbx.pairs.set (selPair sel)
        { s.mbx.pairs[selPair sel] with inb := s.mbx.pairs[selPair sel].inb.set ptr b, claim := some h } } h sel (ptr + 1), .done) := by
  unfold mbWrite
  rw [hb]
  simp only [hc, Nat.not_le.mpr hp, BitVec.not_le.mpr hs, hbusy, if_false, Bool.false_eq_true]

theorem exec_hostMbdataWrite (hon : hostOn s = true) (hr : s.host.ready = true) :
    exec (.hostMbdataWrite h b) s = .next (mbWrite s h b).1 := by
  show execHostMbdataWrite h b s = _
  rw [execHostMbdataWrite, hon, hr]
  rfl

theorem does_hostMbdataWrite {t : State} {a : Access} (hon : hostOn s = true) (hr : s.host.ready = true)
    (hw : mbWrite s h b = (t, a)) : Does (.hostMbdataWrite h b) s (· = t) :=
  ⟨t, by rw [exec_hostMbdataWrite hon hr, hw], rfl⟩

/-- A byte that goes into the selected pair changes the pair and the port's pointer. -/
theorem hostMbdataWrite_pair {x : MbxPair} {a : Access} (hon : hostOn s = true) (hr : s.host.ready = true)
    (hw : mbWrite s h b =
      (setBank { s with mbx.pairs := s.mbx.pairs.set (selPair sel) x } h sel (ptr + 1), a)) :
    Does (.hostMbdataWrite h b) s fun t => t.mbx = { s.mbx with pairs := s.mbx.pairs.set (selPair sel) x } ∧
      bankOf t h = (sel, ptr + 1) ∧ Only [.mbx, .host] s t := by
  obtain ⟨t, ht, rfl⟩ := does_hostMbdataWrite hon hr hw
  exact ⟨_, ht, setBank_mbx .., bankOf_setBank_same ..,
    (only_mbx (by decide) ..).trans ((setBank_only ..).mono (by decide))⟩

/-! ### A byte read from `HOST_MBDATA` -/

theorem mbRead_in (hb : bankOf s h = (sel, ptr)) (hc : claimedByOther s h (selPair sel) = false) (hp : ptr < 256) (hs : sel < 4) :
    mbRead s h = (setBank s h sel (ptr + 1), s.mbx.pairs[selPair sel].inb.getD ptr 0, .done) := by
  unfold mbRead
  rw [hb]
  simp only [hc, Nat.not_le.mpr hp, hs, if_true, if_false, Bool.false_eq_true]

theorem mbRead_last (hb : bankOf s h = (sel, ptr)) (hp : ptr < 256) (hs : 4 ≤ sel)
    (hf : s.mbx.pairs[selPair sel].full = true) (hc : s.mbx.pairs[selPair sel].claim = some h)
    (hl : ptr = 15 + leAt s.mbx.pairs[selPair sel].outb 4 2) :
    mbRead s h = (resetConsumed (consume (setBank s h sel (ptr + 1)) (selPair sel)) (selPair sel) s.mbx.pairs[selPair sel].outb,
      s.mbx.pairs[selPair sel].outb.getD ptr 0, .done) := by
  unfold mbRead
  rw [hb]
  simp only [claimedByOther_of_own hc, Nat.not_le.mpr hp, BitVec.not_lt.mpr hs, hf, hc, ← hl, if_false, Bool.false_eq_true,
    beq_self_eq_true, Bool.and_self, if_true]

@[simp] theorem putRead_rst (s : State) (h : HPort) (out : List Byte) : (putRead s h out).rst = s.rst := by
  cases h <;> rfl

@[simp] theorem putRead_store (s : State) (h : HPort) (out : List Byte) : (putRead s h out).store = s.store := by
  cases h <;> rfl

/-- Where no accepted `RESET` meets the event, none is marked. -/
theorem resetEvent_of_none {c : Msg → Bool} (hc : ∀ m, c m = false) : resetEvent s c = s := by
  simp [resetEvent, hc]

/-- The reply of another verb is not that of a `RESET` (14 R554). -/
theorem resetConsumed_of_other {i : Fin 4} {out : List Byte} (ho : leAt out 0 2 ≠ 0x0F01) : resetConsumed s i out = s :=
  resetEvent_of_none fun m => by simp [ho]

/-- An accepted `RESET` for this device alone resets it once its reply is consumed (14 R554). -/
theorem resetConsumed_of_reset {i : Fin 4} {out : List Byte} {x : Msg × Bool} (ho : leAt out 0 2 = 0x0F01)
    (hx : x ∈ s.pw.resetVerb) (hsrc : x.1.src = none) (hbc : x.1.bcast = false) (hi : x.1.mbx = i)
    (htag : leAt out 2 2 = x.1.tag.toNat) : resetConsumed s i out = fullReset s 6 := by
  rw [resetConsumed, resetEvent, if_pos]
  exact List.any_eq_true.mpr ⟨x, hx, by simp [bcastWaits, ho, hsrc, hbc, hi, htag]⟩

theorem exec_hostMbdataRead (hon : hostOn s = true) (hr : s.host.ready = true) :
    exec (.hostMbdataRead h) s = .next (putRead (mbRead s h).1 h [(mbRead s h).2.1]) := by
  show execHostMbdataRead h s = _
  rw [execHostMbdataRead, hon, hr]
  rfl

theorem does_hostMbdataRead {t : State} {a : Access} (hon : hostOn s = true) (hr : s.host.ready = true)
    (hw : mbRead s h = (t, b, a)) : Does (.hostMbdataRead h) s (· = putRead t h [b]) :=
  ⟨_, by rw [exec_hostMbdataRead hon hr, hw], rfl⟩

theorem hostMbdataRead_in (hon : hostOn s = true) (hr : s.host.ready = true) (hb : bankOf s h = (sel, ptr)) (hs : sel < 4)
    (hp : ptr < 256) (hc : claimedByOther s h (selPair sel) = false) : Does (.hostMbdataRead h) s fun t =>
      t.mbx = s.mbx ∧ bankOf t h = (sel, ptr + 1) ∧
        (if h = .spi then t.host.hsdo else t.host.htx) = [s.mbx.pairs[selPair sel].inb.getD ptr 0] ∧ Only [.host] s t := by
  obtain ⟨t, ht, rfl⟩ := does_hostMbdataRead hon hr (mbRead_in hb hc hp hs)
  exact ⟨_, ht, (putRead_mbx ..).trans (setBank_mbx ..), (bankOf_putRead ..).trans (bankOf_setBank_same ..), putRead_out ..,
    (setBank_only ..).trans (putRead_only ..)⟩

theorem consume_only (s : State) (i : Fin 4) : Only [.mbx, .host] s (consume s i) := only_mbx (by decide) ..

theorem hostMbdataRead_frees (hon : hostOn s = true) (hr : s.host.ready = true) (hb : bankOf s h = (sel, ptr)) (hs : 4 ≤ sel)
    (hp : ptr < 256) (hf : s.mbx.pairs[selPair sel].full = true) (hc : s.mbx.pairs[selPair sel].claim = some h)
    (hl : ptr = 15 + leAt s.mbx.pairs[selPair sel].outb 4 2) (ho : leAt s.mbx.pairs[selPair sel].outb 0 2 ≠ 0x0F01) :
    Does (.hostMbdataRead h) s fun t =>
      t.mbx = { s.mbx with
        pairs := s.mbx.pairs.set (selPair sel) { s.mbx.pairs[selPair sel] with outb := [], full := false, claim := none } } ∧
      (if h = .spi then t.host.hsdo else t.host.htx) = [s.mbx.pairs[selPair sel].outb.getD ptr 0] ∧ Only [.mbx, .host] s t := by
  have hread := mbRead_last hb hp hs hf hc hl
  rw [resetConsumed_of_other ho] at hread
  obtain ⟨t, ht, rfl⟩ := does_hostMbdataRead hon hr hread
  refine ⟨_, ht, ?_, putRead_out .., ((setBank_only ..).mono (by decide)).trans
    ((consume_only ..).trans ((putRead_only ..).mono (by decide)))⟩
  rw [putRead_mbx, consume, setBank_mbx]

theorem hostMbdataRead_resets {x : Msg × Bool} (hon : hostOn s = true) (hr : s.host.ready = true) (hb : bankOf s h = (sel, ptr))
    (hs : 4 ≤ sel) (hp : ptr < 256) (hf : s.mbx.pairs[selPair sel].full = true) (hc : s.mbx.pairs[selPair sel].claim = some h)
    (hl : ptr = 15 + leAt s.mbx.pairs[selPair sel].outb 4 2) (ho : leAt s.mbx.pairs[selPair sel].outb 0 2 = 0x0F01)
    (hx : x ∈ s.pw.resetVerb) (hsrc : x.1.src = none) (hbc : x.1.bcast = false) (hi : x.1.mbx = selPair sel)
    (htag : leAt s.mbx.pairs[selPair sel].outb 2 2 = x.1.tag.toNat) :
    Does (.hostMbdataRead h) s fun t => t.rst.held = true ∧ t.rst.latch = 6 ∧ t.store = s.store := by
  have hread := mbRead_last hb hp hs hf hc hl
  generalize hu : consume (setBank s h sel (ptr + 1)) (selPair sel) = u at hread
  have hsu : Only [.mbx, .host] s u := hu ▸ ((setBank_only ..).mono (by decide)).trans (consume_only ..)
  have hxu : x ∈ u.pw.resetVerb := (hsu.same .pw (by decide)).symm ▸ hx
  have hheld : u.rst.held = false := (hsu.same .rst (by decide)).symm ▸ held_of_active (Bool.and_eq_true_iff.mp hon).1
  rw [resetConsumed_of_reset ho hxu hsrc hbc hi htag] at hread
  obtain ⟨hrst, hlatch, -⟩ := resetFrom_of_fullReset u 6 hheld
  obtain ⟨t, ht, rfl⟩ := does_hostMbdataRead hon hr hread
  have hstore : u.store = s.store := hsu.same .store (by decide)
  exact ⟨_, ht, by rw [putRead_rst, hrst], by rw [putRead_rst, hlatch], by rw [putRead_store, fullReset_store, hstore]⟩

/-! ### The doorbell -/

/-- The doorbell word of one pair rings that pair alone (13 R490). -/
theorem rings_one (s : State) (h : HPort) (i : Fin 4) : (rings s h (1#32 <<< i.val) [0, 1, 2, 3]).1 = (ring s h i).1 := by
  fin_cases i <;> simp [rings, bitOf]

theorem does_mailboxRing {i : Fin 4} {t : State} {a : Access} (hon : hostOn s = true) (hr : s.host.ready = true)
    (hw : ring s h i = (t, a)) : Does (.mailboxRing h (1#32 <<< i.val)) s (· = t) := by
  refine ⟨t, (hostWrite_on hon).trans ?_, rfl⟩
  rw [hostRegWrite_bell hr, rings_one, hw]

theorem ring_taken {i : Fin 4} (hc : s.mbx.pairs[i].claim = some h) (hb : s.mbx.pairs[i].busy = false)
    (hfl : s.mbx.pairs[i].flight = false) (hf : s.mbx.pairs[i].full = false) (hd : s.pw.decided = none) :
    ring s h i = ({ s with mbx.pairs := s.mbx.pairs.set i { s.mbx.pairs[i] with busy := true, flight := true },
                           mbx.takeq := s.mbx.takeq ++ [i] }, .done) := by
  unfold ring
  simp only [claimedByOther_of_own hc, hc, hb, hfl, hf, hd, beq_self_eq_true, Bool.not_false, Bool.and_self, Option.isNone_none,
    if_true, if_false, Bool.false_eq_true]

theorem ring_busy {i : Fin 4} (hc : s.mbx.pairs[i].claim = some h) (hf : s.mbx.pairs[i].flight = true ∨ s.mbx.pairs[i].full = true) :
    ring s h i = (portError s h, .done) := by
  unfold ring
  simp only [claimedByOther_of_own hc]
  obtain hf | hf := hf <;> simp only [hf] <;> simp

theorem ring_conflict {i : Fin 4} (hc : claimedByOther s h i = true) : ring s h i = (claimError s, .conflict) := by
  simp [ring, hc]

theorem mailboxRing_hands_over {i : Fin 4} (hon : hostOn s = true) (hr : s.host.ready = true) (hc : s.mbx.pairs[i].claim = some h)
    (hb : s.mbx.pairs[i].busy = false) (hfl : s.mbx.pairs[i].flight = false) (hf : s.mbx.pairs[i].full = false)
    (hd : s.pw.decided = none) : Does (.mailboxRing h (1#32 <<< i.val)) s fun t =>
      t.mbx = { s.mbx with pairs := s.mbx.pairs.set i { s.mbx.pairs[i] with busy := true, flight := true },
                           takeq := s.mbx.takeq ++ [i] } ∧ Only [.mbx] s t := by
  obtain ⟨t, ht, rfl⟩ := does_mailboxRing hon hr (ring_taken hc hb hfl hf hd)
  exact ⟨_, ht, rfl, only_mbx (by decide) ..⟩

/-! ### What time takes away -/

theorem claimLapse_releases {i : Fin 4} (hfl : s.mbx.pairs[i].flight = false) (hf : s.mbx.pairs[i].full = false) :
    Does (.claimLapse i) s fun t =>
      t = { s with mbx := { s.mbx with pairs := s.mbx.pairs.set i { s.mbx.pairs[i] with claim := none } } } := by
  refine ⟨_, ?_, rfl⟩
  show execClaimLapse i s = _
  simp only [execClaimLapse, hfl, hf]
  rfl

theorem claimLapse_idle {i : Fin 4} (hf : s.mbx.pairs[i].flight = true ∨ s.mbx.pairs[i].full = true) : Idle (.claimLapse i) s := by
  show execClaimLapse i s = _
  rw [execClaimLapse]
  exact if_pos (by simpa using hf)

end

/-- Settles O36: the bytes by the equations of a write and a read of the selected mailbox, the doorbell by those of a ring. -/
theorem mailboxPairsHandOver : Obligations.MailboxPairsHandOver :=
  ⟨fun _ _ _ _ _ hon hr hb hs hp hc hbusy => hostMbdataWrite_pair hon hr (mbWrite_in hb hc hp hs hbusy),
   fun _ _ _ _ _ hon hr hb hs hp hc hbusy => does_hostMbdataWrite hon hr (mbWrite_busy hb hc hp hs hbusy),
   fun _ _ _ _ _ hon hr hb hs hp hc => hostMbdataWrite_pair hon hr (mbWrite_out hb hc hp hs),
   fun _ _ _ _ _ hon hr hb hc => does_hostMbdataWrite hon hr (mbWrite_conflict hb hc),
   fun s => ⟨claimError_count s, claimError_only s⟩,
   fun _ _ _ _ _ hon hr hb hc hp => does_hostMbdataWrite hon hr (mbWrite_overflow hb hc hp),
   fun _ _ _ _ => hostMbdataRead_in,
   fun _ _ _ _ => hostMbdataRead_frees,
   fun _ _ _ _ _ => hostMbdataRead_resets,
   fun _ _ _ => mailboxRing_hands_over,
   fun _ _ _ hon hr hc hf => does_mailboxRing hon hr (ring_busy hc hf),
   fun _ _ _ hon hr hc => does_mailboxRing hon hr (ring_conflict hc),
   fun _ _ => claimLapse_releases,
   fun _ _ => claimLapse_idle,
   fun _ _ => ⟨_, rfl, rfl⟩⟩

end Sys2Proof.Machine

/-! PROOFS. Whole transactions of a host port (12 R444 to R457): one register written or read in one run of bytes, the reply of a UART
request, and the transactions that are discarded. -/

namespace Sys2Proof.Machine

section
variable {s : State} {h : HPort} {inc : Bool}

/-! ### One register in a run of four bytes (12 R438, R447) -/

/-- Within a register the address goes to the next byte, with `INC` and without it (12 Table 12-4). -/
theorem nextAddr_within {k i : Nat} (hk : k < 32) (h6 : k ≠ 6) (hi : i < 3) : nextAddr (4 * k + i) inc = 4 * k + (i + 1) := by
  have hreg : (4 * k + i) / 4 = k := by omega
  rw [nextAddr, hreg, if_neg h6]
  cases inc
  · simp only [Bool.false_eq_true, if_false]
    omega
  · simp only [if_true]
    omega

/-- A byte that does not complete its register is kept. -/
theorem writeRun_keep {k i : Nat} {b : Byte} {l : List Byte} {got : List (Option Byte)} (hk : k < 32) (h6 : k ≠ 6) (hi : i < 3)
    (hgot : Run.full { reg := k, got := got.set i (some b) } = none) :
    writeRun h inc (b :: l) (4 * k + i) { reg := k, got := got } s =
      writeRun h inc l (4 * k + (i + 1)) { reg := k, got := got.set i (some b) } s := by
  have hreg : (4 * k + i) / 4 = k := by omega
  have hoff : (4 * k + i) % 4 = i := by omega
  rw [writeRun, hreg, hoff, if_neg h6, if_pos rfl, nextAddr_within hk h6 hi]
  simp only [hgot]

theorem accessJoin_done (a : Access) : accessJoin a .done = a := by
  cases a <;> rfl

/-- The four bytes of one register write it. -/
theorem writeRun_register {k : Nat} (hk : k < 32) (h6 : k ≠ 6) (b0 b1 b2 b3 : Byte) :
    writeRun h inc [b0, b1, b2, b3] (4 * k) (Run.fresh k) s = hostRegWrite s h k (BitVec.ofNat 32 (leVal [b0, b1, b2, b3])) := by
  have hreg : (4 * k + 3) / 4 = k := by omega
  have hoff : (4 * k + 3) % 4 = 3 := by omega
  calc writeRun h inc [b0, b1, b2, b3] (4 * k + 0) (Run.fresh k) s
      = writeRun h inc [b1, b2, b3] (4 * k + 1) { reg := k, got := [some b0, none, none, none] } s :=
        writeRun_keep hk h6 (by decide) rfl
    _ = writeRun h inc [b2, b3] (4 * k + 2) { reg := k, got := [some b0, some b1, none, none] } s :=
        writeRun_keep hk h6 (by decide) rfl
    _ = writeRun h inc [b3] (4 * k + 3) { reg := k, got := [some b0, some b1, some b2, none] } s :=
        writeRun_keep hk h6 (by decide) rfl
    _ = hostRegWrite s h k (BitVec.ofNat 32 (leVal [b0, b1, b2, b3])) := by
        rw [writeRun, hreg, hoff, if_neg h6, if_pos rfl]
        simp only [Run.full, List.set_cons_succ, List.set_cons_zero, writeRun, accessJoin_done]

/-- A byte of a latched register follows. -/
theorem readRun_latched {k i n left : Nat} {v : Word} (hk : k < 32) (h6 : k ≠ 6) (hi : i < 3) :
    readRun h inc (n + 1) (4 * k + i) k (left + 1) v s =
      let (t, bs, y) := readRun h inc n (4 * k + (i + 1)) k left v s
      (t, BitVec.ofNat 8 (v.toNat / 2 ^ (8 * i)) :: bs, y) := by
  have hreg : (4 * k + i) / 4 = k := by omega
  have hoff : (4 * k + i) % 4 = i := by omega
  rw [readRun, hreg, hoff, if_neg h6, if_pos ⟨rfl, Nat.succ_ne_zero left⟩, nextAddr_within hk h6 hi, Nat.add_sub_cancel]

theorem latchReg_served {r : Nat} (hr : s.host.ready = true ∨ r < 2) (h10 : r ≠ 10) : latchReg s h r = (s, hostReg s h r, .done) := by
  have hserved : (!s.host.ready && decide (2 ≤ r)) = false := by
    obtain hr | hr := hr
    · simp [hr]
    · simp [Nat.not_le.mpr hr]
  rw [latchReg, hserved, if_neg h10]
  rfl

/-- Four bytes read from the first address of a register are its value. -/
theorem readRun_register {k : Nat} (hk : k < 32) (h6 : k ≠ 6) (h10 : k ≠ 10) (hr : s.host.ready = true ∨ k < 2) :
    readRun h inc 4 (4 * k) 0 0 0 s = (s, leBytes 4 (hostReg s h k).toNat, .done) := by
  have hreg : 4 * k / 4 = k := by omega
  have hoff : 4 * k % 4 = 0 := by omega
  have hlast (v : Word) : readRun h inc 1 (4 * k + 3) k 1 v s = (s, [BitVec.ofNat 8 (v.toNat / 2 ^ 24)], .done) := by
    have hreg : (4 * k + 3) / 4 = k := by omega
    have hoff : (4 * k + 3) % 4 = 3 := by omega
    rw [readRun, hreg, hoff, if_neg h6, if_pos ⟨rfl, one_ne_zero⟩]
    rfl
  rw [readRun, hreg, hoff, if_neg h6, if_neg (by simp), latchReg_served hr h10]
  have hnext := nextAddr_within (inc := inc) hk h6 (i := 0) (by decide)
  simp only [Nat.add_zero] at hnext
  simp only [hnext, readRun_latched hk h6 (i := 1) (by decide), readRun_latched hk h6 (i := 2) (by decide), hlast]
  simp [leBytes, accessJoin, Nat.div_div_eq_div_mul]

/-! ### What the pending interrupt of a port leaves -/

theorem hostStat_irqRaise (s : State) (v : Nat) : hostStat (irqRaise s v) = hostStat s := rfl

theorem hostReg_irqRaise (s : State) (v : Nat) (h : HPort) (r : Nat) : hostReg (irqRaise s v) h r = hostReg s h r := by
  cases h <;> rfl

@[simp] theorem uartEarly_irqRaise (s : State) (v : Nat) (l : List Byte) (g : Nat) :
    uartEarly (irqRaise s v) l g = uartEarly s l g := rfl

/-! ### What an error count leaves -/

theorem portError_irqen (s : State) (h : HPort) : (portError s h).host.irqen = s.host.irqen := by
  cases h <;> rw [portError] <;> split <;> rfl

theorem portError_seen (s : State) (h : HPort) : (portError s h).host.seen = s.host.seen := by
  cases h <;> rw [portError] <;> split <;> rfl

/-! ### A whole SPI transaction -/

/-- The state and the bytes that the port shifts out, at the end of a transaction without a partial byte. -/
theorem exec_spiTransaction {l : List Byte} (hon : hostOn s = true) :
    exec (.spiTransaction l 0) s =
      .next { (spiBytes (irqRaise s 40) l).1 with host.hsdo := (spiBytes (irqRaise s 40) l).2 } := by
  show execSpiTransaction l 0 s = _
  rw [execSpiTransaction, hon]
  rfl

theorem exec_spiTransaction_partial {l : List Byte} {n : Fin 8} (hon : hostOn s = true) (hn : n ≠ 0) :
    exec (.spiTransaction l n) s =
      .next { portError (spiBytes (irqRaise s 40) l).1 .spi with host.hsdo := (spiBytes (irqRaise s 40) l).2 } := by
  show execSpiTransaction l n s = _
  rw [execSpiTransaction, hon]
  simp [hn]

theorem portError_hsdo (s : State) (out : List Byte) :
    portError { s with host.hsdo := out } .spi = { portError s .spi with host.hsdo := out } := by
  by_cases hc : s.host.errSpi = 255
  · exact (if_pos hc).trans (by rw [portError, if_pos hc])
  · exact (if_neg hc).trans (by rw [portError, if_neg hc]; rfl)

theorem take_hostStat (s : State) {n : Nat} (hn : 2 ≤ n) : (leBytes 2 (hostStat s).toNat).take n = leBytes 2 (hostStat s).toNat :=
  List.take_of_length_le (by rw [length_leBytes]; exact hn)

theorem spiBytes_refused {l : List Byte} (hl : 2 ≤ l.length) (hc : cmdOk (leAt l 0 2) = false) :
    spiBytes s l = (portError s .spi, leBytes 2 (hostStat s).toNat ++ List.replicate (l.length - 2) 0) := by
  simp [spiBytes, Nat.not_lt.mpr hl, hc, take_hostStat s hl]

/-- A command word as an address of a register: 4 times its index. -/
theorem cmdAddr_eq {c : Nat} (h4 : cmdAddr c % 4 = 0) : cmdAddr c = 4 * (cmdAddr c / 4) ∧ cmdAddr c / 4 < 32 := by
  have hlt : cmdAddr c < 128 := Nat.mod_lt _ (by decide)
  omega

theorem spiBytes_write {c0 c1 : Byte} (hc : cmdOk (leAt [c0, c1] 0 2) = true) (hw : cmdW (leAt [c0, c1] 0 2) = true)
    (h4 : cmdAddr (leAt [c0, c1] 0 2) % 4 = 0) (h6 : cmdAddr (leAt [c0, c1] 0 2) / 4 ≠ 6) (b0 b1 b2 b3 : Byte) :
    spiBytes s [c0, c1, b0, b1, b2, b3] =
      ((hostRegWrite s .spi (cmdAddr (leAt [c0, c1] 0 2) / 4) (BitVec.ofNat 32 (leVal [b0, b1, b2, b3]))).1,
        leBytes 2 (hostStat s).toNat ++ [0, 0, 0, 0]) := by
  obtain ⟨ha, hk⟩ := cmdAddr_eq h4
  have hcmd : leAt [c0, c1, b0, b1, b2, b3] 0 2 = leAt [c0, c1] 0 2 := rfl
  have hrun := writeRun_register (s := s) (h := .spi) (inc := cmdInc (leAt [c0, c1] 0 2)) hk h6 b0 b1 b2 b3
  rw [← ha] at hrun
  have hhead := take_hostStat s (n := [c0, c1, b0, b1, b2, b3].length) (Nat.le_add_left 2 4)
  rw [spiBytes, hcmd, hc, hw, hhead]
  simp [hrun, List.replicate]

theorem spiTransaction_refused {l : List Byte} (hon : hostOn s = true) (hl : 2 ≤ l.length) (hc : cmdOk (leAt l 0 2) = false) :
    Does (.spiTransaction l 0) s fun t =>
      t.mbx = s.mbx ∧ t.host.irqen = s.host.irqen ∧ t.host.seen = s.host.seen ∧ t.host.errSpi = satInc s.host.errSpi ∧
        t.host.hsdo.length = l.length ∧ t.core = (irqRaise s 40).core ∧ Only [.host, .core] s t := by
  refine ⟨_, exec_spiTransaction hon, ?_⟩
  rw [spiBytes_refused hl hc]
  have herr := portError_only (irqRaise s 40) .spi
  have hon' : Only [.host, .core] s (portError (irqRaise s 40) .spi) :=
    ((irqRaise_only s 40).mono (by decide)).trans (herr.mono (by decide))
  refine ⟨hon'.same .mbx (by decide), ?_, ?_, portError_spi_count _, ?_, herr.same .core (by decide),
    hon'.trans (only_host (by decide) ..)⟩
  · exact portError_irqen ..
  · exact portError_seen ..
  · simp only [List.length_append, length_leBytes, List.length_replicate]
    omega

theorem spiTransaction_spoiled {l : List Byte} {n : Fin 8} {u : State} (hon : hostOn s = true) (hn : n ≠ 0)
    (hu : exec (.spiTransaction l 0) s = .next u) : Does (.spiTransaction l n) s fun t => t = portError u .spi := by
  cases (exec_spiTransaction hon).symm.trans hu
  exact ⟨_, exec_spiTransaction_partial hon hn, (portError_hsdo _ _).symm⟩

/-! ### A whole UART request -/

theorem exec_uartRequest_discarded {l : List Byte} {g : Nat} (hon : hostOn s = true)
    (hbad : uartEarly s l g = true ∨ unstuff l = none ∨ ∃ c, unstuff l = some c ∧ uartOk c = false) :
    exec (.uartRequest { bytes := l, gaps := g }) s = .next (uartDiscard (irqRaise s 41)) := by
  show execUartRequest _ s = _
  rw [execUartRequest, hon]
  obtain he | hu | ⟨c, hu, hc⟩ := hbad
  · simp [he]
  · simp [hu]
  · simp [hu, hc]

theorem exec_uartRequest_write {l c : List Byte} {g : Nat} (hon : hostOn s = true) (he : uartEarly s l g = false)
    (hu : unstuff l = some c) (hc : uartOk c = true) (hw : cmdW (leAt c 0 2) = true) :
    exec (.uartRequest { bytes := l, gaps := g }) s =
      let r := writeRun .uart (cmdInc (leAt c 0 2)) ((c.drop 3).take (byteAt c 2)) (cmdAddr (leAt c 0 2))
        (Run.fresh (cmdAddr (leAt c 0 2) / 4)) (irqRaise s 41)
      let t := uartAnswer r.1 s.host.baud (uartReply r.1 r.2 [])
      .next { t with host.baud := t.host.baudReg } := by
  show execUartRequest _ s = _
  rw [execUartRequest, hon]
  simp [he, hu, hc, hw]

theorem exec_uartRequest_read {l c : List Byte} {g : Nat} (hon : hostOn s = true) (he : uartEarly s l g = false)
    (hu : unstuff l = some c) (hc : uartOk c = true) (hw : cmdW (leAt c 0 2) = false) :
    exec (.uartRequest { bytes := l, gaps := g }) s =
      let r := readRun .uart (cmdInc (leAt c 0 2)) (byteAt c 2) (cmdAddr (leAt c 0 2)) 0 0 0 (irqRaise s 41)
      .next (uartAnswer r.1 s.host.baud (uartReply r.1 r.2.2 r.2.1)) := by
  show execUartRequest _ s = _
  rw [execUartRequest, hon]
  simp [he, hu, hc, hw]

/-- A write request that passes its checks carries the bytes that its length says (12 R453). -/
theorem length_of_uartOk {c : List Byte} (hc : uartOk c = true) (hw : cmdW (leAt c 0 2) = true) : c.length = 5 + byteAt c 2 := by
  simp only [uartOk, hw, Bool.and_eq_true, beq_iff_eq, if_true] at hc
  exact hc.2

theorem eq_of_length_four {l : List Byte} (hl : l.length = 4) : ∃ b0 b1 b2 b3, l = [b0, b1, b2, b3] := by
  match l, hl with
  | [b0, b1, b2, b3], _ => exact ⟨b0, b1, b2, b3, rfl⟩

/-- The four data bytes of a write request write their register. -/
theorem writeRun_request {c : List Byte} (hc : uartOk c = true) (hw : cmdW (leAt c 0 2) = true) (hn : byteAt c 2 = 4)
    (h4 : cmdAddr (leAt c 0 2) % 4 = 0) (h6 : cmdAddr (leAt c 0 2) / 4 ≠ 6) :
    writeRun .uart inc ((c.drop 3).take (byteAt c 2)) (cmdAddr (leAt c 0 2)) (Run.fresh (cmdAddr (leAt c 0 2) / 4)) s =
      hostRegWrite s .uart (cmdAddr (leAt c 0 2) / 4) (BitVec.ofNat 32 (leVal ((c.drop 3).take 4))) := by
  obtain ⟨ha, hk⟩ := cmdAddr_eq h4
  have hl : ((c.drop 3).take 4).length = 4 := by
    rw [List.length_take, List.length_drop, length_of_uartOk hc hw, hn]
    decide
  obtain ⟨b0, b1, b2, b3, hdata⟩ := eq_of_length_four hl
  have hrun := writeRun_register (s := s) (h := .uart) (inc := inc) hk h6 b0 b1 b2 b3
  rw [← ha] at hrun
  rw [hn, hdata, hrun]

/-- When a reply that starts within 50 µs has ended (12 R451, R456). -/
theorem uartAnswer_ends (s : State) (baud : Bool) (f : List Byte) :
    s.now + uartCt baud f.length ≤ (uartAnswer s baud f).host.htxEnd ∧
      (uartAnswer s baud f).host.htxEnd ≤ s.now + usCt 50 + uartCt baud f.length := by
  have hv : (Config.freeWord s.freeCtr).toNat % (usCt 50 + 1) < usCt 50 + 1 := Nat.mod_lt _ (Nat.succ_pos _)
  have hend : (uartAnswer s baud f).host.htxEnd = s.now + (Config.freeWord s.freeCtr).toNat % (usCt 50 + 1) + uartCt baud f.length :=
    rfl
  omega

theorem uartRequest_writes {l c : List Byte} {g : Nat} (hon : hostOn s = true) (he : uartEarly s l g = false)
    (hu : unstuff l = some c) (hc : uartOk c = true) (hw : cmdW (leAt c 0 2) = true) (hn : byteAt c 2 = 4)
    (h4 : cmdAddr (leAt c 0 2) % 4 = 0) (h6 : cmdAddr (leAt c 0 2) / 4 ≠ 6) :
    Does (.uartRequest { bytes := l, gaps := g }) s fun t =>
      let r := hostRegWrite (irqRaise s 41) .uart (cmdAddr (leAt c 0 2) / 4) (BitVec.ofNat 32 (leVal ((c.drop 3).take 4)))
      t = { r.1 with
        freeCtr := t.freeCtr,
        host := { r.1.host with htx := uartReply r.1 r.2 [], htxEnd := t.host.htxEnd, uartAt := t.host.htxEnd,
                                baud := r.1.host.baudReg } } ∧
        r.1.now + uartCt s.host.baud t.host.htx.length ≤ t.host.htxEnd ∧
        t.host.htxEnd ≤ r.1.now + usCt 50 + uartCt s.host.baud t.host.htx.length := by
  refine ⟨_, exec_uartRequest_write hon he hu hc hw, ?_⟩
  rw [writeRun_request hc hw hn h4 h6]
  exact ⟨rfl, uartAnswer_ends ..⟩

theorem uartRequest_reads {l c : List Byte} {g : Nat} (hon : hostOn s = true) (he : uartEarly s l g = false)
    (hu : unstuff l = some c) (hc : uartOk c = true) (hw : cmdW (leAt c 0 2) = false) (hn : byteAt c 2 = 4)
    (h4 : cmdAddr (leAt c 0 2) % 4 = 0) (h6 : cmdAddr (leAt c 0 2) / 4 ≠ 6) (h10 : cmdAddr (leAt c 0 2) / 4 ≠ 10)
    (hr : s.host.ready = true ∨ cmdAddr (leAt c 0 2) < 8) : Does (.uartRequest { bytes := l, gaps := g }) s fun t =>
      let w := irqRaise s 41
      t = { w with
        freeCtr := t.freeCtr,
        host := { s.host with htx := uartReply s .done (leBytes 4 (hostReg s .uart (cmdAddr (leAt c 0 2) / 4)).toNat),
                              htxEnd := t.host.htxEnd, uartAt := t.host.htxEnd } } ∧
        s.now + uartCt s.host.baud t.host.htx.length ≤ t.host.htxEnd ∧
        t.host.htxEnd ≤ s.now + usCt 50 + uartCt s.host.baud t.host.htx.length := by
  obtain ⟨ha, hk⟩ := cmdAddr_eq h4
  have hrun := readRun_register (s := irqRaise s 41) (h := .uart) (inc := cmdInc (leAt c 0 2)) hk h6 h10
    (hr.imp_right fun hlt => by omega)
  rw [← ha, hostReg_irqRaise] at hrun
  refine ⟨_, exec_uartRequest_read hon he hu hc hw, ?_⟩
  rw [hn, hrun]
  exact ⟨rfl, uartAnswer_ends ..⟩

/-- Without a served port a transaction does nothing (02 R44, R49). -/
theorem transactions_idle {l : List Byte} {n : Fin 8} {g : Nat} (hoff : hostOn s = false) :
    Idle (.spiTransaction l n) s ∧ Idle (.uartRequest { bytes := l, gaps := g }) s := by
  constructor
  · show execSpiTransaction l n s = _
    rw [execSpiTransaction, hoff]
    rfl
  · show execUartRequest _ s = _
    rw [execUartRequest, hoff]
    rfl

end

/-- Settles O37: the bytes of a transaction by the run over one register; a spoiled one by the check that discards it. -/
theorem hostTransactions : Obligations.HostTransactions :=
  ⟨fun _ _ => spiTransaction_refused,
   fun _ _ _ _ => spiTransaction_spoiled,
   fun s _ _ b0 b1 b2 b3 hon hc hw h4 h6 =>
    ⟨_, exec_spiTransaction hon, by rw [spiBytes_write hc hw h4 h6 b0 b1 b2 b3, hostStat_irqRaise]⟩,
   fun _ _ _ hon hbad => ⟨_, exec_uartRequest_discarded hon hbad, rfl⟩,
   fun _ _ _ hat => by simp [uartEarly, Nat.pos_iff_ne_zero.mp hat],
   fun _ _ _ _ => uartRequest_writes,
   fun _ _ _ _ => uartRequest_reads,
   fun _ _ _ _ => transactions_idle⟩

end Sys2Proof.Machine

/-! PROOFS. A rung message (12 R465 to R467; 13 R477, R483, R484, R494 to R498): it is taken, and then answered as malformed, executed,
answered from the history, refused or forwarded. -/

namespace Sys2Proof.Machine

/-- The oldest ring of the queue has been taken: its mailbox is free again, and the host is told (13 R477). -/
def rungTaken (s : State) (i : Fin 4) (q : List (Fin 4)) : State :=
  irqSet { s with mbx := { s.mbx with takeq := q, pairs := s.mbx.pairs.set i { s.mbx.pairs[i] with busy := false } } }
    (1#13 <<< (4 + i.val))

/-- The message of a host port, for this device or for every one. -/
def rungMsg (r : RawMsg) : Msg := r.toMsg none 0 .south (r.target == 0)

/-- A message for this device, or for every one where this device does not forward it (13 R483, check 4). -/
def StaysHere (s : State) (r : RawMsg) : Prop :=
  r.target = s.chn.addr.setWidth 8 ∨ r.target = 0x7F ∨ (r.target = 0 ∧ isHead s = false)

section
variable {s : State} {i : Fin 4} {q : List (Fin 4)} {r : RawMsg} {m : Msg} {e : HistEntry} {b : List Byte} {c : Nat}

/-! ### Taking the ring -/

theorem rungTaken_only (s : State) (i : Fin 4) (q : List (Fin 4)) : Only [.mbx, .host] s (rungTaken s i q) :=
  (only_mbx (by decide) ..).trans (only_host (by decide) ..)

theorem rungTaken_pair (s : State) (i : Fin 4) (q : List (Fin 4)) :
    (rungTaken s i q).mbx.pairs[i] = { s.mbx.pairs[i] with busy := false } := by
  simp [rungTaken]

theorem rungActive_only (s : State) (i : Fin 4) (q : List (Fin 4)) :
    Only [.mbx, .host, .pw] s (hostActivity (rungTaken s i q)) :=
  ((rungTaken_only ..).mono (by decide)).trans ((hostActivity_only _).mono (by decide))

section
variable (hf : fwRuns s = true) (hq : s.mbx.takeq = i :: q) (hr : readMsg s.mbx.pairs[i].inb = r)
include hf hq hr

theorem mailboxTake_malformed (hbad : formBad r (r.mbx.toNat == i.val) = some c) :
    Does .mailboxTake s (· = formError (rungTaken s i q) i r c) := by
  refine ⟨_, ?_, rfl⟩
  show execMailboxTake s = _
  simp only [execMailboxTake, hf, if_true, takeRung, hq, hr, hbad]
  rfl

theorem mailboxTake_routed (hgood : formBad r (r.mbx.toNat == i.val) = none) :
    Does .mailboxTake s (· = routeMsg (rungTaken s i q) r s.mbx.pairs[i].inb) := by
  refine ⟨_, ?_, rfl⟩
  show execMailboxTake s = _
  simp only [execMailboxTake, hf, if_true, takeRung, hq, hr, hgood]
  rfl

end

theorem mailboxTake_idle (h : s.mbx.takeq = [] ∨ fwRuns s = false) : Idle .mailboxTake s := by
  show execMailboxTake s = _
  rw [execMailboxTake]
  split
  · next hf =>
    obtain hq | hoff := h
    · rw [takeRung, hq]
    · exact nomatch hf.symm.trans hoff
  · rfl

/-- Check 3 passes where `MBX` names the pair that was rung. -/
theorem idx_of_formBad_none (h : formBad r (r.mbx.toNat == i.val) = none) : r.idx = i := by
  have hmbx : r.mbx.toNat = i.val := by
    unfold formBad at h
    split at h
    · cases h
    · split at h
      · cases h
      · split at h
        · cases h
        · next hok =>
          simp only [Bool.not_eq_true, Bool.not_eq_false', Bool.and_eq_true, beq_iff_eq] at hok
          exact hok.2
  exact Fin.ext ((Nat.mod_eq_of_lt (hmbx ▸ i.isLt)).trans hmbx)

theorem rungMsg_mbx (h : formBad r (r.mbx.toNat == i.val) = none) : (rungMsg r).mbx = i := idx_of_formBad_none h

/-! ### Replies to the host -/

/-- A reply body speaks of the device by its address alone. -/
theorem replyBody_of_only {l : List Part} {t : State} (h : Only l s t) (hl : .chn ∉ l) (v : BitVec 16) (m : Msg) (err env : Bool)
    (p : List Byte) : replyBody t v m err env p = replyBody s v m err env p := by
  rw [replyBody, show t.chn = s.chn from h.same .chn hl, replyBody]

theorem deliver_pair (s : State) (hi : m.mbx = i) (hm : m.src = none) (b : List Byte) :
    (deliver s m b).mbx.pairs[i] = { s.mbx.pairs[i] with outb := b, full := true, flight := false } := by
  subst hi
  have hput : deliver s m b = placeOut { s with mbx.lastReply := b } m.mbx b := by simp only [deliver, hm]
  rw [hput, placeOut_pair]

theorem deliver_takeq (s : State) (hm : m.src = none) (b : List Byte) : (deliver s m b).mbx.takeq = s.mbx.takeq := by
  simp only [deliver, hm]
  rfl

/-- An error reply of checks 1 to 5 is in the pair of its message. -/
theorem errDirect_pair (s : State) (v : BitVec 16) (hi : m.mbx = i) (hm : m.src = none) (c d : Nat) :
    (errDirect s v m c d).mbx.pairs[i].outb = withTrailer (replyBody s v m true false (leBytes 2 c ++ leBytes 2 d)) := by
  rw [errDirect, deliver_pair s hi hm]

theorem errDirect_only (s : State) (v : BitVec 16) (hm : m.src = none) (c d : Nat) :
    Only [.mbx, .host] s (errDirect s v m c d) := deliver_host_only _ _ _ hm

/-- The reply of checks 1 to 3 is in the pair that was rung. -/
theorem formError_pair (s : State) (i : Fin 4) (r : RawMsg) (c : Nat) : (formError s i r c).mbx.pairs[i] =
    { s.mbx.pairs[i] with
      outb := withTrailer (replyBody s r.verb (r.toMsg none 0 .south false) true false (leBytes 2 c ++ leBytes 2 0)),
      full := true, flight := false } :=
  deliver_pair s rfl rfl _

theorem formError_takeq (s : State) (i : Fin 4) (r : RawMsg) (c : Nat) : (formError s i r c).mbx.takeq = s.mbx.takeq :=
  deliver_takeq s rfl _

theorem formError_only (s : State) (i : Fin 4) (r : RawMsg) (c : Nat) : Only [.mbx, .host] s (formError s i r c) :=
  deliver_host_only s { r.toMsg none 0 .south false with mbx := i } _ rfl

/-! ### Checks 5 to 7 (13 R483, R494 to R498) -/

@[simp] theorem passesWindow_hostActivity (s : State) (r : RawMsg) : passesWindow (hostActivity s) r = passesWindow s r := rfl

@[simp] theorem liveEntry_hostActivity (s : State) (i : Fin 4) (tag : BitVec 16) :
    liveEntry (hostActivity s) i tag = liveEntry s i tag := rfl

theorem execMsg_known (hw : passesWindow s r = true) (hv : (verbRow r.verb.toNat).isSome = true) :
    execMsg s r m = runVerb r.verb.toNat m (enterHist s r) := by
  rw [execMsg, if_pos hw, execFresh, if_pos hv]

theorem execMsg_unknown (hw : passesWindow s r = true) (hv : verbRow r.verb.toNat = none) :
    execMsg s r m = replyErr (enterHist s r) r.verb m 6 0 := by
  rw [execMsg, if_pos hw, execFresh, if_neg (by simp [hv])]

theorem passesWindow_of_other (he : liveEntry s r.idx r.tag = some e) (hx : e.verb ≠ r.verb ∨ e.trailer ≠ r.trailer) :
    passesWindow s r = false := by
  rw [passesWindow, he]
  obtain hx | hx := hx <;> simp [hx]

theorem execMsg_other (he : liveEntry s r.idx r.tag = some e) (hx : e.verb ≠ r.verb ∨ e.trailer ≠ r.trailer) :
    execMsg s r m = errDirect s r.verb m 5 0 := by
  rw [execMsg, if_neg (Bool.eq_false_iff.mp (passesWindow_of_other he hx)), he]
  exact if_pos (by simpa using hx)

section
variable (hw : passesWindow s r = false) (he : liveEntry s r.idx r.tag = some e) (hv : e.verb = r.verb) (ht : e.trailer = r.trailer)
include hw he hv ht

theorem execMsg_answered (hb : e.reply = some b) : execMsg s r m = deliver s m (dupReply b) := by
  rw [execMsg, hw, he]
  simp [hv, ht, hb]

theorem execMsg_waits (hb : e.reply = none) : execMsg s r m = waitForReply s r m := by
  rw [execMsg, hw, he]
  simp [hv, ht, hb]

end

/-! ### Check 4 (13 R483; 12 R465 to R467) -/

theorem routeMsg_stays (h : StaysHere s r) (b : List Byte) : routeMsg s r b = execMsg (hostActivity s) r (rungMsg r) := by
  unfold routeMsg
  by_cases h0 : r.target = 0
  · have hnot : isHead s = false := by
      obtain haddr | h7 | ⟨-, hnot⟩ := h
      · have hz : s.chn.addr = 0 := by
          have hwide : s.chn.addr.setWidth 8 = 0 := haddr.symm.trans h0
          bv_omega
        simp [isHead, hz]
      · exact absurd (h7.symm.trans h0) (by decide)
      · exact hnot
    simp [h0, hnot, rungMsg]
  · have hhere : (r.target == 0x7F || r.target == s.chn.addr.setWidth 8) = true := by
      obtain haddr | h7 | ⟨hz, -⟩ := h
      · simp [haddr]
      · simp [h7]
      · exact absurd hz h0
    simp only [beq_iff_eq, h0, if_false, hhere, if_true, rungMsg]

theorem routeMsg_headBroadcast (h0 : r.target = 0) (hh : isHead s = true) (b : List Byte) :
    routeMsg s r b = execMsg (hostActivity (if forwardsBcast r && passesWindow s r
      then sendFrame s .north 1 0 (b.take (16 + r.len)) else s)) r (rungMsg r) := by
  unfold routeMsg
  simp [h0, hh, rungMsg]

theorem routeMsg_elsewhere (h0 : r.target ≠ 0) (h7 : r.target ≠ 0x7F) (ha : r.target ≠ s.chn.addr.setWidth 8) (b : List Byte) :
    routeMsg s r b = if !isHead s then errDirect s r.verb (rungMsg r) 4 0
      else if r.target.getLsbD 7 then errDirect s r.verb (rungMsg r) 3 0 else forwardMsg s r b := by
  have hnot : (r.target == 0x7F || r.target == s.chn.addr.setWidth 8) = false := by
    simp only [Bool.or_eq_false_iff, beq_eq_false_iff_ne]
    exact ⟨h7, ha⟩
  unfold routeMsg
  simp only [beq_iff_eq, h0, if_false, hnot, Bool.false_eq_true, rungMsg]

theorem sendAcked_north_only (s : State) (ty : BitVec 4) (d : BitVec 7) (b : List Byte) (o : Option (Fin 4)) :
    Only [.chn, .np] s (sendAcked s .north ty d b o) :=
  (sendFrame_north_only s ty d b).trans (only_chn (by decide) ..)

/-- A forwarded message waits for its reply, and its frame for the north line (12 R466). -/
theorem forwardMsg_forwards (s : State) (r : RawMsg) (b : List Byte) :
    (forwardMsg s r b).chn.fwd = s.chn.fwd ++ [{ pair := r.idx, verb := r.verb, tag := r.tag, target := r.target, acked := false }] ∧
      (∃ f, (forwardMsg s r b).np.txq = s.np.txq ++ [f] ∧ f.type = 1 ∧ f.dst = r.target.setWidth 7 ∧
        f.payload = b.take (16 + r.len)) ∧ Only [.chn, .np] s (forwardMsg s r b) :=
  ⟨rfl, ⟨_, rfl, rfl, rfl, rfl⟩, (only_chn (by decide) ..).trans (sendAcked_north_only ..)⟩

/-! ### The clauses of the statement -/

section
variable (hf : fwRuns s = true) (hq : s.mbx.takeq = i :: q) (hr : readMsg s.mbx.pairs[i].inb = r)
include hf hq hr

theorem mailboxTake_answers_malformed (hbad : formBad r (r.mbx.toNat == i.val) = some c) : Does .mailboxTake s fun t =>
    t.mbx.pairs[i].outb =
      withTrailer (replyBody s r.verb (r.toMsg none 0 .south false) true false (leBytes 2 c ++ leBytes 2 0)) ∧
    t.mbx.pairs[i].full = true ∧ t.mbx.pairs[i].busy = false ∧ t.mbx.pairs[i].flight = false ∧ t.mbx.takeq = q ∧
      Only [.mbx, .host] s t := by
  obtain ⟨t, ht, rfl⟩ := mailboxTake_malformed hf hq hr hbad
  have htaken := rungTaken_only s i q
  refine ⟨_, ht, ?_⟩
  beta_reduce
  rw [formError_pair, formError_takeq, rungTaken_pair, replyBody_of_only htaken (by decide)]
  exact ⟨rfl, rfl, rfl, rfl, rfl, htaken.trans (formError_only ..)⟩

section
variable (hgood : formBad r (r.mbx.toNat == i.val) = none)
include hgood

theorem mailboxTake_executes (hh : StaysHere s r) :
    Does .mailboxTake s (· = execMsg (hostActivity (rungTaken s i q)) r (rungMsg r)) := by
  obtain ⟨t, ht, rfl⟩ := mailboxTake_routed hf hq hr hgood
  exact ⟨_, ht, routeMsg_stays (s := rungTaken s i q) hh _⟩

theorem mailboxTake_runs (hh : StaysHere s r) (hw : passesWindow (rungTaken s i q) r = true)
    (hv : (verbRow r.verb.toNat).isSome = true) : Does .mailboxTake s
      (· = runVerb r.verb.toNat (rungMsg r) (enterHist (hostActivity (rungTaken s i q)) r)) := by
  obtain ⟨t, ht, rfl⟩ := mailboxTake_executes hf hq hr hgood hh
  exact ⟨_, ht, execMsg_known (s := hostActivity (rungTaken s i q)) hw hv⟩

theorem mailboxTake_refuses_unknown (hh : StaysHere s r) (hw : passesWindow (rungTaken s i q) r = true)
    (hv : verbRow r.verb.toNat = none) : Does .mailboxTake s
      (· = replyErr (enterHist (hostActivity (rungTaken s i q)) r) r.verb (rungMsg r) 6 0) := by
  obtain ⟨t, ht, rfl⟩ := mailboxTake_executes hf hq hr hgood hh
  exact ⟨_, ht, execMsg_unknown (s := hostActivity (rungTaken s i q)) hw hv⟩

theorem mailboxTake_repeats (hh : StaysHere s r) (hw : passesWindow (rungTaken s i q) r = false)
    (he : liveEntry (rungTaken s i q) r.idx r.tag = some e) (hv : e.verb = r.verb) (ht : e.trailer = r.trailer)
    (hb : e.reply = some b) : Does .mailboxTake s fun t =>
      t.mbx.pairs[i].outb = dupReply b ∧ t.mbx.pairs[i].full = true ∧ Only [.mbx, .host, .pw] s t := by
  obtain ⟨t, ht', rfl⟩ := mailboxTake_executes hf hq hr hgood hh
  refine ⟨_, ht', ?_⟩
  beta_reduce
  rw [execMsg_answered (s := hostActivity (rungTaken s i q)) hw he hv ht hb, deliver_pair _ (rungMsg_mbx hgood) rfl]
  exact ⟨rfl, rfl, (rungActive_only ..).trans ((deliver_host_only _ _ _ rfl).mono (by decide))⟩

theorem mailboxTake_waits (hh : StaysHere s r) (hw : passesWindow (rungTaken s i q) r = false)
    (he : liveEntry (rungTaken s i q) r.idx r.tag = some e) (hv : e.verb = r.verb) (ht : e.trailer = r.trailer)
    (hb : e.reply = none) : Does .mailboxTake s fun t =>
      t.mbx = { (rungTaken s i q).mbx with
        dups := s.mbx.dups ++ [{ pair := i, tag := r.tag, verb := r.verb, msg := rungMsg r }] } ∧
          Only [.mbx, .host, .pw] s t := by
  obtain ⟨t, ht', rfl⟩ := mailboxTake_executes hf hq hr hgood hh
  refine ⟨_, ht', ?_⟩
  beta_reduce
  rw [execMsg_waits (s := hostActivity (rungTaken s i q)) hw he hv ht hb, waitForReply, idx_of_formBad_none hgood]
  exact ⟨rfl, (rungActive_only ..).trans (only_mbx (by decide) ..)⟩

theorem mailboxTake_refuses_other (hh : StaysHere s r) (he : liveEntry (rungTaken s i q) r.idx r.tag = some e)
    (hx : e.verb ≠ r.verb ∨ e.trailer ≠ r.trailer) : Does .mailboxTake s fun t =>
      t.mbx.pairs[i].outb = withTrailer (replyBody s r.verb (rungMsg r) true false (leBytes 2 5 ++ leBytes 2 0)) ∧
        Only [.mbx, .host, .pw] s t := by
  obtain ⟨t, ht, rfl⟩ := mailboxTake_executes hf hq hr hgood hh
  have hactive := rungActive_only s i q
  refine ⟨_, ht, ?_⟩
  beta_reduce
  rw [execMsg_other (s := hostActivity (rungTaken s i q)) he hx, errDirect_pair _ _ (rungMsg_mbx hgood) rfl,
    replyBody_of_only hactive (by decide)]
  exact ⟨rfl, hactive.trans ((errDirect_only _ _ rfl ..).mono (by decide))⟩

theorem mailboxTake_headBroadcast (h0 : r.target = 0) (hh : isHead s = true) : Does .mailboxTake s fun t =>
    t = execMsg (hostActivity (if forwardsBcast r && passesWindow (rungTaken s i q) r
      then sendFrame (rungTaken s i q) .north 1 0 (s.mbx.pairs[i].inb.take (16 + r.len)) else rungTaken s i q)) r (rungMsg r) := by
  obtain ⟨t, ht, rfl⟩ := mailboxTake_routed hf hq hr hgood
  exact ⟨_, ht, routeMsg_headBroadcast (s := rungTaken s i q) h0 hh _⟩

/-- An error reply of check 4 touches its pair alone. -/
theorem mailboxTake_refused (hx : routeMsg (rungTaken s i q) r s.mbx.pairs[i].inb =
    errDirect (rungTaken s i q) r.verb (rungMsg r) c 0) : Does .mailboxTake s fun t =>
      t.mbx.pairs[i].outb = withTrailer (replyBody s r.verb (rungMsg r) true false (leBytes 2 c ++ leBytes 2 0)) ∧
        Only [.mbx, .host] s t := by
  obtain ⟨t, ht, rfl⟩ := mailboxTake_routed hf hq hr hgood
  have htaken := rungTaken_only s i q
  refine ⟨_, ht, ?_⟩
  beta_reduce
  rw [hx, errDirect_pair _ _ (rungMsg_mbx hgood) rfl, replyBody_of_only htaken (by decide)]
  exact ⟨rfl, htaken.trans (errDirect_only _ _ rfl ..)⟩

theorem mailboxTake_forwards (hx : routeMsg (rungTaken s i q) r s.mbx.pairs[i].inb =
    forwardMsg (rungTaken s i q) r s.mbx.pairs[i].inb) : Does .mailboxTake s fun t =>
      t.chn.fwd = s.chn.fwd ++ [{ pair := i, verb := r.verb, tag := r.tag, target := r.target, acked := false }] ∧
        (∃ f, t.np.txq = s.np.txq ++ [f] ∧ f.type = 1 ∧ f.dst = r.target.setWidth 7 ∧
          f.payload = s.mbx.pairs[i].inb.take (16 + r.len)) ∧ Only [.mbx, .host, .chn, .np] s t := by
  obtain ⟨t, ht, rfl⟩ := mailboxTake_routed hf hq hr hgood
  obtain ⟨hfwd, hframe, honly⟩ := forwardMsg_forwards (rungTaken s i q) r s.mbx.pairs[i].inb
  rw [idx_of_formBad_none hgood] at hfwd
  rw [hx] at ht
  exact ⟨_, ht, hfwd, hframe, ((rungTaken_only ..).mono (by decide)).trans (honly.mono (by decide))⟩

theorem mailboxTake_elsewhere (h0 : r.target ≠ 0) (h7 : r.target ≠ 0x7F) (ha : r.target ≠ s.chn.addr.setWidth 8) :
    (isHead s = false → Does .mailboxTake s fun t =>
      t.mbx.pairs[i].outb = withTrailer (replyBody s r.verb (rungMsg r) true false (leBytes 2 4 ++ leBytes 2 0)) ∧
        Only [.mbx, .host] s t) ∧
    (isHead s = true → r.target.getLsbD 7 = true → Does .mailboxTake s fun t =>
      t.mbx.pairs[i].outb = withTrailer (replyBody s r.verb (rungMsg r) true false (leBytes 2 3 ++ leBytes 2 0)) ∧
        Only [.mbx, .host] s t) ∧
    (isHead s = true → r.target.getLsbD 7 = false → Does .mailboxTake s fun t =>
      t.chn.fwd = s.chn.fwd ++ [{ pair := i, verb := r.verb, tag := r.tag, target := r.target, acked := false }] ∧
        (∃ f, t.np.txq = s.np.txq ++ [f] ∧ f.type = 1 ∧ f.dst = r.target.setWidth 7 ∧
          f.payload = s.mbx.pairs[i].inb.take (16 + r.len)) ∧ Only [.mbx, .host, .chn, .np] s t) := by
  have hroute := routeMsg_elsewhere (s := rungTaken s i q) h0 h7 ha s.mbx.pairs[i].inb
  have hhead : isHead (rungTaken s i q) = isHead s := rfl
  rw [hhead] at hroute
  refine ⟨fun hh => ?_, fun hh hbit => ?_, fun hh hbit => ?_⟩
  · exact mailboxTake_refused hf hq hr hgood (hroute.trans (if_pos (by simp [hh])))
  · exact mailboxTake_refused hf hq hr hgood (hroute.trans ((if_neg (by simp [hh])).trans (if_pos hbit)))
  · exact mailboxTake_forwards hf hq hr hgood (hroute.trans ((if_neg (by simp [hh])).trans (if_neg (Bool.eq_false_iff.mp hbit))))

end
end
end

/-- Settles O38: checks 1 to 3 by `mailboxTake_malformed`, check 4 by the branches of `routeMsg`, checks 5 to 7 by those of
`execMsg`. -/
theorem messagesTakenAndChecked : Obligations.MessagesTakenAndChecked :=
  ⟨fun _ _ _ hf hq =>
    ⟨fun _ hbad => mailboxTake_answers_malformed hf hq rfl hbad,
     fun ⟨hgood, hh⟩ hw hv => mailboxTake_runs hf hq rfl hgood hh hw hv,
     fun ⟨hgood, hh⟩ hw hv => mailboxTake_refuses_unknown hf hq rfl hgood hh hw hv,
     fun _ _ ⟨hgood, hh⟩ hw he hv ht hb => mailboxTake_repeats hf hq rfl hgood hh hw he hv ht hb,
     fun _ ⟨hgood, hh⟩ hw he hv ht hb => mailboxTake_waits hf hq rfl hgood hh hw he hv ht hb,
     fun _ ⟨hgood, hh⟩ he hx => mailboxTake_refuses_other hf hq rfl hgood hh he hx,
     fun hgood h0 hh => mailboxTake_headBroadcast hf hq rfl hgood h0 hh,
     fun hgood h0 h7 ha => mailboxTake_elsewhere hf hq rfl hgood h0 h7 ha⟩,
   fun _ => mailboxTake_idle⟩

end Sys2Proof.Machine

/-! PROOFS. The steps of check 7 in their order, for every verb (14 R506 to R514; O39). -/

namespace Sys2Proof.Machine

/-! ## A verb's command is the steps of check 7 around its own part -/

/-- Every message of a verb's command goes through the steps of check 7; for `CFG_LOGIN` while no lockout runs (17 R666). -/
def Enters (v : VerbRow) (c : Msg → Instr) : Prop :=
  ∀ s m, fwRuns s = true → (v.code = 0x0203 → s.store.lockRun = false) →
    ∃ body, exec (c m) s = .next (enterVerb (hostActivity s) v m body)

theorem enters_of_step {v : VerbRow} {c : Msg → Instr} (f : Msg → State → State) (body : Msg → State → Waiting → State)
    (hc : ∀ m s, exec (c m) s = verbStep f m s) (hf : ∀ m s, f m s = enterVerb s v m (body m)) : Enters v c :=
  fun s m hfw _ => ⟨body m, by rw [hc, verbStep, if_pos hfw, hf]⟩

theorem enters_cfgLogin : Enters rowCfgLogin .cfgLogin := fun s m hfw hl =>
  have hopen : ¬ (hostActivity s).store.lockRun = true := Bool.eq_false_iff.mp (hl rfl)
  ⟨_, ((if_pos hfw).trans (congrArg Host.Outcome.next (if_neg hopen)) : execCfgLogin m s = _)⟩

/-- Every other verb's command is a `verbStep` of an `enterVerb`, by its definition. -/
theorem verbs_enter : ∀ p ∈ verbs, Enters p.1 p.2 := by
  simp only [verbs, List.forall_mem_append, List.forall_mem_cons, List.not_mem_nil, false_implies, implies_true,
    and_true]
  refine ⟨⟨?_, ?_, ?_, ?_, enters_cfgLogin, ?_⟩, ?_⟩
  all_goals and_intros
  all_goals exact enters_of_step _ _ (fun _ _ => rfl) (fun _ _ => rfl)

/-! ## The refusals -/

section
variable {s : State} {v : VerbRow} {m : Msg} {body : State → Waiting → State}

theorem refuses_taken (hn : noWaiters s v.code m = true) (code detail : Nat) :
    Refuses s (replyErr (hostActivity s) v.code m code detail) v m code detail :=
  ⟨(reply_of_noWaiters (hostActivity s) _ _ _ _ _ hn).of_addr rfl, replyErr_only ..⟩

theorem refuses_after_entry (hn : noWaiters s v.code m = true) (code detail : Nat) :
    Refuses (entered s v m) (replyErr (entered s v m) v.code m code detail) v m code detail := by
  refine ⟨reply_of_noWaiters _ _ _ _ _ _ (noWaiters_of_mbx ((entered_only s v m).same .mbx (by decide)) hn), ?_⟩
  rw [hostActivity_entered]
  exact replyErr_only ..

theorem enterVerb_misplaced (hp : placeOk s v.place m = false) : enterVerb s v m body = errState s v m 1 := by
  rw [enterVerb, hp]
  rfl

theorem enterVerb_broadcast (hp : placeOk s v.place m = true) (hb : m.bcast = true) (hv : v.bc = false) :
    enterVerb s v m body = errState s v m 3 := by
  rw [enterVerb, hp, hb, hv]
  rfl

section
variable (hp : placeOk s v.place m = true) (hb : m.bcast = true → v.bc = true)
include hp hb

theorem enterVerb_opn (ho : v.priv = .opn) :
    enterVerb s v m body = afterPriv v m (fun s => body s (waitOf v m)) s := by
  rw [enterVerb, hp, if_neg (by decide), if_neg (by simpa using hb), ho]

theorem enterVerb_pw (ho : v.priv = .pw) :
    enterVerb s v m body = withSession s v m (afterPriv v m fun s => body s (waitOf v m)) := by
  rw [enterVerb, hp, if_neg (by decide), if_neg (by simpa using hb), ho]

theorem enterVerb_safe (ho : v.priv = .safe) : enterVerb s v m body = withEnvelope s v m body := by
  rw [enterVerb, hp, if_neg (by decide), if_neg (by simpa using hb), ho]

end

theorem afterPriv_refuses (h : m.env = true ∨ lenOk v m = false) (f : State → State) :
    afterPriv v m f s = errPayload s v m := by
  rw [afterPriv, if_pos (by obtain h | h := h <;> simp [h])]

/-- With its session a verb that needs one comes to its length in the state it has entered. -/
theorem withSession_open (ho : v.priv = .pw) (hs : s.safe.sess[m.mbx].isSome = true) (f : State → State) :
    withSession (hostActivity s) v m f = f (entered s v m) := by
  rw [entered, if_pos ho, withSession, if_neg]
  exact Bool.eq_false_iff.mp (Option.isNone_eq_false_iff.mpr hs)

/-- Past the privilege step an envelope or a wrong length is refused in the state that the verb has entered (14 R509, R514). -/
theorem enterVerb_refuses_payload (hp : placeOk s v.place m = true) (hb : m.bcast = true → v.bc = true) (hns : v.priv ≠ .safe)
    (hsess : v.priv = .pw → s.safe.sess[m.mbx].isSome = true) (h : m.env = true ∨ lenOk v m = false) :
    enterVerb (hostActivity s) v m body = errPayload (entered s v m) v m := by
  have hplace := (placeOk_hostActivity s v.place m).trans hp
  cases ho : v.priv with
  | opn => rw [enterVerb_opn hplace hb ho, afterPriv_refuses h, entered_of_opn s v m ho]
  | pw => rw [enterVerb_pw hplace hb ho, withSession_open ho (hsess ho), afterPriv_refuses h]
  | safe => exact absurd ho hns

theorem withEnvelope_uncommissioned (hc : commissioned s = false) : withEnvelope s v m body = errPriv s v m 2 := by
  rw [withEnvelope, hc]
  rfl

theorem withEnvelope_without (hc : commissioned s = true) (he : m.env = false) :
    withEnvelope s v m body = errPriv s v m 3 := by
  rw [withEnvelope, hc, he]
  rfl

theorem withSession_closed (h : s.safe.sess[m.mbx] = none) (f : State → State) : withSession s v m f = errPriv s v m 1 := by
  rw [withSession, h]
  rfl

end

/-- Settles O39: every verb's command is an `enterVerb` (`verbs_enter`), whose steps refuse one after the other. -/
theorem verbChecksInOrder : Obligations.VerbChecksInOrder := by
  intro v c hv s m hfw hn hlogin
  obtain ⟨body, hexec⟩ := verbs_enter (v, c) hv s m hfw hlogin
  have hplaceAt := placeOk_hostActivity s v.place m
  refine ⟨fun hp => ⟨_, hexec, ?_⟩, fun hp hb hbc => ⟨_, hexec, ?_⟩, fun hp hb =>
    ⟨fun ho hs => ⟨_, hexec, ?_⟩, fun ho hc => ⟨_, hexec, ?_⟩, fun ho hc he => ⟨_, hexec, ?_⟩,
      fun hns hsess h => ⟨_, hexec, ?_⟩⟩⟩
  · rw [enterVerb_misplaced (hplaceAt.trans hp)]
    exact refuses_taken hn 8 1
  · rw [enterVerb_broadcast (hplaceAt.trans hp) hb hbc]
    exact refuses_taken hn 8 3
  · rw [enterVerb_pw (hplaceAt.trans hp) hb ho, withSession_closed (s := hostActivity s) hs]
    exact refuses_taken hn 7 1
  · rw [enterVerb_safe (hplaceAt.trans hp) hb ho, withEnvelope_uncommissioned (s := hostActivity s) hc]
    exact refuses_taken hn 7 2
  · rw [enterVerb_safe (hplaceAt.trans hp) hb ho, withEnvelope_without (s := hostActivity s) hc he]
    exact refuses_taken hn 7 3
  · rw [enterVerb_refuses_payload hp hb hns hsess h]
    exact refuses_after_entry hn 9 _

end Sys2Proof.Machine

/-! PROOFS. What a verb's answer leaves, whatever the verb did before it (13 R483; 14 R513; 17 R665). -/

namespace Sys2Proof.Machine

theorem only_safe {l : List Part} (h : .safe ∈ l) (s : State) (x : SafeUnit) : Only l s { s with safe := x } :=
  Only.of fun p => by
    cases p
    case safe => exact .inl h
    all_goals exact .inr rfl

section
variable {c : Instr} {s u : State} {v : VerbRow} {m : Msg}

theorem waiterless_of_fits (h : verbFits s v m = true) : noWaiters s v.code m = true := by
  obtain ⟨-, -, -, -, -, -, -, hn⟩ := (verbFits_iff s v m).mp h
  exact hn

/-- A reply whose verb has left the device's address alone and set no duplicate waiting. -/
theorem replies_of_addr (hn : noWaiters u v.code m = true) (ha : u.chn.addr = s.chn.addr) (b : List Byte) :
    Replies s (replyOk u v.code m b) v m b :=
  (reply_of_noWaiters u _ _ _ _ _ hn).of_addr ha

/-- A verb that has changed neither the mailboxes nor the chain answers, and adds to its changes those of a reply. -/
theorem answers_of_only {l : List Part} (h : verbFits s v m = true) (ho : Only l (hostActivity s) u) (hm : .mbx ∉ l)
    (hc : .chn ∉ l) (b : List Byte) :
    Replies s (replyOk u v.code m b) v m b ∧ Only (l ++ replyParts) (hostActivity s) (replyOk u v.code m b) :=
  ⟨replies_of_addr (noWaiters_of_mbx (ho.same .mbx hm) (waiterless_of_fits h)) (congrArg ChnUnit.addr (ho.same .chn hc) :) b,
    (ho.mono fun _ hp => List.mem_append_left _ hp).trans ((replyOk_only ..).mono fun _ hp => List.mem_append_right _ hp)⟩

/-- A verb without privilege that only reads. -/
theorem read_answers {b : List Byte} (h : verbFits s v m = true)
    (hexec : exec c s = .next (replyOk (hostActivity s) v.code m b)) :
    Does c s fun t => Replies s t v m b ∧ Only replyParts (hostActivity s) t :=
  ⟨_, hexec, answers_of_only h (Only.refl [] _) List.not_mem_nil List.not_mem_nil b⟩

theorem answers_after_entry {l : List Part} (h : verbFits s v m = true) (ho : Only l (entered s v m) u) (hm : .mbx ∉ l)
    (hc : .chn ∉ l) (b : List Byte) :
    Replies s (replyOk u v.code m b) v m b ∧ Only (.safe :: (l ++ replyParts)) (hostActivity s) (replyOk u v.code m b) :=
  answers_of_only (l := .safe :: l) h
    (((entered_only s v m).mono fun _ hp => List.mem_cons.mpr (.inl (List.mem_singleton.mp hp))).trans
      (ho.mono fun _ hp => List.mem_cons_of_mem _ hp))
    (by simpa using hm) (by simpa using hc) b

end

end Sys2Proof.Machine

/-! PROOFS. The acquisition and balancing verbs (08 R258 to R260, R278; 14 R528 to R536; O42). -/

namespace Sys2Proof.Machine

/-! ## `ACQ_START`, `ACQ_READ` and `ACQ_FETCH` (14 R528 to R532) -/

/-- An acquisition on request is numbered and queued, and the switches open for its quiet time (08 R268). -/
def acqQueued (s : State) : State :=
  openSwitches { s with acq.seqN := s.acq.seqN + 1, acq.req := some (s.acq.seqN + 1) }

theorem acqQueued_only (s : State) : Only [.acq, .bal] s (acqQueued s) :=
  (only_acq (by decide) ..).trans (openSwitches_only _)

theorem exec_acqStart (s : State) (m : Msg) (h : verbFits s rowAcqStart m = true) : exec (.acqStart m) s = .next (
    if s.acq.req.isSome then errState (hostActivity s) rowAcqStart m 0x10
    else replyOk (acqQueued (hostActivity s)) rowAcqStart.code m (leBytes 2 (s.acq.seqN + 1).toNat ++ [0, 0])) :=
  verb_runs h (c := .acqStart m) rfl rfl

theorem acqStart_queues (s : State) (m : Msg) (h : verbFits s rowAcqStart m = true) (hr : s.acq.req = none) :
    Does (.acqStart m) s fun t =>
      t.acq = { s.acq with seqN := s.acq.seqN + 1, req := some (s.acq.seqN + 1) } ∧ t.bal.closed = 0 ∧
        t.bal.wells = s.bal.wells ∧ Replies s t rowAcqStart m (leBytes 2 (s.acq.seqN + 1).toNat ++ [0, 0]) ∧
        Only (.acq :: .bal :: replyParts) (hostActivity s) t := by
  have hexec := exec_acqStart s m h
  rw [hr, if_neg (by decide)] at hexec
  refine ⟨_, hexec, ?_, ?_, ?_, answers_of_only h (acqQueued_only _) (by decide) (by decide) _⟩
  · exact (replyOk_acq ..).trans (openSwitches_acq _)
  · exact (congrArg BalUnit.closed (replyOk_bal ..)).trans (openSwitches_closed _)
  · exact (congrArg BalUnit.wells (replyOk_bal ..)).trans (openSwitches_wells _)

theorem acqStart_refuses (s : State) (m : Msg) (h : verbFits s rowAcqStart m = true) (hr : s.acq.req ≠ none) :
    Does (.acqStart m) s fun t => Refuses s t rowAcqStart m 8 0x10 := by
  have hexec := exec_acqStart s m h
  rw [if_pos (Option.isSome_iff_ne_none.mpr hr)] at hexec
  exact ⟨_, hexec, refuses_taken (waiterless_of_fits h) 8 0x10⟩

/-- A read that names neither a kind nor a number answers with the newest kept result. -/
theorem exec_acqRead_newest (s : State) (m : Msg) (h : verbFits s rowAcqRead m = true) (hp : m.payload = [0, 0, 0, 0]) :
    exec (.acqRead m) s = .next (s.acq.kept.head?.elim (errState (hostActivity s) rowAcqRead m 0x10)
      fun k => replyOk (hostActivity s) rowAcqRead.code m (snapBytes k)) := by
  have hexec := verb_runs h (c := .acqRead m) rfl rfl
  have hvalue : firstBad [badIf (decide (1 < byteAt m.payload 0)) 0, badIf (decide (1 < byteAt m.payload 1)) 1,
      badIf (byteAt m.payload 1 == 0 && leAt m.payload 2 2 != 0) 2] = none := by
    rw [hp]
    decide
  have hkind : byteAt m.payload 0 = 0 := by rw [hp]; rfl
  have hsel : byteAt m.payload 1 ≠ 1 := by rw [hp]; decide
  dsimp only at hexec
  rw [hvalue, hkind] at hexec
  dsimp only at hexec
  rw [if_neg hsel] at hexec
  rw [entered_of_opn s rowAcqRead m rfl, keptRecords, if_pos rfl] at hexec
  rw [hexec]
  show _ = Host.Outcome.next ((hostActivity s).acq.kept.head?.elim _ _)
  cases (hostActivity s).acq.kept <;> rfl

theorem acqRead_answers (s : State) (m : Msg) (k : Snapshot) (q : List Snapshot) (h : verbFits s rowAcqRead m = true)
    (hp : m.payload = [0, 0, 0, 0]) (hk : s.acq.kept = k :: q) : Does (.acqRead m) s fun t =>
      Replies s t rowAcqRead m (snapBytes k) ∧ Only replyParts (hostActivity s) t := by
  have hexec := exec_acqRead_newest s m h hp
  rw [hk] at hexec
  exact read_answers h hexec

theorem acqRead_refuses (s : State) (m : Msg) (h : verbFits s rowAcqRead m = true) (hp : m.payload = [0, 0, 0, 0])
    (hk : s.acq.kept = []) : Does (.acqRead m) s fun t => Refuses s t rowAcqRead m 8 0x10 := by
  have hexec := exec_acqRead_newest s m h hp
  rw [hk] at hexec
  exact ⟨_, hexec, refuses_taken (waiterless_of_fits h) 8 0x10⟩

/-- The queue of a kind keeps its first records' rest, and its count of lost ones starts anew. -/
def recsFetched (s : State) (k : Fin 3) (rest : List (BitVec 7 × List Byte)) : State :=
  { s with chn.recs := s.chn.recs.set k { recs := rest, lost := 0 } }

theorem exec_acqFetch (s : State) (m : Msg) (h : verbFits s rowAcqFetch m = true) (h0 : byteAt m.payload 0 ≤ 2)
    (h1 : byteAt m.payload 1 ≤ 9) (h2 : m.payload.drop 2 = [0, 0]) : exec (.acqFetch m) s = .next (
      let k := Fin.ofNat 3 (byteAt m.payload 0)
      let r := fetchRecords s.chn.recs[k].recs (if byteAt m.payload 1 = 0 then 236 else byteAt m.payload 1) 236
      replyOk (recsFetched (hostActivity s) k r.2.2) rowAcqFetch.code m
        ([BitVec.ofNat 8 r.2.1, 0] ++ leBytes 2 s.chn.recs[k].lost.toNat ++ r.1)) := by
  have hexec := verb_runs h (c := .acqFetch m) rfl rfl
  have hvalue : firstBad [badIf (decide (2 < byteAt m.payload 0)) 0, badIf (decide (9 < byteAt m.payload 1)) 1,
      reserved m.payload 2 2] = none := by
    rw [firstBad_badIf_cons, firstBad_badIf_cons, reserved, h2]
    exact ⟨decide_eq_false (by omega), decide_eq_false (by omega), rfl⟩
  dsimp only at hexec
  rw [hvalue] at hexec
  exact hexec

theorem recsFetched_answers {s : State} {m : Msg} (h : verbFits s rowAcqFetch m = true) (k : Fin 3)
    (rest : List (BitVec 7 × List Byte)) (b : List Byte) :
    let t := replyOk (recsFetched (hostActivity s) k rest) rowAcqFetch.code m b
    t.chn.recs[k] = { recs := rest, lost := 0 } ∧ Replies s t rowAcqFetch m b ∧ Only replyParts (hostActivity s) t := by
  have hn : noWaiters (recsFetched (hostActivity s) k rest) rowAcqFetch.code m = true := waiterless_of_fits h
  refine ⟨?_, replies_of_addr hn rfl _, (only_chn (by decide) ..).trans (replyOk_only ..)⟩
  have hrecs := congrArg ChnUnit.recs (replyOk_beyondReplies (recsFetched (hostActivity s) k rest) rowAcqFetch.code m b)
  dsimp only [beyondReplies] at hrecs
  rw [hrecs]
  simp [recsFetched]

theorem acqFetch_answers (s : State) (m : Msg) (h : verbFits s rowAcqFetch m = true) (h0 : byteAt m.payload 0 ≤ 2)
    (h1 : byteAt m.payload 1 ≤ 9) (h2 : m.payload.drop 2 = [0, 0]) : Does (.acqFetch m) s fun t =>
      let k := Fin.ofNat 3 (byteAt m.payload 0)
      let r := fetchRecords s.chn.recs[k].recs (if byteAt m.payload 1 = 0 then 236 else byteAt m.payload 1) 236
      t.chn.recs[k] = { recs := r.2.2, lost := 0 } ∧
        Replies s t rowAcqFetch m ([BitVec.ofNat 8 r.2.1, 0] ++ leBytes 2 s.chn.recs[k].lost.toNat ++ r.1) ∧
        Only replyParts (hostActivity s) t :=
  ⟨_, exec_acqFetch s m h h0 h1 h2, recsFetched_answers h _ _ _⟩

/-! ## `BAL_SET` (08 R258 to R260, R278) -/

/-- The request of a record stands in its well. -/
def requestPut (s : State) (r : BalRec) : State :=
  let b : BalWell := { s.bal.wells[r.w] with req := true, applet := false, target := r.kind == 2, targetV := BitVec.ofNat 16 r.target,
                                             left := r.time * 1000 * ctPerMs }
  { s with bal.wells := s.bal.wells.set r.w b }

/-- A well without a passing test waits for one (08 R273). -/
def testAsked (s : State) (w : Well) : State := if tested s w then s else { s with bal.due := s.bal.due ||| wbit w }

/-- A well's pauses are those of this moment. -/
def pauseSet (s : State) (w : Well) : State :=
  { s with bal.wells := s.bal.wells.set w { s.bal.wells[w] with pause := pauseOf s w } }

/-- A record of the host ends the request that stands and begins its own. -/
theorem balApplyOne_request (s : State) (r : BalRec) (h : r.kind ≠ 0) : balApplyOne false s r =
    pauseSet (testAsked (requestPut (balEnd s (wbit r.w) 3) r) r.w) r.w := by
  unfold balApplyOne pauseSet testAsked requestPut
  dsimp only
  rw [if_neg h]

theorem requestPut_wells (s : State) (r : BalRec) :
    (requestPut s r).bal.wells[r.w] = { s.bal.wells[r.w] with
      req := true, applet := false, target := r.kind == 2, targetV := BitVec.ofNat 16 r.target, left := r.time * 1000 * ctPerMs } ∧
      ∀ w, w ≠ r.w → (requestPut s r).bal.wells[w] = s.bal.wells[w] := by
  refine ⟨by simp [requestPut], fun w hw => ?_⟩
  exact Vector.getElem_set_ne r.w.isLt w.isLt fun hval => hw (Fin.ext hval.symm)

theorem requestPut_passAt (s : State) (r : BalRec) :
    (requestPut s r).bal.wells[r.w].passAt = s.bal.wells[r.w].passAt := by
  simp [requestPut]

theorem requestPut_now (s : State) (r : BalRec) : (requestPut s r).now = s.now := by
  unfold requestPut
  rfl

theorem testAsked_bal (s : State) (w : Well) : (testAsked s w).bal.wells = s.bal.wells ∧
    (tested s w = false → hasW (testAsked s w).bal.due w = true) := by
  unfold testAsked
  split
  · next ht => exact ⟨rfl, fun hf => nomatch ht.symm.trans hf⟩
  · exact ⟨rfl, fun _ => by rw [hasW_or, hasW_wbit, decide_eq_true rfl, Bool.or_true]⟩

theorem pauseSet_bal (s : State) (w : Well) : (pauseSet s w).bal.wells[w] = { s.bal.wells[w] with pause := pauseOf s w } ∧
    (∀ i, i ≠ w → (pauseSet s w).bal.wells[i] = s.bal.wells[i]) ∧ (pauseSet s w).bal.due = s.bal.due := by
  refine ⟨by simp [pauseSet], fun i hi => ?_, rfl⟩
  exact Vector.getElem_set_ne w.isLt i.isLt fun hval => hi (Fin.ext hval.symm)

theorem tested_of_passAt {s t : State} (w : Well) (hn : t.now = s.now) (hp : t.bal.wells[w].passAt = s.bal.wells[w].passAt) :
    tested t w = tested s w := by
  unfold tested
  rw [hn, hp]

theorem balApplyOne_only (s : State) (r : BalRec) (h : r.kind ≠ 0) : Only [.bal] s (balApplyOne false s r) := by
  rw [balApplyOne_request s r h]
  have hask (u : State) : Only [.bal] u (testAsked u r.w) := by
    unfold testAsked
    split
    · exact Only.refl ..
    · exact only_bal (by decide) ..
  exact (balEnd_only ..).trans ((only_bal (by decide) ..).trans ((hask _).trans (only_bal (by decide) ..)))

theorem balApplyOne_requests (s : State) (r : BalRec) (h : r.kind ≠ 0) :
    let t := balApplyOne false s r
    t.bal.wells[r.w].req = true ∧ t.bal.wells[r.w].applet = false ∧ t.bal.wells[r.w].left = r.time * 1000 * ctPerMs ∧
      t.bal.wells[r.w].target = (r.kind == 2) ∧ (∀ w, w ≠ r.w → t.bal.wells[w] = s.bal.wells[w]) ∧
      (tested s r.w = false → hasW t.bal.due r.w = true) := by
  dsimp only
  rw [balApplyOne_request s r h]
  generalize hu : requestPut (balEnd s (wbit r.w) 3) r = u
  obtain ⟨hself, hothers⟩ := requestPut_wells (balEnd s (wbit r.w) 3) r
  rw [hu] at hself hothers
  obtain ⟨hwells, hdue⟩ := testAsked_bal u r.w
  obtain ⟨hpaused, hkept, hdueKept⟩ := pauseSet_bal (testAsked u r.w) r.w
  rw [hwells, hself] at hpaused
  rw [hpaused]
  refine ⟨rfl, rfl, rfl, rfl, fun w hw => ?_, fun ht => ?_⟩
  · rw [hkept w hw, hwells, hothers w hw, balEnd_ends, hasW_wbit, decide_eq_false hw, Bool.false_and, if_neg Bool.false_ne_true]
  · rw [hdueKept]
    have hnow : u.now = s.now := by
      rw [← hu, requestPut_now]
      exact (balEnd_only s (wbit r.w) 3).same .now (by decide)
    have hpass : u.bal.wells[r.w].passAt = s.bal.wells[r.w].passAt := by
      obtain ⟨hkeeps, -⟩ := balEnd_keepsVerdict s (wbit r.w) 3 r.w
      rw [← hu, requestPut_passAt, hkeeps]
    have htested : tested u r.w = tested s r.w := tested_of_passAt r.w hnow hpass
    exact hdue (htested.trans ht)

theorem exec_balSet_one (s : State) (m : Msg) (r : BalRec) (h : verbFits s rowBalSet m = true) (hl : m.payload.length = 8)
    (hr : balRecs m.payload = [r]) : exec (.balSet m) s = .next ((balRecBad s r).elim
      (if !s.prot.everRel then errState (hostActivity s) rowBalSet m 0x10
        else if balTestFails s [r] then errState (hostActivity s) rowBalSet m 0x11
        else replyOk (balApplyOne false (hostActivity s) r) rowBalSet.code m [])
      fun off => errValue (hostActivity s) rowBalSet m off) := by
  have hexec := verb_runs h (c := .balSet m) rfl rfl
  have hrecs : balRecsBad (entered s rowBalSet m) [r] 0 = balRecBad s r := by
    show (match balRecBad s r with | some o => some (8 * 0 + o) | none => none) = _
    cases balRecBad s r <;> simp
  dsimp only at hexec
  rw [hl, if_neg (by decide), hr, hrecs, entered_of_opn s rowBalSet m rfl] at hexec
  rw [hexec]
  cases balRecBad s r with
  | none => rw [Option.elim_none, balApply, List.foldl_cons, List.foldl_nil]; rfl
  | some off => rfl

theorem balSet_requests (s : State) (m : Msg) (r : BalRec) (h : verbFits s rowBalSet m = true) (hl : m.payload.length = 8)
    (hr : balRecs m.payload = [r]) (hb : balRecBad s r = none) (he : s.prot.everRel = true) (hk : r.kind ≠ 0)
    (hf : hasW s.bal.testFail r.w = false) : Does (.balSet m) s fun t =>
      t.bal.wells[r.w].req = true ∧ t.bal.wells[r.w].applet = false ∧ t.bal.wells[r.w].left = r.time * 1000 * ctPerMs ∧
        t.bal.wells[r.w].target = (r.kind == 2) ∧ (∀ w, w ≠ r.w → t.bal.wells[w] = s.bal.wells[w]) ∧
        (tested s r.w = false → hasW t.bal.due r.w = true) ∧ Replies s t rowBalSet m [] ∧
        Only (.bal :: replyParts) (hostActivity s) t := by
  have hexec := exec_balSet_one s m r h hl hr
  have htests : balTestFails s [r] = false := by simp [balTestFails, hf]
  rw [hb, Option.elim_none, he, htests, if_neg (by decide), if_neg (by decide)] at hexec
  have hbal : (replyOk (balApplyOne false (hostActivity s) r) rowBalSet.code m []).bal = _ := replyOk_bal ..
  obtain ⟨hreq, happlet, hleft, htarget, hothers, hdue⟩ := balApplyOne_requests (hostActivity s) r hk
  refine ⟨_, hexec, ?_⟩
  beta_reduce
  rw [hbal]
  exact ⟨hreq, happlet, hleft, htarget, hothers, hdue,
    answers_of_only h (balApplyOne_only _ r hk) (by decide) (by decide) []⟩

theorem balSet_refuses (s : State) (m : Msg) (r : BalRec) (off : Nat) (h : verbFits s rowBalSet m = true)
    (hl : m.payload.length = 8) (hr : balRecs m.payload = [r]) (hb : balRecBad s r = some off) :
    Does (.balSet m) s fun t => Refuses s t rowBalSet m 10 off := by
  have hexec := exec_balSet_one s m r h hl hr
  rw [hb] at hexec
  exact ⟨_, hexec, refuses_taken (waiterless_of_fits h) 10 off⟩

/-! ## `BAL_STOP` and `BAL_STAT` (14 R533, R534) -/

theorem balStop_ends (s : State) (m : Msg) (h : verbFits s rowBalStop m = true)
    (hb : reservedBits (word0 m.payload) 0x3FFFF = none) : Does (.balStop m) s fun t =>
      (∀ w : Well, t.bal.wells[w] = if hasW (maskOf m.payload) w && s.bal.wells[w].req then endWell s.bal.wells[w] 3
        else s.bal.wells[w]) ∧ Replies s t rowBalStop m [] ∧ Only (.bal :: replyParts) (hostActivity s) t := by
  have hexec := verb_runs h (c := .balStop m) rfl rfl
  rw [hb] at hexec
  refine ⟨_, hexec, fun w => ?_, answers_of_only (u := balEnd (hostActivity s) (maskOf m.payload) 3) h (balEnd_only ..)
    (by decide) (by decide) []⟩
  rw [replyOk_bal]
  exact balEnd_ends (hostActivity s) (maskOf m.payload) 3 w

theorem balStat_answers (s : State) (m : Msg) (h : verbFits s rowBalStat m = true) : Does (.balStat m) s fun t =>
    Replies s t rowBalStat m (balStatBytes s) ∧ Only replyParts (hostActivity s) t :=
  read_answers h (verb_runs h (c := .balStat m) rfl rfl)

/-! ## `BAL_TEST` (14 R535, R536) -/

/-- A single `BAL_TEST` with tests still to make goes on waiting. -/
theorem btestFinish_waits (s : State) (x : TestVerb) (hb : s.bal.btest = [x]) (hx : x.todo ≠ 0) : btestFinish s = s := by
  rw [btestFinish, hb, btestAnswers, if_neg hx, btestAnswers, List.nil_append, ← hb]

theorem dropHotTest_btest (s : State) : (dropHotTest s).bal.btest = s.bal.btest := by
  unfold dropHotTest
  generalize dieHot s = hot
  cases hot with
  | true =>
    rw [if_pos rfl]
    dsimp only [dropTest]
  | false => rw [if_neg Bool.false_ne_true]

theorem balPauseNow_btest (s : State) : (balPauseNow s).bal.btest = s.bal.btest := by
  rw [balPauseNow_eq]
  dsimp only [openWells]
  rw [dropHotTest_btest]
  dsimp only [markPauses]

theorem hasW_balPauseNow_closed (s : State) (w : Well) :
    hasW (balPauseNow s).bal.closed w = (hasW s.bal.closed w && !hasW (pausedNow s) w) := by
  obtain ⟨-, hclosed, -⟩ := dropHotTest_bal (markPauses s)
  rw [balPauseNow_eq]
  refine (openWells_closed ..).trans ?_
  rw [hclosed]
  dsimp only [markPauses]

/-- A well that waits for its test is paused where it holds a request. -/
theorem hasW_pausedNow_of_wanted (s : State) (w : Well) (hw : hasW (testWanted s) w = true) :
    hasW (pausedNow s) w = (dieHot s || s.bal.wells[w].req) := by
  unfold pausedNow
  cases dieHot s with
  | true => rw [if_pos rfl, hasW_allOnes, Bool.true_or]
  | false =>
    rw [if_neg Bool.false_ne_true, hasW_pausedMask, markPauses_well, Bool.false_or]
    dsimp only
    cases hr : s.bal.wells[w].req with
    | false => rfl
    | true =>
      rw [if_pos rfl, hasW_or, hw, Bool.true_or, if_pos rfl, Bool.true_and, bne_iff_ne]
      intro h0
      have hbit := congrArg (·.getLsbD 3) h0
      simp at hbit

/-- The wells of an accepted mask are wells that may be tested. -/
theorem hasW_cellMask_of_mask (s : State) (p : List Byte) (w : Well) (hb : testMaskBad s p = none)
    (hw : hasW (maskOf p) w = true) : hasW (cellMask s.cfg) w = true := by
  obtain ⟨hmask, -⟩ := (firstBad_badIf_cons _ _ _).mp hb
  have hout := (wells_eq_zero_iff _).mp (bne_eq_false_iff_eq.mp hmask) w
  rw [hasW_and, hw, Bool.true_and, hasW_compl, Bool.not_eq_false'] at hout
  exact hout

/-- The verb waits behind no other. -/
def balTestAsked (s : State) (m : Msg) : State :=
  { hostActivity s with bal := { s.bal with btest := [newTest (waitOf rowBalTest m) (maskOf m.payload) 0] } }

theorem balTestAsked_wants (s : State) (m : Msg) (w : Well) (hb : testMaskBad s m.payload = none)
    (hw : hasW (maskOf m.payload) w = true) : hasW (testWanted (balTestAsked s m)) w = true := by
  have hcell : hasW (cellMask (balTestAsked s m).cfg) w = true := hasW_cellMask_of_mask s m.payload w hb hw
  rw [testWanted, hasW_and, hasW_foldl_or, hcell, Bool.and_true]
  show (_ || (hasW (maskOf m.payload) w || false)) = true
  rw [hw, Bool.true_or, Bool.or_true]

theorem balTest_waits (s : State) (m : Msg) (h : verbFits s rowBalTest m = true) (hb : testMaskBad s m.payload = none)
    (hm : maskOf m.payload ≠ 0) (ht : s.bal.btest = []) : Does (.balTest m) s fun t =>
      t = balPauseNow { hostActivity s with bal := { s.bal with btest := [newTest (waitOf rowBalTest m) (maskOf m.payload) 0] } } ∧
        (∀ w : Well, hasW (maskOf m.payload) w = true →
          hasW t.bal.closed w = (hasW s.bal.closed w && !s.bal.wells[w].req && !dieHot s) ∧
            (s.bal.wells[w].req = true → t.bal.wells[w].pause.getLsbD 3 = true)) ∧ Only [.bal] (hostActivity s) t := by
  have hexec := verb_runs h (c := .balTest m) rfl rfl
  have hbad : testMaskBad (entered s rowBalTest m) m.payload = none := hb
  have hbtest : (entered s rowBalTest m).bal.btest = [] := ht
  have hwaits : btestFinish (balPauseNow (balTestAsked s m)) = balPauseNow (balTestAsked s m) :=
    btestFinish_waits _ (newTest (waitOf rowBalTest m) (maskOf m.payload) 0) (balPauseNow_btest _) hm
  dsimp only at hexec
  rw [hbad] at hexec
  dsimp only at hexec
  rw [hbtest, List.nil_append] at hexec
  refine ⟨_, hexec.trans (congrArg Host.Outcome.next hwaits), rfl, fun w hw => ?_,
    (only_bal (by decide) ..).trans (balPauseNow_only _)⟩
  have hwanted := balTestAsked_wants s m w hb hw
  refine ⟨?_, fun hr => ?_⟩
  · rw [hasW_balPauseNow_closed, hasW_pausedNow_of_wanted _ w hwanted, Bool.not_or, Bool.and_comm (!dieHot _), ← Bool.and_assoc]
    rfl
  · obtain ⟨-, hpause, -⟩ := balPauseNow_waits (balTestAsked s m) w hr hwanted
    exact hpause

theorem balTest_refuses (s : State) (m : Msg) (off : Nat) (h : verbFits s rowBalTest m = true)
    (hb : testMaskBad s m.payload = some off) : Does (.balTest m) s fun t => Refuses s t rowBalTest m 10 off := by
  have hexec := verb_runs h (c := .balTest m) rfl rfl
  have hbad : testMaskBad (entered s rowBalTest m) m.payload = some off := hb
  dsimp only at hexec
  rw [hbad] at hexec
  exact ⟨_, hexec, refuses_taken (waiterless_of_fits h) 10 off⟩

/-- Settles O42: every verb by `verb_runs`; a record becomes a request by `balApplyOne_requests`, and a well whose test a verb asks for is
paused by `hasW_pausedNow_of_wanted`. -/
theorem acquisitionAndBalancingVerbs : Obligations.AcquisitionAndBalancingVerbs :=
  ⟨acqStart_queues, acqStart_refuses, acqRead_answers, acqRead_refuses, acqFetch_answers, balSet_requests, balSet_refuses,
    balStop_ends, balStat_answers, balTest_waits, balTest_refuses⟩

end Sys2Proof.Machine

/-! PROOFS. Passwords, sessions and lockouts (14 R508, R527; 17 R659 to R669; O41). -/

namespace Sys2Proof.Machine

/-! ## The password record (17 R662) -/

/-- A store that comes from writing the password record of `u` is that record with its check. -/
theorem eq_pwWritten {t u : State} (h : t.store = (storePassword u).store) : t.store = pwWritten t u.store := by
  rw [pwWritten, h]
  rfl

/-- A wrong password has been counted (17 R666). -/
def wrongCounted (s : State) : State := storePassword { s with store.wrong := s.store.wrong + 1 }

theorem wrongPassword_fifth (s : State) (h : 5 ≤ s.store.wrong + 1) : wrongPassword s = startLockout (wrongCounted s) :=
  if_pos h

theorem wrongPassword_early (s : State) (h : ¬ 5 ≤ s.store.wrong + 1) : wrongPassword s = wrongCounted s :=
  if_neg h

/-- While no lockout runs, a wrong password is counted and the fifth starts one; the record is written once or twice. -/
theorem wrongPassword_written (s : State) (hl : s.store.lockRun = false) {t : State} (ht : t.store = (wrongPassword s).store) :
    t.store = pwWritten t { s.store with wrong := s.store.wrong + 1, lockRun := decide (5 ≤ s.store.wrong + 1) } := by
  by_cases h : 5 ≤ s.store.wrong + 1
  · rw [wrongPassword_fifth s h, startLockout, jrnPut_store] at ht
    rw [decide_eq_true h, eq_pwWritten ht]
    rfl
  · rw [wrongPassword_early s h] at ht
    rw [decide_eq_false h, eq_pwWritten ht, ← hl]

theorem startLockout_only (s : State) : Only (.store :: journalParts) s (startLockout s) :=
  (only_store (by decide) ..).trans (((storePassword_only _).mono (by decide)).trans ((jrnPut_only ..).mono (by decide)))

theorem wrongPassword_only (s : State) : Only (.store :: journalParts) s (wrongPassword s) := by
  have hcounted : Only (.store :: journalParts) s (wrongCounted s) :=
    (only_store (by decide) ..).trans ((storePassword_only _).mono (by decide))
  by_cases h : 5 ≤ s.store.wrong + 1
  · rw [wrongPassword_fifth s h]
    exact hcounted.trans (startLockout_only _)
  · rwa [wrongPassword_early s h]

theorem wrongPassword_addr (s : State) : (wrongPassword s).chn.addr = s.chn.addr := by
  by_cases h : 5 ≤ s.store.wrong + 1
  · rw [wrongPassword_fifth s h, startLockout, jrnPut_addr]
    rfl
  · rw [wrongPassword_early s h]
    rfl

theorem noWaiters_wrongPassword {s : State} {verb : BitVec 16} {m : Msg} (hn : noWaiters s verb m = true) :
    noWaiters (wrongPassword s) verb m = true := by
  by_cases h : 5 ≤ s.store.wrong + 1
  · rw [wrongPassword_fifth s h, startLockout]
    exact noWaiters_jrnPut _ _ _ _ _ _ hn
  · rw [wrongPassword_early s h]
    exact hn

/-! ## `CFG_LOGIN` (17 R663 to R667) -/

/-- The right password opens the pair's session, and the count and the next lockout's length start anew. -/
def loggedIn (s : State) (m : Msg) : State :=
  storePassword { s with safe.sess := s.safe.sess.set m.mbx (some s.now), store.wrong := 0, store.lockDur := 60 }

theorem loggedIn_only (s : State) (m : Msg) : Only [.safe, .store] s (loggedIn s m) :=
  have hsafe : Only [.safe, .store] s { s with safe.sess := s.safe.sess.set m.mbx (some s.now) } := only_safe (by decide) ..
  hsafe.trans ((only_store (by decide) ..).trans ((storePassword_only _).mono (by decide)))

theorem cfgLogin_locked (s : State) (m : Msg) (hfw : fwRuns s = true) (hl : s.store.lockRun = true)
    (hn : noWaiters s rowCfgLogin.code m = true) : Does (.cfgLogin m) s fun t => Refuses s t rowCfgLogin m 7 5 := by
  refine ⟨_, if_pos hfw, ?_⟩
  rw [vCfgLogin, if_pos (show (hostActivity s).store.lockRun = true from hl)]
  exact refuses_taken hn 7 5

theorem exec_cfgLogin (s : State) (m : Msg) (h : verbFits s rowCfgLogin m = true) (hl : s.store.lockRun = false) :
    exec (.cfgLogin m) s = .next ((badDigit m.payload 0).elim
      (if sha256 (s.store.salt ++ m.payload) = s.store.digest then replyOk (loggedIn (hostActivity s) m) rowCfgLogin.code m []
        else replyErr (wrongPassword (hostActivity s)) rowCfgLogin.code m 7 4)
      fun off => errValue (hostActivity s) rowCfgLogin m off) := by
  have hopen : ¬ (hostActivity s).store.lockRun = true := Bool.eq_false_iff.mp hl
  have hexec := verb_runs h (c := .cfgLogin m) rfl (if_neg hopen)
  rw [entered_of_opn s rowCfgLogin m rfl] at hexec
  rw [hexec]
  cases badDigit m.payload 0 <;> rfl

theorem cfgLogin_opens (s : State) (m : Msg) (h : verbFits s rowCfgLogin m = true) (hl : s.store.lockRun = false)
    (hb : badDigit m.payload 0 = none) (hp : sha256 (s.store.salt ++ m.payload) = s.store.digest) :
    Does (.cfgLogin m) s fun t =>
      t.safe = { s.safe with sess := s.safe.sess.set m.mbx (some s.now) } ∧
        t.store = pwWritten t { s.store with wrong := 0, lockDur := 60 } ∧ Replies s t rowCfgLogin m [] ∧
        Only (.safe :: .store :: replyParts) (hostActivity s) t := by
  have hexec := exec_cfgLogin s m h hl
  rw [hb, Option.elim_none, if_pos hp] at hexec
  exact ⟨_, hexec, replyOk_safe .., eq_pwWritten (replyOk_store ..),
    answers_of_only h (loggedIn_only _ m) (by decide) (by decide) []⟩

theorem cfgLogin_counts (s : State) (m : Msg) (h : verbFits s rowCfgLogin m = true) (hl : s.store.lockRun = false)
    (hb : badDigit m.payload 0 = none) (hp : sha256 (s.store.salt ++ m.payload) ≠ s.store.digest) :
    Does (.cfgLogin m) s fun t =>
      t.store = pwWritten t { s.store with wrong := s.store.wrong + 1, lockRun := decide (5 ≤ s.store.wrong + 1) } ∧
        HostReply s t rowCfgLogin.code m true false (leBytes 2 7 ++ leBytes 2 4) ∧
        Only (.store :: journalParts) (hostActivity s) t := by
  have hexec := exec_cfgLogin s m h hl
  rw [hb, Option.elim_none, if_neg hp] at hexec
  have hn : noWaiters (hostActivity s) rowCfgLogin.code m = true := waiterless_of_fits h
  have honly := replyErr_only (wrongPassword (hostActivity s)) rowCfgLogin.code m 7 4
  exact ⟨_, hexec, wrongPassword_written (hostActivity s) hl (honly.same .store (by decide)),
    (reply_of_noWaiters _ _ _ _ _ _ (noWaiters_wrongPassword hn)).of_addr (wrongPassword_addr _),
    (wrongPassword_only _).trans (honly.mono (by decide))⟩

theorem cfgLogin_refuses (s : State) (m : Msg) (off : Nat) (h : verbFits s rowCfgLogin m = true) (hl : s.store.lockRun = false)
    (hb : badDigit m.payload 0 = some off) : Does (.cfgLogin m) s fun t => Refuses s t rowCfgLogin m 10 off := by
  have hexec := exec_cfgLogin s m h hl
  rw [hb] at hexec
  exact ⟨_, hexec, refuses_taken (waiterless_of_fits h) 10 off⟩

theorem cfgLogout_ends (s : State) (m : Msg) (h : verbFits s rowCfgLogout m = true) : Does (.cfgLogout m) s fun t =>
    t.safe = { s.safe with sess := s.safe.sess.set m.mbx none } ∧ Replies s t rowCfgLogout m [] ∧
      Only (.safe :: replyParts) (hostActivity s) t := by
  have hexec := verb_runs h (c := .cfgLogout m) rfl rfl
  rw [entered_of_opn s rowCfgLogout m rfl] at hexec
  exact ⟨_, hexec, replyOk_safe .., answers_of_only h (only_safe (l := [.safe]) (by decide) ..) (by decide) (by decide) []⟩

/-! ## `CFG_PASSWD` (17 R659, R661, R670) -/

/-- The new password's record, with the salt drawn for it. -/
def passwordSet (s : State) (m : Msg) : State :=
  let (salt, s) := newSalt s
  storePassword { s with store.salt := salt, store.digest := sha256 (salt ++ m.payload), store.pwFactory := false }

theorem newSalt_length (s : State) : (newSalt s).1.length = 16 := by
  simp [newSalt, wordsLe]

theorem passwordSet_only (s : State) (m : Msg) : Only [.freeCtr, .store] s (passwordSet s m) :=
  (only_freeCtr (by decide) ..).trans ((only_store (by decide) ..).trans ((storePassword_only _).mono (by decide)))

theorem passwordSet_written {t u : State} {m : Msg} (ht : t.store = (passwordSet u m).store) :
    t.store = pwWritten t
      { u.store with pwFactory := false, salt := t.store.salt, digest := sha256 (t.store.salt ++ m.payload) } := by
  have hsalt : t.store.salt = (newSalt u).1 := congrArg StoreUnit.salt ht
  rw [hsalt]
  exact eq_pwWritten ht

theorem logChange_only (m : Msg) (s : State) (c : Nat × Word × Word) : Only journalParts s (logChange m s c) := jrnPut_only ..

theorem exec_cfgPasswd (s : State) (m : Msg) (h : verbFits s rowCfgPasswd m = true) :
    exec (.cfgPasswd m) s = .next (let u := entered s rowCfgPasswd m
      (badDigit m.payload 0).elim
        (if m.payload = List.replicate 8 0x30#8 then errValue u rowCfgPasswd m 0
          else replyOk (logChange m (passwordSet u m) (0, 0, 0)) rowCfgPasswd.code m [])
        fun off => errValue u rowCfgPasswd m off) := by
  rw [verb_runs h (c := .cfgPasswd m) rfl rfl]
  cases badDigit m.payload 0 <;> rfl

theorem cfgPasswd_changes (s : State) (m : Msg) (h : verbFits s rowCfgPasswd m = true) (hb : badDigit m.payload 0 = none)
    (hp : m.payload ≠ List.replicate 8 0x30#8) : Does (.cfgPasswd m) s fun t =>
      t.store = pwWritten t { s.store with pwFactory := false, salt := t.store.salt, digest := sha256 (t.store.salt ++ m.payload) } ∧
        t.store.salt.length = 16 ∧ t.safe = (entered s rowCfgPasswd m).safe ∧ Replies s t rowCfgPasswd m [] ∧
        Only (.freeCtr :: .safe :: .store :: journalParts) (hostActivity s) t := by
  have hexec := exec_cfgPasswd s m h
  rw [hb, Option.elim_none, if_neg hp] at hexec
  generalize hu : entered s rowCfgPasswd m = u at hexec ⊢
  have hentered : Only [.safe] (hostActivity s) u := hu ▸ entered_only ..
  have hset := passwordSet_only u m
  have hlog := logChange_only m (passwordSet u m) (0, 0, 0)
  have hreply := replyOk_only (logChange m (passwordSet u m) (0, 0, 0)) rowCfgPasswd.code m []
  have hstore : (replyOk (logChange m (passwordSet u m) (0, 0, 0)) rowCfgPasswd.code m []).store = (passwordSet u m).store :=
    (replyOk_store ..).trans (jrnPut_store ..)
  have hn : noWaiters (passwordSet u m) rowCfgPasswd.code m = true :=
    noWaiters_of_mbx ((hentered.same .mbx (by decide)).trans (hset.same .mbx (by decide))) (waiterless_of_fits h)
  have haddr : (logChange m (passwordSet u m) (0, 0, 0)).chn.addr = s.chn.addr :=
    (jrnPut_addr ..).trans (congrArg ChnUnit.addr ((hentered.same .chn (by decide)).trans (hset.same .chn (by decide))) :)
  have hkept : u.store = s.store := hentered.same .store (by decide)
  refine ⟨_, hexec, ?_, ?_, ?_, replies_of_addr (noWaiters_jrnPut _ _ _ _ _ _ hn) haddr [], ?_⟩
  · have hwritten := passwordSet_written hstore
    rwa [hkept] at hwritten
  · exact (congrArg (·.salt.length) hstore).trans (newSalt_length _)
  · exact (replyOk_safe ..).trans ((hset.same .safe (by decide)).trans (hlog.same .safe (by decide)))
  · exact (hentered.mono (by decide)).trans ((hset.mono (by decide)).trans
      ((hlog.mono (by decide)).trans (hreply.mono (by decide))))

theorem cfgPasswd_refuses_factory (s : State) (m : Msg) (h : verbFits s rowCfgPasswd m = true)
    (hp : m.payload = List.replicate 8 0x30#8) : Does (.cfgPasswd m) s fun t =>
      Refuses (entered s rowCfgPasswd m) t rowCfgPasswd m 10 0 := by
  have hexec := exec_cfgPasswd s m h
  have hb : badDigit m.payload 0 = none := by rw [hp]; rfl
  rw [hb, Option.elim_none, if_pos hp] at hexec
  exact ⟨_, hexec, refuses_entered h 10 0⟩

theorem cfgPasswd_refuses (s : State) (m : Msg) (off : Nat) (h : verbFits s rowCfgPasswd m = true)
    (hb : badDigit m.payload 0 = some off) : Does (.cfgPasswd m) s fun t =>
      Refuses (entered s rowCfgPasswd m) t rowCfgPasswd m 10 off := by
  have hexec := exec_cfgPasswd s m h
  rw [hb] at hexec
  exact ⟨_, hexec, refuses_entered h 10 off⟩

/-! ## The ends of a session and of a lockout (17 R665, R667, R668) -/

theorem sessionLapse_ends (s : State) (i : Fin 4) : Does (.sessionLapse i) s fun t =>
    t = { s with safe := { s.safe with sess := s.safe.sess.set i none } } :=
  ⟨_, rfl, rfl⟩

theorem lockoutExpire_doubles (s : State) (hr : running s = true) (hl : s.store.lockRun = true) :
    Does .lockoutExpire s fun t =>
      t = { s with store := pwWritten t { s.store with lockRun := false, lockDur := min 3840 (2 * s.store.lockDur) } } :=
  ⟨_, if_pos (by rw [hr, hl]; rfl), rfl⟩

theorem lockoutExpire_idle (s : State) (h : running s = false ∨ s.store.lockRun = false) : Idle .lockoutExpire s :=
  if_neg (by obtain h | h := h <;> simp [h])

/-- Settles O41: the password record by `eq_pwWritten` and `wrongPassword_written`. -/
theorem passwordSessionLockout : Obligations.PasswordSessionLockout :=
  ⟨cfgLogin_locked, cfgLogin_opens, cfgLogin_counts, cfgLogin_refuses, cfgLogout_ends, cfgPasswd_changes,
    cfgPasswd_refuses_factory, cfgPasswd_refuses, sessionLapse_ends, lockoutExpire_doubles, lockoutExpire_idle⟩

end Sys2Proof.Machine

/-! PROOFS. The journal, power, diagnosis and reset verbs (14 R546 to R555; 22 R831, R837, R839, R908; 23 R844, R862; O49). -/

namespace Sys2Proof.Machine

/-! ## What stands between a verb's take and its reply leaves the message answerable -/

/-- In `u` the message still gets the one reply that it would have got in `s`: the device has its address, and no duplicate waits. -/
def Answerable (s : State) (verb : BitVec 16) (m : Msg) (u : State) : Prop :=
  u.chn.addr = s.chn.addr ∧ noWaiters u verb m = true

section
variable {s u w : State} {verb : BitVec 16} {m : Msg}

theorem answerable_entered {v : VerbRow} (h : verbFits s v m = true) : Answerable s v.code m (entered s v m) :=
  ⟨entered_addr s v m, noWaiters_of_fits h⟩

theorem Answerable.of_only {l : List Part} (h : Answerable s verb m u) (ho : Only l u w) (hm : .mbx ∉ l) (hc : .chn ∉ l) :
    Answerable s verb m w := by
  obtain ⟨haddr, hnone⟩ := h
  exact ⟨(congrArg ChnUnit.addr (ho.same .chn hc) :).trans haddr, noWaiters_of_mbx (ho.same .mbx hm) hnone⟩

theorem Answerable.reply (h : Answerable s verb m u) (v : BitVec 16) (x : Msg) (e n : Bool) (b : List Byte) :
    Answerable s verb m (reply u v x e n b) := by
  obtain ⟨haddr, hnone⟩ := h
  exact ⟨(reply_addr ..).trans haddr, noWaiters_reply _ _ _ _ _ _ _ _ hnone⟩

theorem Answerable.jrnPut (h : Answerable s verb m u) (inc : Bool) (ty : Byte) (d : List Byte) :
    Answerable s verb m (jrnPut u inc ty d) := by
  obtain ⟨haddr, hnone⟩ := h
  exact ⟨(jrnPut_addr ..).trans haddr, noWaiters_jrnPut _ _ _ _ _ _ hnone⟩

theorem Answerable.jrnCommit (h : Answerable s verb m u) (e : JEntry) : Answerable s verb m (jrnCommit u e) := by
  have hparts (i v : Bool) : Answerable s verb m (writeParts e.parts u e i v 0) :=
    h.of_only (writeParts_only ..) (by decide) (by decide)
  unfold Machine.jrnCommit
  dsimp only
  split
  · exact ((hparts _ _).of_only (only_jrn (l := [.jrn]) (by decide) ..) (by decide) (by decide)).jrnPut ..
  · split
    · exact ((hparts _ _).of_only (only_jrn (l := [.jrn]) (by decide) ..) (by decide) (by decide)).jrnPut ..
    · exact hparts _ _

theorem Answerable.jrnWriteOne (h : Answerable s verb m u) : Answerable s verb m (jrnWriteOne u) := by
  have hsuppressed {x : State} (hx : Answerable s verb m x) : Answerable s verb m (jrnSuppressed x) := by
    unfold jrnSuppressed
    split
    · exact hx
    · exact hx
  unfold Machine.jrnWriteOne
  split
  · exact h
  · next e _ =>
    have hcommit : Answerable s verb m (Machine.jrnCommit { u with jrn.queue := eraseFirst e.inc u.jrn.queue } e) :=
      (h.of_only (only_jrn (l := [.jrn]) (by decide) ..) (by decide) (by decide)).jrnCommit e
    refine hsuppressed ?_
    split
    · exact hcommit
    · exact hcommit.reply ..

theorem Answerable.jrnFlushClosed (h : Answerable s verb m u) (n : Nat) : Answerable s verb m (jrnFlushClosed n u) := by
  induction n generalizing u with
  | zero => exact h
  | succ n ih =>
    unfold Machine.jrnFlushClosed
    split
    · exact h
    · exact ih h.jrnWriteOne

theorem Answerable.replies {v : VerbRow} (h : Answerable s v.code m u) (b : List Byte) :
    Replies s (replyOk u v.code m b) v m b := by
  obtain ⟨haddr, hnone⟩ := h
  exact replies_of_addr hnone haddr b

end

/-! ## `JRN_READ` and `JRN_HEAD` (14 R546; 22 R839) -/

theorem heldRecord_hostActivity (s : State) (inc : Bool) (num : Nat) :
    heldRecord (hostActivity s) inc num = heldRecord s inc num := by
  unfold heldRecord
  rfl

theorem jrnRead_answers (s : State) (m : Msg) (n : Nat) (h : verbFits s rowJrnRead m = true) (h0 : byteAt m.payload 0 ≤ 1)
    (h1 : 1 ≤ byteAt m.payload 1) (h7 : byteAt m.payload 1 ≤ 7) (h2 : (m.payload.drop 2).take 2 = [0, 0])
    (hr : heldRecord s (byteAt m.payload 0 == 1) (leAt m.payload 4 4) = some n) : Does (.jrnRead m) s fun t =>
      let inc := byteAt m.payload 0 == 1
      let k := min (byteAt m.payload 1) ((jrnHead s inc).1 + 1 - n)
      Replies s t rowJrnRead m ([BitVec.ofNat 8 k, 0, 0, 0] ++ (List.range k).flatMap fun i => jrnRec s inc (n + i)) ∧
        Only replyParts (hostActivity s) t := by
  have hexec := verb_runs h (c := .jrnRead m) rfl rfl
  have hvalue : firstBad [badIf (decide (1 < byteAt m.payload 0)) 0,
      badIf (byteAt m.payload 1 == 0 || decide (7 < byteAt m.payload 1)) 1, reserved m.payload 2 2] = none := by
    rw [firstBad_badIf_cons, firstBad_badIf_cons, reserved, h2]
    exact ⟨decide_eq_false (by omega), by simp; omega, rfl⟩
  rw [entered_of_opn s rowJrnRead m rfl] at hexec
  -- `heldRecord` becomes a variable: the kernel must not evaluate its sum with 2 ^ 32.
  obtain ⟨held, hheld⟩ : ∃ held, heldRecord (hostActivity s) = held := ⟨_, rfl⟩
  rw [← heldRecord_hostActivity, hheld] at hr
  rw [hheld] at hexec
  dsimp only at hexec
  rw [hvalue] at hexec
  dsimp only at hexec
  rw [hr] at hexec
  exact read_answers h hexec

theorem jrnHead_answers (s : State) (m : Msg) (h : verbFits s rowJrnHead m = true) : Does (.jrnHead m) s fun t =>
    Replies s t rowJrnHead m (headBytes s false ++ headBytes s true) ∧ Only replyParts (hostActivity s) t :=
  read_answers h (verb_runs h (c := .jrnHead m) rfl rfl)

/-! ## `JRN_RELEASE` (14 R547; 22 R837, R838) -/

theorem jrnPut_iOld (s : State) (inc : Bool) (ty : Byte) (d : List Byte) : (jrnPut s inc ty d).jrn.iOld = s.jrn.iOld := by
  have hdiscard (u : State) (e : JEntry) : (noteDiscard u e).jrn.iOld = u.jrn.iOld := by
    unfold noteDiscard
    dsimp only
    split
    · rfl
    · rw [replyErr_jrn]
  unfold jrnPut jrnQueue
  split
  · rfl
  · split
    · rw [hdiscard]
    · split
      · rfl
      · rw [hdiscard]

theorem writeParts_iOld (k : Nat) (s : State) (e : JEntry) (i v : Bool) (p : Nat) :
    (writeParts k s e i v p).jrn.iOld = s.jrn.iOld := by
  induction k generalizing s p with
  | zero => rfl
  | succ k ih =>
    unfold writeParts
    dsimp only
    rw [ih]
    split <;> rfl

theorem jrnCommit_iOld (s : State) (e : JEntry) : (jrnCommit s e).jrn.iOld = s.jrn.iOld := by
  unfold jrnCommit
  dsimp only
  split
  · rw [jrnPut_iOld, writeParts_iOld]
  · split
    · rw [jrnPut_iOld, writeParts_iOld]
    · rw [writeParts_iOld]

theorem releaseTo_iOld (s : State) (n : Nat) : (releaseTo s n).jrn.iOld = n + 1 := jrnCommit_iOld ..

theorem releaseTo_only (s : State) (n : Nat) : Only (.mem :: journalParts) s (releaseTo s n) :=
  (jrnFlushClosed_only ..).trans ((only_jrn (by decide) ..).trans (jrnCommit_only ..))

theorem Answerable.releaseTo {s u : State} {verb : BitVec 16} {m : Msg} (h : Answerable s verb m u) (n : Nat) :
    Answerable s verb m (releaseTo u n) :=
  ((h.jrnFlushClosed _).of_only (only_jrn (l := [.jrn]) (by decide) ..) (by decide) (by decide)).jrnCommit _

/-- How far `UPTO` lies behind the head (22 R837). -/
def releaseDist (s : State) (m : Msg) : Nat := (s.jrn.iNum + 2 ^ 32 - leAt m.payload 0 4) % 2 ^ 32

theorem exec_jrnRelease (s : State) (m : Msg) (h : verbFits s rowJrnRelease m = true) :
    exec (.jrnRelease m) s = .next (let u := entered s rowJrnRelease m
      if 2 ^ 31 < releaseDist u m then errValue u rowJrnRelease m 0
      else (releaseEnd u (releaseDist u m)).elim (replyOk u rowJrnRelease.code m (leBytes 4 0))
        fun n => replyOk (releaseTo u n) rowJrnRelease.code m (leBytes 4 (n + 1 - u.jrn.iOld))) := by
  rw [verb_runs h (c := .jrnRelease m) rfl rfl]
  generalize entered s rowJrnRelease m = u
  dsimp only
  rw [releaseDist]
  generalize (u.jrn.iNum + 2 ^ 32 - leAt m.payload 0 4) % 2 ^ 32 = d
  by_cases hd : 2 ^ 31 < d
  · rw [if_pos hd, if_pos hd]
  · rw [if_neg hd, if_neg hd]
    cases releaseEnd u d <;> rfl

theorem entered_jrn (s : State) (v : VerbRow) (m : Msg) : (entered s v m).jrn = s.jrn :=
  (entered_only s v m).same .jrn (by decide)

theorem releaseDist_entered (s : State) (v : VerbRow) (m : Msg) : releaseDist (entered s v m) m = releaseDist s m := by
  rw [releaseDist, entered_jrn, ← releaseDist]

section
variable {s : State} {m : Msg} (h : verbFits s rowJrnRelease m = true)
include h

theorem jrnRelease_refuses (hd : 2 ^ 31 < releaseDist s m) : Does (.jrnRelease m) s fun t =>
    Refuses (entered s rowJrnRelease m) t rowJrnRelease m 10 0 := by
  have hexec := exec_jrnRelease s m h
  dsimp only at hexec
  rw [releaseDist_entered, if_pos hd] at hexec
  exact ⟨_, hexec, refuses_entered h 10 0⟩

theorem jrnRelease_frees_none (hd : releaseDist s m ≤ 2 ^ 31)
    (he : releaseEnd (entered s rowJrnRelease m) (releaseDist s m) = none) : Does (.jrnRelease m) s fun t =>
      Replies s t rowJrnRelease m [0, 0, 0, 0] ∧ Only replyParts (entered s rowJrnRelease m) t := by
  have hexec := exec_jrnRelease s m h
  dsimp only at hexec
  rw [releaseDist_entered, if_neg (Nat.not_lt.mpr hd), he] at hexec
  exact ⟨_, hexec, (answerable_entered h).replies [0, 0, 0, 0], replyOk_only ..⟩

theorem jrnRelease_frees (n : Nat) (hd : releaseDist s m ≤ 2 ^ 31)
    (he : releaseEnd (entered s rowJrnRelease m) (releaseDist s m) = some n) : Does (.jrnRelease m) s fun t =>
      t.jrn.iOld = n + 1 ∧ Replies s t rowJrnRelease m (leBytes 4 (n + 1 - s.jrn.iOld)) ∧
        Only (.safe :: .mem :: journalParts) (hostActivity s) t := by
  have hexec := exec_jrnRelease s m h
  dsimp only at hexec
  rw [releaseDist_entered, if_neg (Nat.not_lt.mpr hd), he, Option.elim_some, entered_jrn] at hexec
  refine ⟨_, hexec, ?_, ((answerable_entered h).releaseTo n).replies _, ?_⟩
  · exact (congrArg JrnUnit.iOld (replyOk_jrn ..)).trans (releaseTo_iOld ..)
  · exact ((entered_only ..).mono (by decide)).trans
      (((releaseTo_only ..).mono (by decide)).trans ((replyOk_only ..).mono (by decide)))

end

/-! ## `JRN_MARK` (22 R831, R908) -/

/-- The entry of a mark keeps its message. -/
def markEntry (s : State) (m : Msg) : JEntry :=
  { mkEntry s false 0x4B ([BitVec.ofNat 8 m.payload.length, 0, 0, 0] ++ padTo 16 m.payload) with mark := some (waitOf rowJrnMark m) }

theorem exec_jrnMark (s : State) (m : Msg) (h : verbFits s rowJrnMark m = true) :
    exec (.jrnMark m) s = .next (let u := entered s rowJrnMark m
      if m.payload.isEmpty || decide (16 < m.payload.length) then errPayload u rowJrnMark m
      else jrnQueue u (markEntry u m)) :=
  verb_runs h (c := .jrnMark m) rfl rfl

theorem jrnMark_waits (s : State) (m : Msg) (h : verbFits s rowJrnMark m = true) (hp : m.payload ≠ [])
    (hl : m.payload.length ≤ 16) (hr : jrnRoom s = true) : Does (.jrnMark m) s fun t =>
      t = { entered s rowJrnMark m with jrn := { s.jrn with queue := s.jrn.queue ++ [markEntry s m] } } := by
  have hexec := exec_jrnMark s m h
  have hfits : (m.payload.isEmpty || decide (16 < m.payload.length)) = false := by simp [hp, hl]
  have hroom : (entered s rowJrnMark m).jrn.queue.length < jrnCap := by
    rw [entered_jrn]
    exact of_decide_eq_true hr
  dsimp only at hexec
  rw [hfits, if_neg Bool.false_ne_true, jrnQueue, if_pos hroom] at hexec
  exact ⟨_, hexec, rfl⟩

theorem jrnMark_refuses (s : State) (m : Msg) (h : verbFits s rowJrnMark m = true)
    (hp : m.payload = [] ∨ 16 < m.payload.length) : Does (.jrnMark m) s fun t =>
      Refuses (entered s rowJrnMark m) t rowJrnMark m 9 0xFFFF := by
  have hexec := exec_jrnMark s m h
  have hbad : (m.payload.isEmpty || decide (16 < m.payload.length)) = true := by
    obtain hp | hp := hp <;> simp [hp]
  dsimp only at hexec
  rw [hbad, if_pos rfl] at hexec
  exact ⟨_, hexec, refuses_entered h 9 0xFFFF⟩

/-! ## `PWR_SET` (14 R552; 23 R844 to R846) -/

/-- The power state that a `TARGET` names. -/
def pwTarget (b : Nat) : PState :=
  match b with | 0 => .active | 1 => .standby | 2 => .patrol | 3 => .sleep | _ => .shutdown

theorem pwDecide_asleep (s : State) (b : Nat) (h : 2 ≤ b) :
    pwDecide s b = { s with pw := { s.pw with decided := some (pwTarget b), decTloss := false } } := by
  match b, h with
  | 2, _ => rfl
  | 3, _ => rfl
  | _ + 4, _ => rfl

theorem pwDecide_awake (s : State) (b : Nat) (h : b < 2) : pwDecide s b = enterAwake s (pwTarget b) := by
  match b, h with
  | 0, _ => rfl
  | 1, _ => rfl

theorem enterAwake_stays (s : State) (p : PState) (h : s.pw.state = p) : enterAwake s p = s :=
  if_pos (beq_iff_eq.mpr h)

/-- What an entry to ACTIVE or STANDBY changes before the tracker starts. -/
def wokenTo (s : State) (p : PState) : State :=
  { s with pw.state := p, core.waiting := p == .standby && s.core.waiting,
           rst.wdServed := if p == .active then s.now else s.rst.wdServed }

theorem enterAwake_enters (s : State) (p : PState) (h : s.pw.state ≠ p) : enterAwake s p = wakeTracker (wokenTo s p) :=
  if_neg fun heq => h (beq_iff_eq.mp heq)

theorem wakeTracker_only (s : State) : Only [.ph, .sch] s (wakeTracker s) :=
  (only_ph (by decide) ..).trans (startTracker_only _)

theorem startTracker_ph {s u : State} (hcfg : u.cfg = s.cfg) (hph : u.ph = s.ph) : (startTracker u).ph = (startTracker s).ph := by
  unfold startTracker
  rw [hcfg, hph]

/-- The tracker's state with its era raised. -/
def eraRaised (p : PhUnit) : PhUnit := { p with epoch := raiseEra p.epoch }

theorem wakeTracker_eq (s : State) : wakeTracker s = startTracker { s with ph := eraRaised s.ph } := rfl

theorem wakeTracker_ph {s u : State} (hcfg : u.cfg = s.cfg) (hph : u.ph = s.ph) : (wakeTracker u).ph = (wakeTracker s).ph := by
  rw [wakeTracker_eq, wakeTracker_eq]
  exact startTracker_ph hcfg (congrArg eraRaised hph)

theorem wokenTo_only (s : State) (p : PState) : Only [.pw, .rst, .core] s (wokenTo s p) :=
  Only.of fun q => by
    cases q
    case pw => exact .inl (by decide)
    case rst => exact .inl (by decide)
    case core => exact .inl (by decide)
    all_goals exact .inr rfl

theorem enterAwake_only (s : State) (p : PState) (h : s.pw.state ≠ p) :
    Only [.pw, .rst, .ph, .sch, .core] s (enterAwake s p) := by
  rw [enterAwake_enters s p h]
  exact ((wokenTo_only s p).mono (by decide)).trans ((wakeTracker_only _).mono (by decide))

theorem exec_pwrSet (s : State) (m : Msg) (h : verbFits s rowPwrSet m = true) (h4 : byteAt m.payload 0 ≤ 4)
    (h1 : (m.payload.drop 1).take 3 = [0, 0, 0]) : exec (.pwrSet m) s = .next (
      replyOk (pwDecide (entered s rowPwrSet m) (byteAt m.payload 0)) rowPwrSet.code m []) := by
  have hexec := verb_runs h (c := .pwrSet m) rfl rfl
  have hvalue : firstBad [badIf (decide (4 < byteAt m.payload 0)) 0, reserved m.payload 1 3] = none := by
    rw [firstBad_badIf_cons, reserved, h1]
    exact ⟨decide_eq_false (by omega), rfl⟩
  dsimp only at hexec
  rw [hvalue] at hexec
  exact hexec

theorem entered_pw (s : State) (v : VerbRow) (m : Msg) : (entered s v m).pw = (hostActivity s).pw :=
  (entered_only s v m).same .pw (by decide)

theorem entered_state (s : State) (v : VerbRow) (m : Msg) : (entered s v m).pw.state = s.pw.state := by
  rw [entered_pw]
  rfl

theorem pwrSet_decides (s : State) (m : Msg) (h : verbFits s rowPwrSet m = true) (h4 : byteAt m.payload 0 ≤ 4)
    (h1 : (m.payload.drop 1).take 3 = [0, 0, 0]) (hb : 2 ≤ byteAt m.payload 0) : Does (.pwrSet m) s fun t =>
      t.pw = { (hostActivity s).pw with decided := some (pwTarget (byteAt m.payload 0)), decTloss := false } ∧
        Replies s t rowPwrSet m [] ∧ Only (.pw :: .safe :: replyParts) (hostActivity s) t := by
  have hexec := exec_pwrSet s m h h4 h1
  rw [pwDecide_asleep _ _ hb, entered_pw] at hexec
  obtain ⟨hreply, honly⟩ := answers_after_entry h (only_pw (l := [.pw]) (by decide) (entered s rowPwrSet m) _) (by decide)
    (by decide) []
  exact ⟨_, hexec, replyOk_pw .., hreply, honly.mono (by decide)⟩

theorem pwrSet_stays (s : State) (m : Msg) (h : verbFits s rowPwrSet m = true) (h4 : byteAt m.payload 0 ≤ 4)
    (h1 : (m.payload.drop 1).take 3 = [0, 0, 0]) (hb : byteAt m.payload 0 < 2) (hs : s.pw.state = pwTarget (byteAt m.payload 0)) :
    Does (.pwrSet m) s fun t => Replies s t rowPwrSet m [] ∧ Only (.safe :: replyParts) (hostActivity s) t := by
  have hexec := exec_pwrSet s m h h4 h1
  rw [pwDecide_awake _ _ hb, enterAwake_stays] at hexec
  · exact ⟨_, hexec, answers_after_entry h (Only.refl [] _) List.not_mem_nil List.not_mem_nil []⟩
  · rw [← hs]
    exact entered_state ..

theorem pwrSet_enters (s : State) (m : Msg) (h : verbFits s rowPwrSet m = true) (h4 : byteAt m.payload 0 ≤ 4)
    (h1 : (m.payload.drop 1).take 3 = [0, 0, 0]) (hb : byteAt m.payload 0 < 2) (hs : s.pw.state ≠ pwTarget (byteAt m.payload 0)) :
    Does (.pwrSet m) s fun t =>
      t.pw = { (hostActivity s).pw with state := pwTarget (byteAt m.payload 0) } ∧ t.ph = (wakeTracker s).ph ∧
        t.rst = { s.rst with wdServed := if pwTarget (byteAt m.payload 0) = .active then s.now else s.rst.wdServed } ∧
        Replies s t rowPwrSet m [] ∧ Only (.pw :: .rst :: .ph :: .sch :: .core :: .safe :: journalParts) (hostActivity s) t := by
  have hexec := exec_pwrSet s m h h4 h1
  have hawake : (entered s rowPwrSet m).pw.state ≠ pwTarget (byteAt m.payload 0) := by rwa [entered_state]
  rw [pwDecide_awake _ _ hb] at hexec
  obtain ⟨hreply, honly⟩ := answers_after_entry h (enterAwake_only _ _ hawake) (by decide) (by decide) []
  rw [enterAwake_enters _ _ hawake] at hexec hreply honly
  have hpw (u : State) : (wakeTracker u).pw = u.pw := (wakeTracker_only u).same .pw (by decide)
  have hwoken (u : State) : (wakeTracker u).rst = u.rst := (wakeTracker_only u).same .rst (by decide)
  refine ⟨_, hexec, ?_, ?_, ?_, hreply, honly.mono (by decide)⟩
  · refine (replyOk_pw ..).trans ((hpw _).trans ?_)
    rw [wokenTo, entered_pw]
  · refine (replyOk_ph ..).trans (wakeTracker_ph ?_ ?_)
    · exact (entered_only ..).same .cfg (by decide)
    · exact (entered_only ..).same .ph (by decide)
  · refine (replyOk_rst ..).trans ((hwoken _).trans ?_)
    have hrst : (entered s rowPwrSet m).rst = s.rst := (entered_only ..).same .rst (by decide)
    have hnow : (entered s rowPwrSet m).now = s.now := (entered_only ..).same .now (by decide)
    rw [wokenTo, hrst, hnow]
    simp only [beq_iff_eq]

theorem pwrSet_refuses (s : State) (m : Msg) (h : verbFits s rowPwrSet m = true) (h4 : 4 < byteAt m.payload 0) :
    Does (.pwrSet m) s fun t => Refuses (entered s rowPwrSet m) t rowPwrSet m 10 0 := by
  have hexec := verb_runs h (c := .pwrSet m) rfl rfl
  have hvalue : firstBad [badIf (decide (4 < byteAt m.payload 0)) 0, reserved m.payload 1 3] = some 0 := by
    rw [decide_eq_true h4]
    rfl
  dsimp only at hexec
  rw [hvalue] at hexec
  exact ⟨_, hexec, refuses_entered h 10 0⟩

/-! ## The other power verbs, diagnosis and `RESET` (14 R553 to R555; 23 R850, R862) -/

theorem pwrStat_answers (s : State) (m : Msg) (h : verbFits s rowPwrStat m = true) : Does (.pwrStat m) s fun t =>
    Replies s t rowPwrStat m ([BitVec.ofNat 8 (pwCode s.pw.state), 0, 0, 0] ++ leBytes 4 s.pw.wake.toNat ++
      leBytes 2 (balLeft (hostActivity s)) ++ leBytes 2 (sleepLeft (hostActivity s))) ∧ Only replyParts (hostActivity s) t :=
  read_answers h (verb_runs h (c := .pwrStat m) rfl rfl)

theorem pwrWakeclr_clears (s : State) (m : Msg) (h : verbFits s rowPwrWakeclr m = true)
    (hb : reservedBits (word0 m.payload) 0x00070FFF = none) : Does (.pwrWakeclr m) s fun t =>
      t.pw = { (hostActivity s).pw with wake := s.pw.wake &&& ~~~ (word0 m.payload) } ∧ Replies s t rowPwrWakeclr m [] ∧
        Only (.pw :: replyParts) (hostActivity s) t := by
  have hexec := verb_runs h (c := .pwrWakeclr m) rfl rfl
  rw [hb, entered_of_opn s rowPwrWakeclr m rfl] at hexec
  exact ⟨_, hexec, replyOk_pw .., answers_of_only h (only_pw (l := [.pw]) (by decide) ..) (by decide) (by decide) []⟩

theorem pwrKeep_answers (s : State) (m : Msg) (h : verbFits s rowPwrKeep m = true) : Does (.pwrKeep m) s fun t =>
    Replies s t rowPwrKeep m [] ∧ Only replyParts (hostActivity s) t :=
  read_answers h (verb_runs h (c := .pwrKeep m) rfl rfl)

theorem diagInfo_answers (s : State) (m : Msg) (h : verbFits s rowDiagInfo m = true) : Does (.diagInfo m) s fun t =>
    Replies s t rowDiagInfo m (leBytes 4 s.store.resets.toNat ++ leBytes 6 (uptimeUs s) ++ [s.rst.lastRst, 0] ++
      leBytes 4 s.store.fstops.toNat ++ leBytes 4 s.store.wdresets.toNat ++ [0, 0, 0, 0]) ∧ Only replyParts (hostActivity s) t :=
  read_answers h (verb_runs h (c := .diagInfo m) rfl rfl)

theorem diagScan_answers (s : State) (m : Msg) (h : verbFits s rowDiagScan m = true) : Does (.diagScan m) s fun t =>
    Replies s t rowDiagScan m (wordsLe [s.ce.ch[0].res, s.ce.ch[1].res, s.ce.scans, s.ce.mism]) ∧
      Only replyParts (hostActivity s) t :=
  read_answers h (verb_runs h (c := .diagScan m) rfl rfl)

theorem exec_reset (s : State) (m : Msg) (h : verbFits s rowReset m = true) :
    exec (.reset m) s = .next (let u := entered s rowReset m
      if m.payload = [0x5A, 0xA5, 0x0F, 0x01] then
        replyOk { u with pw := { u.pw with resetVerb := u.pw.resetVerb ++ [(m, false)] } } rowReset.code m []
      else errValue u rowReset m 0) :=
  verb_runs h (c := .reset m) rfl rfl

theorem reset_waits (s : State) (m : Msg) (h : verbFits s rowReset m = true) (hp : m.payload = [0x5A, 0xA5, 0x0F, 0x01]) :
    Does (.reset m) s fun t =>
      t.pw = { (hostActivity s).pw with resetVerb := s.pw.resetVerb ++ [(m, false)] } ∧ t.rst = s.rst ∧
        Replies s t rowReset m [] ∧ Only (.pw :: .safe :: replyParts) (hostActivity s) t := by
  have hexec := exec_reset s m h
  dsimp only at hexec
  rw [if_pos hp, entered_pw] at hexec
  obtain ⟨hreply, honly⟩ := answers_after_entry h (only_pw (l := [.pw]) (by decide) (entered s rowReset m) _) (by decide)
    (by decide) []
  exact ⟨_, hexec, replyOk_pw .., honly.same .rst (by decide), hreply, honly.mono (by decide)⟩

theorem reset_refuses (s : State) (m : Msg) (h : verbFits s rowReset m = true) (hp : m.payload ≠ [0x5A, 0xA5, 0x0F, 0x01]) :
    Does (.reset m) s fun t => Refuses (entered s rowReset m) t rowReset m 10 0 := by
  have hexec := exec_reset s m h
  dsimp only at hexec
  rw [if_neg hp] at hexec
  exact ⟨_, hexec, refuses_entered h 10 0⟩

/-- Settles O49: `JRN_RELEASE` by `exec_jrnRelease` and what a commit keeps, `PWR_SET` by `pwDecide_asleep` and `pwDecide_awake`. -/
theorem journalPowerResetVerbs : Obligations.JournalPowerResetVerbs :=
  ⟨jrnRead_answers, jrnHead_answers,
    fun _ _ h => ⟨jrnRelease_refuses h, jrnRelease_frees_none h, jrnRelease_frees h⟩, jrnMark_waits, jrnMark_refuses,
    fun s m h h4 h1 => ⟨pwrSet_decides s m h h4 h1, pwrSet_stays s m h h4 h1, pwrSet_enters s m h h4 h1⟩, pwrSet_refuses,
    pwrStat_answers, pwrWakeclr_clears, pwrKeep_answers, diagInfo_answers, diagScan_answers, reset_waits, reset_refuses⟩

end Sys2Proof.Machine

/-! PROOFS. The identity and configuration verbs (14 R516 to R526, R906; 17 R649, R655; O40). -/

namespace Sys2Proof.Machine

/-! ## `ID_READ`, `ID_FACTORY` and `CFG_READ` (14 R517, R518) -/

theorem idRead_answers (s : State) (m : Msg) (h : verbFits s rowIdRead m = true) : Does (.idRead m) s fun t =>
    Replies s t rowIdRead m (idBytes s m.mbx) ∧ Only replyParts (hostActivity s) t :=
  read_answers h (verb_runs h (c := .idRead m) rfl rfl)

theorem idFactory_answers (s : State) (m : Msg) (h : verbFits s rowIdFactory m = true) : Does (.idFactory m) s fun t =>
    Replies s t rowIdFactory m (padTo 8 s.store.lot ++ [s.store.year, s.store.week, s.store.grade, 0] ++
      leBytes 4 s.store.fchk.toNat) ∧ Only replyParts (hostActivity s) t :=
  read_answers h (verb_runs h (c := .idFactory m) rfl rfl)

theorem regGet_hostActivity (s : State) (id : Nat) : regGet (hostActivity s) id = regGet s id := by
  unfold regGet
  split <;> rfl

theorem readRegs_one (s : State) (id : Nat) :
    readRegs [id] s = (leBytes 4 ((regGet s id).getD 0).toNat, regReadEffect s id) := by
  simp [readRegs]

/-- `CFG_READ` of one register. -/
theorem exec_cfgRead_one (s : State) (m : Msg) (h : verbFits s rowCfgRead m = true) (hl : m.payload.length = 2) :
    exec (.cfgRead m) s = .next ((regGet s (leAt m.payload 0 2)).elim (errValue (hostActivity s) rowCfgRead m 0)
      fun v => replyOk (regReadEffect (hostActivity s) (leAt m.payload 0 2)) rowCfgRead.code m (leBytes 4 v.toNat)) := by
  have hexec := verb_runs h (c := .cfgRead m) rfl rfl
  have hbad : firstBad ((List.range (2 / 2)).map fun i =>
      badIf (regGet (hostActivity s) (leAt m.payload (2 * i) 2)).isNone (2 * i)) =
      (regGet s (leAt m.payload 0 2)).elim (some 0) fun _ => none := by
    show firstBad [badIf (regGet (hostActivity s) (leAt m.payload 0 2)).isNone 0] = _
    rw [regGet_hostActivity]
    cases regGet s (leAt m.payload 0 2) <;> rfl
  have hids : ((List.range (2 / 2)).map fun i => leAt m.payload (2 * i) 2) = [leAt m.payload 0 2] := rfl
  rw [entered_of_opn s rowCfgRead m rfl] at hexec
  rw [hexec]
  dsimp only
  rw [hl, if_neg (by decide), hbad, hids, readRegs_one, regGet_hostActivity]
  cases regGet s (leAt m.payload 0 2) <;> rfl

/-- A reply leaves the ports' error counts. -/
theorem replyOk_cerr (s : State) (v : BitVec 16) (m : Msg) (b : List Byte) :
    (replyOk s v m b).sp.cerr = s.sp.cerr ∧ (replyOk s v m b).np.cerr = s.np.cerr := by
  have hdeliver (u : State) (x : Msg) (y : List Byte) :
      ((deliver u x y).sp.cerr, (deliver u x y).np.cerr) = (u.sp.cerr, u.np.cerr) := by
    unfold deliver
    split
    · rfl
    · split
      · rfl
      · cases x.port <;> rfl
  exact Prod.mk.inj ((foldl_keeps (fun u : State => (u.sp.cerr, u.np.cerr)) _ (fun _ _ => hdeliver ..) _ _).trans (hdeliver ..))

theorem regReadEffect_only (s : State) (id : Nat) : Only [.sp, .np] s (regReadEffect s id) := by
  unfold regReadEffect
  split
  · have hsp : Only [.sp, .np] s { s with sp.cerr := 0 } := only_sp (by decide) ..
    exact hsp.trans (only_np (by decide) ..)
  · exact Only.refl ..

theorem cfgRead_answers (s : State) (m : Msg) (v : Word) (h : verbFits s rowCfgRead m = true) (hl : m.payload.length = 2)
    (hr : regGet s (leAt m.payload 0 2) = some v) : Does (.cfgRead m) s fun t =>
      Replies s t rowCfgRead m (leBytes 4 v.toNat) ∧ (leAt m.payload 0 2 = 0x61 → t.sp.cerr = 0 ∧ t.np.cerr = 0) ∧
        Only replyParts (hostActivity s) t := by
  have hexec := exec_cfgRead_one s m h hl
  rw [hr, Option.elim_some] at hexec
  obtain ⟨hreply, honly⟩ := answers_of_only h (regReadEffect_only _ (leAt m.payload 0 2)) (by decide) (by decide) (leBytes 4 v.toNat)
  refine ⟨_, hexec, hreply, fun hid => ?_, honly.mono (by decide)⟩
  obtain ⟨hsp, hnp⟩ := replyOk_cerr (regReadEffect (hostActivity s) (leAt m.payload 0 2)) rowCfgRead.code m (leBytes 4 v.toNat)
  rw [hsp, hnp, regReadEffect, if_pos hid]
  exact ⟨rfl, rfl⟩

theorem cfgRead_refuses (s : State) (m : Msg) (h : verbFits s rowCfgRead m = true) (hl : m.payload.length = 2)
    (hr : regGet s (leAt m.payload 0 2) = none) : Does (.cfgRead m) s fun t => Refuses s t rowCfgRead m 10 0 := by
  have hexec := exec_cfgRead_one s m h hl
  rw [hr] at hexec
  exact ⟨_, hexec, refuses_taken (waiterless_of_fits h) 10 0⟩

end Sys2Proof.Machine

/-! PROOFS. The configuration writes (14 R519 to R526, R906; 17 R649, R655; 10 R340, R376; O40). -/

namespace Sys2Proof.Machine

/-! ## The registers take their new values (14 R521) -/

/-- A device that becomes the anchor starts its tracker (05 R150). -/
def trackerFollowed (was : Bool) (s : State) : State := if !was && isAnchor s then startTracker s else s

/-- A new window length waits for the next frame. -/
def windowFollowed (old new : CfgRegs) (s : State) : State :=
  if fld old.acqCfg 1 0 = fld new.acqCfg 1 0 then s
  else { s with acq.winNext := s.acq.winNext ++ [(BitVec.ofNat 2 (fld new.acqCfg 1 0), s.now)] }

/-- The registers are in force, and the tracker, the window, the ranges and the requests follow them. -/
def regsInForce (s : State) (new : CfgRegs) : State :=
  balEnd (rangeChange (windowFollowed s.cfg new (trackerFollowed (isAnchor s) { s with cfg := new }))
    (BitVec.ofNat 18 ((s.cfg.cellRange ^^^ new.cellRange).toNat))) (cellMask s.cfg &&& ~~~ (cellMask new)) 8

/-- Both ports follow a write of `LINK_CFG`. -/
def linksFollowed (old new : CfgRegs) (m : Msg) (s : State) : State :=
  linkWrite (linkWrite s old.linkCfg new.linkCfg m .south) old.linkCfg new.linkCfg m .north

/-- The clock follows a write of `CLK_CFG`. -/
def clkFollowed (old new : CfgRegs) (s : State) : State := if old.clkCfg = new.clkCfg then s else clkWrite s

theorem only_cfg {l : List Part} (h : .cfg ∈ l) (s : State) (x : CfgRegs) : Only l s { s with cfg := x } :=
  Only.of fun p => by
    cases p
    case cfg => exact .inl h
    all_goals exact .inr rfl

theorem trackerFollowed_only (b : Bool) (s : State) : Only [.ph, .sch] s (trackerFollowed b s) := by
  unfold trackerFollowed
  split
  · exact startTracker_only s
  · exact Only.refl ..

theorem windowFollowed_only (old new : CfgRegs) (s : State) : Only [.acq] s (windowFollowed old new s) := by
  unfold windowFollowed
  split
  · exact Only.refl ..
  · exact only_acq (by decide) ..

theorem rangeChange_only (s : State) (m : Wells) : Only [.acq] s (rangeChange s m) := by
  unfold rangeChange
  split
  · exact Only.refl ..
  · exact (only_acq (by decide) ..).trans (markSpans_only ..)

/-- Past the registers themselves these parts follow them at once. -/
theorem regsInForce_only_after (s : State) (new : CfgRegs) :
    Only [.ph, .sch, .acq, .bal] { s with cfg := new } (regsInForce s new) :=
  ((trackerFollowed_only ..).mono (by decide)).trans (((windowFollowed_only ..).mono (by decide)).trans
    (((rangeChange_only ..).mono (by decide)).trans ((balEnd_only ..).mono (by decide))))

theorem regsInForce_cfg (s : State) (new : CfgRegs) : (regsInForce s new).cfg = new :=
  (regsInForce_only_after s new).same .cfg (by decide)

theorem regsInForce_only (s : State) (new : CfgRegs) : Only [.cfg, .ph, .sch, .acq, .bal] s (regsInForce s new) :=
  (only_cfg (by decide) s new).trans ((regsInForce_only_after s new).mono (by decide))

theorem only_prot_tq (s : State) (x : ProtUnit) (y : TqUnit) : Only [.prot, .tq] s { s with prot := x, tq := y } :=
  (only_prot (by decide) s x).trans (only_tq (by decide) _ y)

theorem populationHanded_only (s : State) : Only [.prot, .bal, .tq] s (populationHanded s) := by
  unfold populationHanded
  exact ((leaveTest_only ..).mono (by decide)).trans ((only_prot_tq ..).mono (by decide))

/-! ### The ports follow `LINK_CFG` (10 R338, R340) -/

/-- The generation bits of a port. -/
def genBits (p : Port) (w : Word) : Nat := match p with | .south => fld w 2 0 | .north => fld w 5 3

/-- A write of a port's generation takes effect, or waits until the reply has left. -/
def genFollowed (old new : Word) (m : Msg) (p : Port) (s : State) : State :=
  if genBits p old = genBits p new then s
  else match m.src with
    | none => setPortGen s p { portOf s p with gen := genField s.cfg p, genDue := none }
    | some _ => setPort s p { portOf s p with genDue := some s.chn.lseq }

/-- The port stays enabled. -/
def portKept (p : Port) (new : Word) : Bool := match p with | .south => bitOf new 0 | .north => bitOf new 3

theorem linkWrite_eq (s : State) (old new : Word) (m : Msg) (p : Port) : linkWrite s old new m p =
    let u := genFollowed old new m p s
    if portKept p new then u else setPort u p (silence u.now (portOf u p)) := rfl

theorem genFollowed_only (old new : Word) (m : Msg) (p : Port) (s : State) :
    Only [.tim, .chn, .sp, .np] s (genFollowed old new m p s) := by
  unfold genFollowed
  split
  · exact Only.refl ..
  · split
    · exact setPortGen_only ..
    · exact (setPort_only ..).mono (by decide)

theorem genFollowed_addr (old new : Word) (m : Msg) (p : Port) (s : State) :
    (genFollowed old new m p s).chn.addr = s.chn.addr := by
  unfold genFollowed
  split
  · rfl
  · split
    · obtain ⟨tim, da, val, heffect⟩ := setPortGen_effect s p { portOf s p with gen := genField s.cfg p, genDue := none }
      rw [heffect]
    · rw [setPort_chn]

theorem linkWrite_only (s : State) (old new : Word) (m : Msg) (p : Port) :
    Only [.tim, .chn, .sp, .np] s (linkWrite s old new m p) := by
  rw [linkWrite_eq]
  dsimp only
  refine (genFollowed_only old new m p s).trans ?_
  split
  · exact Only.refl ..
  · exact (setPort_only ..).mono (by decide)

theorem linkWrite_addr (s : State) (old new : Word) (m : Msg) (p : Port) : (linkWrite s old new m p).chn.addr = s.chn.addr := by
  rw [linkWrite_eq]
  dsimp only
  split
  · exact genFollowed_addr ..
  · rw [setPort_chn, genFollowed_addr]

theorem linksFollowed_only (old new : CfgRegs) (m : Msg) (s : State) :
    Only [.tim, .chn, .sp, .np] s (linksFollowed old new m s) :=
  (linkWrite_only ..).trans (linkWrite_only ..)

theorem linksFollowed_addr (old new : CfgRegs) (m : Msg) (s : State) : (linksFollowed old new m s).chn.addr = s.chn.addr :=
  (linkWrite_addr ..).trans (linkWrite_addr ..)

/-! ### The clock and the phase follow -/

theorem clkFollowed_only (old new : CfgRegs) (s : State) : Only [.clk, .freeCtr] s (clkFollowed old new s) := by
  unfold clkFollowed
  split
  · exact Only.refl ..
  · exact (only_clk (by decide) ..).trans (setRef_only _)

/-- A write of the phase's registers cancels the ticks and raises the era. -/
def eraMoved (s : State) : State :=
  let s := cancelTicks s 5
  { s with ph.epoch := raiseEra s.ph.epoch, ph.pos := s.ph.pos % phCycle s }

theorem eraMoved_only (s : State) : Only [.ph, .sch] s (eraMoved s) :=
  ((cancelTicks_only s 5).mono (by decide)).trans (only_ph (by decide) ..)

theorem phaseWrite_only (s : State) (ch : List (Nat × Word × Word)) : Only [.ph, .sch] s (phaseWrite s ch) := by
  unfold phaseWrite
  split
  · refine (eraMoved_only s).trans ?_
    dsimp only
    split
    · exact startTracker_only (eraMoved s)
    · exact only_ph (by decide) (eraMoved s) _
  · exact Only.refl ..

/-- What follows once the role and the population have changed. -/
def regsTail (s : State) (old new : CfgRegs) (m : Msg) : State :=
  balPauseNow (phaseWrite (clkFollowed old new (linksFollowed old new m (noteHold s))) (changes old new))

/-- What they touch. -/
def tailParts : List Part := [.ph, .sch, .bal, .gate, .tim, .clk, .freeCtr, .chn, .sp, .np]

theorem regsTail_only (s : State) (old new : CfgRegs) (m : Msg) : Only tailParts s (regsTail s old new m) :=
  ((noteHold_only s).mono (by decide)).trans (((linksFollowed_only ..).mono (by decide)).trans
    (((clkFollowed_only ..).mono (by decide)).trans (((phaseWrite_only ..).mono (by decide)).trans
      ((balPauseNow_only _).mono (by decide)))))

theorem regsTail_addr (s : State) (old new : CfgRegs) (m : Msg) : (regsTail s old new m).chn.addr = s.chn.addr := by
  have hafter (u : State) : Only [.ph, .sch, .bal, .clk, .freeCtr] u (balPauseNow (phaseWrite (clkFollowed old new u) (changes old new))) :=
    ((clkFollowed_only ..).mono (by decide)).trans (((phaseWrite_only ..).mono (by decide)).trans
      ((balPauseNow_only _).mono (by decide)))
  exact (congrArg ChnUnit.addr ((hafter _).same .chn (by decide)) :).trans (linksFollowed_addr ..)

end Sys2Proof.Machine

/-! PROOFS. What an accepted configuration write leaves (14 R521 to R525; 17 R649, R655; O40). -/

namespace Sys2Proof.Machine

/-! ## After the registers' parts -/

theorem takeRegs_tail (s : State) (new : CfgRegs) (m : Msg) :
    takeRegs s new m = regsTail (dropAnchor (populationHanded (regsInForce s new))) s.cfg new m := rfl

/-- What a change of the registers may touch. -/
def takeParts : List Part := [.cfg, .acq, .prot, .tq, .mbx, .host] ++ tailParts

theorem takeRegs_only (s : State) (new : CfgRegs) (m : Msg) : Only takeParts s (takeRegs s new m) :=
  ((regsInForce_only s new).mono (by decide)).trans (((populationHanded_only _).mono (by decide)).trans
    (((dropAnchor_only _).mono (by decide)).trans ((regsTail_only ..).mono (by decide))))

theorem takeRegs_cfg (s : State) (new : CfgRegs) (m : Msg) : (takeRegs s new m).cfg = new := by
  have hfollow : Only (.prot :: .bal :: .tq :: (replyParts ++ tailParts)) (regsInForce s new) (takeRegs s new m) :=
    ((populationHanded_only _).mono (by decide)).trans
      (((dropAnchor_only _).mono (by decide)).trans ((regsTail_only ..).mono (by decide)))
  have hkept : (takeRegs s new m).cfg = (regsInForce s new).cfg := hfollow.same .cfg (by decide)
  rw [hkept, regsInForce_cfg]

/-- The device has the anchor's role (16 R595). -/
def anchorRole (c : CfgRegs) : Bool := bitOf c.roleCfg 0

/-- The safety monitor's copies apart, the torque unit stays as the role is handed over. -/
theorem populationHanded_torque (s : State) :
    (populationHanded s).tq.rd = s.tq.rd ∧ (populationHanded s).tq.ten = s.tq.ten := by
  unfold populationHanded
  exact ⟨rfl, rfl⟩

/-- The run-down stays; a device that is no anchor after the write holds its torque pins (02 R40). -/
theorem takeRegs_torque (s : State) (new : CfgRegs) (m : Msg) :
    (takeRegs s new m).tq.rd = s.tq.rd ∧ (anchorRole new = true → (takeRegs s new m).tq.ten = s.tq.ten) ∧
      (anchorRole new = false → (takeRegs s new m).tq.ten = false ∧ (takeRegs s new m).tq.rdnLow = false) := by
  have htail (u : State) : (regsTail u s.cfg new m).tq = u.tq := (regsTail_only ..).same .tq (by decide)
  have hhanded (u : State) : (populationHanded u).cfg = u.cfg := (populationHanded_only u).same .cfg (by decide)
  have hforce : (regsInForce s new).tq = s.tq := (regsInForce_only s new).same .tq (by decide)
  have hrole : isAnchor (populationHanded (regsInForce s new)) = anchorRole new := by
    rw [isAnchor, hhanded, regsInForce_cfg, anchorRole]
  obtain ⟨hrd, hten⟩ := populationHanded_torque (regsInForce s new)
  rw [hforce] at hrd hten
  rw [takeRegs_tail, htail]
  cases hr : anchorRole new with
  | true =>
    rw [dropAnchor_anchor _ (hrole.trans hr)]
    exact ⟨hrd, fun _ => hten, Bool.noConfusion⟩
  | false =>
    rw [dropAnchor_tq _ (hrole.trans hr)]
    exact ⟨hrd, Bool.noConfusion, fun _ => ⟨rfl, rfl⟩⟩

section
variable {s u : State} {verb : BitVec 16} {m : Msg}

theorem Answerable.dropAnchor (h : Answerable s verb m u) : Answerable s verb m (dropAnchor u) := by
  have hfold (l : List Waiting) {x : State} (hx : Answerable s verb m x) :
      Answerable s verb m (l.foldl (fun s w => replyErr s w.verb w.msg 8 0x19) x) := by
    induction l generalizing x with
    | nil => exact hx
    | cons w l ih => exact ih (hx.reply ..)
  unfold Machine.dropAnchor
  split
  · exact h
  · exact hfold _ (h.of_only (only_tq (l := [.tq]) (by decide) ..) (by decide) (by decide))

theorem Answerable.takeRegs (h : Answerable s verb m u) (new : CfgRegs) (x : Msg) : Answerable s verb m (takeRegs u new x) := by
  have hdropped := ((h.of_only (regsInForce_only u new) (by decide) (by decide)).of_only (populationHanded_only _) (by decide)
    (by decide)).dropAnchor
  obtain ⟨haddr, hnone⟩ := hdropped
  exact ⟨(regsTail_addr ..).trans haddr, noWaiters_of_mbx ((regsTail_only ..).same .mbx (by decide)) hnone⟩

end

/-! ## The record, the change log and the connection -/

/-- The record of a write, before its area check. -/
def newRecord (old : CfgRegs) (s : State) (new : CfgRegs) : CfgRecord :=
  let safety := (changes old new).any fun c => isSafetyParam c.1
  { regs := new, sealV := sealOf s.store.uid new,
    confirmed := if safety || !s.prot.loaded then none else s.store.record.confirmed,
    schg := if safety then s.store.record.schg + 1 else s.store.record.schg, crc := 0 }

/-- The record is written; a scan of the configuration in progress is aborted. -/
def recordWritten (old : CfgRegs) (s : State) (new : CfgRegs) : State :=
  storeRecord { abortCfgScan s with prot.loaded := true } (newRecord old s new)

/-- A device that becomes uncommissioned closes its connection (15 R569). -/
def connDropped (was : Bool) (s : State) : State := if was && !commissioned s then connClose s 3 else s

theorem applyWrite_eq (s : State) (new : CfgRegs) (m : Msg) : applyWrite s new m =
    noteConditions (connDropped (commissioned s)
      ((changes s.cfg new).foldl (logChange m) (recordWritten s.cfg (takeRegs s new m) new))) := rfl

theorem recordWritten_only (old : CfgRegs) (s : State) (new : CfgRegs) : Only [.ce, .prot, .store] s (recordWritten old s new) :=
  ((abortCfgScan_only s).mono (by decide)).trans ((only_prot (by decide) ..).trans ((storeRecord_only ..).mono (by decide)))

theorem recordWritten_record (old : CfgRegs) (s : State) (new : CfgRegs) :
    (recordWritten old s new).store.record = { newRecord old s new with crc := areaCrc (newRecord old s new) } := rfl

theorem recordWritten_digest (old : CfgRegs) (s : State) (new : CfgRegs) :
    (recordWritten old s new).store.digest = s.store.digest := by
  have habort : (abortCfgScan s).store = s.store := (abortCfgScan_only s).same .store (by decide)
  exact (congrArg StoreUnit.digest habort :)

theorem connClose_only (s : State) (why : Byte) : Only (.safe :: journalParts) s (connClose s why) := by
  unfold connClose
  split
  · exact Only.refl ..
  · exact (only_safe (by decide) ..).trans ((jrnPut_only ..).mono (by decide))

theorem connDropped_only (was : Bool) (s : State) : Only (.safe :: journalParts) s (connDropped was s) := by
  unfold connDropped
  split
  · exact connClose_only ..
  · exact Only.refl ..

/-- Sessions outlast the connection. -/
theorem connDropped_sess (was : Bool) (s : State) : (connDropped was s).safe.sess = s.safe.sess := by
  unfold connDropped connClose
  split
  · split
    · rfl
    · rw [jrnPut_safe]
  · rfl

theorem logged_only (l : List (Nat × Word × Word)) (m : Msg) (s : State) : Only journalParts s (l.foldl (logChange m) s) :=
  Only.foldl _ (logChange_only m) _ _

section
variable {s u : State} {verb : BitVec 16} {m : Msg}

theorem Answerable.logged (h : Answerable s verb m u) (l : List (Nat × Word × Word)) (x : Msg) :
    Answerable s verb m (l.foldl (logChange x) u) := by
  induction l generalizing u with
  | nil => exact h
  | cons c l ih => exact ih (h.jrnPut ..)

theorem Answerable.connDropped (h : Answerable s verb m u) (was : Bool) : Answerable s verb m (connDropped was u) := by
  unfold Machine.connDropped connClose
  split
  · split
    · exact h
    · exact (h.of_only (only_safe (l := [.safe]) (by decide) ..) (by decide) (by decide)).jrnPut ..
  · exact h

theorem Answerable.noteConditions (h : Answerable s verb m u) : Answerable s verb m (noteConditions u) := by
  obtain ⟨haddr, hnone⟩ := h
  exact ⟨(noteConditions_addr u).trans haddr, noWaiters_of_mbx (noteConditions_mbx u) hnone⟩

theorem Answerable.applyWrite (h : Answerable s verb m u) (new : CfgRegs) (x : Msg) : Answerable s verb m (applyWrite u new x) :=
  ((((h.takeRegs new x).of_only (recordWritten_only ..) (by decide) (by decide)).logged _ x).connDropped _).noteConditions

end

/-! ## The whole write -/

/-- Past the registers a write touches these. -/
def recordParts : List Part := [.ce, .prot, .store, .safe] ++ journalParts

theorem applyWrite_only_after (s : State) (new : CfgRegs) (m : Msg) :
    Only recordParts (takeRegs s new m) (applyWrite s new m) :=
  ((recordWritten_only ..).mono (by decide)).trans (((logged_only ..).mono (by decide)).trans
    (((connDropped_only ..).mono (by decide)).trans ((noteConditions_only _).mono (by decide))))

theorem applyWrite_only (s : State) (new : CfgRegs) (m : Msg) : Only (takeParts ++ recordParts) s (applyWrite s new m) :=
  ((takeRegs_only s new m).mono fun _ hp => List.mem_append_left _ hp).trans
    ((applyWrite_only_after s new m).mono fun _ hp => List.mem_append_right _ hp)

theorem applyWrite_cfg (s : State) (new : CfgRegs) (m : Msg) : (applyWrite s new m).cfg = new := by
  have hkept : (applyWrite s new m).cfg = (takeRegs s new m).cfg := (applyWrite_only_after s new m).same .cfg (by decide)
  rw [hkept, takeRegs_cfg]

/-- From the record's writing on, the journal and the connection follow. -/
theorem connDropped_logged_only (was : Bool) (l : List (Nat × Word × Word)) (m : Msg) (s : State) :
    Only (.safe :: journalParts) s (connDropped was (l.foldl (logChange m) s)) :=
  ((logged_only l m s).mono (by decide)).trans (connDropped_only ..)

theorem applyWrite_store (s : State) (new : CfgRegs) (m : Msg) :
    (applyWrite s new m).store = (recordWritten s.cfg (takeRegs s new m) new).store := by
  rw [applyWrite_eq, noteConditions_store]
  exact (connDropped_logged_only ..).same .store (by decide)

theorem applyWrite_loaded (s : State) (new : CfgRegs) (m : Msg) : (applyWrite s new m).prot.loaded = true := by
  have hkept (w : Bool) (l : List (Nat × Word × Word)) (u : State) : (connDropped w (l.foldl (logChange m) u)).prot = u.prot :=
    (connDropped_logged_only ..).same .prot (by decide)
  rw [applyWrite_eq, noteConditions_prot, hkept]
  rfl

theorem applyWrite_sess (s : State) (new : CfgRegs) (m : Msg) : (applyWrite s new m).safe.sess = s.safe.sess := by
  have hlogged (l : List (Nat × Word × Word)) (u : State) : (l.foldl (logChange m) u).safe = u.safe :=
    (logged_only ..).same .safe (by decide)
  have hrecord (u : State) : (recordWritten s.cfg u new).safe = u.safe := (recordWritten_only ..).same .safe (by decide)
  have htake : (takeRegs s new m).safe = s.safe := (takeRegs_only s new m).same .safe (by decide)
  rw [applyWrite_eq, noteConditions_safe, connDropped_sess, hlogged, hrecord, htake]

/-- The area check is over the other items. -/
theorem areaCrc_withCrc (r : CfgRecord) (x : Word) : areaCrc { r with crc := x } = areaCrc r := by
  unfold areaCrc areaBytes
  rfl

/-- A record with its area check. -/
def checked (r : CfgRecord) : CfgRecord := { r with crc := areaCrc r }

theorem checked_crc (r : CfgRecord) : (checked r).crc = areaCrc (checked r) := (areaCrc_withCrc r (areaCrc r)).symm

theorem applyWrite_record (s : State) (new : CfgRegs) (m : Msg) :
    (applyWrite s new m).store.record = checked (newRecord s.cfg (takeRegs s new m) new) := by
  rw [applyWrite_store, recordWritten_record, checked]

/-- A write changes a safety parameter (17 R647, R655). -/
def safetyChanged (old new : CfgRegs) : Bool := (changes old new).any fun c => isSafetyParam c.1

theorem newRecord_confirmed (old new : CfgRegs) (s : State) (h : safetyChanged old new = true) :
    (newRecord old s new).confirmed = none := by
  have hnone : (if safetyChanged old new || !s.prot.loaded then none else s.store.record.confirmed) = none := by
    rw [h, Bool.true_or, if_pos rfl]
  exact hnone

theorem newRecord_schg (old new : CfgRegs) (s : State) : (newRecord old s new).schg =
    if safetyChanged old new then s.store.record.schg + 1 else s.store.record.schg := rfl

section
variable (s : State) (new : CfgRegs) (m : Msg)

theorem applyWrite_regs : (applyWrite s new m).store.record.regs = new := by
  rw [applyWrite_record]
  rfl

theorem takeRegs_store : (takeRegs s new m).store = s.store := (takeRegs_only s new m).same .store (by decide)

theorem applyWrite_seal : (applyWrite s new m).store.record.sealV = sealOf s.store.uid new := by
  rw [applyWrite_record]
  show sealOf (takeRegs s new m).store.uid new = _
  rw [takeRegs_store]

theorem applyWrite_crc : (applyWrite s new m).store.record.crc = areaCrc (applyWrite s new m).store.record := by
  rw [applyWrite_record, checked_crc]

theorem applyWrite_digest : (applyWrite s new m).store.digest = s.store.digest := by
  rw [applyWrite_store, recordWritten_digest, takeRegs_store]

theorem applyWrite_schg : (applyWrite s new m).store.record.schg =
    if safetyChanged s.cfg new then s.store.record.schg + 1 else s.store.record.schg := by
  rw [applyWrite_record]
  show (newRecord s.cfg (takeRegs s new m) new).schg = _
  rw [newRecord_schg, takeRegs_store]

/-- A changed safety parameter takes the confirmation away (17 R655). -/
theorem applyWrite_confirmed (h : safetyChanged s.cfg new = true) : (applyWrite s new m).store.record.confirmed = none := by
  rw [applyWrite_record]
  exact newRecord_confirmed _ _ _ h

theorem applyWrite_torque : (applyWrite s new m).tq = (takeRegs s new m).tq :=
  (applyWrite_only_after s new m).same .tq (by decide)

end

theorem commissioned_unconfirmed (s : State) (h : s.store.record.confirmed = none) : commissioned s = false := by
  rw [commissioned, h]
  exact Bool.and_false _

end Sys2Proof.Machine

/-! PROOFS. `CFG_WRITE` and `CFG_FACTORY` (14 R519 to R526, R906; 10 R340, R376; 17 R649, R655; O40). -/

namespace Sys2Proof.Machine

/-! ## `CFG_WRITE`: the tests in their order, then the write -/

theorem cfgState_of_only {l : List Part} {s u : State} (h : Only l s u) (hcfg : .cfg ∉ l) (htq : .tq ∉ l) (hgate : .gate ∉ l)
    (hbal : .bal ∉ l) (new : CfgRegs) (p : Option Port) : cfgState u new p = cfgState s new p := by
  have hc : u.cfg = s.cfg := h.same .cfg hcfg
  have ht : u.tq = s.tq := h.same .tq htq
  have hg : u.gate = s.gate := h.same .gate hgate
  have hb : u.bal = s.bal := h.same .bal hbal
  simp only [cfgState, torqueOn, reqMask, hc, ht, hg, hb]

theorem endsRelay_of_only {l : List Part} {s u : State} (h : Only l s u) (hsp : .sp ∉ l) (hnp : .np ∉ l) (w : Word) :
    endsRelay u w = endsRelay s w := by
  have hs : u.sp = s.sp := h.same .sp hsp
  have hn : u.np = s.np := h.same .np hnp
  simp only [endsRelay, hs, hn]

/-- A verb's entry changes nothing but the activity and the session. -/
theorem entered_only_taken (s : State) (v : VerbRow) (m : Msg) : Only [.pw, .safe] s (entered s v m) :=
  ((hostActivity_only s).mono (by decide)).trans ((entered_only s v m).mono (by decide))

/-- What an accepted write ends in: its reply, or the full reset of the relay that it ends (10 R376). -/
def writeEnd (s : State) (new : CfgRegs) (m : Msg) : State :=
  let t := replyOk (applyWrite s new m) rowCfgWrite.code m []
  if endsRelay s new.linkCfg then fullReset t 5 else t

theorem exec_cfgWrite (s : State) (m : Msg) (h : verbFits s rowCfgWrite m = true) (h8 : m.payload.length % 8 = 0)
    (h0 : m.payload ≠ []) (hl : m.payload.length ≤ 128) : exec (.cfgWrite m) s = .next (
      let recs := cfgRecs m.payload
      let new := applyRecs s.cfg recs
      let u := entered s rowCfgWrite m
      (firstBad (recs.map (recBad s.cfg m.payload))).elim
        ((crossBad new recs).elim
          ((cfgState s new (m.src.map fun _ => m.port)).elim (writeEnd u new m) fun d => errState u rowCfgWrite m d)
          fun off => errValue u rowCfgWrite m off)
        fun off => errValue u rowCfgWrite m off) := by
  have hexec := verb_runs h (c := .cfgWrite m) rfl rfl
  have hlen : (m.payload.length % 8 != 0 || decide (m.payload.length / 8 = 0) || decide (16 < m.payload.length / 8)) = false := by
    have hpos := List.length_pos_iff.mpr h0
    simp only [Bool.or_eq_false_iff, bne_eq_false_iff_eq, decide_eq_false_iff_not]
    omega
  have hentered := entered_only_taken s rowCfgWrite m
  have hcfg : (entered s rowCfgWrite m).cfg = s.cfg := hentered.same .cfg (by decide)
  have hstate : cfgState (entered s rowCfgWrite m) = cfgState s := by
    funext new p
    exact cfgState_of_only hentered (by decide) (by decide) (by decide) (by decide) new p
  -- The tests become variables: the kernel must not evaluate them on the way.
  obtain ⟨first, hfirst⟩ : ∃ first, firstBad = first := ⟨_, rfl⟩
  obtain ⟨cross, hcross⟩ : ∃ cross, crossBad = cross := ⟨_, rfl⟩
  obtain ⟨state, hkept⟩ : ∃ state, cfgState s = state := ⟨_, rfl⟩
  rw [hfirst, hcross] at hexec ⊢
  rw [hexec, hkept]
  rw [hkept] at hstate
  dsimp only
  rw [hlen, if_neg Bool.false_ne_true, hcfg, hstate]
  cases first ((cfgRecs m.payload).map (recBad s.cfg m.payload)) with
  | some off => rw [Option.elim_some]
  | none =>
    rw [Option.elim_none]
    dsimp only
    cases cross (applyRecs s.cfg (cfgRecs m.payload)) (cfgRecs m.payload) with
    | some off => rw [Option.elim_some]
    | none =>
      rw [Option.elim_none]
      dsimp only
      cases state (applyRecs s.cfg (cfgRecs m.payload)) (m.src.map fun _ => m.port) with
      | some d => rw [Option.elim_some]
      | none => rw [Option.elim_none, writeEnd]

section
variable {s : State} {m : Msg}

theorem held_of_fits {v : VerbRow} (h : verbFits s v m = true) : s.rst.held = false := by
  obtain ⟨hfw, -⟩ := (verbFits_iff s v m).mp h
  simp only [fwRuns, fwOn, Bool.and_eq_true] at hfw
  obtain ⟨⟨⟨hactive, -⟩, -⟩, -⟩ := hfw
  exact held_of_active hactive

theorem fullReset_latch (u : State) (code : BitVec 4) (h : u.rst.held = false) : (fullReset u code).rst.latch = code := by
  rw [fullReset, if_neg (Bool.eq_false_iff.mp h)]
  rfl

/-- A write that ends a relay stores its record and resets (10 R376). -/
theorem writeEnd_resets (h : verbFits s rowCfgWrite m = true) (new : CfgRegs) (hr : endsRelay s new.linkCfg = true) :
    let t := writeEnd (entered s rowCfgWrite m) new m
    t.rst.held = true ∧ t.rst.latch = 5 ∧ t.store.record.regs = new := by
  have hends : endsRelay (entered s rowCfgWrite m) new.linkCfg = true :=
    (endsRelay_of_only (entered_only_taken ..) (by decide) (by decide) _).trans hr
  have hrst : (applyWrite (entered s rowCfgWrite m) new m).rst = (entered s rowCfgWrite m).rst :=
    (applyWrite_only ..).same .rst (by decide)
  have hentered : (entered s rowCfgWrite m).rst = s.rst := (entered_only_taken ..).same .rst (by decide)
  dsimp only
  rw [writeEnd, if_pos hends]
  refine ⟨fullReset_held .., fullReset_latch _ 5 ?_, ?_⟩
  · rw [replyOk_rst, hrst, hentered]
    exact held_of_fits h
  · rw [fullReset_store, replyOk_store, applyWrite_regs]

/-- What an accepted write of the registers `new` leaves (14 R521 to R525; 17 R649, R655). -/
theorem writeEnd_writes (h : verbFits s rowCfgWrite m = true) (new : CfgRegs) (hr : endsRelay s new.linkCfg = false) :
    let u := entered s rowCfgWrite m
    let t := writeEnd u new m
    t.cfg = new ∧ t.store.record.regs = new ∧ t.store.record.sealV = sealOf s.store.uid new ∧
      t.store.record.crc = areaCrc t.store.record ∧ t.prot.loaded = true ∧ Replies s t rowCfgWrite m [] ∧
      (safetyChanged s.cfg new = true →
        t.store.record.confirmed = none ∧ t.store.record.schg = s.store.record.schg + 1 ∧ commissioned t = false) ∧
      (safetyChanged s.cfg new = false → t.store.record.schg = s.store.record.schg) ∧
      t.tq.rd = s.tq.rd ∧ (isAnchor t = true → t.tq.ten = s.tq.ten) ∧
      (isAnchor t = false → t.tq.ten = false ∧ t.tq.rdnLow = false) ∧ t.mem = s.mem ∧ t.store.digest = s.store.digest ∧
      t.safe.sess = u.safe.sess := by
  have hends : ¬ endsRelay (entered s rowCfgWrite m) new.linkCfg = true :=
    Bool.eq_false_iff.mp ((endsRelay_of_only (entered_only_taken ..) (by decide) (by decide) _).trans hr)
  have hanswerable := (answerable_entered h).applyWrite new m
  have hentered := entered_only_taken s rowCfgWrite m
  have hcfg : (entered s rowCfgWrite m).cfg = s.cfg := hentered.same .cfg (by decide)
  have hstore : (entered s rowCfgWrite m).store = s.store := hentered.same .store (by decide)
  have htq : (entered s rowCfgWrite m).tq = s.tq := hentered.same .tq (by decide)
  have hmem : (entered s rowCfgWrite m).mem = s.mem := hentered.same .mem (by decide)
  dsimp only
  rw [writeEnd, if_neg hends]
  generalize entered s rowCfgWrite m = u at hanswerable hcfg hstore htq hmem ⊢
  obtain ⟨hrd, hanchor, hother⟩ := takeRegs_torque u new m
  have hkept := applyWrite_only u new m
  have hrole : isAnchor (replyOk (applyWrite u new m) rowCfgWrite.code m []) = anchorRole new := by
    rw [isAnchor, replyOk_cfg, applyWrite_cfg, anchorRole]
  have happlied : (applyWrite u new m).mem = u.mem := hkept.same .mem (by decide)
  refine ⟨?_, ?_, ?_, ?_, ?_, hanswerable.replies [], fun hs => ⟨?_, ?_, ?_⟩, fun hs => ?_, ?_, fun ha => ?_, fun ha => ?_, ?_,
    ?_, ?_⟩
  · rw [replyOk_cfg, applyWrite_cfg]
  · rw [replyOk_store, applyWrite_regs]
  · rw [replyOk_store, applyWrite_seal, hstore]
  · rw [replyOk_store, applyWrite_crc]
  · rw [replyOk_prot, applyWrite_loaded]
  · rw [replyOk_store, applyWrite_confirmed _ _ _ (hcfg ▸ hs)]
  · rw [replyOk_store, applyWrite_schg, hcfg, hstore, if_pos hs]
  · exact commissioned_unconfirmed _ (by rw [replyOk_store, applyWrite_confirmed _ _ _ (hcfg ▸ hs)])
  · rw [replyOk_store, applyWrite_schg, hcfg, hstore, if_neg (Bool.eq_false_iff.mp hs)]
  · rw [replyOk_tq, applyWrite_torque, hrd, htq]
  · rw [replyOk_tq, applyWrite_torque, hanchor (hrole.symm.trans ha), htq]
  · rw [replyOk_tq, applyWrite_torque]
    exact hother (hrole.symm.trans ha)
  · rw [replyOk_mem, happlied, hmem]
  · rw [replyOk_store, applyWrite_digest, hstore]
  · rw [replyOk_safe, applyWrite_sess]

theorem cfgWrite_settles (h : verbFits s rowCfgWrite m = true) (h8 : m.payload.length % 8 = 0) (h0 : m.payload ≠ [])
    (hl : m.payload.length ≤ 128) :
    let recs := cfgRecs m.payload
    let new := applyRecs s.cfg recs
    let u := entered s rowCfgWrite m
    (∀ off, firstBad (recs.map (recBad s.cfg m.payload)) = some off → Does (.cfgWrite m) s fun t =>
      Refuses u t rowCfgWrite m 10 off) ∧
    (firstBad (recs.map (recBad s.cfg m.payload)) = none →
      (∀ off, crossBad new recs = some off → Does (.cfgWrite m) s fun t => Refuses u t rowCfgWrite m 10 off) ∧
      (∀ d, crossBad new recs = none → cfgState s new (m.src.map fun _ => m.port) = some d → Does (.cfgWrite m) s fun t =>
        Refuses u t rowCfgWrite m 8 d) ∧
      (crossBad new recs = none → cfgState s new (m.src.map fun _ => m.port) = none →
        Does (.cfgWrite m) s fun t => t = writeEnd u new m)) := by
  have hexec := exec_cfgWrite s m h h8 h0 hl
  dsimp only at hexec ⊢
  refine ⟨fun off hb => ?_, fun hb => ⟨fun off hc => ?_, fun d hc hd => ?_, fun hc hd => ?_⟩⟩
  · rw [hb, Option.elim_some] at hexec
    exact ⟨_, hexec, refuses_entered h 10 off⟩
  · rw [hb, Option.elim_none, hc, Option.elim_some] at hexec
    exact ⟨_, hexec, refuses_entered h 10 off⟩
  · rw [hb, Option.elim_none, hc, Option.elim_none, hd, Option.elim_some] at hexec
    exact ⟨_, hexec, refuses_entered h 8 d⟩
  · rw [hb, Option.elim_none, hc, Option.elim_none, hd, Option.elim_none] at hexec
    exact ⟨_, hexec, rfl⟩

end

/-! ## `CFG_FACTORY` (14 R526) -/

/-- The record is written again without a confirmation. -/
def unconfirmed (s : State) : State := storeRecord s { s.store.record with confirmed := none }

theorem unconfirmed_record (s : State) : (unconfirmed s).store.record = checked { s.store.record with confirmed := none } := rfl

theorem unconfirmed_only (s : State) : Only [.store] s (unconfirmed s) := storeRecord_only ..

/-- The registers take their reset values, and the device is uncommissioned. -/
def factoryState (s : State) (m : Msg) : State :=
  connDropped (commissioned s) (unconfirmed (applyWrite s CfgRegs.reset m))

theorem exec_cfgFactory (s : State) (m : Msg) (h : verbFits s rowCfgFactory m = true) : exec (.cfgFactory m) s = .next (
    let u := entered s rowCfgFactory m
    (cfgState s CfgRegs.reset none).elim (replyOk (factoryState u m) rowCfgFactory.code m [])
      fun d => errState u rowCfgFactory m d) := by
  have hexec := verb_runs h (c := .cfgFactory m) rfl rfl
  have hstate : cfgState (entered s rowCfgFactory m) CfgRegs.reset none = cfgState s CfgRegs.reset none :=
    cfgState_of_only (entered_only_taken ..) (by decide) (by decide) (by decide) (by decide) _ _
  rw [hexec, hstate]
  cases cfgState s CfgRegs.reset none with
  | some d => rw [Option.elim_some]
  | none => rw [Option.elim_none, factoryState, connDropped, unconfirmed]

theorem factoryState_store (s : State) (m : Msg) :
    (factoryState s m).store = (unconfirmed (applyWrite s CfgRegs.reset m)).store :=
  (connDropped_only ..).same .store (by decide)

theorem factoryState_record (s : State) (m : Msg) : (factoryState s m).store.record =
    checked { (applyWrite s CfgRegs.reset m).store.record with confirmed := none } := by
  rw [factoryState_store, unconfirmed_record]

theorem factoryState_only_after (s : State) (m : Msg) :
    Only (.store :: .safe :: journalParts) (applyWrite s CfgRegs.reset m) (factoryState s m) :=
  ((unconfirmed_only _).mono (by decide)).trans ((connDropped_only ..).mono (by decide))

theorem cfgFactory_resets (s : State) (m : Msg) (h : verbFits s rowCfgFactory m = true)
    (hs : cfgState s CfgRegs.reset none = none) : Does (.cfgFactory m) s fun t =>
      t.cfg = CfgRegs.reset ∧ t.store.record.regs = CfgRegs.reset ∧ t.store.record.confirmed = none ∧
        t.store.record.crc = areaCrc t.store.record ∧ Replies s t rowCfgFactory m [] ∧ t.store.digest = s.store.digest ∧
        t.mem = s.mem := by
  have hexec := exec_cfgFactory s m h
  dsimp only at hexec
  rw [hs, Option.elim_none] at hexec
  have hentered := entered_only_taken s rowCfgFactory m
  have hstore : (entered s rowCfgFactory m).store = s.store := hentered.same .store (by decide)
  have hmem : (entered s rowCfgFactory m).mem = s.mem := hentered.same .mem (by decide)
  have hanswerable := (((answerable_entered h).applyWrite CfgRegs.reset m).of_only (unconfirmed_only _) (by decide)
    (by decide)).connDropped (commissioned (entered s rowCfgFactory m))
  refine ⟨_, hexec, ?_⟩
  generalize entered s rowCfgFactory m = u at hstore hmem hanswerable ⊢
  have hafter := factoryState_only_after u m
  have hcfg : (factoryState u m).cfg = (applyWrite u CfgRegs.reset m).cfg := hafter.same .cfg (by decide)
  have hmems : (factoryState u m).mem = (applyWrite u CfgRegs.reset m).mem := hafter.same .mem (by decide)
  have happlied : (applyWrite u CfgRegs.reset m).mem = u.mem := (applyWrite_only ..).same .mem (by decide)
  refine ⟨?_, ?_, ?_, ?_, hanswerable.replies [], ?_, ?_⟩
  · rw [replyOk_cfg, hcfg, applyWrite_cfg]
  · rw [replyOk_store, factoryState_record]
    exact applyWrite_regs u CfgRegs.reset m
  · rw [replyOk_store, factoryState_record]
    rfl
  · rw [replyOk_store, factoryState_record, checked_crc]
  · rw [replyOk_store, factoryState_store]
    exact (applyWrite_digest u CfgRegs.reset m).trans (congrArg StoreUnit.digest hstore)
  · rw [replyOk_mem, hmems, happlied, hmem]

theorem cfgFactory_refuses (s : State) (m : Msg) (d : Nat) (h : verbFits s rowCfgFactory m = true)
    (hs : cfgState s CfgRegs.reset none = some d) : Does (.cfgFactory m) s fun t =>
      Refuses (entered s rowCfgFactory m) t rowCfgFactory m 8 d := by
  have hexec := exec_cfgFactory s m h
  dsimp only at hexec
  rw [hs, Option.elim_some] at hexec
  exact ⟨_, hexec, refuses_entered h 8 d⟩

/-- Settles O40: `CFG_WRITE` by `cfgWrite_settles` with what an accepted write ends in (`writeEnd_resets`, `writeEnd_writes`). -/
theorem identityAndConfigurationVerbs : Obligations.IdentityAndConfigurationVerbs := by
  refine ⟨idRead_answers, idFactory_answers, cfgRead_answers, cfgRead_refuses,
    fun s m h h8 h0 hl => ?_, cfgFactory_resets, cfgFactory_refuses⟩
  obtain ⟨hfield, hrest⟩ := cfgWrite_settles h h8 h0 hl
  refine ⟨hfield, fun hb => ?_⟩
  obtain ⟨hcross, hstate, hwrites⟩ := hrest hb
  refine ⟨hcross, hstate, fun hc hd hr => ?_, fun hc hd hr => ?_⟩
  · obtain ⟨t, hexec, rfl⟩ := hwrites hc hd
    exact ⟨_, hexec, writeEnd_resets h _ hr⟩
  · obtain ⟨t, hexec, rfl⟩ := hwrites hc hd
    exact ⟨_, hexec, writeEnd_writes h _ hr⟩

end Sys2Proof.Machine
